-- ==== Sys2Proof/Word.lean ====
section
/-! DEFINITION. Word.lean: the word types of the model and their plainest arithmetic. -/

namespace Sys2Proof

/-- One byte of a memory. -/
abbrev Byte := BitVec 8

/-- A 32-bit word: a location word, a facet or register half. -/
abbrev Word32 := BitVec 32

/-- A 64-bit register, address or argument. -/
abbrev Word := BitVec 64

/-- A Worfen vector register: 256 bits. -/
abbrev Vec := BitVec 256

end Sys2Proof
end

