-- ==== Sys2Proof/Machine/KMap.lean ====
section
/-! DEFINITION. Machine/KMap.lean: sparse maps keyed by a number, as lists of pairs in one canonical form: keys strictly rising, and
no entry equal to what an unlisted key reads as. Registers, memories and the per-unit records of the block are held so. -/

namespace Sys2Proof.Machine

/-- A sparse map: the listed keys and their values. -/
abbrev KMap (α : Type) := List (Nat × α)

/-- The value at a key; an unlisted key reads as `d key`. -/
def kget {α : Type} (d : Nat → α) : KMap α → Nat → α
  | [], k => d k
  | e :: m, k => if e.1 = k then e.2 else kget d m k

/-- Insert an entry before the first larger key. -/
def kinsert {α : Type} (k : Nat) (v : α) : KMap α → KMap α
  | [] => [(k, v)]
  | e :: m => if k < e.1 then (k, v) :: e :: m else e :: kinsert k v m

/-- Set the value at a key; setting what an unlisted key reads as removes the entry. -/
def kset {α : Type} [DecidableEq α] (d : Nat → α) (m : KMap α) (k : Nat) (v : α) : KMap α :=
  if v = d k then m.filter (fun e => e.1 != k) else kinsert k v (m.filter (fun e => e.1 != k))

/-- The canonical form: keys strictly rising and no entry equal to its default. -/
def KMap.wf {α : Type} [DecidableEq α] (d : Nat → α) : KMap α → Bool
  | [] => true
  | [e] => decide (e.2 ≠ d e.1)
  | e :: e' :: m => decide (e.2 ≠ d e.1) && decide (e.1 < e'.1) && KMap.wf d (e' :: m)

/-- What a byte of memory that nothing has written reads as: 0 (DESIGN CHOICE, log entry 2). -/
def unwritten (_ : Nat) : Byte := 0#8

/-- The canonical form of a memory (R375, log entry 2). -/
def Memory.wf (m : List Host.Cell) : Bool := KMap.wf unwritten m

end Sys2Proof.Machine
end

