-- ==== Sys2Proof/Config.lean ====
section
/-! DEFINITION. Config.lean: what an implementation fixes (fuses, straps, the stepping) and the free values: constants without a
body, of which nothing can be proved. A free value is applied to a counter of the state, so that each use is a value of its own. -/

namespace Sys2Proof.Config

/-- Fused word k of NVM_KEYHASH0 (R579). -/
opaque keyHash0 : Nat → BitVec 64
/-- Fused word k of NVM_KEYHASH1 (R579). -/
opaque keyHash1 : Nat → BitVec 64
/-- The fused bit KEY1_EN (R573, R579). -/
opaque key1En : Bool
/-- NVM_SVN_MIN as fused before the first SVN_BUMP of the model's run (R573). -/
opaque svnMinFused : BitVec 64
/-- The silicon stepping, 4 bits (R610). -/
opaque stepping : BitVec 4
/-- Skoune's manufacturer identity, 11 bits (R610). -/
opaque manufacturer : BitVec 11
/-- The strap land TWIN_ID, tied on the board and sampled at power-on reset (R505). -/
opaque twinId : Bool
/-- The unit ID that the geode holds (R540). -/
opaque unitId : BitVec 64

/-- A free 64-bit value: log entry 4. -/
opaque freeWord : Nat → BitVec 64
/-- A free bit: log entry 4. -/
opaque freeBit : Nat → Bool
/-- A free byte: log entry 4. -/
opaque freeByte : Nat → BitVec 8

/-- Does the host answer a request to this host address, at this time, with Unsupported Request, Completer Abort or a completion
timeout (R362)? A free value: log entry 4. -/
opaque hostFails : Nat → Nat → Bool
/-- Has the host enabled Address Translation Services (R362)? A free value: log entry 4. -/
opaque atsOn : Bool
/-- Does a Translation Request for this context and host page, at this time, grant access (R363)? A free value: log entry 4. -/
opaque atsGrants : Nat → Nat → Nat → Bool
/-- The page that a Translation Request answers with (R362). A free value: log entry 4. -/
opaque atsPage : Nat → Nat → Nat → Nat
/-- Which piece of free table memory the MMU takes (R359). A free value: log entry 4. -/
opaque tablePick : Nat → Nat

/-- The training pattern of a kind, seed and burst (R397), and kind 6: what a burst reads as that no operation wrote. A free value:
log entry 4. -/
opaque trainPattern : Nat → Nat → Nat → BitVec 576

/-- The CODED payload that a compressor builds (R452) from the window behind a block (latest byte first), the block, DEPTH and LAZY.
The manual does not give its choice of matches and code lengths. A free value: log entry 4. -/
opaque codedPayload : List (BitVec 8) → List (BitVec 8) → Nat → Bool → List (BitVec 8)

/-- Is a pixel stage's result that is no whole number rounded up? From a code of the stage and the exact result. The manual gives no rounding
(R185, R188, R193, R195, R196). A free value: log entry 4. -/
opaque pixUp : Nat → Rat → Bool
/-- A 3D table's interpolated value (R196) that is no whole number, as it reaches the shaper's inverse. The manual does not say whether it is
rounded. A free value: log entry 4. -/
opaque pixLoose : Rat → Rat
/-- The luminance in cd/m² of an encoded value under SMPTE ST 2084 (R185) and its inverse. The manual names the standard only. Free values: log
entry 4. -/
opaque pq : Rat → Rat
opaque pqInv : Rat → Rat
/-- ARIB STD-B67's inverse OETF above 1/2, and the OETF above 1/12 (R185). The manual names the standard only. Free values: log entry 4. -/
opaque hlg : Rat → Rat
opaque hlgInv : Rat → Rat
/-- The coefficients of the conversions of primaries (R185), from PRIM, row and column. The manual does not give them. A free value: log entry 4. -/
opaque primCoef : Nat → Nat → Nat → Rat
/-- A chroma sample at a luma position where none is co-sited (R181, R184), from the samples of its plane, the position, and SAMPLING, CSITE, HDEC
and VDEC. The manual gives no filter. A free value: log entry 4. -/
opaque chroma : (Nat → Nat → Rat) → Nat → Nat → List Nat → Rat
/-- The box average of the columns that are left at the end of a line, fewer than HDEC (R184). A free value: log entry 4. -/
opaque lastBox : Nat → List Rat → Rat
/-- The taps of the polyphase filter (R188): horizontal or vertical, phase and tap. The manual does not give them. A free value: log entry 4. -/
opaque tap : Bool → Nat → Nat → Rat
/-- What a tap of a scaler outside the source reads (R188), from the source's size, the position and the samples. A free value: log entry 4. -/
opaque edge : Nat → Int → (Nat → Rat) → Rat

/-- What a motion register that holds an infinity or a NaN stands for in the loops, and a quotient by 0 there. A free value: log entry 4. -/
opaque nonFinite : Nat → Rat
/-- A number of the loops brought to binary32 where it is not exactly one (R265, R281). The manual gives no rounding. A free value: log
entry 4. -/
opaque motionRound : Rat → BitVec 32
/-- A position of the generator brought to Q32.32 where it is not exactly one (R292). The manual gives no rounding. A free value: log
entry 4. -/
opaque positionRound : Rat → Int
/-- A square root of the planner (R293) that is no rational number. A free value: log entry 4. -/
opaque plannerSqrt : Rat → Rat
/-- Cosine and sine of an angle in turns (R269, R286). A free value: log entry 4. -/
opaque cosTurn : Rat → Rat
opaque sinTurn : Rat → Rat
/-- The Clarke transform of three phase currents and its inverse (R269, R286). The manual gives no scaling. A free value: log entry 4. -/
opaque clarke : Rat → Rat → Rat → Rat × Rat
opaque invClarke : Rat → Rat → Rat × Rat × Rat
/-- The oscillation detector's two filters (R297): from the band's two frequencies, the tile's period, the filters' state and the input, the
filtered value followed by the filters' new state. The manual gives no arithmetic. A free value: log entry 4. -/
opaque oscFilter : Nat → Nat → Rat → List Rat → Rat → List Rat

/-- SHA-384 of a string of bytes, as 48 bytes (R573). The manual names the function only: a free value, log entry 4. -/
opaque sha384 : List (BitVec 8) → List (BitVec 8)
/-- Does a signature (r, s) verify under ECDSA over P-384 with SHA-384 (R573), for a public key, the signature and the bytes it covers? The
manual names the function only: a free value, log entry 4. -/
opaque ecdsaValid : List (BitVec 8) → List (BitVec 8) → List (BitVec 8) → Bool
/-- The payload bytes of a LEDGER object (R575), from the words saved. The manual gives no layout. A free value: log entry 4. -/
opaque ledgerPayload : List Nat → List (BitVec 8)
/-- A thermistor's temperature in 1/16 °C with NOM or BETA 0, for which R549 gives none. A free value: log entry 4. -/
opaque thermCorner : Nat → Nat → Nat → Int
/-- Does a thermistor's temperature between two codes take the upper one (R549)? The manual gives no rounding. A free value: log entry 4. -/
opaque thermUp : Nat → Rat → Bool
/-- Does a temperature in 1/16 °C that is no whole number of °C take the upper one (R253)? The manual gives no rounding. A free value: log
entry 4. -/
opaque wholeUp : Int → Bool
/-- Does a fan's duty (R557) between two whole percentages take the upper one, from MIN, T_LO, T_HI and the temperature in 1/16 °C? The manual
gives no rounding. A free value: log entry 4. -/
opaque fanUp : Nat → Nat → Nat → Int → Bool

/-- NVM_FUSE as it reads: bit 0 is KEY1_EN (R579). -/
def fuseWord : BitVec 64 := if key1En then 1#64 else 0#64

/-- The 32 bits of IDCODE and of DBG_JTAG_ID (R610). -/
def jtagId : BitVec 64 :=
  (((stepping ++ (0x9640#16 ++ (manufacturer ++ 1#1)))).setWidth 64)

/-- A reset value with the strap bit TWIN_ID, bit 1, added (R542). -/
def twinStrap (v : BitVec 64) : BitVec 64 := if twinId then v ||| 2#64 else v

end Sys2Proof.Config
end

