-- ==== Sys2Proof/Machine/RegMap.lean ====
section
/-! DEFINITION. Machine/RegMap.lean: every register of BAR0, by name, with its fields, its width, its access codes (R8) and its
reset value, from the register maps of the chapters (R40 gives the blocks). A register is named by its BAR0 offset. -/

namespace Sys2Proof.Machine

/-- A field of a register: the register's BAR0 offset, the lowest bit and the number of bits. -/
structure Fld where
  reg : Nat
  lo : Nat
  w : Nat
deriving DecidableEq, Repr

/-- The access codes of R8; `clr` is the counter that any write clears. -/
inductive Acc where
  | rw | ro | wo | w1c | w1s | sh | clr
deriving DecidableEq, Repr

/-- One field of a row of the register table: lowest bit, bits, access code. -/
structure RegField where
  lo : Nat
  w : Nat
  acc : Acc
deriving DecidableEq, Repr

/-- One row of the register table: first offset, the count and stride of up to two indices, whether it is 64 bits wide, its
reset value and its fields. Bits in no field are reserved. -/
structure RegRow where
  base : Nat
  n1 : Nat
  s1 : Nat
  n2 : Nat
  s2 : Nat
  wide : Bool
  reset : BitVec 64
  fields : List RegField
deriving DecidableEq, Repr


-- R96
def PHS_TB_CTL (n : Nat) : Nat := 0x0100000 + n * 0x1000
def PHS_TB_SRC (n : Nat) : Nat := 0x0100004 + n * 0x1000
def PHS_TB_SUBDIV (n : Nat) : Nat := 0x0100008 + n * 0x1000
def PHS_TB_INC_BASE (n : Nat) : Nat := 0x0100010 + n * 0x1000
def PHS_TB_INC_EFF (n : Nat) : Nat := 0x0100018 + n * 0x1000
def PHS_TB_OFFSET (n : Nat) : Nat := 0x0100020 + n * 0x1000
def PHS_TB_DELAY (n : Nat) : Nat := 0x0100024 + n * 0x1000
def PHS_TB_WIN (n : Nat) : Nat := 0x0100028 + n * 0x1000
def PHS_TB_LOCK (n : Nat) : Nat := 0x010002C + n * 0x1000
def PHS_TB_LOOP (n : Nat) : Nat := 0x0100030 + n * 0x1000
def PHS_TB_SLEW (n : Nat) : Nat := 0x0100034 + n * 0x1000
def PHS_TB_CMD (n : Nat) : Nat := 0x0100038 + n * 0x1000
def PHS_TB_STAT (n : Nat) : Nat := 0x010003C + n * 0x1000
def PHS_TB_PHASE (n : Nat) : Nat := 0x0100040 + n * 0x1000
def PHS_TB_ERR (n : Nat) : Nat := 0x0100048 + n * 0x1000
def PHS_TB_CORR (n : Nat) : Nat := 0x010004C + n * 0x1000
def PHS_TB_BANKA_BASE (n : Nat) : Nat := 0x0100050 + n * 0x1000
def PHS_TB_BANKA_COUNT (n : Nat) : Nat := 0x0100058 + n * 0x1000
def PHS_TB_BANKB_BASE (n : Nat) : Nat := 0x0100060 + n * 0x1000
def PHS_TB_BANKB_COUNT (n : Nat) : Nat := 0x0100068 + n * 0x1000
def PHS_TB_ARM (n : Nat) : Nat := 0x0100070 + n * 0x1000
def PHS_TB_ARM_STAT (n : Nat) : Nat := 0x0100074 + n * 0x1000
def PHS_TB_SWAP_CYCLE (n : Nat) : Nat := 0x0100078 + n * 0x1000
def PHS_TB_TOL (n : Nat) : Nat := 0x010007C + n * 0x1000
def PHS_TB_STAMP_BASE (n : Nat) : Nat := 0x0100080 + n * 0x1000
def PHS_TB_STAMP_SIZE (n : Nat) : Nat := 0x0100088 + n * 0x1000
def PHS_TB_STAMP_HEAD (n : Nat) : Nat := 0x010008C + n * 0x1000
def PHS_TB_STAMP_TAIL (n : Nat) : Nat := 0x0100090 + n * 0x1000
def PHS_TB_LATE_CNT (n : Nat) : Nat := 0x01000A0 + n * 0x1000
def PHS_TB_CONFLICT_CNT (n : Nat) : Nat := 0x01000A4 + n * 0x1000
def PHS_TB_BIND_MISS_CNT (n : Nat) : Nat := 0x01000A8 + n * 0x1000
def PHS_TB_BLIND_SUP_CNT (n : Nat) : Nat := 0x01000AC + n * 0x1000
def PHS_TB_HOLD_CNT (n : Nat) : Nat := 0x01000B0 + n * 0x1000
def PHS_TB_REJECT_CNT (n : Nat) : Nat := 0x01000B4 + n * 0x1000
def PHS_TB_STAMP_LOST_CNT (n : Nat) : Nat := 0x01000B8 + n * 0x1000
def PHS_TB_BLIND_CNT (n : Nat) : Nat := 0x01000C0 + n * 0x1000
def PHS_TB_BLIND (n k : Nat) : Nat := 0x0100100 + n * 0x1000 + k * 0x8

-- R99
def PHS_CW_CTL (n : Nat) : Nat := 0x0104000 + n * 0x100
def PHS_CW_START (n : Nat) : Nat := 0x0104004 + n * 0x100
def PHS_CW_LEN (n : Nat) : Nat := 0x0104008 + n * 0x100
def PHS_CW_GUARD (n : Nat) : Nat := 0x010400C + n * 0x100
def PHS_CW_MEAS (n : Nat) : Nat := 0x0104010 + n * 0x100
def PHS_CW_MISMATCH_CNT (n : Nat) : Nat := 0x0104018 + n * 0x100

-- R101
def PHS_IN_CTL : Nat := 0x0108000
def PHS_SHOW_TIME : Nat := 0x0108010

-- R134
def SEQ_P_CTL (p : Nat) : Nat := 0x0200000 + p * 0x1000
def SEQ_P_GEOM (p : Nat) : Nat := 0x0200004 + p * 0x1000
def SEQ_P_SETTLE (p : Nat) : Nat := 0x0200008 + p * 0x1000
def SEQ_P_MIN_DWELL (p : Nat) : Nat := 0x020000C + p * 0x1000
def SEQ_P_BLK_TIME (p : Nat) : Nat := 0x0200010 + p * 0x1000
def SEQ_P_RST_LAT (p : Nat) : Nat := 0x0200014 + p * 0x1000
def SEQ_P_LOAD_MARGIN (p : Nat) : Nat := 0x0200018 + p * 0x1000
def SEQ_P_EDGE_COMP (p : Nat) : Nat := 0x020001C + p * 0x1000
def SEQ_P_SET_BASE (p k : Nat) : Nat := 0x0200020 + p * 0x1000 + k * 0x8
def SEQ_P_SET_READY (p : Nat) : Nat := 0x0200040 + p * 0x1000
def SEQ_P_SET_STAT (p : Nat) : Nat := 0x0200044 + p * 0x1000
def SEQ_P_FRAME_NS (p : Nat) : Nat := 0x0200048 + p * 0x1000
def SEQ_P_TOL (p : Nat) : Nat := 0x0200050 + p * 0x1000
def SEQ_P_TOL_CAP (p : Nat) : Nat := 0x0200054 + p * 0x1000
def SEQ_P_FETCH_NS (p : Nat) : Nat := 0x0200058 + p * 0x1000
def SEQ_P_LAST_WORD (p : Nat) : Nat := 0x0200060 + p * 0x1000
def SEQ_P_UNDERRUN_CNT (p : Nat) : Nat := 0x0200068 + p * 0x1000
def SEQ_P_UNDERRUN_WORDS (p : Nat) : Nat := 0x020006C + p * 0x1000
def SEQ_P_DWELL_VIOL_CNT (p : Nat) : Nat := 0x0200070 + p * 0x1000
def SEQ_P_RESET_CUT_CNT (p : Nat) : Nat := 0x0200074 + p * 0x1000
def SEQ_P_LOAD_DROP_CNT (p : Nat) : Nat := 0x0200078 + p * 0x1000
def SEQ_P_SET_REPEAT_CNT (p : Nat) : Nat := 0x020007C + p * 0x1000
def SEQ_P_BEAM_CTL (p : Nat) : Nat := 0x0200080 + p * 0x1000
def SEQ_P_BEAM_GEOM (p : Nat) : Nat := 0x0200084 + p * 0x1000
def SEQ_P_BEAM_LINE (p : Nat) : Nat := 0x0200088 + p * 0x1000
def SEQ_P_BEAM_STRIDE (p : Nat) : Nat := 0x020008C + p * 0x1000

-- R176
def SEQ_F_CTL (p : Nat) : Nat := 0x0208000 + p * 0x1000
def SEQ_F_CMD (p : Nat) : Nat := 0x0208004 + p * 0x1000
def SEQ_F_STAT (p : Nat) : Nat := 0x0208008 + p * 0x1000
def SEQ_F_RATE (p : Nat) : Nat := 0x020800C + p * 0x1000
def SEQ_F_FLIGHT (p : Nat) : Nat := 0x0208010 + p * 0x1000
def SEQ_F_IDLE_LEAD (p : Nat) : Nat := 0x0208014 + p * 0x1000
def SEQ_F_LINK_DROP_CNT (p : Nat) : Nat := 0x0208020 + p * 0x1000
def SEQ_F_PARK_DROP_CNT (p : Nat) : Nat := 0x0208024 + p * 0x1000
def SEQ_F_TRIP_DROP_CNT (p : Nat) : Nat := 0x0208028 + p * 0x1000
def SEQ_F_CLONE_IGN_CNT (p : Nat) : Nat := 0x020802C + p * 0x1000
def SEQ_F_BAD_WORD_CNT (p : Nat) : Nat := 0x0208030 + p * 0x1000
def SEQ_F_A_GEOM (p a : Nat) : Nat := 0x0208100 + p * 0x1000 + a * 0x40
def SEQ_F_A_TIME (p a : Nat) : Nat := 0x0208104 + p * 0x1000 + a * 0x40
def SEQ_F_A_LAT (p a : Nat) : Nat := 0x0208108 + p * 0x1000 + a * 0x40
def SEQ_F_A_PARKT (p a : Nat) : Nat := 0x020810C + p * 0x1000 + a * 0x40
def SEQ_F_A_TLIM (p a : Nat) : Nat := 0x0208110 + p * 0x1000 + a * 0x40
def SEQ_F_A_BSTATE (p a : Nat) : Nat := 0x0208114 + p * 0x1000 + a * 0x40
def SEQ_F_A_TEMP01 (p a : Nat) : Nat := 0x0208118 + p * 0x1000 + a * 0x40
def SEQ_F_A_TEMP23 (p a : Nat) : Nat := 0x020811C + p * 0x1000 + a * 0x40
def SEQ_F_A_CRC_ERR_CNT (p a : Nat) : Nat := 0x0208120 + p * 0x1000 + a * 0x40
def SEQ_F_A_NAK_CNT (p a : Nat) : Nat := 0x0208124 + p * 0x1000 + a * 0x40
def SEQ_F_A_ACK_MISS_CNT (p a : Nat) : Nat := 0x0208128 + p * 0x1000 + a * 0x40
def SEQ_F_A_RESET_NAK_CNT (p a : Nat) : Nat := 0x020812C + p * 0x1000 + a * 0x40
def SEQ_F_A_LSEQ (p a : Nat) : Nat := 0x0208130 + p * 0x1000 + a * 0x40

-- R216
def PIX_P_CTL (p : Nat) : Nat := 0x0300000 + p * 0x4000
def PIX_P_COMMIT (p : Nat) : Nat := 0x0300004 + p * 0x4000
def PIX_P_COMMIT_STATUS (p : Nat) : Nat := 0x0300008 + p * 0x4000
def PIX_P_FLIP_FLAGS (p : Nat) : Nat := 0x030000C + p * 0x4000
def PIX_P_FRAME_CNT (p : Nat) : Nat := 0x0300010 + p * 0x4000
def PIX_P_FLIP_TIME (p : Nat) : Nat := 0x0300018 + p * 0x4000
def PIX_P_COMMIT_FRAME (p : Nat) : Nat := 0x0300020 + p * 0x4000
def PIX_P_COMMIT_TIME (p : Nat) : Nat := 0x0300028 + p * 0x4000
def PIX_P_SIZE (p : Nat) : Nat := 0x0300030 + p * 0x4000
def PIX_P_ORDER (p : Nat) : Nat := 0x0300034 + p * 0x4000
def PIX_P_BG_RG (p : Nat) : Nat := 0x0300038 + p * 0x4000
def PIX_P_BG_B (p : Nat) : Nat := 0x030003C + p * 0x4000
def PIX_P_PEAK (p : Nat) : Nat := 0x0300040 + p * 0x4000
def PIX_P_SLICE (p : Nat) : Nat := 0x0300044 + p * 0x4000
def PIX_P_WARP (p : Nat) : Nat := 0x0300048 + p * 0x4000
def PIX_P_COLOUR (p : Nat) : Nat := 0x030004C + p * 0x4000
def PIX_P_ROUTE (p r : Nat) : Nat := 0x0300050 + p * 0x4000 + r * 0x4
def PIX_P_CONV (p c : Nat) : Nat := 0x0300070 + p * 0x4000 + c * 0x4
def PIX_P_BLEND_CTL (p : Nat) : Nat := 0x030007C + p * 0x4000
def PIX_P_BLEND_LR (p : Nat) : Nat := 0x0300080 + p * 0x4000
def PIX_P_BLEND_TB (p : Nat) : Nat := 0x0300084 + p * 0x4000
def PIX_P_MAT (p k : Nat) : Nat := 0x0300088 + p * 0x4000 + k * 0x4
def PIX_P_TBL_ADDR (p : Nat) : Nat := 0x03000B0 + p * 0x4000
def PIX_P_TBL_CMD (p : Nat) : Nat := 0x03000B8 + p * 0x4000
def PIX_P_TBL_STAT (p : Nat) : Nat := 0x03000BC + p * 0x4000
def PIX_P_RENDER_OVR_CNT (p : Nat) : Nat := 0x03000C0 + p * 0x4000
def PIX_P_DEFER_CNT (p : Nat) : Nat := 0x03000C4 + p * 0x4000
def PIX_P_REJECT_CNT (p : Nat) : Nat := 0x03000C8 + p * 0x4000
def PIX_P_GROUP_HOLD_CNT (p : Nat) : Nat := 0x03000CC + p * 0x4000
def PIX_P_WARP_CLAMP_CNT (p : Nat) : Nat := 0x03000D0 + p * 0x4000
def PIX_P_SET_BUSY_CNT (p : Nat) : Nat := 0x03000D4 + p * 0x4000

-- R218
def PIX_P_L_CTL (p l : Nat) : Nat := 0x0301000 + p * 0x4000 + l * 0x100
def PIX_P_L_FMT (p l : Nat) : Nat := 0x0301004 + p * 0x4000 + l * 0x100
def PIX_P_L_ADDR0 (p l : Nat) : Nat := 0x0301008 + p * 0x4000 + l * 0x100
def PIX_P_L_ADDR1 (p l : Nat) : Nat := 0x0301010 + p * 0x4000 + l * 0x100
def PIX_P_L_ADDR2 (p l : Nat) : Nat := 0x0301018 + p * 0x4000 + l * 0x100
def PIX_P_L_PITCH0 (p l : Nat) : Nat := 0x0301020 + p * 0x4000 + l * 0x100
def PIX_P_L_PITCH12 (p l : Nat) : Nat := 0x0301024 + p * 0x4000 + l * 0x100
def PIX_P_L_SRC (p l : Nat) : Nat := 0x0301028 + p * 0x4000 + l * 0x100
def PIX_P_L_CROP_XY (p l : Nat) : Nat := 0x030102C + p * 0x4000 + l * 0x100
def PIX_P_L_CROP_WH (p l : Nat) : Nat := 0x0301030 + p * 0x4000 + l * 0x100
def PIX_P_L_DST_XY (p l : Nat) : Nat := 0x0301034 + p * 0x4000 + l * 0x100
def PIX_P_L_DST_WH (p l : Nat) : Nat := 0x0301038 + p * 0x4000 + l * 0x100
def PIX_P_L_ALPHA (p l : Nat) : Nat := 0x030103C + p * 0x4000 + l * 0x100
def PIX_P_L_FENCE_ADDR (p l : Nat) : Nat := 0x0301040 + p * 0x4000 + l * 0x100
def PIX_P_L_FENCE_VAL (p l : Nat) : Nat := 0x0301048 + p * 0x4000 + l * 0x100
def PIX_P_L_STAT (p l : Nat) : Nat := 0x0301050 + p * 0x4000 + l * 0x100
def PIX_P_L_LATE_CNT (p l : Nat) : Nat := 0x0301054 + p * 0x4000 + l * 0x100
def PIX_P_L_FAULT_CNT (p l : Nat) : Nat := 0x0301058 + p * 0x4000 + l * 0x100

-- R220
def PIX_SCALER_MAP0 : Nat := 0x0310000
def PIX_SCALER_MAP1 : Nat := 0x0310008
def PIX_SCALER_FREE : Nat := 0x0310010

-- R257
def LDR_S_CTL (n : Nat) : Nat := 0x0400000 + n * 0x200
def LDR_S_STAT (n : Nat) : Nat := 0x0400004 + n * 0x200
def LDR_S_RSNS (n : Nat) : Nat := 0x0400008 + n * 0x200
def LDR_S_ITH (n : Nat) : Nat := 0x040000C + n * 0x200
def LDR_S_IMAX (n : Nat) : Nat := 0x0400010 + n * 0x200
def LDR_S_ILIM (n : Nat) : Nat := 0x0400014 + n * 0x200
def LDR_S_SCALE (n : Nat) : Nat := 0x0400018 + n * 0x200
def LDR_S_SCALE_LO (n : Nat) : Nat := 0x040001C + n * 0x200
def LDR_S_SCALE_HI (n : Nat) : Nat := 0x0400020 + n * 0x200
def LDR_S_SCALE_ADP (n : Nat) : Nat := 0x0400024 + n * 0x200
def LDR_S_SW (n : Nat) : Nat := 0x0400028 + n * 0x200
def LDR_S_TMIN (n : Nat) : Nat := 0x040002C + n * 0x200
def LDR_S_HYST (n : Nat) : Nat := 0x0400030 + n * 0x200
def LDR_S_HYST_LO (n : Nat) : Nat := 0x0400034 + n * 0x200
def LDR_S_HYST_HI (n : Nat) : Nat := 0x0400038 + n * 0x200
def LDR_S_HYST_ADP (n : Nat) : Nat := 0x040003C + n * 0x200
def LDR_S_PROT (n : Nat) : Nat := 0x0400040 + n * 0x200
def LDR_S_FREE (n : Nat) : Nat := 0x0400044 + n * 0x200
def LDR_S_DIAG (n : Nat) : Nat := 0x0400048 + n * 0x200
def LDR_S_VTH (n : Nat) : Nat := 0x040004C + n * 0x200
def LDR_S_IMEAS (n : Nat) : Nat := 0x0400050 + n * 0x200
def LDR_S_STEP_MAX (n : Nat) : Nat := 0x0400054 + n * 0x200
def LDR_S_PROBE_WAIT (n : Nat) : Nat := 0x0400058 + n * 0x200
def LDR_S_SHD (n : Nat) : Nat := 0x040005C + n * 0x200
def LDR_S_STEP_LATE_CNT (n : Nat) : Nat := 0x0400060 + n * 0x200
def LDR_S_CLAMP_CNT (n : Nat) : Nat := 0x0400064 + n * 0x200
def LDR_S_MODE_IGN_CNT (n : Nat) : Nat := 0x0400068 + n * 0x200
def LDR_S_SAFE_IGN_CNT (n : Nat) : Nat := 0x040006C + n * 0x200
def LDR_S_PROBE_MISS_CNT (n : Nat) : Nat := 0x0400070 + n * 0x200
def LDR_S_LVL (n k : Nat) : Nat := 0x0400100 + n * 0x200 + k * 0x4

-- R259
def LDR_G_CTL (g : Nat) : Nat := 0x0404000 + g * 0x100
def LDR_G_YREF (g : Nat) : Nat := 0x0404004 + g * 0x100
def LDR_G_V (g : Nat) : Nat := 0x0404008 + g * 0x100
def LDR_G_KL (g : Nat) : Nat := 0x040400C + g * 0x100
def LDR_G_STEP_MAX (g : Nat) : Nat := 0x0404010 + g * 0x100
def LDR_G_YMIN (g : Nat) : Nat := 0x0404014 + g * 0x100
def LDR_G_FADE_V1 (g : Nat) : Nat := 0x0404018 + g * 0x100
def LDR_G_FADE_MS (g : Nat) : Nat := 0x040401C + g * 0x100
def LDR_G_FADE_CMD (g : Nat) : Nat := 0x0404020 + g * 0x100
def LDR_G_FADE_STAT (g : Nat) : Nat := 0x0404024 + g * 0x100
def LDR_G_X (g : Nat) : Nat := 0x0404028 + g * 0x100
def LDR_G_Y (g : Nat) : Nat := 0x040402C + g * 0x100
def LDR_G_Z (g : Nat) : Nat := 0x0404030 + g * 0x100
def LDR_G_RATIO_M (g : Nat) : Nat := 0x0404034 + g * 0x100
def LDR_G_RATIO_L (g : Nat) : Nat := 0x0404038 + g * 0x100
def LDR_G_RATIO_M_DEV (g : Nat) : Nat := 0x040403C + g * 0x100
def LDR_G_RATIO_L_DEV (g : Nat) : Nat := 0x0404040 + g * 0x100
def LDR_G_RATIO_REF_M (g : Nat) : Nat := 0x0404044 + g * 0x100
def LDR_G_RATIO_REF_L (g : Nat) : Nat := 0x0404048 + g * 0x100
def LDR_G_TOL (g : Nat) : Nat := 0x040404C + g * 0x100
def LDR_G_XY_REF (g : Nat) : Nat := 0x0404050 + g * 0x100
def LDR_G_SKIP_CNT (g : Nat) : Nat := 0x0404054 + g * 0x100
def LDR_G_NO_LIGHT_CNT (g : Nat) : Nat := 0x0404058 + g * 0x100
def LDR_G_OVR_SKIP_CNT (g : Nat) : Nat := 0x040405C + g * 0x100

-- R260
def LDR_PD_TRIM (i k : Nat) : Nat := 0x0405000 + i * 0x40 + k * 0x4
def LDR_PD_DARK (i k : Nat) : Nat := 0x0405018 + i * 0x40 + k * 0x4
def LDR_PD_LAST_DARK (i : Nat) : Nat := 0x0405030 + i * 0x40
def LDR_PD_BAD_WIN_CNT (i : Nat) : Nat := 0x0405034 + i * 0x40
def LDR_PD_OVL_CNT (i : Nat) : Nat := 0x0405038 + i * 0x40
def LDR_PD_DARK_REJ_CNT (i : Nat) : Nat := 0x040503C + i * 0x40

-- R261
def LDR_CL_M (j c : Nat) : Nat := 0x0406000 + j * 0x20 + c * 0x4
def LDR_PD_RING_BASE : Nat := 0x0406060
def LDR_PD_RING_SIZE : Nat := 0x0406068
def LDR_PD_RING_HEAD : Nat := 0x040606C
def LDR_PD_RING_TAIL : Nat := 0x0406070
def LDR_PD_LOST_CNT : Nat := 0x0406074
def LDR_BANK_TSRC (b : Nat) : Nat := 0x0406080 + b * 0x10
def LDR_BANK_TLIM (b : Nat) : Nat := 0x0406084 + b * 0x10
def LDR_BANK_DMIN (b : Nat) : Nat := 0x0406088 + b * 0x10
def LDR_BANK_D (b : Nat) : Nat := 0x040608C + b * 0x10
def LDR_INTLK_STAT : Nat := 0x04060C0
def LDR_SAFE_CLR : Nat := 0x04060C4
def LDR_SAFE_STAT : Nat := 0x04060C8
def LDR_PROBE_REQ : Nat := 0x04060CC
def LDR_PD_TB : Nat := 0x04060D0

-- R300
def CTL_A_CFG (n : Nat) : Nat := 0x0500000 + n * 0x400
def CTL_A_CMD (n : Nat) : Nat := 0x0500004 + n * 0x400
def CTL_A_STAT (n : Nat) : Nat := 0x0500008 + n * 0x400
def CTL_A_FLAGS (n : Nat) : Nat := 0x050000C + n * 0x400
def CTL_A_PWM (n : Nat) : Nat := 0x0500010 + n * 0x400
def CTL_A_NPER (n : Nat) : Nat := 0x0500014 + n * 0x400
def CTL_A_DT (n : Nat) : Nat := 0x0500018 + n * 0x400
def CTL_A_POS (n : Nat) : Nat := 0x0500020 + n * 0x400
def CTL_A_TARGET (n : Nat) : Nat := 0x0500028 + n * 0x400
def CTL_A_PG_POS (n : Nat) : Nat := 0x0500030 + n * 0x400
def CTL_A_PG_VEL (n : Nat) : Nat := 0x0500038 + n * 0x400
def CTL_A_PG_ACC (n : Nat) : Nat := 0x050003C + n * 0x400
def CTL_A_VMAX (n : Nat) : Nat := 0x0500040 + n * 0x400
def CTL_A_AMAX (n : Nat) : Nat := 0x0500044 + n * 0x400
def CTL_A_JMAX (n : Nat) : Nat := 0x0500048 + n * 0x400
def CTL_A_PG_CTL (n : Nat) : Nat := 0x050004C + n * 0x400
def CTL_A_FOLLOW_TOL (n : Nat) : Nat := 0x0500050 + n * 0x400
def CTL_A_FOLLOW_DELAY (n : Nat) : Nat := 0x0500054 + n * 0x400
def CTL_A_STARVE_MS (n : Nat) : Nat := 0x0500058 + n * 0x400
def CTL_A_STREAM_BASE (n : Nat) : Nat := 0x0500060 + n * 0x400
def CTL_A_STREAM_SIZE (n : Nat) : Nat := 0x0500068 + n * 0x400
def CTL_A_STREAM_HEAD (n : Nat) : Nat := 0x050006C + n * 0x400
def CTL_A_STREAM_TAIL (n : Nat) : Nat := 0x0500070 + n * 0x400
def CTL_A_FERR_MAX (n : Nat) : Nat := 0x0500074 + n * 0x400
def CTL_A_FERR_N (n : Nat) : Nat := 0x0500078 + n * 0x400
def CTL_A_FF_V (n : Nat) : Nat := 0x0500080 + n * 0x400
def CTL_A_FF_A (n : Nat) : Nat := 0x0500084 + n * 0x400
def CTL_A_IDEM_MAX (n : Nat) : Nat := 0x0500088 + n * 0x400
def CTL_A_ID_REF (n : Nat) : Nat := 0x050008C + n * 0x400
def CTL_A_ELEC (n : Nat) : Nat := 0x0500090 + n * 0x400
def CTL_A_ELEC_OFS (n : Nat) : Nat := 0x0500094 + n * 0x400
def CTL_A_VEL_AVG (n : Nat) : Nat := 0x0500098 + n * 0x400
def CTL_A_TBL_CTL (n : Nat) : Nat := 0x05000A0 + n * 0x400
def CTL_A_V_ZERO (n : Nat) : Nat := 0x05000A4 + n * 0x400
def CTL_A_OSC_CTL (n : Nat) : Nat := 0x05000B0 + n * 0x400
def CTL_A_OSC_BAND (n : Nat) : Nat := 0x05000B4 + n * 0x400
def CTL_A_OSC_AMP (n : Nat) : Nat := 0x05000B8 + n * 0x400
def CTL_A_OSC_CNT (n : Nat) : Nat := 0x05000BC + n * 0x400
def CTL_A_IQ (n : Nat) : Nat := 0x05000C0 + n * 0x400
def CTL_A_VEL (n : Nat) : Nat := 0x05000C4 + n * 0x400
def CTL_A_LIMITED_CNT (n : Nat) : Nat := 0x05000D0 + n * 0x400
def CTL_A_OVERSHOOT_CNT (n : Nat) : Nat := 0x05000D4 + n * 0x400
def CTL_A_STREAM_BAD_CNT (n : Nat) : Nat := 0x05000D8 + n * 0x400
def CTL_A_DUTY_CLAMP_CNT (n : Nat) : Nat := 0x05000DC + n * 0x400
def CTL_A_REST_CNT (n : Nat) : Nat := 0x05000E0 + n * 0x400

-- R302
def CTL_T_CFG (t : Nat) : Nat := 0x0504000 + t * 0x80
def CTL_T_DL (t : Nat) : Nat := 0x0504004 + t * 0x80
def CTL_T_TIMER (t : Nat) : Nat := 0x0504008 + t * 0x80
def CTL_T_EXP (t : Nat) : Nat := 0x050400C + t * 0x80
def CTL_T_ELIM (t : Nat) : Nat := 0x0504010 + t * 0x80
def CTL_T_STAT (t : Nat) : Nat := 0x0504014 + t * 0x80
def CTL_T_OUT_LO (t : Nat) : Nat := 0x0504018 + t * 0x80
def CTL_T_OUT_HI (t : Nat) : Nat := 0x050401C + t * 0x80
def CTL_T_OUT (t : Nat) : Nat := 0x0504020 + t * 0x80
def CTL_T_DEM (t : Nat) : Nat := 0x0504024 + t * 0x80
def CTL_T_MISS_CNT (t : Nat) : Nat := 0x0504028 + t * 0x80
def CTL_T_SAT_CNT (t : Nat) : Nat := 0x050402C + t * 0x80
def CTL_T_PIN_IGN_CNT (t : Nat) : Nat := 0x0504030 + t * 0x80
def CTL_T_C (t k i : Nat) : Nat := 0x0504040 + t * 0x80 + k * 0x20 + i * 0x4

-- R303
def CTL_E_CFG (e : Nat) : Nat := 0x0506000 + e * 0x40
def CTL_E_CPR (e : Nat) : Nat := 0x0506004 + e * 0x40
def CTL_E_IDX_POS (e : Nat) : Nat := 0x0506008 + e * 0x40
def CTL_E_IDX_TOL (e : Nat) : Nat := 0x050600C + e * 0x40
def CTL_E_LAT (e : Nat) : Nat := 0x0506010 + e * 0x40
def CTL_E_JUMP (e : Nat) : Nat := 0x0506014 + e * 0x40
def CTL_E_POS (e : Nat) : Nat := 0x0506018 + e * 0x40
def CTL_E_STAT (e : Nat) : Nat := 0x0506020 + e * 0x40
def CTL_E_ERR_CNT (e : Nat) : Nat := 0x0506024 + e * 0x40

-- R304
def CTL_SD_CFG (k : Nat) : Nat := 0x0507000 + k * 0x20
def CTL_SD_GAIN (k : Nat) : Nat := 0x0507004 + k * 0x20
def CTL_SD_OFS (k : Nat) : Nat := 0x0507008 + k * 0x20
def CTL_SD_ITRIP (k : Nat) : Nat := 0x050700C + k * 0x20
def CTL_SD_I (k : Nat) : Nat := 0x0507010 + k * 0x20
def CTL_G_SDCLK (g : Nat) : Nat := 0x0507800 + g * 0x10
def CTL_TBL_ADDR : Nat := 0x0507C00
def CTL_TBL_CMD : Nat := 0x0507C08
def CTL_TBL_STAT : Nat := 0x0507C0C
def CTL_TBL_LOADED : Nat := 0x0507C10

-- R348
def ENG_B_T_CMD (b t : Nat) : Nat := 0x0600000 + b * 0x2000 + t * 0x100
def ENG_B_T_STAT (b t : Nat) : Nat := 0x0600004 + b * 0x2000 + t * 0x100
def ENG_B_T_CFG (b t : Nat) : Nat := 0x0600008 + b * 0x2000 + t * 0x100
def ENG_B_T_PC (b t : Nat) : Nat := 0x0600010 + b * 0x2000 + t * 0x100
def ENG_B_T_CTX (b t : Nat) : Nat := 0x0600018 + b * 0x2000 + t * 0x100
def ENG_B_T_FAULT (b t : Nat) : Nat := 0x0600020 + b * 0x2000 + t * 0x100
def ENG_B_T_FADDR (b t : Nat) : Nat := 0x0600028 + b * 0x2000 + t * 0x100
def ENG_B_T_DBG_SEL (b t : Nat) : Nat := 0x0600030 + b * 0x2000 + t * 0x100
def ENG_B_T_DBG_DATA (b t : Nat) : Nat := 0x0600038 + b * 0x2000 + t * 0x100
def ENG_B_T_CYCLE (b t : Nat) : Nat := 0x0600040 + b * 0x2000 + t * 0x100
def ENG_B_T_INSTRET (b t : Nat) : Nat := 0x0600048 + b * 0x2000 + t * 0x100
def ENG_B_T_WAKE_LOST (b t : Nat) : Nat := 0x0600050 + b * 0x2000 + t * 0x100

-- R350
def ENG_B_CTL (b : Nat) : Nat := 0x0600800 + b * 0x2000
def ENG_B_STAT (b : Nat) : Nat := 0x0600804 + b * 0x2000
def ENG_B_BKPT (b k : Nat) : Nat := 0x0600810 + b * 0x2000 + k * 0x8
def ENG_B_ECC_CNT (b : Nat) : Nat := 0x0600830 + b * 0x2000

-- R351
def ENG_PIL_BARRIER (k : Nat) : Nat := 0x0700000 + k * 0x1000
def ENG_PIL_ECC_CNT (k : Nat) : Nat := 0x0700004 + k * 0x1000
def ENG_PIL_MOVE_ACTIVE (k : Nat) : Nat := 0x0700008 + k * 0x1000
def ENG_THROT : Nat := 0x0780000
def ENG_FREQ : Nat := 0x0780004

-- R394
def MEM_CTL : Nat := 0x0800000
def MEM_STAT : Nat := 0x0800004
def MEM_SR_IDLE : Nat := 0x0800010
def MEM_SR_IDLE_LO : Nat := 0x0800014
def MEM_SR_IDLE_HI : Nat := 0x0800018
def MEM_SR_IDLE_ADP : Nat := 0x080001C
def MEM_SR_EXIT : Nat := 0x0800020
def MEM_SR_RES : Nat := 0x0800024
def MEM_TOL_MIN : Nat := 0x0800028
def MEM_SR_CNT : Nat := 0x0800030
def MEM_SR_CANCEL_CNT : Nat := 0x0800034
def MEM_SR_WAKE_REQ_CNT : Nat := 0x0800038
def MEM_SR_WAKE_TOL_CNT : Nat := 0x080003C
def MEM_SR_TIME : Nat := 0x0800040
def MEM_NB_PROB : Nat := 0x0800050
def MEM_NB_SEED : Nat := 0x0800054
def MEM_SCRUB_PERIOD : Nat := 0x0800058
def MEM_SCRUB_POS : Nat := 0x0800060
def MEM_UNCORR_ADDR : Nat := 0x0800068
def MEM_TRN_LIVE_MAX : Nat := 0x0800070

-- R395
def MEM_SRC_QOS (k : Nat) : Nat := 0x0800400 + k * 0x10
def MEM_SRC_LATE_CNT (k : Nat) : Nat := 0x0800404 + k * 0x10
def MEM_SRC_LAT_MAX (k : Nat) : Nat := 0x0800408 + k * 0x10

-- R396
def MEM_C_CTL (c : Nat) : Nat := 0x0801000 + c * 0x400
def MEM_C_STAT (c : Nat) : Nat := 0x0801004 + c * 0x400
def MEM_C_TEMP (c : Nat) : Nat := 0x0801008 + c * 0x400
def MEM_C_TRN_CMD (c : Nat) : Nat := 0x0801010 + c * 0x400
def MEM_C_TRN_PAT (c : Nat) : Nat := 0x0801014 + c * 0x400
def MEM_C_TRN_ADDR (c : Nat) : Nat := 0x0801018 + c * 0x400
def MEM_C_TRN_COUNT (c : Nat) : Nat := 0x080101C + c * 0x400
def MEM_C_TRN_SEED (c : Nat) : Nat := 0x0801020 + c * 0x400
def MEM_C_TRN_DONE (c : Nat) : Nat := 0x0801024 + c * 0x400
def MEM_C_VREF (c : Nat) : Nat := 0x0801028 + c * 0x400
def MEM_C_CA_DLY (c : Nat) : Nat := 0x080102C + c * 0x400
def MEM_C_TRN_USER (c u : Nat) : Nat := 0x0801040 + c * 0x400 + u * 0x8
def MEM_C_DLY (c k : Nat) : Nat := 0x0801100 + c * 0x400 + k * 0x4
def MEM_C_ERR (c k : Nat) : Nat := 0x0801200 + c * 0x400 + k * 0x4
def MEM_C_CORR_CNT (c : Nat) : Nat := 0x0801300 + c * 0x400
def MEM_C_UNCORR_CNT (c : Nat) : Nat := 0x0801304 + c * 0x400
def MEM_C_NB_CNT (c : Nat) : Nat := 0x0801308 + c * 0x400
def MEM_C_NB_DROP_CNT (c : Nat) : Nat := 0x080130C + c * 0x400

-- R398
def MMU_CTL : Nat := 0x0900000
def MMU_CTX_BASE : Nat := 0x0900008
def MMU_CMD : Nat := 0x0900010
def MMU_CMD_STAT : Nat := 0x0900014
def MMU_CMD_DONE : Nat := 0x0900018
def MMU_CMD_ASID : Nat := 0x090001C
def MMU_CMD_VA : Nat := 0x0900020
def MMU_CMD_PA : Nat := 0x0900028
def MMU_CMD_LEN : Nat := 0x0900030
def MMU_CMD_FLAGS : Nat := 0x0900034
def MMU_FLT_BASE : Nat := 0x0900040
def MMU_FLT_SIZE : Nat := 0x0900048
def MMU_FLT_HEAD : Nat := 0x090004C
def MMU_FLT_TAIL : Nat := 0x0900050
def MMU_FLT_LOST_CNT : Nat := 0x0900054
def MMU_HELD : Nat := 0x0900058
def MMU_RESOLVE : Nat := 0x0900060
def MMU_RESOLVE_STAT : Nat := 0x0900068
def MMU_PRI_TO : Nat := 0x0900070
def MMU_PRI_OUT : Nat := 0x0900074
def MMU_LOCK_USED : Nat := 0x0900078
def MMU_GUARD_ADDR : Nat := 0x0900080
def MMU_GUARD_DROP_CNT : Nat := 0x0900088
def MMU_GUARD_FAULT_CNT : Nat := 0x090008C
def MMU_TBL_FREE : Nat := 0x0900090

-- R437
def QUE_Q_CTL (q : Nat) : Nat := 0x0A00000 + q * 0x40
def QUE_Q_LINK (q : Nat) : Nat := 0x0A00004 + q * 0x40
def QUE_Q_BASE (q : Nat) : Nat := 0x0A00008 + q * 0x40
def QUE_Q_ASID (q : Nat) : Nat := 0x0A00010 + q * 0x40
def QUE_Q_IRQ (q : Nat) : Nat := 0x0A00014 + q * 0x40
def QUE_Q_CMD (q : Nat) : Nat := 0x0A00018 + q * 0x40
def QUE_Q_STAT (q : Nat) : Nat := 0x0A0001C + q * 0x40
def QUE_Q_HEAD (q : Nat) : Nat := 0x0A00020 + q * 0x40
def QUE_Q_TAIL (q : Nat) : Nat := 0x0A00024 + q * 0x40
def QUE_Q_OUTST (q : Nat) : Nat := 0x0A00028 + q * 0x40
def QUE_Q_ABORT_TO (q : Nat) : Nat := 0x0A0002C + q * 0x40
def QUE_Q_LOST_CNT (q : Nat) : Nat := 0x0A00030 + q * 0x40
def QUE_Q_DB_BAD_CNT (q : Nat) : Nat := 0x0A00034 + q * 0x40

-- R439
def QUE_STAT : Nat := 0x0A40000
def QUE_UNROUTED_CNT : Nat := 0x0A40004
def QUE_EVR (b : Nat) : Nat := 0x0A40100 + b * 0x4
def QUE_VF_EQ (v : Nat) : Nat := 0x0A40200 + v * 0x4

-- R440
def GLB_ID : Nat := 0x0000000
def GLB_LINK : Nat := 0x0000008
def GLB_LINK_DOWN_CNT : Nat := 0x000000C
def GLB_BAD_ADDR : Nat := 0x0000010
def GLB_BAD_CNT : Nat := 0x0000018
def GLB_FN_EN : Nat := 0x0000020
def GLB_FLR_CNT : Nat := 0x0000028
def GLB_HOSTRST_CNT : Nat := 0x000002C
def GLB_SCRATCH : Nat := 0x0000030

-- R462
def CMP_CTL : Nat := 0x0B00000
def CMP_STAT : Nat := 0x0B00004
def CMP_VERIFY_FAIL_CNT : Nat := 0x0B00008
def CMP_DATA_BAD_CNT : Nat := 0x0B0000C
def CMP_U_STAT (u : Nat) : Nat := 0x0B01000 + u * 0x40
def CMP_U_IN (u : Nat) : Nat := 0x0B01008 + u * 0x40
def CMP_U_OUT (u : Nat) : Nat := 0x0B01010 + u * 0x40
def CMP_U_BLOCKS (u : Nat) : Nat := 0x0B01018 + u * 0x40
def CMP_U_JOB_CNT (u : Nat) : Nat := 0x0B0101C + u * 0x40

-- R491
def LNK_L_CFG (n : Nat) : Nat := 0x0C00000 + n * 0x200
def LNK_L_CMD (n : Nat) : Nat := 0x0C00004 + n * 0x200
def LNK_L_STAT (n : Nat) : Nat := 0x0C00008 + n * 0x200
def LNK_L_TXEQ (n : Nat) : Nat := 0x0C0000C + n * 0x200
def LNK_L_LAT (n : Nat) : Nat := 0x0C00010 + n * 0x200
def LNK_L_HDR_ERR (n : Nat) : Nat := 0x0C00014 + n * 0x200
def LNK_L_REM_ERR (n : Nat) : Nat := 0x0C00018 + n * 0x200
def LNK_L_GEN (n : Nat) : Nat := 0x0C00020 + n * 0x200
def LNK_L_USER (n : Nat) : Nat := 0x0C00028 + n * 0x200
def LNK_L_CHK_BITS (n : Nat) : Nat := 0x0C00030 + n * 0x200
def LNK_L_CHK_ERR (n : Nat) : Nat := 0x0C00038 + n * 0x200
def LNK_L_SCAN (n : Nat) : Nat := 0x0C00040 + n * 0x200
def LNK_L_SCAN_ERR (n : Nat) : Nat := 0x0C00048 + n * 0x200
def LNK_L_EQ (n k : Nat) : Nat := 0x0C00080 + n * 0x200 + k * 0x10
def LNK_L_EQ_LO (n k : Nat) : Nat := 0x0C00084 + n * 0x200 + k * 0x10
def LNK_L_EQ_HI (n k : Nat) : Nat := 0x0C00088 + n * 0x200 + k * 0x10
def LNK_L_EQ_ADP (n k : Nat) : Nat := 0x0C0008C + n * 0x200 + k * 0x10

-- R493
def LNK_K_CTL (k : Nat) : Nat := 0x0C08000 + k * 0x100
def LNK_K_CMD (k : Nat) : Nat := 0x0C08004 + k * 0x100
def LNK_K_STAT (k : Nat) : Nat := 0x0C08008 + k * 0x100
def LNK_K_FAIL_CNT (k : Nat) : Nat := 0x0C0800C + k * 0x100
def LNK_K_LOST_CNT (k : Nat) : Nat := 0x0C08010 + k * 0x100
def LNK_K_PICOT (k : Nat) : Nat := 0x0C08014 + k * 0x100
def LNK_K_PICOT_NS (k : Nat) : Nat := 0x0C08018 + k * 0x100

-- R495
def LNK_PALIS_RATE : Nat := 0x0C09000
def LNK_STAT : Nat := 0x0C09004

-- R540
def CAS_CTL : Nat := 0x0D00000
def CAS_CMD : Nat := 0x0D00004
def CAS_STAT : Nat := 0x0D00008
def CAS_ADDR : Nat := 0x0D0000C
def CAS_UID : Nat := 0x0D00010
def CAS_TIME : Nat := 0x0D00018
def CAS_STEP_NS : Nat := 0x0D0001C
def CAS_OFFSET : Nat := 0x0D00020
def CAS_ERR : Nat := 0x0D00024
def CAS_RATE : Nat := 0x0D00028
def CAS_HOPS : Nat := 0x0D0002C
def CAS_RX_BASE : Nat := 0x0D00040
def CAS_RX_SIZE : Nat := 0x0D00048
def CAS_RX_HEAD : Nat := 0x0D0004C
def CAS_RX_TAIL : Nat := 0x0D00050
def CAS_TX_BASE : Nat := 0x0D00060
def CAS_TX_SIZE : Nat := 0x0D00068
def CAS_TX_HEAD : Nat := 0x0D0006C
def CAS_TX_TAIL : Nat := 0x0D00070
def CAS_TX_BAD_CNT : Nat := 0x0D00074
def CAS_RX_LOST_CNT : Nat := 0x0D00078
def CAS_HOP_DROP_CNT : Nat := 0x0D0007C
def CAS_P_CTL (p : Nat) : Nat := 0x0D00100 + p * 0x40
def CAS_P_STAT (p : Nat) : Nat := 0x0D00104 + p * 0x40
def CAS_P_DELAY (p : Nat) : Nat := 0x0D00108 + p * 0x40
def CAS_P_ASYM (p : Nat) : Nat := 0x0D0010C + p * 0x40
def CAS_P_PEER_UID (p : Nat) : Nat := 0x0D00110 + p * 0x40
def CAS_P_BAD_CNT (p : Nat) : Nat := 0x0D00118 + p * 0x40
def CAS_P_DROP_CNT (p : Nat) : Nat := 0x0D0011C + p * 0x40
def CAS_SUB_CTL (s : Nat) : Nat := 0x0D00400 + s * 0x20
def CAS_SUB_BASE (s : Nat) : Nat := 0x0D00408 + s * 0x20
def CAS_SUB_SIZE (s : Nat) : Nat := 0x0D00410 + s * 0x20
def CAS_SUB_HEAD (s : Nat) : Nat := 0x0D00414 + s * 0x20
def CAS_SUB_TAIL (s : Nat) : Nat := 0x0D00418 + s * 0x20
def CAS_SUB_GAP_CNT (s : Nat) : Nat := 0x0D0041C + s * 0x20

-- R541
def CAS_TW_CTL : Nat := 0x0D00800
def CAS_TW_CMD : Nat := 0x0D00804
def CAS_TW_STAT : Nat := 0x0D00808
def CAS_TW_PH_TOL : Nat := 0x0D0080C
def CAS_TW_LAG : Nat := 0x0D00810
def CAS_TW_PHDIFF : Nat := 0x0D00814
def CAS_TW_HB_MISS_CNT : Nat := 0x0D00818
def CAS_TW_TKO_CNT : Nat := 0x0D0081C
def CAS_TW_REFUSE_CNT : Nat := 0x0D00820
def CAS_TW_RESYNC_CNT : Nat := 0x0D00824
def CAS_TW_LAST_HB : Nat := 0x0D00828
def CAS_TW_FID (p : Nat) : Nat := 0x0D00840 + p * 0x8
def CAS_TW_FID_TAKEN (p : Nat) : Nat := 0x0D00860 + p * 0x8
def CAS_TW_Q (i : Nat) : Nat := 0x0D00900 + i * 0x4

-- R576
def HKP_CTL : Nat := 0x0E00000
def HKP_STAT : Nat := 0x0E00004
def HKP_SKIP_N : Nat := 0x0E00008
def HKP_RATE : Nat := 0x0E0000C
def HKP_ROUND : Nat := 0x0E00010
def HKP_T_GOV : Nat := 0x0E00014
def HKP_SUSPECT : Nat := 0x0E00018
def HKP_SENS_CLR : Nat := 0x0E00020
def HKP_Z (z : Nat) : Nat := 0x0E00040 + z * 0x4
def HKP_CH (k : Nat) : Nat := 0x0E00100 + k * 0x4
def HKP_LIM (k : Nat) : Nat := 0x0E00300 + k * 0x4
def HKP_TH (t : Nat) : Nat := 0x0E00500 + t * 0x4
def HKP_FAN_CTL (f : Nat) : Nat := 0x0E00540 + f * 0x8
def HKP_FAN_STAT (f : Nat) : Nat := 0x0E00544 + f * 0x8
def HKP_TACH_MIN : Nat := 0x0E00560
def HKP_COOL : Nat := 0x0E00564
def HKP_LEDGER_EQ : Nat := 0x0E00600
def HKP_LEDGER_TIME : Nat := 0x0E00608
def HKP_LIFE_PPM : Nat := 0x0E00610
def HKP_T_MAX : Nat := 0x0E00614
def HKP_PRIV_CNT : Nat := 0x0E00618
def HKP_ARR_EQ (i : Nat) : Nat := 0x0E00620 + i * 0x8
def HKP_SCRUB_PERIOD : Nat := 0x0E00680
def HKP_SCRUB_CORR_CNT : Nat := 0x0E00684
def HKP_SCRUB_UNCORR_CNT : Nat := 0x0E00688

-- R578
def CAL_T_CTL (t : Nat) : Nat := 0x0F00000 + t * 0x40
def CAL_T_TOL (t : Nat) : Nat := 0x0F00004 + t * 0x40
def CAL_T_VALID (t : Nat) : Nat := 0x0F00008 + t * 0x40
def CAL_T_CMD (t : Nat) : Nat := 0x0F0000C + t * 0x40
def CAL_T_MASK (t : Nat) : Nat := 0x0F00010 + t * 0x40
def CAL_T_STALE (t : Nat) : Nat := 0x0F00018 + t * 0x40
def CAL_T_MANUAL (t : Nat) : Nat := 0x0F00020 + t * 0x40
def CAL_T_REJECT_CNT (t : Nat) : Nat := 0x0F00028 + t * 0x40
def CAL_T_STAT (t : Nat) : Nat := 0x0F0002C + t * 0x40
def CAL_SEL : Nat := 0x0F00400
def CAL_INST_COUNT : Nat := 0x0F00408
def CAL_INST_LAST_OK : Nat := 0x0F00410
def CAL_INST_ERR : Nat := 0x0F00418
def CAL_INST_VALUE : Nat := 0x0F0041C

-- R579
def NVM_CMD : Nat := 0x1000000
def NVM_STAT : Nat := 0x1000004
def NVM_ADDR : Nat := 0x1000008
def NVM_LEN : Nat := 0x1000010
def NVM_DONE : Nat := 0x1000018
def NVM_SEQ : Nat := 0x1000020
def NVM_LOG_SEQ : Nat := 0x1000028
def NVM_LOG_FIRST : Nat := 0x1000030
def NVM_LOG_NEXT : Nat := 0x1000038
def NVM_WR_ABORT : Nat := 0x1000040
def NVM_WR_ABORT_LIFE : Nat := 0x1000044
def NVM_SLOT_STAT : Nat := 0x1000048
def NVM_KEYHASH0 (i : Nat) : Nat := 0x1000050 + i * 4
def NVM_KEYHASH1 (i : Nat) : Nat := 0x1000080 + i * 4
def NVM_FUSE : Nat := 0x10000B0
def NVM_SVN_MIN : Nat := 0x10000B4

-- R614
def DBG_CTL : Nat := 0x1100000
def DBG_RST_CMD : Nat := 0x1100004
def DBG_RST_CAUSE : Nat := 0x1100008
def DBG_RST_CNT : Nat := 0x110000C
def DBG_BOOT_STAT : Nat := 0x1100010
def DBG_BOOT_SEQ : Nat := 0x1100018
def DBG_BOOT_TIME : Nat := 0x1100020
def DBG_VIO_STAT : Nat := 0x1100024
def DBG_REFCLK : Nat := 0x1100028
def DBG_JTAG_ID : Nat := 0x110002C
def DBG_TM_A : Nat := 0x1100030
def DBG_TM_D0 : Nat := 0x1100034
def DBG_TM_D1 : Nat := 0x1100038
def DBG_TM_IDX : Nat := 0x110003C
def DBG_RCV_CMD : Nat := 0x1100040
def DBG_RCV_LEN : Nat := 0x1100048
def DBG_RCV_STAT : Nat := 0x1100050
def DBG_RCV_HDR (k : Nat) : Nat := 0x1101000 + k * 0x4

-- R136
def SEQ_P_LIN (p j : Nat) : Nat := 0x0204000 + p * 0x1000 + j * 4

-- R414
def QUE_DB (q : Nat) : Nat := 0x2000000 + q * 0x1000
def QUE_ABORT (q : Nat) : Nat := 0x2000008 + q * 0x1000
def QUE_ABORT_STAT (q : Nat) : Nat := 0x200000C + q * 0x1000

-- fields of R96
def PHS_TB_CTL_EN (n : Nat) : Fld := ⟨PHS_TB_CTL n, 0, 1⟩
def PHS_TB_CTL_STAMP_ALL (n : Nat) : Fld := ⟨PHS_TB_CTL n, 1, 1⟩
def PHS_TB_CTL_ALIGN_AUTO (n : Nat) : Fld := ⟨PHS_TB_CTL n, 2, 1⟩
def PHS_TB_SRC_TYPE (n : Nat) : Fld := ⟨PHS_TB_SRC n, 0, 3⟩
def PHS_TB_SRC_BOTH (n : Nat) : Fld := ⟨PHS_TB_SRC n, 3, 1⟩
def PHS_TB_SRC_SEL (n : Nat) : Fld := ⟨PHS_TB_SRC n, 4, 5⟩
def PHS_TB_SRC_MTB (n : Nat) : Fld := ⟨PHS_TB_SRC n, 9, 2⟩
def PHS_TB_SRC_DIR (n : Nat) : Fld := ⟨PHS_TB_SRC n, 11, 1⟩
def PHS_TB_SRC_MULT (n : Nat) : Fld := ⟨PHS_TB_SRC n, 12, 4⟩
def PHS_TB_LOCK_LOCK_TOL (n : Nat) : Fld := ⟨PHS_TB_LOCK n, 0, 16⟩
def PHS_TB_LOCK_LOCK_CNT (n : Nat) : Fld := ⟨PHS_TB_LOCK n, 16, 8⟩
def PHS_TB_LOCK_LOS_N (n : Nat) : Fld := ⟨PHS_TB_LOCK n, 24, 4⟩
def PHS_TB_LOOP_KP (n : Nat) : Fld := ⟨PHS_TB_LOOP n, 0, 16⟩
def PHS_TB_LOOP_KI (n : Nat) : Fld := ⟨PHS_TB_LOOP n, 16, 16⟩
def PHS_TB_SLEW_SLEW_PPM (n : Nat) : Fld := ⟨PHS_TB_SLEW n, 0, 6⟩
def PHS_TB_SLEW_CAPTURE_PPM (n : Nat) : Fld := ⟨PHS_TB_SLEW n, 16, 16⟩
def PHS_TB_CMD_ALIGN (n : Nat) : Fld := ⟨PHS_TB_CMD n, 0, 1⟩
def PHS_TB_CMD_CANCEL_ARM (n : Nat) : Fld := ⟨PHS_TB_CMD n, 1, 1⟩
def PHS_TB_STAT_STATE (n : Nat) : Fld := ⟨PHS_TB_STAT n, 0, 3⟩
def PHS_TB_STAT_RANGE (n : Nat) : Fld := ⟨PHS_TB_STAT n, 3, 1⟩
def PHS_TB_STAT_ACTIVE (n : Nat) : Fld := ⟨PHS_TB_STAT n, 4, 1⟩
def PHS_TB_STAT_ACTIVE_BANK (n : Nat) : Fld := ⟨PHS_TB_STAT n, 5, 1⟩
def PHS_TB_STAT_ARM_PEND (n : Nat) : Fld := ⟨PHS_TB_STAT n, 6, 1⟩
def PHS_TB_STAT_BASE_UPD (n : Nat) : Fld := ⟨PHS_TB_STAT n, 7, 1⟩
def PHS_TB_STAT_STOP_PEND (n : Nat) : Fld := ⟨PHS_TB_STAT n, 8, 1⟩
def PHS_TB_STAT_CMD_STATUS (n : Nat) : Fld := ⟨PHS_TB_STAT n, 16, 8⟩
def PHS_TB_ARM_BANK (n : Nat) : Fld := ⟨PHS_TB_ARM n, 0, 1⟩
def PHS_TB_ARM_AT_CYCLE (n : Nat) : Fld := ⟨PHS_TB_ARM n, 1, 1⟩
def PHS_TB_ARM_GO (n : Nat) : Fld := ⟨PHS_TB_ARM n, 2, 1⟩
def PHS_TB_ARM_STAT_STATUS (n : Nat) : Fld := ⟨PHS_TB_ARM_STAT n, 0, 8⟩
def PHS_TB_ARM_STAT_REASON (n : Nat) : Fld := ⟨PHS_TB_ARM_STAT n, 8, 4⟩
def PHS_TB_ARM_STAT_INDEX (n : Nat) : Fld := ⟨PHS_TB_ARM_STAT n, 16, 16⟩
def PHS_TB_BLIND_CNT_ALL (n : Nat) : Fld := ⟨PHS_TB_BLIND_CNT n, 8, 1⟩
def PHS_TB_BLIND_START (n k : Nat) : Fld := ⟨PHS_TB_BLIND n k, 0, 32⟩
def PHS_TB_BLIND_END (n k : Nat) : Fld := ⟨PHS_TB_BLIND n k, 32, 32⟩

-- fields of R99
def PHS_CW_CTL_EN (n : Nat) : Fld := ⟨PHS_CW_CTL n, 0, 1⟩
def PHS_CW_CTL_TB (n : Nat) : Fld := ⟨PHS_CW_CTL n, 1, 2⟩
def PHS_CW_CTL_REPEAT (n : Nat) : Fld := ⟨PHS_CW_CTL n, 4, 4⟩
def PHS_CW_CTL_SHUT_EN (n : Nat) : Fld := ⟨PHS_CW_CTL n, 8, 1⟩
def PHS_CW_CTL_SHUT_SEL (n : Nat) : Fld := ⟨PHS_CW_CTL n, 9, 2⟩
def PHS_CW_CTL_PEND (n : Nat) : Fld := ⟨PHS_CW_CTL n, 11, 1⟩

-- fields of R101
def PHS_IN_CTL_F_POL : Fld := ⟨PHS_IN_CTL, 0, 4⟩
def PHS_IN_CTL_L_POL : Fld := ⟨PHS_IN_CTL, 4, 4⟩
def PHS_IN_CTL_PICKUP : Fld := ⟨PHS_IN_CTL, 8, 4⟩
def PHS_IN_CTL_SHUT_POL : Fld := ⟨PHS_IN_CTL, 12, 4⟩
def PHS_IN_CTL_ZX_POL : Fld := ⟨PHS_IN_CTL, 16, 2⟩

-- fields of R134
def SEQ_P_CTL_EN (p : Nat) : Fld := ⟨SEQ_P_CTL p, 0, 1⟩
def SEQ_P_CTL_MODE (p : Nat) : Fld := ⟨SEQ_P_CTL p, 1, 1⟩
def SEQ_P_CTL_ARRAYS (p : Nat) : Fld := ⟨SEQ_P_CTL p, 2, 2⟩
def SEQ_P_CTL_COMPS (p : Nat) : Fld := ⟨SEQ_P_CTL p, 4, 3⟩
def SEQ_P_CTL_TB (p : Nat) : Fld := ⟨SEQ_P_CTL p, 8, 2⟩
def SEQ_P_GEOM_COLS_256 (p : Nat) : Fld := ⟨SEQ_P_GEOM p, 0, 8⟩
def SEQ_P_GEOM_ROWS_16 (p : Nat) : Fld := ⟨SEQ_P_GEOM p, 8, 8⟩
def SEQ_P_SET_READY_W1S (p : Nat) : Fld := ⟨SEQ_P_SET_READY p, 0, 4⟩
def SEQ_P_SET_STAT_SHOWN (p : Nat) : Fld := ⟨SEQ_P_SET_STAT p, 0, 2⟩
def SEQ_P_SET_STAT_SHOWING (p : Nat) : Fld := ⟨SEQ_P_SET_STAT p, 2, 1⟩
def SEQ_P_BEAM_CTL_RATE (p : Nat) : Fld := ⟨SEQ_P_BEAM_CTL p, 0, 2⟩
def SEQ_P_BEAM_CTL_LANES (p : Nat) : Fld := ⟨SEQ_P_BEAM_CTL p, 2, 4⟩
def SEQ_P_BEAM_CTL_BIDIR (p : Nat) : Fld := ⟨SEQ_P_BEAM_CTL p, 6, 1⟩
def SEQ_P_BEAM_CTL_INTERP (p : Nat) : Fld := ⟨SEQ_P_BEAM_CTL p, 7, 1⟩
def SEQ_P_BEAM_GEOM_COLS (p : Nat) : Fld := ⟨SEQ_P_BEAM_GEOM p, 0, 13⟩
def SEQ_P_BEAM_GEOM_LINES (p : Nat) : Fld := ⟨SEQ_P_BEAM_GEOM p, 16, 13⟩
def SEQ_P_BEAM_LINE_LINE (p : Nat) : Fld := ⟨SEQ_P_BEAM_LINE p, 0, 13⟩
def SEQ_P_BEAM_LINE_DIR (p : Nat) : Fld := ⟨SEQ_P_BEAM_LINE p, 16, 1⟩
def SEQ_P_BEAM_LINE_ACTIVE (p : Nat) : Fld := ⟨SEQ_P_BEAM_LINE p, 17, 1⟩

-- fields of R176
def SEQ_F_CTL_CLONE_EN (p : Nat) : Fld := ⟨SEQ_F_CTL p, 0, 1⟩
def SEQ_F_CTL_CLONE_SRC (p : Nat) : Fld := ⟨SEQ_F_CTL p, 1, 2⟩
def SEQ_F_CTL_IDLE_EN (p : Nat) : Fld := ⟨SEQ_F_CTL p, 3, 1⟩
def SEQ_F_CTL_TEMP_INT (p : Nat) : Fld := ⟨SEQ_F_CTL p, 10, 8⟩
def SEQ_F_CTL_ACK_TO (p : Nat) : Fld := ⟨SEQ_F_CTL p, 18, 6⟩
def SEQ_F_CMD_PARK (p : Nat) : Fld := ⟨SEQ_F_CMD p, 0, 1⟩
def SEQ_F_CMD_UNPARK (p : Nat) : Fld := ⟨SEQ_F_CMD p, 1, 1⟩
def SEQ_F_CMD_CLEAR_TRIP (p : Nat) : Fld := ⟨SEQ_F_CMD p, 2, 1⟩
def SEQ_F_CMD_RECAP (p : Nat) : Fld := ⟨SEQ_F_CMD p, 3, 1⟩
def SEQ_F_STAT_ACTIVE (p : Nat) : Fld := ⟨SEQ_F_STAT p, 0, 1⟩
def SEQ_F_STAT_FOUND (p : Nat) : Fld := ⟨SEQ_F_STAT p, 1, 2⟩
def SEQ_F_STAT_CAP_MISMATCH (p : Nat) : Fld := ⟨SEQ_F_STAT p, 3, 1⟩
def SEQ_F_STAT_PARK_PEND (p : Nat) : Fld := ⟨SEQ_F_STAT p, 4, 1⟩
def SEQ_F_STAT_PARKED (p : Nat) : Fld := ⟨SEQ_F_STAT p, 5, 1⟩
def SEQ_F_STAT_TRIP (p : Nat) : Fld := ⟨SEQ_F_STAT p, 6, 3⟩
def SEQ_F_STAT_WARN (p : Nat) : Fld := ⟨SEQ_F_STAT p, 9, 3⟩
def SEQ_F_STAT_STALE (p : Nat) : Fld := ⟨SEQ_F_STAT p, 12, 3⟩
def SEQ_F_STAT_CMD_STATUS (p : Nat) : Fld := ⟨SEQ_F_STAT p, 16, 8⟩
def SEQ_F_A_GEOM_COLS (p a : Nat) : Fld := ⟨SEQ_F_A_GEOM p a, 0, 16⟩
def SEQ_F_A_GEOM_ROWS (p a : Nat) : Fld := ⟨SEQ_F_A_GEOM p a, 16, 16⟩
def SEQ_F_A_TIME_SETTLE (p a : Nat) : Fld := ⟨SEQ_F_A_TIME p a, 0, 16⟩
def SEQ_F_A_TIME_MIN_DWELL (p a : Nat) : Fld := ⟨SEQ_F_A_TIME p a, 16, 16⟩
def SEQ_F_A_LAT_RST_LAT (p a : Nat) : Fld := ⟨SEQ_F_A_LAT p a, 0, 16⟩
def SEQ_F_A_LAT_HOP_LAT (p a : Nat) : Fld := ⟨SEQ_F_A_LAT p a, 16, 16⟩
def SEQ_F_A_PARKT_PARK_TIME (p a : Nat) : Fld := ⟨SEQ_F_A_PARKT p a, 0, 16⟩
def SEQ_F_A_PARKT_WAKE_TIME (p a : Nat) : Fld := ⟨SEQ_F_A_PARKT p a, 16, 16⟩
def SEQ_F_A_TLIM_WARN (p a : Nat) : Fld := ⟨SEQ_F_A_TLIM p a, 0, 16⟩
def SEQ_F_A_TLIM_TRIP (p a : Nat) : Fld := ⟨SEQ_F_A_TLIM p a, 16, 16⟩
def SEQ_F_A_BSTATE_PARKED (p a : Nat) : Fld := ⟨SEQ_F_A_BSTATE p a, 0, 16⟩
def SEQ_F_A_BSTATE_FLOATING (p a : Nat) : Fld := ⟨SEQ_F_A_BSTATE p a, 16, 16⟩

-- fields of R216
def PIX_P_CTL_EN (p : Nat) : Fld := ⟨PIX_P_CTL p, 0, 1⟩
def PIX_P_CTL_ORDER_PROG (p : Nat) : Fld := ⟨PIX_P_CTL p, 1, 1⟩
def PIX_P_CTL_FLIP_EVT (p : Nat) : Fld := ⟨PIX_P_CTL p, 2, 1⟩
def PIX_P_COMMIT_GO (p : Nat) : Fld := ⟨PIX_P_COMMIT p, 0, 1⟩
def PIX_P_COMMIT_CANCEL (p : Nat) : Fld := ⟨PIX_P_COMMIT p, 1, 1⟩
def PIX_P_COMMIT_STATUS_STATUS (p : Nat) : Fld := ⟨PIX_P_COMMIT_STATUS p, 0, 8⟩
def PIX_P_COMMIT_STATUS_LAYER (p : Nat) : Fld := ⟨PIX_P_COMMIT_STATUS p, 8, 3⟩
def PIX_P_COMMIT_STATUS_LAYER_VALID (p : Nat) : Fld := ⟨PIX_P_COMMIT_STATUS p, 11, 1⟩
def PIX_P_COMMIT_STATUS_CHECK (p : Nat) : Fld := ⟨PIX_P_COMMIT_STATUS p, 12, 4⟩
def PIX_P_COMMIT_STATUS_CMD_STATUS (p : Nat) : Fld := ⟨PIX_P_COMMIT_STATUS p, 16, 8⟩
def PIX_P_FLIP_FLAGS_HOLDOVER (p : Nat) : Fld := ⟨PIX_P_FLIP_FLAGS p, 0, 1⟩
def PIX_P_FLIP_FLAGS_UNLOCKED (p : Nat) : Fld := ⟨PIX_P_FLIP_FLAGS p, 1, 1⟩
def PIX_P_FLIP_FLAGS_LATE (p : Nat) : Fld := ⟨PIX_P_FLIP_FLAGS p, 2, 1⟩
def PIX_P_SLICE_SETS (p : Nat) : Fld := ⟨PIX_P_SLICE p, 0, 4⟩
def PIX_P_SLICE_BEAM (p : Nat) : Fld := ⟨PIX_P_SLICE p, 4, 1⟩
def PIX_P_WARP_EN (p : Nat) : Fld := ⟨PIX_P_WARP p, 0, 1⟩
def PIX_P_WARP_FILTER (p : Nat) : Fld := ⟨PIX_P_WARP p, 1, 1⟩
def PIX_P_WARP_MESH_BANK (p : Nat) : Fld := ⟨PIX_P_WARP p, 2, 1⟩
def PIX_P_COLOUR_MAT_EN (p : Nat) : Fld := ⟨PIX_P_COLOUR p, 0, 1⟩
def PIX_P_COLOUR_LUT_EN (p : Nat) : Fld := ⟨PIX_P_COLOUR p, 1, 1⟩
def PIX_P_COLOUR_LUT_BANK (p : Nat) : Fld := ⟨PIX_P_COLOUR p, 2, 1⟩
def PIX_P_COLOUR_SHAPER (p : Nat) : Fld := ⟨PIX_P_COLOUR p, 3, 3⟩
def PIX_P_ROUTE_EN (p r : Nat) : Fld := ⟨PIX_P_ROUTE p r, 0, 1⟩
def PIX_P_ROUTE_SRC (p r : Nat) : Fld := ⟨PIX_P_ROUTE p r, 1, 2⟩
def PIX_P_ROUTE_PORT (p r : Nat) : Fld := ⟨PIX_P_ROUTE p r, 3, 2⟩
def PIX_P_ROUTE_ARRAY (p r : Nat) : Fld := ⟨PIX_P_ROUTE p r, 5, 2⟩
def PIX_P_ROUTE_COMP (p r : Nat) : Fld := ⟨PIX_P_ROUTE p r, 7, 2⟩
def PIX_P_BLEND_CTL_EN (p : Nat) : Fld := ⟨PIX_P_BLEND_CTL p, 0, 1⟩
def PIX_P_BLEND_CTL_CURVE (p : Nat) : Fld := ⟨PIX_P_BLEND_CTL p, 1, 1⟩
def PIX_P_TBL_CMD_LOAD (p : Nat) : Fld := ⟨PIX_P_TBL_CMD p, 0, 1⟩
def PIX_P_TBL_CMD_KIND (p : Nat) : Fld := ⟨PIX_P_TBL_CMD p, 1, 1⟩
def PIX_P_TBL_CMD_BANK (p : Nat) : Fld := ⟨PIX_P_TBL_CMD p, 2, 1⟩
def PIX_P_TBL_STAT_MESH_BUSY (p : Nat) : Fld := ⟨PIX_P_TBL_STAT p, 0, 1⟩
def PIX_P_TBL_STAT_LUT_BUSY (p : Nat) : Fld := ⟨PIX_P_TBL_STAT p, 1, 1⟩
def PIX_P_TBL_STAT_LOADED (p : Nat) : Fld := ⟨PIX_P_TBL_STAT p, 2, 4⟩
def PIX_P_TBL_STAT_CMD_STATUS (p : Nat) : Fld := ⟨PIX_P_TBL_STAT p, 8, 8⟩

-- fields of R218
def PIX_P_L_CTL_EN (p l : Nat) : Fld := ⟨PIX_P_L_CTL p l, 0, 1⟩
def PIX_P_L_CTL_BLEND (p l : Nat) : Fld := ⟨PIX_P_L_CTL p l, 1, 2⟩
def PIX_P_L_CTL_PREMUL (p l : Nat) : Fld := ⟨PIX_P_L_CTL p l, 3, 1⟩
def PIX_P_L_CTL_GROUP (p l : Nat) : Fld := ⟨PIX_P_L_CTL p l, 4, 2⟩
def PIX_P_L_CTL_WAIT (p l : Nat) : Fld := ⟨PIX_P_L_CTL p l, 6, 1⟩
def PIX_P_L_CTL_FILTER (p l : Nat) : Fld := ⟨PIX_P_L_CTL p l, 7, 2⟩
def PIX_P_L_CTL_HDEC (p l : Nat) : Fld := ⟨PIX_P_L_CTL p l, 9, 2⟩
def PIX_P_L_CTL_VDEC (p l : Nat) : Fld := ⟨PIX_P_L_CTL p l, 11, 2⟩
def PIX_P_L_FMT_KIND (p l : Nat) : Fld := ⟨PIX_P_L_FMT p l, 0, 2⟩
def PIX_P_L_FMT_DEPTH (p l : Nat) : Fld := ⟨PIX_P_L_FMT p l, 2, 3⟩
def PIX_P_L_FMT_SAMPLING (p l : Nat) : Fld := ⟨PIX_P_L_FMT p l, 5, 2⟩
def PIX_P_L_FMT_CSITE (p l : Nat) : Fld := ⟨PIX_P_L_FMT p l, 7, 1⟩
def PIX_P_L_FMT_TF (p l : Nat) : Fld := ⟨PIX_P_L_FMT p l, 8, 3⟩
def PIX_P_L_FMT_YMAT (p l : Nat) : Fld := ⟨PIX_P_L_FMT p l, 11, 2⟩
def PIX_P_L_FMT_RANGE (p l : Nat) : Fld := ⟨PIX_P_L_FMT p l, 13, 1⟩
def PIX_P_L_FMT_PRIM (p l : Nat) : Fld := ⟨PIX_P_L_FMT p l, 14, 2⟩
def PIX_P_L_STAT_SHOWN (p l : Nat) : Fld := ⟨PIX_P_L_STAT p l, 0, 1⟩
def PIX_P_L_STAT_HELD (p l : Nat) : Fld := ⟨PIX_P_L_STAT p l, 1, 1⟩
def PIX_P_L_STAT_TRANSPARENT (p l : Nat) : Fld := ⟨PIX_P_L_STAT p l, 2, 1⟩
def PIX_P_L_STAT_FAULTED (p l : Nat) : Fld := ⟨PIX_P_L_STAT p l, 3, 1⟩
def PIX_P_L_STAT_SCALED (p l : Nat) : Fld := ⟨PIX_P_L_STAT p l, 4, 1⟩
def PIX_P_L_STAT_SCALER (p l : Nat) : Fld := ⟨PIX_P_L_STAT p l, 5, 4⟩

-- fields of R257
def LDR_S_CTL_MODE (n : Nat) : Fld := ⟨LDR_S_CTL n, 0, 2⟩
def LDR_S_CTL_KIND (n : Nat) : Fld := ⟨LDR_S_CTL n, 2, 1⟩
def LDR_S_CTL_TB (n : Nat) : Fld := ⟨LDR_S_CTL n, 3, 2⟩
def LDR_S_CTL_SPORT (n : Nat) : Fld := ⟨LDR_S_CTL n, 5, 2⟩
def LDR_S_CTL_GROUP (n : Nat) : Fld := ⟨LDR_S_CTL n, 7, 3⟩
def LDR_S_CTL_GRP_EN (n : Nat) : Fld := ⟨LDR_S_CTL n, 10, 1⟩
def LDR_S_STAT_LVL_IDX (n : Nat) : Fld := ⟨LDR_S_STAT n, 0, 4⟩
def LDR_S_STAT_SHUNT (n : Nat) : Fld := ⟨LDR_S_STAT n, 4, 1⟩
def LDR_S_STAT_DARK (n : Nat) : Fld := ⟨LDR_S_STAT n, 5, 1⟩
def LDR_S_STAT_CAUSE (n : Nat) : Fld := ⟨LDR_S_STAT n, 6, 5⟩
def LDR_S_STAT_DERATED (n : Nat) : Fld := ⟨LDR_S_STAT n, 11, 1⟩
def LDR_S_STAT_CLAMPED (n : Nat) : Fld := ⟨LDR_S_STAT n, 12, 1⟩
def LDR_S_STAT_TB_OFF (n : Nat) : Fld := ⟨LDR_S_STAT n, 13, 1⟩
def LDR_S_STAT_CMD_STATUS (n : Nat) : Fld := ⟨LDR_S_STAT n, 16, 8⟩
def LDR_S_SCALE_ADP_AEN (n : Nat) : Fld := ⟨LDR_S_SCALE_ADP n, 0, 1⟩
def LDR_S_SCALE_ADP_HOLD (n : Nat) : Fld := ⟨LDR_S_SCALE_ADP n, 1, 1⟩
def LDR_S_SCALE_ADP_RELEASE (n : Nat) : Fld := ⟨LDR_S_SCALE_ADP n, 2, 1⟩
def LDR_S_SCALE_ADP_PINNED (n : Nat) : Fld := ⟨LDR_S_SCALE_ADP n, 3, 1⟩
def LDR_S_SCALE_ADP_AT_HI (n : Nat) : Fld := ⟨LDR_S_SCALE_ADP n, 4, 1⟩
def LDR_S_SCALE_ADP_OVR (n : Nat) : Fld := ⟨LDR_S_SCALE_ADP n, 5, 1⟩
def LDR_S_SCALE_ADP_PINNED_SEEN (n : Nat) : Fld := ⟨LDR_S_SCALE_ADP n, 6, 1⟩
def LDR_S_SCALE_ADP_BOUNDS_BAD (n : Nat) : Fld := ⟨LDR_S_SCALE_ADP n, 7, 1⟩
def LDR_S_SCALE_ADP_STEPS (n : Nat) : Fld := ⟨LDR_S_SCALE_ADP n, 16, 16⟩
def LDR_S_SW_FSW (n : Nat) : Fld := ⟨LDR_S_SW n, 0, 9⟩
def LDR_S_SW_DT_HL (n : Nat) : Fld := ⟨LDR_S_SW n, 16, 8⟩
def LDR_S_SW_DT_LH (n : Nat) : Fld := ⟨LDR_S_SW n, 24, 8⟩
def LDR_S_TMIN_MIN_ON (n : Nat) : Fld := ⟨LDR_S_TMIN n, 0, 8⟩
def LDR_S_TMIN_MIN_OFF (n : Nat) : Fld := ⟨LDR_S_TMIN n, 8, 8⟩
def LDR_S_HYST_ADP_AEN (n : Nat) : Fld := ⟨LDR_S_HYST_ADP n, 0, 1⟩
def LDR_S_HYST_ADP_HOLD (n : Nat) : Fld := ⟨LDR_S_HYST_ADP n, 1, 1⟩
def LDR_S_HYST_ADP_RELEASE (n : Nat) : Fld := ⟨LDR_S_HYST_ADP n, 2, 1⟩
def LDR_S_HYST_ADP_PINNED (n : Nat) : Fld := ⟨LDR_S_HYST_ADP n, 3, 1⟩
def LDR_S_HYST_ADP_AT_HI (n : Nat) : Fld := ⟨LDR_S_HYST_ADP n, 4, 1⟩
def LDR_S_HYST_ADP_OVR (n : Nat) : Fld := ⟨LDR_S_HYST_ADP n, 5, 1⟩
def LDR_S_HYST_ADP_PINNED_SEEN (n : Nat) : Fld := ⟨LDR_S_HYST_ADP n, 6, 1⟩
def LDR_S_HYST_ADP_BOUNDS_BAD (n : Nat) : Fld := ⟨LDR_S_HYST_ADP n, 7, 1⟩
def LDR_S_HYST_ADP_STEPS (n : Nat) : Fld := ⟨LDR_S_HYST_ADP n, 16, 16⟩
def LDR_S_PROT_OC_N (n : Nat) : Fld := ⟨LDR_S_PROT n, 0, 4⟩
def LDR_S_PROT_OPEN_NS (n : Nat) : Fld := ⟨LDR_S_PROT n, 16, 16⟩
def LDR_S_FREE_BITS (n : Nat) : Fld := ⟨LDR_S_FREE n, 0, 4⟩
def LDR_S_FREE_REP (n : Nat) : Fld := ⟨LDR_S_FREE n, 4, 4⟩
def LDR_S_FREE_LVL (n : Nat) : Fld := ⟨LDR_S_FREE n, 8, 4⟩
def LDR_S_FREE_DUTY (n : Nat) : Fld := ⟨LDR_S_FREE n, 16, 13⟩
def LDR_S_DIAG_STATE (n : Nat) : Fld := ⟨LDR_S_DIAG n, 0, 3⟩
def LDR_S_DIAG_PROBE_PEND (n : Nat) : Fld := ⟨LDR_S_DIAG n, 3, 1⟩
def LDR_S_DIAG_PROBE_EN (n : Nat) : Fld := ⟨LDR_S_DIAG n, 4, 1⟩
def LDR_S_DIAG_PROBE_LVL (n : Nat) : Fld := ⟨LDR_S_DIAG n, 8, 4⟩
def LDR_S_DIAG_V_EST (n : Nat) : Fld := ⟨LDR_S_DIAG n, 16, 16⟩
def LDR_S_VTH_V_SHORT (n : Nat) : Fld := ⟨LDR_S_VTH n, 0, 16⟩
def LDR_S_VTH_V_LOW (n : Nat) : Fld := ⟨LDR_S_VTH n, 16, 16⟩

-- fields of R259
def LDR_G_CTL_LOOP_EN (g : Nat) : Fld := ⟨LDR_G_CTL g, 0, 1⟩
def LDR_G_CTL_PORT (g : Nat) : Fld := ⟨LDR_G_CTL g, 1, 2⟩
def LDR_G_FADE_CMD_GO (g : Nat) : Fld := ⟨LDR_G_FADE_CMD g, 0, 1⟩
def LDR_G_FADE_CMD_CANCEL (g : Nat) : Fld := ⟨LDR_G_FADE_CMD g, 1, 1⟩
def LDR_G_FADE_CMD_CURVE (g : Nat) : Fld := ⟨LDR_G_FADE_CMD g, 2, 1⟩
def LDR_G_FADE_STAT_CMD_STATUS (g : Nat) : Fld := ⟨LDR_G_FADE_STAT g, 0, 8⟩
def LDR_G_FADE_STAT_ACTIVE (g : Nat) : Fld := ⟨LDR_G_FADE_STAT g, 8, 1⟩
def LDR_G_TOL_RATIO_TOL (g : Nat) : Fld := ⟨LDR_G_TOL g, 0, 16⟩
def LDR_G_TOL_CHROMA_TOL (g : Nat) : Fld := ⟨LDR_G_TOL g, 16, 16⟩

-- fields of R261
def LDR_BANK_TLIM_T_START (b : Nat) : Fld := ⟨LDR_BANK_TLIM b, 0, 8⟩
def LDR_BANK_TLIM_T_FULL (b : Nat) : Fld := ⟨LDR_BANK_TLIM b, 8, 8⟩
def LDR_BANK_TLIM_T_TRIP (b : Nat) : Fld := ⟨LDR_BANK_TLIM b, 16, 8⟩
def LDR_INTLK_STAT_LEVEL : Fld := ⟨LDR_INTLK_STAT, 0, 4⟩
def LDR_INTLK_STAT_LATCHED : Fld := ⟨LDR_INTLK_STAT, 4, 4⟩
def LDR_SAFE_CLR_STRINGS : Fld := ⟨LDR_SAFE_CLR, 0, 24⟩
def LDR_SAFE_CLR_CAUSES : Fld := ⟨LDR_SAFE_CLR, 24, 5⟩
def LDR_SAFE_STAT_CMD_STATUS : Fld := ⟨LDR_SAFE_STAT, 0, 8⟩

-- fields of R300
def CTL_A_CFG_KIND (n : Nat) : Fld := ⟨CTL_A_CFG n, 0, 2⟩
def CTL_A_CFG_PAIR_BASE (n : Nat) : Fld := ⟨CTL_A_CFG n, 2, 4⟩
def CTL_A_CFG_ENC (n : Nat) : Fld := ⟨CTL_A_CFG n, 6, 4⟩
def CTL_A_CFG_TB (n : Nat) : Fld := ⟨CTL_A_CFG n, 10, 2⟩
def CTL_A_CFG_SAFE_ACT (n : Nat) : Fld := ⟨CTL_A_CFG n, 12, 2⟩
def CTL_A_CFG_MISS_N (n : Nat) : Fld := ⟨CTL_A_CFG n, 14, 4⟩
def CTL_A_CFG_QUIET (n : Nat) : Fld := ⟨CTL_A_CFG n, 18, 1⟩
def CTL_A_CFG_REST (n : Nat) : Fld := ⟨CTL_A_CFG n, 19, 1⟩
def CTL_A_CMD_EN (n : Nat) : Fld := ⟨CTL_A_CMD n, 0, 1⟩
def CTL_A_CMD_DISABLE (n : Nat) : Fld := ⟨CTL_A_CMD n, 1, 1⟩
def CTL_A_CMD_CLEAR (n : Nat) : Fld := ⟨CTL_A_CMD n, 2, 1⟩
def CTL_A_CMD_GO (n : Nat) : Fld := ⟨CTL_A_CMD n, 3, 1⟩
def CTL_A_STAT_STATE (n : Nat) : Fld := ⟨CTL_A_STAT n, 0, 3⟩
def CTL_A_STAT_AT_TARGET (n : Nat) : Fld := ⟨CTL_A_STAT n, 3, 1⟩
def CTL_A_STAT_STARVED (n : Nat) : Fld := ⟨CTL_A_STAT n, 4, 1⟩
def CTL_A_STAT_RESTING (n : Nat) : Fld := ⟨CTL_A_STAT n, 5, 1⟩
def CTL_A_STAT_LIM_PEND (n : Nat) : Fld := ⟨CTL_A_STAT n, 6, 1⟩
def CTL_A_STAT_CAUSE (n : Nat) : Fld := ⟨CTL_A_STAT n, 8, 8⟩
def CTL_A_STAT_CMD_STATUS (n : Nat) : Fld := ⟨CTL_A_STAT n, 16, 8⟩
def CTL_A_FLAGS_LIMITED (n : Nat) : Fld := ⟨CTL_A_FLAGS n, 0, 1⟩
def CTL_A_FLAGS_OVERSHOOT (n : Nat) : Fld := ⟨CTL_A_FLAGS n, 1, 1⟩
def CTL_A_FLAGS_DLMISS (n : Nat) : Fld := ⟨CTL_A_FLAGS n, 2, 1⟩
def CTL_A_FLAGS_OSC (n : Nat) : Fld := ⟨CTL_A_FLAGS n, 3, 1⟩
def CTL_A_FLAGS_DUTY_CLAMP (n : Nat) : Fld := ⟨CTL_A_FLAGS n, 4, 1⟩
def CTL_A_FLAGS_SAT (n : Nat) : Fld := ⟨CTL_A_FLAGS n, 5, 1⟩
def CTL_A_PWM_PER (n : Nat) : Fld := ⟨CTL_A_PWM n, 0, 17⟩
def CTL_A_PWM_CARRIER (n : Nat) : Fld := ⟨CTL_A_PWM n, 17, 1⟩
def CTL_A_PWM_UPD (n : Nat) : Fld := ⟨CTL_A_PWM n, 18, 1⟩
def CTL_A_PWM_SYNC (n : Nat) : Fld := ⟨CTL_A_PWM n, 19, 1⟩
def CTL_A_DT_DT (n : Nat) : Fld := ⟨CTL_A_DT n, 0, 10⟩
def CTL_A_DT_MINP (n : Nat) : Fld := ⟨CTL_A_DT n, 16, 10⟩
def CTL_A_PG_CTL_MODE (n : Nat) : Fld := ⟨CTL_A_PG_CTL n, 0, 1⟩
def CTL_A_ELEC_PP (n : Nat) : Fld := ⟨CTL_A_ELEC n, 0, 8⟩
def CTL_A_TBL_CTL_COG_EN (n : Nat) : Fld := ⟨CTL_A_TBL_CTL n, 0, 1⟩
def CTL_A_TBL_CTL_FRIC_EN (n : Nat) : Fld := ⟨CTL_A_TBL_CTL n, 1, 1⟩
def CTL_A_TBL_CTL_COG_BANK (n : Nat) : Fld := ⟨CTL_A_TBL_CTL n, 2, 1⟩
def CTL_A_TBL_CTL_FRIC_BANK (n : Nat) : Fld := ⟨CTL_A_TBL_CTL n, 3, 1⟩
def CTL_A_TBL_CTL_REP (n : Nat) : Fld := ⟨CTL_A_TBL_CTL n, 8, 8⟩
def CTL_A_OSC_CTL_EN (n : Nat) : Fld := ⟨CTL_A_OSC_CTL n, 0, 1⟩
def CTL_A_OSC_CTL_SRC (n : Nat) : Fld := ⟨CTL_A_OSC_CTL n, 1, 1⟩
def CTL_A_OSC_CTL_ACTION (n : Nat) : Fld := ⟨CTL_A_OSC_CTL n, 2, 2⟩
def CTL_A_OSC_CTL_WIN (n : Nat) : Fld := ⟨CTL_A_OSC_CTL n, 4, 12⟩
def CTL_A_OSC_CTL_N_CROSS (n : Nat) : Fld := ⟨CTL_A_OSC_CTL n, 16, 8⟩
def CTL_A_OSC_BAND_F_LO (n : Nat) : Fld := ⟨CTL_A_OSC_BAND n, 0, 16⟩
def CTL_A_OSC_BAND_F_HI (n : Nat) : Fld := ⟨CTL_A_OSC_BAND n, 16, 16⟩

-- fields of R302
def CTL_T_CFG_EN (t : Nat) : Fld := ⟨CTL_T_CFG t, 0, 1⟩
def CTL_T_CFG_ROLE (t : Nat) : Fld := ⟨CTL_T_CFG t, 1, 3⟩
def CTL_T_CFG_ORDER (t : Nat) : Fld := ⟨CTL_T_CFG t, 4, 1⟩
def CTL_T_CFG_TRIG (t : Nat) : Fld := ⟨CTL_T_CFG t, 5, 2⟩
def CTL_T_CFG_TB (t : Nat) : Fld := ⟨CTL_T_CFG t, 7, 2⟩
def CTL_T_CFG_AXIS (t : Nat) : Fld := ⟨CTL_T_CFG t, 9, 4⟩
def CTL_T_CFG_DIV (t : Nat) : Fld := ⟨CTL_T_CFG t, 16, 4⟩
def CTL_T_CFG_BANK (t : Nat) : Fld := ⟨CTL_T_CFG t, 20, 1⟩
def CTL_T_TIMER_TIMER (t : Nat) : Fld := ⟨CTL_T_TIMER t, 0, 24⟩
def CTL_T_EXP_EC0 (t : Nat) : Fld := ⟨CTL_T_EXP t, 0, 8⟩
def CTL_T_EXP_EC1 (t : Nat) : Fld := ⟨CTL_T_EXP t, 8, 8⟩
def CTL_T_EXP_ES_INIT (t : Nat) : Fld := ⟨CTL_T_EXP t, 16, 8⟩
def CTL_T_ELIM_EMIN (t : Nat) : Fld := ⟨CTL_T_ELIM t, 0, 8⟩
def CTL_T_ELIM_EMAX (t : Nat) : Fld := ⟨CTL_T_ELIM t, 8, 8⟩
def CTL_T_STAT_ES (t : Nat) : Fld := ⟨CTL_T_STAT t, 0, 8⟩
def CTL_T_STAT_BANK_USE (t : Nat) : Fld := ⟨CTL_T_STAT t, 8, 1⟩
def CTL_T_STAT_RUNNING (t : Nat) : Fld := ⟨CTL_T_STAT t, 9, 1⟩
def CTL_T_STAT_MISS_RUN (t : Nat) : Fld := ⟨CTL_T_STAT t, 10, 4⟩
def CTL_T_STAT_SAT (t : Nat) : Fld := ⟨CTL_T_STAT t, 14, 1⟩

-- fields of R303
def CTL_E_CFG_TYPE (e : Nat) : Fld := ⟨CTL_E_CFG e, 0, 2⟩
def CTL_E_CFG_FILT (e : Nat) : Fld := ⟨CTL_E_CFG e, 2, 4⟩
def CTL_E_CFG_GRAY (e : Nat) : Fld := ⟨CTL_E_CFG e, 6, 1⟩
def CTL_E_CFG_ERRBIT (e : Nat) : Fld := ⟨CTL_E_CFG e, 7, 1⟩
def CTL_E_CFG_IDXM (e : Nat) : Fld := ⟨CTL_E_CFG e, 8, 2⟩
def CTL_E_CFG_BITS (e : Nat) : Fld := ⟨CTL_E_CFG e, 10, 6⟩
def CTL_E_CFG_CLKDIV (e : Nat) : Fld := ⟨CTL_E_CFG e, 16, 8⟩
def CTL_E_CFG_JUMP_N (e : Nat) : Fld := ⟨CTL_E_CFG e, 24, 4⟩
def CTL_E_STAT_VALID (e : Nat) : Fld := ⟨CTL_E_STAT e, 0, 1⟩
def CTL_E_STAT_FAULT (e : Nat) : Fld := ⟨CTL_E_STAT e, 1, 1⟩
def CTL_E_STAT_INDEXED (e : Nat) : Fld := ⟨CTL_E_STAT e, 2, 1⟩
def CTL_E_STAT_BUSY (e : Nat) : Fld := ⟨CTL_E_STAT e, 3, 1⟩
def CTL_E_STAT_CAUSE (e : Nat) : Fld := ⟨CTL_E_STAT e, 4, 4⟩

-- fields of R304
def CTL_SD_CFG_EN (k : Nat) : Fld := ⟨CTL_SD_CFG k, 0, 1⟩
def CTL_SD_CFG_OSR (k : Nat) : Fld := ⟨CTL_SD_CFG k, 1, 3⟩
def CTL_SD_CFG_OC_N (k : Nat) : Fld := ⟨CTL_SD_CFG k, 4, 4⟩
def CTL_G_SDCLK_DIV (g : Nat) : Fld := ⟨CTL_G_SDCLK g, 0, 6⟩
def CTL_TBL_CMD_LOAD : Fld := ⟨CTL_TBL_CMD, 0, 1⟩
def CTL_TBL_CMD_KIND : Fld := ⟨CTL_TBL_CMD, 1, 1⟩
def CTL_TBL_CMD_BANK : Fld := ⟨CTL_TBL_CMD, 2, 1⟩
def CTL_TBL_CMD_AXIS : Fld := ⟨CTL_TBL_CMD, 4, 4⟩
def CTL_TBL_STAT_BUSY : Fld := ⟨CTL_TBL_STAT, 0, 1⟩
def CTL_TBL_STAT_CMD_STATUS : Fld := ⟨CTL_TBL_STAT, 8, 8⟩

-- fields of R348
def ENG_B_T_CMD_START (b t : Nat) : Fld := ⟨ENG_B_T_CMD b t, 0, 1⟩
def ENG_B_T_CMD_STOP (b t : Nat) : Fld := ⟨ENG_B_T_CMD b t, 1, 1⟩
def ENG_B_T_CMD_PREEMPT (b t : Nat) : Fld := ⟨ENG_B_T_CMD b t, 2, 1⟩
def ENG_B_T_CMD_RESTORE (b t : Nat) : Fld := ⟨ENG_B_T_CMD b t, 3, 1⟩
def ENG_B_T_CMD_HALT (b t : Nat) : Fld := ⟨ENG_B_T_CMD b t, 4, 1⟩
def ENG_B_T_CMD_RUN (b t : Nat) : Fld := ⟨ENG_B_T_CMD b t, 5, 1⟩
def ENG_B_T_CMD_STEP (b t : Nat) : Fld := ⟨ENG_B_T_CMD b t, 6, 1⟩
def ENG_B_T_STAT_STATE (b t : Nat) : Fld := ⟨ENG_B_T_STAT b t, 0, 3⟩
def ENG_B_T_STAT_MAIL_FULL (b t : Nat) : Fld := ⟨ENG_B_T_STAT b t, 3, 1⟩
def ENG_B_T_STAT_MOVES (b t : Nat) : Fld := ⟨ENG_B_T_STAT b t, 4, 4⟩
def ENG_B_T_STAT_CMD_STATUS (b t : Nat) : Fld := ⟨ENG_B_T_STAT b t, 8, 8⟩
def ENG_B_T_CFG_TPRI (b t : Nat) : Fld := ⟨ENG_B_T_CFG b t, 0, 2⟩
def ENG_B_T_CFG_PRIV (b t : Nat) : Fld := ⟨ENG_B_T_CFG b t, 2, 1⟩
def ENG_B_T_CFG_ASID (b t : Nat) : Fld := ⟨ENG_B_T_CFG b t, 16, 16⟩
def ENG_B_T_FAULT_TRAP (b t : Nat) : Fld := ⟨ENG_B_T_FAULT b t, 4, 12⟩
def ENG_B_T_DBG_SEL_REG (b t : Nat) : Fld := ⟨ENG_B_T_DBG_SEL b t, 0, 8⟩
def ENG_B_T_DBG_SEL_PART (b t : Nat) : Fld := ⟨ENG_B_T_DBG_SEL b t, 8, 2⟩
def ENG_B_T_DBG_SEL_CSR (b t : Nat) : Fld := ⟨ENG_B_T_DBG_SEL b t, 10, 1⟩

-- fields of R350
def ENG_B_CTL_DBG_EN (b : Nat) : Fld := ⟨ENG_B_CTL b, 0, 1⟩
def ENG_B_CTL_ICINV (b : Nat) : Fld := ⟨ENG_B_CTL b, 1, 1⟩
def ENG_B_BKPT_EN (b k : Nat) : Fld := ⟨ENG_B_BKPT b k, 0, 1⟩
def ENG_B_BKPT_PC (b k : Nat) : Fld := ⟨ENG_B_BKPT b k, 2, 46⟩

-- fields of R351
def ENG_FREQ_ENG : Fld := ⟨ENG_FREQ, 0, 12⟩

-- fields of R394
def MEM_CTL_SCRUB_EN : Fld := ⟨MEM_CTL, 0, 1⟩
def MEM_CTL_NB_EN : Fld := ⟨MEM_CTL, 1, 1⟩
def MEM_STAT_SR_STATE : Fld := ⟨MEM_STAT, 0, 2⟩
def MEM_STAT_SCRUB_BEHIND : Fld := ⟨MEM_STAT, 2, 1⟩
def MEM_STAT_ONLINE : Fld := ⟨MEM_STAT, 16, 16⟩
def MEM_SR_IDLE_ADP_AEN : Fld := ⟨MEM_SR_IDLE_ADP, 0, 1⟩
def MEM_SR_IDLE_ADP_HOLD : Fld := ⟨MEM_SR_IDLE_ADP, 1, 1⟩
def MEM_SR_IDLE_ADP_RELEASE : Fld := ⟨MEM_SR_IDLE_ADP, 2, 1⟩
def MEM_SR_IDLE_ADP_PINNED : Fld := ⟨MEM_SR_IDLE_ADP, 3, 1⟩
def MEM_SR_IDLE_ADP_AT_HI : Fld := ⟨MEM_SR_IDLE_ADP, 4, 1⟩
def MEM_SR_IDLE_ADP_OVR : Fld := ⟨MEM_SR_IDLE_ADP, 5, 1⟩
def MEM_SR_IDLE_ADP_PINNED_SEEN : Fld := ⟨MEM_SR_IDLE_ADP, 6, 1⟩
def MEM_SR_IDLE_ADP_BOUNDS_BAD : Fld := ⟨MEM_SR_IDLE_ADP, 7, 1⟩
def MEM_SR_IDLE_ADP_STEPS : Fld := ⟨MEM_SR_IDLE_ADP, 16, 16⟩

-- fields of R395
def MEM_SRC_QOS_BASE (k : Nat) : Fld := ⟨MEM_SRC_QOS k, 0, 2⟩
def MEM_SRC_QOS_AGE (k : Nat) : Fld := ⟨MEM_SRC_QOS k, 4, 8⟩
def MEM_SRC_QOS_LAT_TGT (k : Nat) : Fld := ⟨MEM_SRC_QOS k, 12, 20⟩

-- fields of R396
def MEM_C_CTL_ONLINE (c : Nat) : Fld := ⟨MEM_C_CTL c, 0, 1⟩
def MEM_C_STAT_ONLINE (c : Nat) : Fld := ⟨MEM_C_STAT c, 0, 1⟩
def MEM_C_STAT_TRN_BUSY (c : Nat) : Fld := ⟨MEM_C_STAT c, 1, 1⟩
def MEM_C_STAT_TRN_STATUS (c : Nat) : Fld := ⟨MEM_C_STAT c, 8, 8⟩
def MEM_C_STAT_CMD_STATUS (c : Nat) : Fld := ⟨MEM_C_STAT c, 16, 8⟩
def MEM_C_TRN_CMD_GO (c : Nat) : Fld := ⟨MEM_C_TRN_CMD c, 0, 1⟩
def MEM_C_TRN_CMD_OP (c : Nat) : Fld := ⟨MEM_C_TRN_CMD c, 1, 2⟩
def MEM_C_TRN_CMD_LIVE (c : Nat) : Fld := ⟨MEM_C_TRN_CMD c, 3, 1⟩
def MEM_C_TRN_CMD_CANCEL (c : Nat) : Fld := ⟨MEM_C_TRN_CMD c, 4, 1⟩
def MEM_C_TRN_CMD_CLR_ERR (c : Nat) : Fld := ⟨MEM_C_TRN_CMD c, 5, 1⟩
def MEM_C_TRN_PAT_KIND (c : Nat) : Fld := ⟨MEM_C_TRN_PAT c, 0, 3⟩
def MEM_C_TRN_PAT_INV_ALT (c : Nat) : Fld := ⟨MEM_C_TRN_PAT c, 3, 1⟩
def MEM_C_TRN_PAT_ROT (c : Nat) : Fld := ⟨MEM_C_TRN_PAT c, 4, 6⟩
def MEM_C_TRN_ADDR_COL (c : Nat) : Fld := ⟨MEM_C_TRN_ADDR c, 0, 4⟩
def MEM_C_TRN_ADDR_BANK (c : Nat) : Fld := ⟨MEM_C_TRN_ADDR c, 4, 4⟩
def MEM_C_TRN_ADDR_DIE (c : Nat) : Fld := ⟨MEM_C_TRN_ADDR c, 8, 1⟩
def MEM_C_TRN_ADDR_ROW (c : Nat) : Fld := ⟨MEM_C_TRN_ADDR c, 9, 14⟩
def MEM_C_ERR_COUNT (c k : Nat) : Fld := ⟨MEM_C_ERR c k, 0, 16⟩
def MEM_C_ERR_FIRST_BEAT (c k : Nat) : Fld := ⟨MEM_C_ERR c k, 16, 4⟩
def MEM_C_ERR_SEEN (c k : Nat) : Fld := ⟨MEM_C_ERR c k, 20, 1⟩

-- fields of R398
def MMU_CTL_SYS_ASID : Fld := ⟨MMU_CTL, 0, 16⟩
def MMU_CMD_OP : Fld := ⟨MMU_CMD, 0, 4⟩
def MMU_CMD_STAT_BUSY : Fld := ⟨MMU_CMD_STAT, 0, 1⟩
def MMU_CMD_STAT_STATUS : Fld := ⟨MMU_CMD_STAT, 8, 8⟩
def MMU_CMD_FLAGS_W : Fld := ⟨MMU_CMD_FLAGS, 0, 1⟩
def MMU_CMD_FLAGS_X : Fld := ⟨MMU_CMD_FLAGS, 1, 1⟩
def MMU_CMD_FLAGS_HOST : Fld := ⟨MMU_CMD_FLAGS, 2, 1⟩
def MMU_CMD_FLAGS_LARGE : Fld := ⟨MMU_CMD_FLAGS, 3, 1⟩
def MMU_CMD_FLAGS_HOST_OK : Fld := ⟨MMU_CMD_FLAGS, 4, 1⟩
def MMU_CMD_FLAGS_PRI : Fld := ⟨MMU_CMD_FLAGS, 5, 1⟩
def MMU_CMD_FLAGS_PASID_EN : Fld := ⟨MMU_CMD_FLAGS, 6, 1⟩
def MMU_CMD_FLAGS_FAIL : Fld := ⟨MMU_CMD_FLAGS, 7, 1⟩
def MMU_RESOLVE_SEQ : Fld := ⟨MMU_RESOLVE, 0, 32⟩
def MMU_RESOLVE_FAIL : Fld := ⟨MMU_RESOLVE, 32, 1⟩
def MMU_RESOLVE_STAT_OK : Fld := ⟨MMU_RESOLVE_STAT, 0, 8⟩

-- fields of R437
def QUE_Q_CTL_TYPE (q : Nat) : Fld := ⟨QUE_Q_CTL q, 0, 2⟩
def QUE_Q_CTL_PRODUCER (q : Nat) : Fld := ⟨QUE_Q_CTL q, 2, 1⟩
def QUE_Q_CTL_LOG2 (q : Nat) : Fld := ⟨QUE_Q_CTL q, 4, 4⟩
def QUE_Q_CTL_OWNER (q : Nat) : Fld := ⟨QUE_Q_CTL q, 8, 6⟩
def QUE_Q_CTL_SERVER (q : Nat) : Fld := ⟨QUE_Q_CTL q, 14, 2⟩
def QUE_Q_CTL_PILLOWS (q : Nat) : Fld := ⟨QUE_Q_CTL q, 16, 8⟩
def QUE_Q_CTL_MAX_URG (q : Nat) : Fld := ⟨QUE_Q_CTL q, 24, 2⟩
def QUE_Q_LINK_CQ (q : Nat) : Fld := ⟨QUE_Q_LINK q, 0, 12⟩
def QUE_Q_LINK_LOCAL (q : Nat) : Fld := ⟨QUE_Q_LINK q, 16, 8⟩
def QUE_Q_ASID_ASID (q : Nat) : Fld := ⟨QUE_Q_ASID q, 0, 16⟩
def QUE_Q_ASID_VECTOR (q : Nat) : Fld := ⟨QUE_Q_ASID q, 16, 11⟩
def QUE_Q_IRQ_EN (q : Nat) : Fld := ⟨QUE_Q_IRQ q, 0, 1⟩
def QUE_Q_IRQ_COUNT (q : Nat) : Fld := ⟨QUE_Q_IRQ q, 8, 8⟩
def QUE_Q_IRQ_TIME (q : Nat) : Fld := ⟨QUE_Q_IRQ q, 16, 16⟩
def QUE_Q_CMD_ENABLE (q : Nat) : Fld := ⟨QUE_Q_CMD q, 0, 1⟩
def QUE_Q_CMD_STOP (q : Nat) : Fld := ⟨QUE_Q_CMD q, 1, 1⟩
def QUE_Q_CMD_RESUME (q : Nat) : Fld := ⟨QUE_Q_CMD q, 2, 1⟩
def QUE_Q_CMD_DISABLE (q : Nat) : Fld := ⟨QUE_Q_CMD q, 3, 1⟩
def QUE_Q_STAT_STATE (q : Nat) : Fld := ⟨QUE_Q_STAT q, 0, 3⟩
def QUE_Q_STAT_ARMED (q : Nat) : Fld := ⟨QUE_Q_STAT q, 3, 1⟩
def QUE_Q_STAT_CMD_STATUS (q : Nat) : Fld := ⟨QUE_Q_STAT q, 8, 8⟩
def QUE_Q_HEAD_HEAD (q : Nat) : Fld := ⟨QUE_Q_HEAD q, 0, 16⟩
def QUE_Q_TAIL_TAIL (q : Nat) : Fld := ⟨QUE_Q_TAIL q, 0, 16⟩

-- fields of R439
def QUE_STAT_DMA : Fld := ⟨QUE_STAT, 16, 5⟩
def QUE_EVR_EQ (b : Nat) : Fld := ⟨QUE_EVR b, 0, 12⟩
def QUE_EVR_EN (b : Nat) : Fld := ⟨QUE_EVR b, 15, 1⟩
def QUE_EVR_MIN_SEV (b : Nat) : Fld := ⟨QUE_EVR b, 16, 3⟩
def QUE_VF_EQ_EQ (v : Nat) : Fld := ⟨QUE_VF_EQ v, 0, 12⟩
def QUE_VF_EQ_EN (v : Nat) : Fld := ⟨QUE_VF_EQ v, 15, 1⟩

-- fields of R440
def GLB_ID_STEPPING : Fld := ⟨GLB_ID, 16, 8⟩
def GLB_LINK_UP : Fld := ⟨GLB_LINK, 0, 1⟩
def GLB_LINK_WIDTH : Fld := ⟨GLB_LINK, 1, 5⟩
def GLB_LINK_SPEED : Fld := ⟨GLB_LINK, 6, 3⟩
def GLB_LINK_FLIT : Fld := ⟨GLB_LINK, 9, 1⟩
def GLB_LINK_L0P : Fld := ⟨GLB_LINK, 10, 1⟩
def GLB_LINK_L1 : Fld := ⟨GLB_LINK, 11, 1⟩
def GLB_LINK_SLOW : Fld := ⟨GLB_LINK, 12, 1⟩
def GLB_BAD_ADDR_OFFSET : Fld := ⟨GLB_BAD_ADDR, 0, 26⟩
def GLB_BAD_ADDR_WRITE : Fld := ⟨GLB_BAD_ADDR, 26, 1⟩
def GLB_BAD_ADDR_SIZE : Fld := ⟨GLB_BAD_ADDR, 28, 4⟩
def GLB_BAD_ADDR_FUNCTION : Fld := ⟨GLB_BAD_ADDR, 32, 6⟩

-- fields of R462
def CMP_CTL_UNIT_EN : Fld := ⟨CMP_CTL, 0, 12⟩
def CMP_U_STAT_BUSY (u : Nat) : Fld := ⟨CMP_U_STAT u, 0, 1⟩
def CMP_U_STAT_HELD (u : Nat) : Fld := ⟨CMP_U_STAT u, 1, 1⟩
def CMP_U_STAT_OP (u : Nat) : Fld := ⟨CMP_U_STAT u, 2, 2⟩
def CMP_U_STAT_SQ (u : Nat) : Fld := ⟨CMP_U_STAT u, 8, 12⟩

-- fields of R491
def LNK_L_CFG_TX_INV (n : Nat) : Fld := ⟨LNK_L_CFG n, 0, 1⟩
def LNK_L_CFG_RX_INV (n : Nat) : Fld := ⟨LNK_L_CFG n, 1, 1⟩
def LNK_L_CFG_LOOP (n : Nat) : Fld := ⟨LNK_L_CFG n, 2, 1⟩
def LNK_L_CMD_SLIP (n : Nat) : Fld := ⟨LNK_L_CMD n, 0, 1⟩
def LNK_L_CMD_INJ (n : Nat) : Fld := ⟨LNK_L_CMD n, 1, 1⟩
def LNK_L_CMD_CHK_CLR (n : Nat) : Fld := ⟨LNK_L_CMD n, 2, 1⟩
def LNK_L_CMD_SCAN_GO (n : Nat) : Fld := ⟨LNK_L_CMD n, 3, 1⟩
def LNK_L_CMD_SCAN_STOP (n : Nat) : Fld := ⟨LNK_L_CMD n, 4, 1⟩
def LNK_L_STAT_SIGNAL (n : Nat) : Fld := ⟨LNK_L_STAT n, 0, 1⟩
def LNK_L_STAT_BLOCK_LOCK (n : Nat) : Fld := ⟨LNK_L_STAT n, 1, 1⟩
def LNK_L_STAT_DESKEWED (n : Nat) : Fld := ⟨LNK_L_STAT n, 2, 1⟩
def LNK_L_STAT_RX_READY (n : Nat) : Fld := ⟨LNK_L_STAT n, 3, 1⟩
def LNK_L_STAT_P_RX_READY (n : Nat) : Fld := ⟨LNK_L_STAT n, 4, 1⟩
def LNK_L_STAT_TX_IDLE (n : Nat) : Fld := ⟨LNK_L_STAT n, 5, 1⟩
def LNK_L_STAT_CHK_SYNC (n : Nat) : Fld := ⟨LNK_L_STAT n, 6, 1⟩
def LNK_L_STAT_RX_PWR (n : Nat) : Fld := ⟨LNK_L_STAT n, 7, 1⟩
def LNK_L_STAT_SKEW (n : Nat) : Fld := ⟨LNK_L_STAT n, 8, 5⟩
def LNK_L_STAT_CMD_STATUS (n : Nat) : Fld := ⟨LNK_L_STAT n, 16, 8⟩
def LNK_L_TXEQ_PRE (n : Nat) : Fld := ⟨LNK_L_TXEQ n, 0, 4⟩
def LNK_L_TXEQ_MAIN (n : Nat) : Fld := ⟨LNK_L_TXEQ n, 4, 6⟩
def LNK_L_TXEQ_POST (n : Nat) : Fld := ⟨LNK_L_TXEQ n, 10, 5⟩
def LNK_L_TXEQ_FIX (n : Nat) : Fld := ⟨LNK_L_TXEQ n, 15, 1⟩
def LNK_L_GEN_PAT (n : Nat) : Fld := ⟨LNK_L_GEN n, 0, 3⟩
def LNK_L_GEN_CHK_EN (n : Nat) : Fld := ⟨LNK_L_GEN n, 3, 1⟩
def LNK_L_GEN_INJ_RATE (n : Nat) : Fld := ⟨LNK_L_GEN n, 4, 6⟩
def LNK_L_SCAN_H (n : Nat) : Fld := ⟨LNK_L_SCAN n, 0, 6⟩
def LNK_L_SCAN_V (n : Nat) : Fld := ⟨LNK_L_SCAN n, 8, 7⟩
def LNK_L_SCAN_LOG2 (n : Nat) : Fld := ⟨LNK_L_SCAN n, 16, 6⟩
def LNK_L_SCAN_BUSY (n : Nat) : Fld := ⟨LNK_L_SCAN n, 22, 1⟩
def LNK_L_SCAN_DISTURBED (n : Nat) : Fld := ⟨LNK_L_SCAN n, 23, 1⟩
def LNK_L_SCAN_STATUS (n : Nat) : Fld := ⟨LNK_L_SCAN n, 24, 8⟩
def LNK_L_EQ_ADP_AEN (n k : Nat) : Fld := ⟨LNK_L_EQ_ADP n k, 0, 1⟩
def LNK_L_EQ_ADP_HOLD (n k : Nat) : Fld := ⟨LNK_L_EQ_ADP n k, 1, 1⟩
def LNK_L_EQ_ADP_RELEASE (n k : Nat) : Fld := ⟨LNK_L_EQ_ADP n k, 2, 1⟩
def LNK_L_EQ_ADP_PINNED (n k : Nat) : Fld := ⟨LNK_L_EQ_ADP n k, 3, 1⟩
def LNK_L_EQ_ADP_AT_HI (n k : Nat) : Fld := ⟨LNK_L_EQ_ADP n k, 4, 1⟩
def LNK_L_EQ_ADP_OVR (n k : Nat) : Fld := ⟨LNK_L_EQ_ADP n k, 5, 1⟩
def LNK_L_EQ_ADP_PINNED_SEEN (n k : Nat) : Fld := ⟨LNK_L_EQ_ADP n k, 6, 1⟩
def LNK_L_EQ_ADP_BOUNDS_BAD (n k : Nat) : Fld := ⟨LNK_L_EQ_ADP n k, 7, 1⟩
def LNK_L_EQ_ADP_STEPS (n k : Nat) : Fld := ⟨LNK_L_EQ_ADP n k, 16, 16⟩

-- fields of R493
def LNK_K_CTL_EN (k : Nat) : Fld := ⟨LNK_K_CTL k, 0, 1⟩
def LNK_K_CTL_TEST (k : Nat) : Fld := ⟨LNK_K_CTL k, 1, 1⟩
def LNK_K_CTL_MANUAL_LOCK (k : Nat) : Fld := ⟨LNK_K_CTL k, 2, 1⟩
def LNK_K_CTL_RATE (k : Nat) : Fld := ⟨LNK_K_CTL k, 4, 3⟩
def LNK_K_CTL_RETRY_LIM (k : Nat) : Fld := ⟨LNK_K_CTL k, 8, 8⟩
def LNK_K_CMD_RETRY (k : Nat) : Fld := ⟨LNK_K_CMD k, 0, 1⟩
def LNK_K_STAT_STAGE (k : Nat) : Fld := ⟨LNK_K_STAT k, 0, 3⟩
def LNK_K_STAT_TX_IDLE (k : Nat) : Fld := ⟨LNK_K_STAT k, 3, 1⟩
def LNK_K_STAT_RX_IDLE (k : Nat) : Fld := ⟨LNK_K_STAT k, 4, 1⟩
def LNK_K_STAT_CAUSE (k : Nat) : Fld := ⟨LNK_K_STAT k, 5, 3⟩
def LNK_K_STAT_FAIL_STAGE (k : Nat) : Fld := ⟨LNK_K_STAT k, 8, 3⟩
def LNK_K_STAT_RATE_MIS (k : Nat) : Fld := ⟨LNK_K_STAT k, 11, 1⟩
def LNK_K_STAT_CMD_STATUS (k : Nat) : Fld := ⟨LNK_K_STAT k, 16, 8⟩
def LNK_K_STAT_RETRY (k : Nat) : Fld := ⟨LNK_K_STAT k, 24, 8⟩
def LNK_K_PICOT_PICOT_LEN (k : Nat) : Fld := ⟨LNK_K_PICOT k, 0, 12⟩

-- fields of R540
def CAS_CTL_MASTER : Fld := ⟨CAS_CTL, 0, 1⟩
def CAS_CTL_UP_FIX : Fld := ⟨CAS_CTL, 1, 1⟩
def CAS_CTL_UP_PORT : Fld := ⟨CAS_CTL, 2, 2⟩
def CAS_CTL_TB_SEND : Fld := ⟨CAS_CTL, 4, 4⟩
def CAS_CTL_PRES_MS : Fld := ⟨CAS_CTL, 16, 16⟩
def CAS_CMD_REROOT : Fld := ⟨CAS_CMD, 0, 1⟩
def CAS_STAT_ATTACHED : Fld := ⟨CAS_STAT, 0, 1⟩
def CAS_STAT_UP : Fld := ⟨CAS_STAT, 1, 2⟩
def CAS_STAT_UP_LOST : Fld := ⟨CAS_STAT, 3, 1⟩
def CAS_STAT_STEPPED : Fld := ⟨CAS_STAT, 4, 1⟩
def CAS_STAT_HOLDOVER : Fld := ⟨CAS_STAT, 5, 1⟩
def CAS_STAT_BLOCKED : Fld := ⟨CAS_STAT, 8, 4⟩
def CAS_STAT_CMD_STATUS : Fld := ⟨CAS_STAT, 16, 8⟩
def CAS_TIME_SLEW_PPM : Fld := ⟨CAS_TIME, 0, 6⟩
def CAS_TIME_KP : Fld := ⟨CAS_TIME, 8, 8⟩
def CAS_TIME_KI : Fld := ⟨CAS_TIME, 16, 8⟩
def CAS_P_CTL_MODE (p : Nat) : Fld := ⟨CAS_P_CTL p, 0, 2⟩
def CAS_P_STAT_ROLE (p : Nat) : Fld := ⟨CAS_P_STAT p, 0, 2⟩
def CAS_P_STAT_CAPS_OK (p : Nat) : Fld := ⟨CAS_P_STAT p, 2, 1⟩
def CAS_P_STAT_XW8 (p : Nat) : Fld := ⟨CAS_P_STAT p, 3, 1⟩
def CAS_P_STAT_MISMATCH (p : Nat) : Fld := ⟨CAS_P_STAT p, 4, 1⟩
def CAS_SUB_CTL_STREAM (s : Nat) : Fld := ⟨CAS_SUB_CTL s, 0, 16⟩
def CAS_SUB_CTL_EN (s : Nat) : Fld := ⟨CAS_SUB_CTL s, 16, 1⟩
def CAS_SUB_CTL_FOLLOW (s : Nat) : Fld := ⟨CAS_SUB_CTL s, 17, 1⟩
def CAS_SUB_CTL_AXIS (s : Nat) : Fld := ⟨CAS_SUB_CTL s, 18, 4⟩

-- fields of R541
def CAS_TW_CTL_EN : Fld := ⟨CAS_TW_CTL, 0, 1⟩
def CAS_TW_CTL_TWIN_ID : Fld := ⟨CAS_TW_CTL, 1, 1⟩
def CAS_TW_CTL_TB : Fld := ⟨CAS_TW_CTL, 2, 2⟩
def CAS_TW_CTL_TB_CHK : Fld := ⟨CAS_TW_CTL, 4, 4⟩
def CAS_TW_CTL_PIPES : Fld := ⟨CAS_TW_CTL, 8, 4⟩
def CAS_TW_CTL_FAIL_FACET : Fld := ⟨CAS_TW_CTL, 12, 1⟩
def CAS_TW_CTL_ALONE_EN : Fld := ⟨CAS_TW_CTL, 13, 1⟩
def CAS_TW_CTL_ALONE_MS : Fld := ⟨CAS_TW_CTL, 16, 16⟩
def CAS_TW_CMD_YIELD : Fld := ⟨CAS_TW_CMD, 0, 1⟩
def CAS_TW_CMD_FORCE : Fld := ⟨CAS_TW_CMD, 1, 1⟩
def CAS_TW_CMD_RESYNC : Fld := ⟨CAS_TW_CMD, 2, 1⟩
def CAS_TW_STAT_STATE : Fld := ⟨CAS_TW_STAT, 0, 3⟩
def CAS_TW_STAT_HOLD_O : Fld := ⟨CAS_TW_STAT, 3, 1⟩
def CAS_TW_STAT_HOLD_I : Fld := ⟨CAS_TW_STAT, 4, 1⟩
def CAS_TW_STAT_DEM_I : Fld := ⟨CAS_TW_STAT, 5, 1⟩
def CAS_TW_STAT_BEHIND : Fld := ⟨CAS_TW_STAT, 6, 1⟩
def CAS_TW_STAT_STALE : Fld := ⟨CAS_TW_STAT, 7, 1⟩
def CAS_TW_STAT_PHASE_OFF : Fld := ⟨CAS_TW_STAT, 8, 1⟩
def CAS_TW_STAT_SWAP_OFF : Fld := ⟨CAS_TW_STAT, 9, 1⟩
def CAS_TW_STAT_PENDING : Fld := ⟨CAS_TW_STAT, 10, 1⟩
def CAS_TW_STAT_PARTNER : Fld := ⟨CAS_TW_STAT, 11, 1⟩
def CAS_TW_STAT_QMAP_BAD : Fld := ⟨CAS_TW_STAT, 12, 1⟩
def CAS_TW_STAT_CMD_STATUS : Fld := ⟨CAS_TW_STAT, 16, 8⟩
def CAS_TW_Q_OWN (i : Nat) : Fld := ⟨CAS_TW_Q i, 0, 12⟩
def CAS_TW_Q_EN (i : Nat) : Fld := ⟨CAS_TW_Q i, 15, 1⟩
def CAS_TW_Q_PARTNER (i : Nat) : Fld := ⟨CAS_TW_Q i, 16, 12⟩

-- fields of R576
def HKP_CTL_THR_START : Fld := ⟨HKP_CTL, 0, 8⟩
def HKP_CTL_T_TRIP : Fld := ⟨HKP_CTL, 8, 8⟩
def HKP_CTL_MODE : Fld := ⟨HKP_CTL, 16, 1⟩
def HKP_CTL_FORCE : Fld := ⟨HKP_CTL, 17, 2⟩
def HKP_STAT_LEVEL : Fld := ⟨HKP_STAT, 0, 2⟩
def HKP_STAT_WINDOW : Fld := ⟨HKP_STAT, 2, 1⟩
def HKP_STAT_RATE_HOLD : Fld := ⟨HKP_STAT, 3, 1⟩
def HKP_STAT_OVER_RANGE : Fld := ⟨HKP_STAT, 4, 1⟩
def HKP_STAT_LATCHED : Fld := ⟨HKP_STAT, 5, 1⟩
def HKP_STAT_CAUSE : Fld := ⟨HKP_STAT, 8, 3⟩
def HKP_STAT_CMD_STATUS : Fld := ⟨HKP_STAT, 16, 8⟩
def HKP_SKIP_N_N_1 : Fld := ⟨HKP_SKIP_N, 0, 8⟩
def HKP_SKIP_N_N_2 : Fld := ⟨HKP_SKIP_N, 8, 8⟩
def HKP_SKIP_N_N_3 : Fld := ⟨HKP_SKIP_N, 16, 8⟩
def HKP_RATE_RATE_WARN : Fld := ⟨HKP_RATE, 0, 8⟩
def HKP_RATE_RATE_TRIP : Fld := ⟨HKP_RATE, 8, 8⟩
def HKP_T_GOV_T_GOV : Fld := ⟨HKP_T_GOV, 0, 16⟩
def HKP_Z_SUBST (z : Nat) : Fld := ⟨HKP_Z z, 16, 1⟩
def HKP_LIM_LO (k : Nat) : Fld := ⟨HKP_LIM k, 0, 16⟩
def HKP_LIM_HI (k : Nat) : Fld := ⟨HKP_LIM k, 16, 16⟩
def HKP_TH_NOM (t : Nat) : Fld := ⟨HKP_TH t, 0, 16⟩
def HKP_TH_BETA (t : Nat) : Fld := ⟨HKP_TH t, 16, 16⟩
def HKP_FAN_CTL_MIN (f : Nat) : Fld := ⟨HKP_FAN_CTL f, 8, 8⟩
def HKP_FAN_CTL_T_LO (f : Nat) : Fld := ⟨HKP_FAN_CTL f, 16, 8⟩
def HKP_FAN_CTL_T_HI (f : Nat) : Fld := ⟨HKP_FAN_CTL f, 24, 8⟩
def HKP_FAN_STAT_FAIL (f : Nat) : Fld := ⟨HKP_FAN_STAT f, 16, 1⟩
def HKP_COOL_COOL1 : Fld := ⟨HKP_COOL, 0, 2⟩

-- fields of R578
def CAL_T_CTL_EN (t : Nat) : Fld := ⟨CAL_T_CTL t, 0, 1⟩
def CAL_T_CTL_MAX_STEP (t : Nat) : Fld := ⟨CAL_T_CTL t, 8, 8⟩
def CAL_T_TOL_RES_TOL (t : Nat) : Fld := ⟨CAL_T_TOL t, 0, 16⟩
def CAL_T_CMD_RUN (t : Nat) : Fld := ⟨CAL_T_CMD t, 0, 1⟩
def CAL_T_CMD_RELEASE (t : Nat) : Fld := ⟨CAL_T_CMD t, 1, 1⟩
def CAL_T_STAT_RUNNING (t : Nat) : Fld := ⟨CAL_T_STAT t, 20, 1⟩
def CAL_SEL_TARGET : Fld := ⟨CAL_SEL, 0, 4⟩
def CAL_SEL_INSTANCE : Fld := ⟨CAL_SEL, 8, 6⟩
def CAL_INST_VALUE_STALE : Fld := ⟨CAL_INST_VALUE, 16, 1⟩
def CAL_INST_VALUE_MANUAL : Fld := ⟨CAL_INST_VALUE, 17, 1⟩

-- fields of R579
def NVM_CMD_OP : Fld := ⟨NVM_CMD, 0, 4⟩
def NVM_CMD_OBJECT : Fld := ⟨NVM_CMD, 8, 4⟩
def NVM_STAT_BUSY : Fld := ⟨NVM_STAT, 0, 1⟩
def NVM_STAT_CUT : Fld := ⟨NVM_STAT, 1, 1⟩
def NVM_STAT_FALLBACK : Fld := ⟨NVM_STAT, 2, 1⟩
def NVM_STAT_WINDOW : Fld := ⟨NVM_STAT, 3, 1⟩
def NVM_STAT_STATUS : Fld := ⟨NVM_STAT, 8, 8⟩
def NVM_FUSE_KEY1_EN : Fld := ⟨NVM_FUSE, 0, 1⟩

-- fields of R614
def DBG_CTL_JTAG_LOCK : Fld := ⟨DBG_CTL, 0, 1⟩
def DBG_RST_CAUSE_CAUSE : Fld := ⟨DBG_RST_CAUSE, 0, 4⟩
def DBG_BOOT_STAT_STATE : Fld := ⟨DBG_BOOT_STAT, 0, 3⟩
def DBG_BOOT_STAT_SLOT : Fld := ⟨DBG_BOOT_STAT, 3, 1⟩
def DBG_BOOT_STAT_FALLBACK : Fld := ⟨DBG_BOOT_STAT, 4, 1⟩
def DBG_BOOT_STAT_RECOVERED : Fld := ⟨DBG_BOOT_STAT, 5, 1⟩
def DBG_BOOT_STAT_REASON_A : Fld := ⟨DBG_BOOT_STAT, 8, 4⟩
def DBG_BOOT_STAT_REASON_B : Fld := ⟨DBG_BOOT_STAT, 12, 4⟩
def DBG_REFCLK_PRESENT : Fld := ⟨DBG_REFCLK, 0, 1⟩
def DBG_TM_A_ATM0 : Fld := ⟨DBG_TM_A, 0, 8⟩
def DBG_TM_A_ATM1 : Fld := ⟨DBG_TM_A, 8, 8⟩
def DBG_TM_IDX_STRING : Fld := ⟨DBG_TM_IDX, 0, 5⟩
def DBG_TM_IDX_AXIS : Fld := ⟨DBG_TM_IDX, 8, 4⟩
def DBG_RCV_CMD_GO : Fld := ⟨DBG_RCV_CMD, 0, 1⟩
def DBG_RCV_STAT_BUSY : Fld := ⟨DBG_RCV_STAT, 12, 1⟩

-- fields of R414
def QUE_DB_INDEX (q : Nat) : Fld := ⟨QUE_DB q, 0, 16⟩
def QUE_DB_ARM (q : Nat) : Fld := ⟨QUE_DB q, 31, 1⟩
def QUE_ABORT_ENTRY (q : Nat) : Fld := ⟨QUE_ABORT q, 0, 16⟩
def QUE_ABORT_TAG (q : Nat) : Fld := ⟨QUE_ABORT q, 16, 16⟩
def QUE_ABORT_STAT_STATUS (q : Nat) : Fld := ⟨QUE_ABORT_STAT q, 0, 8⟩
def QUE_ABORT_STAT_ENTRY (q : Nat) : Fld := ⟨QUE_ABORT_STAT q, 8, 16⟩
def QUE_ABORT_STAT_PEND (q : Nat) : Fld := ⟨QUE_ABORT_STAT q, 24, 1⟩

def phsRows0 : List RegRow := [
  ⟨0x0100000, 4, 0x1000, 1, 0x1000, false, 0x4#64, [⟨0, 1, .rw⟩, ⟨1, 1, .rw⟩, ⟨2, 1, .rw⟩]⟩ /- PHS_TB_CTL -/,
  ⟨0x0100004, 4, 0x1000, 1, 0x1000, false, 0x1000#64, [⟨0, 3, .rw⟩, ⟨3, 1, .rw⟩, ⟨4, 5, .rw⟩, ⟨9, 2, .rw⟩, ⟨11, 1, .rw⟩, ⟨12, 4, .rw⟩]⟩ /- PHS_TB_SRC -/,
  ⟨0x0100008, 4, 0x1000, 1, 0x1000, false, 0x0#64, [⟨0, 24, .rw⟩]⟩ /- PHS_TB_SUBDIV -/,
  ⟨0x0100010, 4, 0x1000, 1, 0x1000, true, 0x0#64, [⟨0, 48, .rw⟩]⟩ /- PHS_TB_INC_BASE -/,
  ⟨0x0100018, 4, 0x1000, 1, 0x1000, true, 0x0#64, [⟨0, 48, .ro⟩]⟩ /- PHS_TB_INC_EFF -/,
  ⟨0x0100020, 4, 0x1000, 1, 0x1000, false, 0x0#64, [⟨0, 32, .rw⟩]⟩ /- PHS_TB_OFFSET -/,
  ⟨0x0100024, 4, 0x1000, 1, 0x1000, false, 0x0#64, [⟨0, 16, .rw⟩]⟩ /- PHS_TB_DELAY -/,
  ⟨0x0100028, 4, 0x1000, 1, 0x1000, false, 0x3E8#64, [⟨0, 20, .rw⟩]⟩ /- PHS_TB_WIN -/,
  ⟨0x010002C, 4, 0x1000, 1, 0x1000, false, 0x2080014#64, [⟨0, 16, .rw⟩, ⟨16, 8, .rw⟩, ⟨24, 4, .rw⟩]⟩ /- PHS_TB_LOCK -/,
  ⟨0x0100030, 4, 0x1000, 1, 0x1000, false, 0x100008#64, [⟨0, 16, .rw⟩, ⟨16, 16, .rw⟩]⟩ /- PHS_TB_LOOP -/,
  ⟨0x0100034, 4, 0x1000, 1, 0x1000, false, 0x3E80032#64, [⟨0, 6, .rw⟩, ⟨16, 16, .rw⟩]⟩ /- PHS_TB_SLEW -/,
  ⟨0x0100038, 4, 0x1000, 1, 0x1000, false, 0x0#64, [⟨0, 1, .wo⟩, ⟨1, 1, .wo⟩]⟩ /- PHS_TB_CMD -/,
  ⟨0x010003C, 4, 0x1000, 1, 0x1000, false, 0x0#64, [⟨0, 3, .ro⟩, ⟨3, 1, .ro⟩, ⟨4, 1, .ro⟩, ⟨5, 1, .ro⟩, ⟨6, 1, .ro⟩, ⟨7, 1, .w1c⟩, ⟨8, 1, .ro⟩, ⟨16, 8, .ro⟩]⟩ /- PHS_TB_STAT -/,
  ⟨0x0100040, 4, 0x1000, 1, 0x1000, true, 0x0#64, [⟨0, 64, .ro⟩]⟩ /- PHS_TB_PHASE -/,
  ⟨0x0100048, 4, 0x1000, 1, 0x1000, false, 0x0#64, [⟨0, 32, .ro⟩]⟩ /- PHS_TB_ERR -/,
  ⟨0x010004C, 4, 0x1000, 1, 0x1000, false, 0x0#64, [⟨0, 32, .ro⟩]⟩ /- PHS_TB_CORR -/,
  ⟨0x0100050, 4, 0x1000, 1, 0x1000, true, 0x0#64, [⟨0, 64, .rw⟩]⟩ /- PHS_TB_BANKA_BASE -/,
  ⟨0x0100058, 4, 0x1000, 1, 0x1000, false, 0x0#64, [⟨0, 17, .rw⟩]⟩ /- PHS_TB_BANKA_COUNT -/,
  ⟨0x0100060, 4, 0x1000, 1, 0x1000, true, 0x0#64, [⟨0, 64, .rw⟩]⟩ /- PHS_TB_BANKB_BASE -/,
  ⟨0x0100068, 4, 0x1000, 1, 0x1000, false, 0x0#64, [⟨0, 17, .rw⟩]⟩ /- PHS_TB_BANKB_COUNT -/,
  ⟨0x0100070, 4, 0x1000, 1, 0x1000, false, 0x0#64, [⟨0, 1, .wo⟩, ⟨1, 1, .wo⟩, ⟨2, 1, .wo⟩]⟩ /- PHS_TB_ARM -/,
  ⟨0x0100074, 4, 0x1000, 1, 0x1000, false, 0x0#64, [⟨0, 8, .ro⟩, ⟨8, 4, .ro⟩, ⟨16, 16, .ro⟩]⟩ /- PHS_TB_ARM_STAT -/,
  ⟨0x0100078, 4, 0x1000, 1, 0x1000, false, 0x0#64, [⟨0, 32, .rw⟩]⟩ /- PHS_TB_SWAP_CYCLE -/,
  ⟨0x010007C, 4, 0x1000, 1, 0x1000, false, 0xFFFFFFFF#64, [⟨0, 32, .ro⟩]⟩ /- PHS_TB_TOL -/,
  ⟨0x0100080, 4, 0x1000, 1, 0x1000, true, 0x0#64, [⟨0, 64, .rw⟩]⟩ /- PHS_TB_STAMP_BASE -/,
  ⟨0x0100088, 4, 0x1000, 1, 0x1000, false, 0x0#64, [⟨0, 32, .rw⟩]⟩ /- PHS_TB_STAMP_SIZE -/,
  ⟨0x010008C, 4, 0x1000, 1, 0x1000, false, 0x0#64, [⟨0, 32, .ro⟩]⟩ /- PHS_TB_STAMP_HEAD -/,
  ⟨0x0100090, 4, 0x1000, 1, 0x1000, false, 0x0#64, [⟨0, 32, .rw⟩]⟩ /- PHS_TB_STAMP_TAIL -/,
  ⟨0x01000A0, 4, 0x1000, 1, 0x1000, false, 0x0#64, [⟨0, 32, .clr⟩]⟩ /- PHS_TB_LATE_CNT -/,
  ⟨0x01000A4, 4, 0x1000, 1, 0x1000, false, 0x0#64, [⟨0, 32, .clr⟩]⟩ /- PHS_TB_CONFLICT_CNT -/]

def phsRows1 : List RegRow := [
  ⟨0x01000A8, 4, 0x1000, 1, 0x1000, false, 0x0#64, [⟨0, 32, .clr⟩]⟩ /- PHS_TB_BIND_MISS_CNT -/,
  ⟨0x01000AC, 4, 0x1000, 1, 0x1000, false, 0x0#64, [⟨0, 32, .clr⟩]⟩ /- PHS_TB_BLIND_SUP_CNT -/,
  ⟨0x01000B0, 4, 0x1000, 1, 0x1000, false, 0x0#64, [⟨0, 32, .clr⟩]⟩ /- PHS_TB_HOLD_CNT -/,
  ⟨0x01000B4, 4, 0x1000, 1, 0x1000, false, 0x0#64, [⟨0, 32, .clr⟩]⟩ /- PHS_TB_REJECT_CNT -/,
  ⟨0x01000B8, 4, 0x1000, 1, 0x1000, false, 0x0#64, [⟨0, 32, .clr⟩]⟩ /- PHS_TB_STAMP_LOST_CNT -/,
  ⟨0x01000C0, 4, 0x1000, 1, 0x1000, false, 0x100#64, [⟨0, 7, .ro⟩, ⟨8, 1, .ro⟩]⟩ /- PHS_TB_BLIND_CNT -/,
  ⟨0x0100100, 4, 0x1000, 64, 0x8, true, 0x0#64, [⟨0, 32, .ro⟩, ⟨32, 32, .ro⟩]⟩ /- PHS_TB_BLIND -/,
  ⟨0x0104000, 4, 0x100, 1, 0x100, false, 0x10#64, [⟨0, 1, .rw⟩, ⟨1, 2, .rw⟩, ⟨4, 4, .rw⟩, ⟨8, 1, .rw⟩, ⟨9, 2, .rw⟩, ⟨11, 1, .ro⟩]⟩ /- PHS_CW_CTL -/,
  ⟨0x0104004, 4, 0x100, 1, 0x100, false, 0x0#64, [⟨0, 32, .rw⟩]⟩ /- PHS_CW_START -/,
  ⟨0x0104008, 4, 0x100, 1, 0x100, false, 0x0#64, [⟨0, 32, .rw⟩]⟩ /- PHS_CW_LEN -/,
  ⟨0x010400C, 4, 0x100, 1, 0x100, false, 0x0#64, [⟨0, 20, .rw⟩]⟩ /- PHS_CW_GUARD -/,
  ⟨0x0104010, 4, 0x100, 1, 0x100, true, 0x0#64, [⟨0, 32, .ro⟩, ⟨32, 32, .ro⟩]⟩ /- PHS_CW_MEAS -/,
  ⟨0x0104018, 4, 0x100, 1, 0x100, false, 0x0#64, [⟨0, 32, .clr⟩]⟩ /- PHS_CW_MISMATCH_CNT -/,
  ⟨0x0108000, 1, 0x8, 1, 0x8, false, 0x0#64, [⟨0, 4, .rw⟩, ⟨4, 4, .rw⟩, ⟨8, 4, .rw⟩, ⟨12, 4, .rw⟩, ⟨16, 2, .rw⟩]⟩ /- PHS_IN_CTL -/,
  ⟨0x0108010, 1, 0x8, 1, 0x8, true, 0x0#64, [⟨0, 64, .ro⟩]⟩ /- PHS_SHOW_TIME -/]

def phsRows : List RegRow := phsRows0 ++ phsRows1

def seqRows0 : List RegRow := [
  ⟨0x0200000, 4, 0x1000, 1, 0x1000, false, 0x14#64, [⟨0, 1, .rw⟩, ⟨1, 1, .rw⟩, ⟨2, 2, .rw⟩, ⟨4, 3, .rw⟩, ⟨8, 2, .rw⟩]⟩ /- SEQ_P_CTL -/,
  ⟨0x0200004, 4, 0x1000, 1, 0x1000, false, 0x9010#64, [⟨0, 8, .rw⟩, ⟨8, 8, .rw⟩]⟩ /- SEQ_P_GEOM -/,
  ⟨0x0200008, 4, 0x1000, 1, 0x1000, false, 0x0#64, [⟨0, 16, .ro⟩]⟩ /- SEQ_P_SETTLE -/,
  ⟨0x020000C, 4, 0x1000, 1, 0x1000, false, 0x0#64, [⟨0, 16, .ro⟩]⟩ /- SEQ_P_MIN_DWELL -/,
  ⟨0x0200010, 4, 0x1000, 1, 0x1000, false, 0x0#64, [⟨0, 16, .ro⟩]⟩ /- SEQ_P_BLK_TIME -/,
  ⟨0x0200014, 4, 0x1000, 1, 0x1000, false, 0x0#64, [⟨0, 16, .ro⟩]⟩ /- SEQ_P_RST_LAT -/,
  ⟨0x0200018, 4, 0x1000, 1, 0x1000, false, 0x1F4#64, [⟨0, 16, .rw⟩]⟩ /- SEQ_P_LOAD_MARGIN -/,
  ⟨0x020001C, 4, 0x1000, 1, 0x1000, false, 0x0#64, [⟨0, 16, .rw⟩]⟩ /- SEQ_P_EDGE_COMP -/,
  ⟨0x0200020, 4, 0x1000, 4, 0x8, true, 0x0#64, [⟨16, 48, .rw⟩]⟩ /- SEQ_P_SET_BASE -/,
  ⟨0x0200040, 4, 0x1000, 1, 0x1000, false, 0x0#64, [⟨0, 4, .w1s⟩]⟩ /- SEQ_P_SET_READY -/,
  ⟨0x0200044, 4, 0x1000, 1, 0x1000, false, 0x0#64, [⟨0, 2, .ro⟩, ⟨2, 1, .ro⟩]⟩ /- SEQ_P_SET_STAT -/,
  ⟨0x0200048, 4, 0x1000, 1, 0x1000, false, 0x0#64, [⟨0, 32, .ro⟩]⟩ /- SEQ_P_FRAME_NS -/,
  ⟨0x0200050, 4, 0x1000, 1, 0x1000, false, 0xFFFFFFFF#64, [⟨0, 32, .ro⟩]⟩ /- SEQ_P_TOL -/,
  ⟨0x0200054, 4, 0x1000, 1, 0x1000, false, 0xFFFFFFFF#64, [⟨0, 32, .rw⟩]⟩ /- SEQ_P_TOL_CAP -/,
  ⟨0x0200058, 4, 0x1000, 1, 0x1000, false, 0x9C40#64, [⟨0, 32, .rw⟩]⟩ /- SEQ_P_FETCH_NS -/,
  ⟨0x0200060, 4, 0x1000, 1, 0x1000, true, 0x0#64, [⟨0, 64, .ro⟩]⟩ /- SEQ_P_LAST_WORD -/,
  ⟨0x0200068, 4, 0x1000, 1, 0x1000, false, 0x0#64, [⟨0, 32, .clr⟩]⟩ /- SEQ_P_UNDERRUN_CNT -/,
  ⟨0x020006C, 4, 0x1000, 1, 0x1000, false, 0x0#64, [⟨0, 32, .clr⟩]⟩ /- SEQ_P_UNDERRUN_WORDS -/,
  ⟨0x0200070, 4, 0x1000, 1, 0x1000, false, 0x0#64, [⟨0, 32, .clr⟩]⟩ /- SEQ_P_DWELL_VIOL_CNT -/,
  ⟨0x0200074, 4, 0x1000, 1, 0x1000, false, 0x0#64, [⟨0, 32, .clr⟩]⟩ /- SEQ_P_RESET_CUT_CNT -/,
  ⟨0x0200078, 4, 0x1000, 1, 0x1000, false, 0x0#64, [⟨0, 32, .clr⟩]⟩ /- SEQ_P_LOAD_DROP_CNT -/,
  ⟨0x020007C, 4, 0x1000, 1, 0x1000, false, 0x0#64, [⟨0, 32, .clr⟩]⟩ /- SEQ_P_SET_REPEAT_CNT -/,
  ⟨0x0200080, 4, 0x1000, 1, 0x1000, false, 0x0#64, [⟨0, 2, .rw⟩, ⟨2, 4, .rw⟩, ⟨6, 1, .rw⟩, ⟨7, 1, .rw⟩]⟩ /- SEQ_P_BEAM_CTL -/,
  ⟨0x0200084, 4, 0x1000, 1, 0x1000, false, 0x9001000#64, [⟨0, 13, .rw⟩, ⟨16, 13, .rw⟩]⟩ /- SEQ_P_BEAM_GEOM -/,
  ⟨0x0200088, 4, 0x1000, 1, 0x1000, false, 0x0#64, [⟨0, 13, .ro⟩, ⟨16, 1, .ro⟩, ⟨17, 1, .ro⟩]⟩ /- SEQ_P_BEAM_LINE -/,
  ⟨0x020008C, 4, 0x1000, 1, 0x1000, false, 0x8000#64, [⟨0, 32, .rw⟩]⟩ /- SEQ_P_BEAM_STRIDE -/,
  ⟨0x0208000, 4, 0x1000, 1, 0x1000, false, 0x40400#64, [⟨0, 1, .rw⟩, ⟨1, 2, .rw⟩, ⟨3, 1, .rw⟩, ⟨10, 8, .rw⟩, ⟨18, 6, .rw⟩]⟩ /- SEQ_F_CTL -/,
  ⟨0x0208004, 4, 0x1000, 1, 0x1000, false, 0x0#64, [⟨0, 1, .wo⟩, ⟨1, 1, .wo⟩, ⟨2, 1, .wo⟩, ⟨3, 1, .wo⟩]⟩ /- SEQ_F_CMD -/,
  ⟨0x0208008, 4, 0x1000, 1, 0x1000, false, 0x0#64, [⟨0, 1, .ro⟩, ⟨1, 2, .ro⟩, ⟨3, 1, .ro⟩, ⟨4, 1, .ro⟩, ⟨5, 1, .ro⟩, ⟨6, 3, .ro⟩, ⟨9, 3, .ro⟩, ⟨12, 3, .ro⟩, ⟨16, 8, .ro⟩]⟩ /- SEQ_F_STAT -/,
  ⟨0x020800C, 4, 0x1000, 1, 0x1000, false, 0x0#64, [⟨0, 16, .ro⟩, ⟨16, 16, .ro⟩]⟩ /- SEQ_F_RATE -/]

def seqRows1 : List RegRow := [
  ⟨0x0208010, 4, 0x1000, 1, 0x1000, false, 0x0#64, [⟨0, 16, .ro⟩]⟩ /- SEQ_F_FLIGHT -/,
  ⟨0x0208014, 4, 0x1000, 1, 0x1000, false, 0x2710#64, [⟨0, 20, .rw⟩]⟩ /- SEQ_F_IDLE_LEAD -/,
  ⟨0x0208020, 4, 0x1000, 1, 0x1000, false, 0x0#64, [⟨0, 32, .clr⟩]⟩ /- SEQ_F_LINK_DROP_CNT -/,
  ⟨0x0208024, 4, 0x1000, 1, 0x1000, false, 0x0#64, [⟨0, 32, .clr⟩]⟩ /- SEQ_F_PARK_DROP_CNT -/,
  ⟨0x0208028, 4, 0x1000, 1, 0x1000, false, 0x0#64, [⟨0, 32, .clr⟩]⟩ /- SEQ_F_TRIP_DROP_CNT -/,
  ⟨0x020802C, 4, 0x1000, 1, 0x1000, false, 0x0#64, [⟨0, 32, .clr⟩]⟩ /- SEQ_F_CLONE_IGN_CNT -/,
  ⟨0x0208030, 4, 0x1000, 1, 0x1000, false, 0x0#64, [⟨0, 32, .clr⟩]⟩ /- SEQ_F_BAD_WORD_CNT -/,
  ⟨0x0208100, 4, 0x1000, 3, 0x40, false, 0x0#64, [⟨0, 16, .ro⟩, ⟨16, 16, .ro⟩]⟩ /- SEQ_F_A_GEOM -/,
  ⟨0x0208104, 4, 0x1000, 3, 0x40, false, 0x0#64, [⟨0, 16, .ro⟩, ⟨16, 16, .ro⟩]⟩ /- SEQ_F_A_TIME -/,
  ⟨0x0208108, 4, 0x1000, 3, 0x40, false, 0x0#64, [⟨0, 16, .ro⟩, ⟨16, 16, .ro⟩]⟩ /- SEQ_F_A_LAT -/,
  ⟨0x020810C, 4, 0x1000, 3, 0x40, false, 0x0#64, [⟨0, 16, .ro⟩, ⟨16, 16, .ro⟩]⟩ /- SEQ_F_A_PARKT -/,
  ⟨0x0208110, 4, 0x1000, 3, 0x40, false, 0x0#64, [⟨0, 16, .rw⟩, ⟨16, 16, .rw⟩]⟩ /- SEQ_F_A_TLIM -/,
  ⟨0x0208114, 4, 0x1000, 3, 0x40, false, 0x0#64, [⟨0, 16, .ro⟩, ⟨16, 16, .ro⟩]⟩ /- SEQ_F_A_BSTATE -/,
  ⟨0x0208118, 4, 0x1000, 3, 0x40, false, 0x0#64, [⟨0, 16, .ro⟩, ⟨16, 16, .ro⟩]⟩ /- SEQ_F_A_TEMP01 -/,
  ⟨0x020811C, 4, 0x1000, 3, 0x40, false, 0x0#64, [⟨0, 16, .ro⟩, ⟨16, 16, .ro⟩]⟩ /- SEQ_F_A_TEMP23 -/,
  ⟨0x0208120, 4, 0x1000, 3, 0x40, false, 0x0#64, [⟨0, 32, .clr⟩]⟩ /- SEQ_F_A_CRC_ERR_CNT -/,
  ⟨0x0208124, 4, 0x1000, 3, 0x40, false, 0x0#64, [⟨0, 32, .clr⟩]⟩ /- SEQ_F_A_NAK_CNT -/,
  ⟨0x0208128, 4, 0x1000, 3, 0x40, false, 0x0#64, [⟨0, 32, .clr⟩]⟩ /- SEQ_F_A_ACK_MISS_CNT -/,
  ⟨0x020812C, 4, 0x1000, 3, 0x40, false, 0x0#64, [⟨0, 32, .clr⟩]⟩ /- SEQ_F_A_RESET_NAK_CNT -/,
  ⟨0x0208130, 4, 0x1000, 3, 0x40, false, 0x0#64, [⟨0, 16, .ro⟩, ⟨16, 16, .ro⟩]⟩ /- SEQ_F_A_LSEQ -/,
  ⟨0x0204000, 4, 0x1000, 1024, 0x4, false, 0xFFFFFFFF#64, [⟨0, 32, .rw⟩]⟩ /- SEQ_P_LIN -/]

def seqRows : List RegRow := seqRows0 ++ seqRows1

def pixRows0 : List RegRow := [
  ⟨0x0300000, 4, 0x4000, 1, 0x4000, false, 0x0#64, [⟨0, 1, .sh⟩, ⟨1, 1, .sh⟩, ⟨2, 1, .sh⟩]⟩ /- PIX_P_CTL -/,
  ⟨0x0300004, 4, 0x4000, 1, 0x4000, false, 0x0#64, [⟨0, 1, .w1s⟩, ⟨1, 1, .wo⟩]⟩ /- PIX_P_COMMIT -/,
  ⟨0x0300008, 4, 0x4000, 1, 0x4000, false, 0x0#64, [⟨0, 8, .ro⟩, ⟨8, 3, .ro⟩, ⟨11, 1, .ro⟩, ⟨12, 4, .ro⟩, ⟨16, 8, .ro⟩]⟩ /- PIX_P_COMMIT_STATUS -/,
  ⟨0x030000C, 4, 0x4000, 1, 0x4000, false, 0x0#64, [⟨0, 1, .ro⟩, ⟨1, 1, .ro⟩, ⟨2, 1, .ro⟩]⟩ /- PIX_P_FLIP_FLAGS -/,
  ⟨0x0300010, 4, 0x4000, 1, 0x4000, true, 0x0#64, [⟨0, 64, .ro⟩]⟩ /- PIX_P_FRAME_CNT -/,
  ⟨0x0300018, 4, 0x4000, 1, 0x4000, true, 0x0#64, [⟨0, 64, .ro⟩]⟩ /- PIX_P_FLIP_TIME -/,
  ⟨0x0300020, 4, 0x4000, 1, 0x4000, true, 0x0#64, [⟨0, 64, .ro⟩]⟩ /- PIX_P_COMMIT_FRAME -/,
  ⟨0x0300028, 4, 0x4000, 1, 0x4000, true, 0x0#64, [⟨0, 64, .ro⟩]⟩ /- PIX_P_COMMIT_TIME -/,
  ⟨0x0300030, 4, 0x4000, 1, 0x4000, false, 0x9001000#64, [⟨0, 13, .sh⟩, ⟨16, 13, .sh⟩]⟩ /- PIX_P_SIZE -/,
  ⟨0x0300034, 4, 0x4000, 1, 0x4000, false, 0xFAC688#64, [⟨0, 32, .sh⟩]⟩ /- PIX_P_ORDER -/,
  ⟨0x0300038, 4, 0x4000, 1, 0x4000, false, 0x0#64, [⟨0, 16, .sh⟩, ⟨16, 16, .sh⟩]⟩ /- PIX_P_BG_RG -/,
  ⟨0x030003C, 4, 0x4000, 1, 0x4000, false, 0x0#64, [⟨0, 16, .sh⟩]⟩ /- PIX_P_BG_B -/,
  ⟨0x0300040, 4, 0x4000, 1, 0x4000, false, 0x3E8#64, [⟨0, 16, .sh⟩]⟩ /- PIX_P_PEAK -/,
  ⟨0x0300044, 4, 0x4000, 1, 0x4000, false, 0x7#64, [⟨0, 4, .sh⟩, ⟨4, 1, .sh⟩]⟩ /- PIX_P_SLICE -/,
  ⟨0x0300048, 4, 0x4000, 1, 0x4000, false, 0x0#64, [⟨0, 1, .sh⟩, ⟨1, 1, .sh⟩, ⟨2, 1, .sh⟩]⟩ /- PIX_P_WARP -/,
  ⟨0x030004C, 4, 0x4000, 1, 0x4000, false, 0x0#64, [⟨0, 1, .sh⟩, ⟨1, 1, .sh⟩, ⟨2, 1, .sh⟩, ⟨3, 3, .sh⟩]⟩ /- PIX_P_COLOUR -/,
  ⟨0x0300050, 4, 0x4000, 8, 0x4, false, 0x0#64, [⟨0, 1, .sh⟩, ⟨1, 2, .sh⟩, ⟨3, 2, .sh⟩, ⟨5, 2, .sh⟩, ⟨7, 2, .sh⟩]⟩ /- PIX_P_ROUTE -/,
  ⟨0x0300070, 4, 0x4000, 3, 0x4, false, 0x0#64, [⟨0, 16, .sh⟩, ⟨16, 16, .sh⟩]⟩ /- PIX_P_CONV -/,
  ⟨0x030007C, 4, 0x4000, 1, 0x4000, false, 0x0#64, [⟨0, 1, .sh⟩, ⟨1, 1, .sh⟩]⟩ /- PIX_P_BLEND_CTL -/,
  ⟨0x0300080, 4, 0x4000, 1, 0x4000, false, 0x0#64, [⟨0, 11, .sh⟩, ⟨16, 11, .sh⟩]⟩ /- PIX_P_BLEND_LR -/,
  ⟨0x0300084, 4, 0x4000, 1, 0x4000, false, 0x0#64, [⟨0, 11, .sh⟩, ⟨16, 11, .sh⟩]⟩ /- PIX_P_BLEND_TB -/,
  ⟨0x0300088, 4, 0x4000, 1, 0x4000, false, 0x8000#64, [⟨0, 18, .sh⟩]⟩ /- PIX_P_MAT -/,
  ⟨0x030008C, 4, 0x4000, 1, 0x4000, false, 0#64, [⟨0, 18, .sh⟩]⟩ /- PIX_P_MAT -/,
  ⟨0x0300090, 4, 0x4000, 1, 0x4000, false, 0#64, [⟨0, 18, .sh⟩]⟩ /- PIX_P_MAT -/,
  ⟨0x0300094, 4, 0x4000, 1, 0x4000, false, 0#64, [⟨0, 18, .sh⟩]⟩ /- PIX_P_MAT -/,
  ⟨0x0300098, 4, 0x4000, 1, 0x4000, false, 0x8000#64, [⟨0, 18, .sh⟩]⟩ /- PIX_P_MAT -/,
  ⟨0x030009C, 4, 0x4000, 1, 0x4000, false, 0#64, [⟨0, 18, .sh⟩]⟩ /- PIX_P_MAT -/,
  ⟨0x03000A0, 4, 0x4000, 1, 0x4000, false, 0#64, [⟨0, 18, .sh⟩]⟩ /- PIX_P_MAT -/,
  ⟨0x03000A4, 4, 0x4000, 1, 0x4000, false, 0#64, [⟨0, 18, .sh⟩]⟩ /- PIX_P_MAT -/,
  ⟨0x03000A8, 4, 0x4000, 1, 0x4000, false, 0x8000#64, [⟨0, 18, .sh⟩]⟩ /- PIX_P_MAT -/]

def pixRows1 : List RegRow := [
  ⟨0x03000B0, 4, 0x4000, 1, 0x4000, true, 0x0#64, [⟨0, 64, .rw⟩]⟩ /- PIX_P_TBL_ADDR -/,
  ⟨0x03000B8, 4, 0x4000, 1, 0x4000, false, 0x0#64, [⟨0, 1, .wo⟩, ⟨1, 1, .wo⟩, ⟨2, 1, .wo⟩]⟩ /- PIX_P_TBL_CMD -/,
  ⟨0x03000BC, 4, 0x4000, 1, 0x4000, false, 0x0#64, [⟨0, 1, .ro⟩, ⟨1, 1, .ro⟩, ⟨2, 4, .ro⟩, ⟨8, 8, .ro⟩]⟩ /- PIX_P_TBL_STAT -/,
  ⟨0x03000C0, 4, 0x4000, 1, 0x4000, false, 0x0#64, [⟨0, 32, .clr⟩]⟩ /- PIX_P_RENDER_OVR_CNT -/,
  ⟨0x03000C4, 4, 0x4000, 1, 0x4000, false, 0x0#64, [⟨0, 32, .clr⟩]⟩ /- PIX_P_DEFER_CNT -/,
  ⟨0x03000C8, 4, 0x4000, 1, 0x4000, false, 0x0#64, [⟨0, 32, .clr⟩]⟩ /- PIX_P_REJECT_CNT -/,
  ⟨0x03000CC, 4, 0x4000, 1, 0x4000, false, 0x0#64, [⟨0, 32, .clr⟩]⟩ /- PIX_P_GROUP_HOLD_CNT -/,
  ⟨0x03000D0, 4, 0x4000, 1, 0x4000, false, 0x0#64, [⟨0, 32, .clr⟩]⟩ /- PIX_P_WARP_CLAMP_CNT -/,
  ⟨0x03000D4, 4, 0x4000, 1, 0x4000, false, 0x0#64, [⟨0, 32, .clr⟩]⟩ /- PIX_P_SET_BUSY_CNT -/,
  ⟨0x0301000, 4, 0x4000, 8, 0x100, false, 0x0#64, [⟨0, 1, .sh⟩, ⟨1, 2, .sh⟩, ⟨3, 1, .sh⟩, ⟨4, 2, .sh⟩, ⟨6, 1, .sh⟩, ⟨7, 2, .sh⟩, ⟨9, 2, .sh⟩, ⟨11, 2, .sh⟩]⟩ /- PIX_P_L_CTL -/,
  ⟨0x0301004, 4, 0x4000, 8, 0x100, false, 0x0#64, [⟨0, 2, .sh⟩, ⟨2, 3, .sh⟩, ⟨5, 2, .sh⟩, ⟨7, 1, .sh⟩, ⟨8, 3, .sh⟩, ⟨11, 2, .sh⟩, ⟨13, 1, .sh⟩, ⟨14, 2, .sh⟩]⟩ /- PIX_P_L_FMT -/,
  ⟨0x0301008, 4, 0x4000, 8, 0x100, true, 0x0#64, [⟨0, 64, .sh⟩]⟩ /- PIX_P_L_ADDR0 -/,
  ⟨0x0301010, 4, 0x4000, 8, 0x100, true, 0x0#64, [⟨0, 64, .sh⟩]⟩ /- PIX_P_L_ADDR1 -/,
  ⟨0x0301018, 4, 0x4000, 8, 0x100, true, 0x0#64, [⟨0, 64, .sh⟩]⟩ /- PIX_P_L_ADDR2 -/,
  ⟨0x0301020, 4, 0x4000, 8, 0x100, false, 0x0#64, [⟨0, 20, .sh⟩]⟩ /- PIX_P_L_PITCH0 -/,
  ⟨0x0301024, 4, 0x4000, 8, 0x100, false, 0x0#64, [⟨0, 20, .sh⟩]⟩ /- PIX_P_L_PITCH12 -/,
  ⟨0x0301028, 4, 0x4000, 8, 0x100, false, 0x0#64, [⟨0, 14, .sh⟩, ⟨16, 14, .sh⟩]⟩ /- PIX_P_L_SRC -/,
  ⟨0x030102C, 4, 0x4000, 8, 0x100, false, 0x0#64, [⟨0, 14, .sh⟩, ⟨16, 14, .sh⟩]⟩ /- PIX_P_L_CROP_XY -/,
  ⟨0x0301030, 4, 0x4000, 8, 0x100, false, 0x0#64, [⟨0, 14, .sh⟩, ⟨16, 14, .sh⟩]⟩ /- PIX_P_L_CROP_WH -/,
  ⟨0x0301034, 4, 0x4000, 8, 0x100, false, 0x0#64, [⟨0, 16, .sh⟩, ⟨16, 16, .sh⟩]⟩ /- PIX_P_L_DST_XY -/,
  ⟨0x0301038, 4, 0x4000, 8, 0x100, false, 0x0#64, [⟨0, 14, .sh⟩, ⟨16, 14, .sh⟩]⟩ /- PIX_P_L_DST_WH -/,
  ⟨0x030103C, 4, 0x4000, 8, 0x100, false, 0xFFFF#64, [⟨0, 16, .sh⟩]⟩ /- PIX_P_L_ALPHA -/,
  ⟨0x0301040, 4, 0x4000, 8, 0x100, true, 0x0#64, [⟨0, 64, .sh⟩]⟩ /- PIX_P_L_FENCE_ADDR -/,
  ⟨0x0301048, 4, 0x4000, 8, 0x100, true, 0x0#64, [⟨0, 64, .sh⟩]⟩ /- PIX_P_L_FENCE_VAL -/,
  ⟨0x0301050, 4, 0x4000, 8, 0x100, false, 0x0#64, [⟨0, 1, .ro⟩, ⟨1, 1, .ro⟩, ⟨2, 1, .ro⟩, ⟨3, 1, .ro⟩, ⟨4, 1, .ro⟩, ⟨5, 4, .ro⟩]⟩ /- PIX_P_L_STAT -/,
  ⟨0x0301054, 4, 0x4000, 8, 0x100, false, 0x0#64, [⟨0, 32, .clr⟩]⟩ /- PIX_P_L_LATE_CNT -/,
  ⟨0x0301058, 4, 0x4000, 8, 0x100, false, 0x0#64, [⟨0, 32, .clr⟩]⟩ /- PIX_P_L_FAULT_CNT -/,
  ⟨0x0310000, 1, 0x8, 1, 0x8, true, 0x0#64, [⟨0, 64, .ro⟩]⟩ /- PIX_SCALER_MAP0 -/,
  ⟨0x0310008, 1, 0x8, 1, 0x8, true, 0x0#64, [⟨0, 64, .ro⟩]⟩ /- PIX_SCALER_MAP1 -/,
  ⟨0x0310010, 1, 0x8, 1, 0x8, false, 0x10#64, [⟨0, 5, .ro⟩]⟩ /- PIX_SCALER_FREE -/]

def pixRows : List RegRow := pixRows0 ++ pixRows1

def ldrRows0 : List RegRow := [
  ⟨0x0400000, 24, 0x200, 1, 0x200, false, 0x0#64, [⟨0, 2, .rw⟩, ⟨2, 1, .rw⟩, ⟨3, 2, .rw⟩, ⟨5, 2, .rw⟩, ⟨7, 3, .rw⟩, ⟨10, 1, .rw⟩]⟩ /- LDR_S_CTL -/,
  ⟨0x0400004, 24, 0x200, 1, 0x200, false, 0x10#64, [⟨0, 4, .ro⟩, ⟨4, 1, .ro⟩, ⟨5, 1, .ro⟩, ⟨6, 5, .ro⟩, ⟨11, 1, .ro⟩, ⟨12, 1, .ro⟩, ⟨13, 1, .ro⟩, ⟨16, 8, .ro⟩]⟩ /- LDR_S_STAT -/,
  ⟨0x0400008, 24, 0x200, 1, 0x200, false, 0x0#64, [⟨0, 20, .rw⟩]⟩ /- LDR_S_RSNS -/,
  ⟨0x040000C, 24, 0x200, 1, 0x200, false, 0x0#64, [⟨0, 20, .rw⟩]⟩ /- LDR_S_ITH -/,
  ⟨0x0400010, 24, 0x200, 1, 0x200, false, 0x0#64, [⟨0, 20, .rw⟩]⟩ /- LDR_S_IMAX -/,
  ⟨0x0400014, 24, 0x200, 1, 0x200, false, 0x0#64, [⟨0, 20, .rw⟩]⟩ /- LDR_S_ILIM -/,
  ⟨0x0400018, 24, 0x200, 1, 0x200, false, 0x8000#64, [⟨0, 16, .rw⟩]⟩ /- LDR_S_SCALE -/,
  ⟨0x040001C, 24, 0x200, 1, 0x200, false, 0x0#64, [⟨0, 16, .rw⟩]⟩ /- LDR_S_SCALE_LO -/,
  ⟨0x0400020, 24, 0x200, 1, 0x200, false, 0xFFFF#64, [⟨0, 16, .rw⟩]⟩ /- LDR_S_SCALE_HI -/,
  ⟨0x0400024, 24, 0x200, 1, 0x200, false, 0x0#64, [⟨0, 1, .rw⟩, ⟨1, 1, .ro⟩, ⟨2, 1, .wo⟩, ⟨3, 1, .ro⟩, ⟨4, 1, .ro⟩, ⟨5, 1, .ro⟩, ⟨6, 1, .w1c⟩, ⟨7, 1, .ro⟩, ⟨16, 16, .ro⟩]⟩ /- LDR_S_SCALE_ADP -/,
  ⟨0x0400028, 24, 0x200, 1, 0x200, false, 0x282800C8#64, [⟨0, 9, .rw⟩, ⟨16, 8, .rw⟩, ⟨24, 8, .rw⟩]⟩ /- LDR_S_SW -/,
  ⟨0x040002C, 24, 0x200, 1, 0x200, false, 0x1010#64, [⟨0, 8, .rw⟩, ⟨8, 8, .rw⟩]⟩ /- LDR_S_TMIN -/,
  ⟨0x0400030, 24, 0x200, 1, 0x200, false, 0x7D0#64, [⟨0, 16, .rw⟩]⟩ /- LDR_S_HYST -/,
  ⟨0x0400034, 24, 0x200, 1, 0x200, false, 0x14#64, [⟨0, 16, .rw⟩]⟩ /- LDR_S_HYST_LO -/,
  ⟨0x0400038, 24, 0x200, 1, 0x200, false, 0xFFFF#64, [⟨0, 16, .rw⟩]⟩ /- LDR_S_HYST_HI -/,
  ⟨0x040003C, 24, 0x200, 1, 0x200, false, 0x1#64, [⟨0, 1, .rw⟩, ⟨1, 1, .ro⟩, ⟨2, 1, .wo⟩, ⟨3, 1, .ro⟩, ⟨4, 1, .ro⟩, ⟨5, 1, .ro⟩, ⟨6, 1, .w1c⟩, ⟨7, 1, .ro⟩, ⟨16, 16, .ro⟩]⟩ /- LDR_S_HYST_ADP -/,
  ⟨0x0400040, 24, 0x200, 1, 0x200, false, 0x7D00004#64, [⟨0, 4, .rw⟩, ⟨16, 16, .rw⟩]⟩ /- LDR_S_PROT -/,
  ⟨0x0400044, 24, 0x200, 1, 0x200, false, 0x1A#64, [⟨0, 4, .rw⟩, ⟨4, 4, .rw⟩, ⟨8, 4, .rw⟩, ⟨16, 13, .rw⟩]⟩ /- LDR_S_FREE -/,
  ⟨0x0400048, 24, 0x200, 1, 0x200, false, 0x100#64, [⟨0, 3, .ro⟩, ⟨3, 1, .ro⟩, ⟨4, 1, .rw⟩, ⟨8, 4, .rw⟩, ⟨16, 16, .ro⟩]⟩ /- LDR_S_DIAG -/,
  ⟨0x040004C, 24, 0x200, 1, 0x200, false, 0x0#64, [⟨0, 16, .rw⟩, ⟨16, 16, .rw⟩]⟩ /- LDR_S_VTH -/,
  ⟨0x0400050, 24, 0x200, 1, 0x200, false, 0x0#64, [⟨0, 20, .ro⟩]⟩ /- LDR_S_IMEAS -/,
  ⟨0x0400054, 24, 0x200, 1, 0x200, false, 0x0#64, [⟨0, 32, .clr⟩]⟩ /- LDR_S_STEP_MAX -/,
  ⟨0x0400058, 24, 0x200, 1, 0x200, false, 0x7D0#64, [⟨0, 16, .rw⟩]⟩ /- LDR_S_PROBE_WAIT -/,
  ⟨0x040005C, 24, 0x200, 1, 0x200, false, 0x0#64, [⟨0, 8, .rw⟩]⟩ /- LDR_S_SHD -/,
  ⟨0x0400060, 24, 0x200, 1, 0x200, false, 0x0#64, [⟨0, 32, .clr⟩]⟩ /- LDR_S_STEP_LATE_CNT -/,
  ⟨0x0400064, 24, 0x200, 1, 0x200, false, 0x0#64, [⟨0, 32, .clr⟩]⟩ /- LDR_S_CLAMP_CNT -/,
  ⟨0x0400068, 24, 0x200, 1, 0x200, false, 0x0#64, [⟨0, 32, .clr⟩]⟩ /- LDR_S_MODE_IGN_CNT -/,
  ⟨0x040006C, 24, 0x200, 1, 0x200, false, 0x0#64, [⟨0, 32, .clr⟩]⟩ /- LDR_S_SAFE_IGN_CNT -/,
  ⟨0x0400070, 24, 0x200, 1, 0x200, false, 0x0#64, [⟨0, 32, .clr⟩]⟩ /- LDR_S_PROBE_MISS_CNT -/,
  ⟨0x0400100, 24, 0x200, 16, 0x4, false, 0x0#64, [⟨0, 20, .rw⟩]⟩ /- LDR_S_LVL -/]

def ldrRows1 : List RegRow := [
  ⟨0x0404000, 8, 0x100, 1, 0x100, false, 0x0#64, [⟨0, 1, .rw⟩, ⟨1, 2, .rw⟩]⟩ /- LDR_G_CTL -/,
  ⟨0x0404004, 8, 0x100, 1, 0x100, false, 0x0#64, [⟨0, 32, .rw⟩]⟩ /- LDR_G_YREF -/,
  ⟨0x0404008, 8, 0x100, 1, 0x100, false, 0x10000#64, [⟨0, 17, .rw⟩]⟩ /- LDR_G_V -/,
  ⟨0x040400C, 8, 0x100, 1, 0x100, false, 0x4000#64, [⟨0, 16, .rw⟩]⟩ /- LDR_G_KL -/,
  ⟨0x0404010, 8, 0x100, 1, 0x100, false, 0x100#64, [⟨0, 16, .rw⟩]⟩ /- LDR_G_STEP_MAX -/,
  ⟨0x0404014, 8, 0x100, 1, 0x100, false, 0x0#64, [⟨0, 32, .rw⟩]⟩ /- LDR_G_YMIN -/,
  ⟨0x0404018, 8, 0x100, 1, 0x100, false, 0x0#64, [⟨0, 17, .rw⟩]⟩ /- LDR_G_FADE_V1 -/,
  ⟨0x040401C, 8, 0x100, 1, 0x100, false, 0x0#64, [⟨0, 32, .rw⟩]⟩ /- LDR_G_FADE_MS -/,
  ⟨0x0404020, 8, 0x100, 1, 0x100, false, 0x0#64, [⟨0, 1, .wo⟩, ⟨1, 1, .wo⟩, ⟨2, 1, .wo⟩]⟩ /- LDR_G_FADE_CMD -/,
  ⟨0x0404024, 8, 0x100, 1, 0x100, false, 0x0#64, [⟨0, 8, .ro⟩, ⟨8, 1, .ro⟩]⟩ /- LDR_G_FADE_STAT -/,
  ⟨0x0404028, 8, 0x100, 1, 0x100, false, 0x0#64, [⟨0, 32, .ro⟩]⟩ /- LDR_G_X -/,
  ⟨0x040402C, 8, 0x100, 1, 0x100, false, 0x0#64, [⟨0, 32, .ro⟩]⟩ /- LDR_G_Y -/,
  ⟨0x0404030, 8, 0x100, 1, 0x100, false, 0x0#64, [⟨0, 32, .ro⟩]⟩ /- LDR_G_Z -/,
  ⟨0x0404034, 8, 0x100, 1, 0x100, false, 0x0#64, [⟨0, 32, .ro⟩]⟩ /- LDR_G_RATIO_M -/,
  ⟨0x0404038, 8, 0x100, 1, 0x100, false, 0x0#64, [⟨0, 32, .ro⟩]⟩ /- LDR_G_RATIO_L -/,
  ⟨0x040403C, 8, 0x100, 1, 0x100, false, 0x0#64, [⟨0, 32, .ro⟩]⟩ /- LDR_G_RATIO_M_DEV -/,
  ⟨0x0404040, 8, 0x100, 1, 0x100, false, 0x0#64, [⟨0, 32, .ro⟩]⟩ /- LDR_G_RATIO_L_DEV -/,
  ⟨0x0404044, 8, 0x100, 1, 0x100, false, 0x0#64, [⟨0, 32, .rw⟩]⟩ /- LDR_G_RATIO_REF_M -/,
  ⟨0x0404048, 8, 0x100, 1, 0x100, false, 0x0#64, [⟨0, 32, .rw⟩]⟩ /- LDR_G_RATIO_REF_L -/,
  ⟨0x040404C, 8, 0x100, 1, 0x100, false, 0x830148#64, [⟨0, 16, .rw⟩, ⟨16, 16, .rw⟩]⟩ /- LDR_G_TOL -/,
  ⟨0x0404050, 8, 0x100, 1, 0x100, false, 0x0#64, [⟨0, 16, .rw⟩, ⟨16, 16, .rw⟩]⟩ /- LDR_G_XY_REF -/,
  ⟨0x0404054, 8, 0x100, 1, 0x100, false, 0x0#64, [⟨0, 32, .clr⟩]⟩ /- LDR_G_SKIP_CNT -/,
  ⟨0x0404058, 8, 0x100, 1, 0x100, false, 0x0#64, [⟨0, 32, .clr⟩]⟩ /- LDR_G_NO_LIGHT_CNT -/,
  ⟨0x040405C, 8, 0x100, 1, 0x100, false, 0x0#64, [⟨0, 32, .clr⟩]⟩ /- LDR_G_OVR_SKIP_CNT -/,
  ⟨0x0405000, 8, 0x40, 6, 0x4, false, 0x3F800000#64, [⟨0, 32, .rw⟩]⟩ /- LDR_PD_TRIM -/,
  ⟨0x0405018, 8, 0x40, 6, 0x4, false, 0x0#64, [⟨0, 32, .rw⟩]⟩ /- LDR_PD_DARK -/,
  ⟨0x0405030, 8, 0x40, 1, 0x40, false, 0x0#64, [⟨0, 32, .ro⟩]⟩ /- LDR_PD_LAST_DARK -/,
  ⟨0x0405034, 8, 0x40, 1, 0x40, false, 0x0#64, [⟨0, 32, .clr⟩]⟩ /- LDR_PD_BAD_WIN_CNT -/,
  ⟨0x0405038, 8, 0x40, 1, 0x40, false, 0x0#64, [⟨0, 32, .clr⟩]⟩ /- LDR_PD_OVL_CNT -/,
  ⟨0x040503C, 8, 0x40, 1, 0x40, false, 0x0#64, [⟨0, 32, .clr⟩]⟩ /- LDR_PD_DARK_REJ_CNT -/]

def ldrRows2 : List RegRow := [
  ⟨0x0406000, 3, 0x20, 8, 0x4, false, 0x0#64, [⟨0, 32, .rw⟩]⟩ /- LDR_CL_M -/,
  ⟨0x0406060, 1, 0x8, 1, 0x8, true, 0x0#64, [⟨0, 64, .rw⟩]⟩ /- LDR_PD_RING_BASE -/,
  ⟨0x0406068, 1, 0x8, 1, 0x8, false, 0x0#64, [⟨0, 32, .rw⟩]⟩ /- LDR_PD_RING_SIZE -/,
  ⟨0x040606C, 1, 0x8, 1, 0x8, false, 0x0#64, [⟨0, 32, .ro⟩]⟩ /- LDR_PD_RING_HEAD -/,
  ⟨0x0406070, 1, 0x8, 1, 0x8, false, 0x0#64, [⟨0, 32, .rw⟩]⟩ /- LDR_PD_RING_TAIL -/,
  ⟨0x0406074, 1, 0x8, 1, 0x8, false, 0x0#64, [⟨0, 32, .clr⟩]⟩ /- LDR_PD_LOST_CNT -/,
  ⟨0x0406080, 4, 0x10, 1, 0x10, false, 0x1F#64, [⟨0, 5, .rw⟩]⟩ /- LDR_BANK_TSRC -/,
  ⟨0x0406084, 4, 0x10, 1, 0x10, false, 0x786E5A#64, [⟨0, 8, .rw⟩, ⟨8, 8, .rw⟩, ⟨16, 8, .rw⟩]⟩ /- LDR_BANK_TLIM -/,
  ⟨0x0406088, 4, 0x10, 1, 0x10, false, 0x4000#64, [⟨0, 17, .rw⟩]⟩ /- LDR_BANK_DMIN -/,
  ⟨0x040608C, 4, 0x10, 1, 0x10, false, 0x10000#64, [⟨0, 17, .ro⟩]⟩ /- LDR_BANK_D -/,
  ⟨0x04060C0, 1, 0x8, 1, 0x8, false, 0x0#64, [⟨0, 4, .ro⟩, ⟨4, 4, .ro⟩]⟩ /- LDR_INTLK_STAT -/,
  ⟨0x04060C4, 1, 0x8, 1, 0x8, false, 0x0#64, [⟨0, 24, .wo⟩, ⟨24, 5, .wo⟩]⟩ /- LDR_SAFE_CLR -/,
  ⟨0x04060C8, 1, 0x8, 1, 0x8, false, 0x0#64, [⟨0, 8, .ro⟩]⟩ /- LDR_SAFE_STAT -/,
  ⟨0x04060CC, 1, 0x8, 1, 0x8, false, 0x0#64, [⟨0, 24, .w1s⟩]⟩ /- LDR_PROBE_REQ -/,
  ⟨0x04060D0, 1, 0x8, 1, 0x8, false, 0x0#64, [⟨0, 32, .rw⟩]⟩ /- LDR_PD_TB -/]

def ldrRows : List RegRow := ldrRows0 ++ ldrRows1 ++ ldrRows2

def ctlRows0 : List RegRow := [
  ⟨0x0500000, 16, 0x400, 1, 0x400, false, 0xC000#64, [⟨0, 2, .rw⟩, ⟨2, 4, .rw⟩, ⟨6, 4, .rw⟩, ⟨10, 2, .rw⟩, ⟨12, 2, .rw⟩, ⟨14, 4, .rw⟩, ⟨18, 1, .rw⟩, ⟨19, 1, .rw⟩]⟩ /- CTL_A_CFG -/,
  ⟨0x0500004, 16, 0x400, 1, 0x400, false, 0x0#64, [⟨0, 1, .wo⟩, ⟨1, 1, .wo⟩, ⟨2, 1, .wo⟩, ⟨3, 1, .wo⟩]⟩ /- CTL_A_CMD -/,
  ⟨0x0500008, 16, 0x400, 1, 0x400, false, 0x0#64, [⟨0, 3, .ro⟩, ⟨3, 1, .ro⟩, ⟨4, 1, .ro⟩, ⟨5, 1, .ro⟩, ⟨6, 1, .ro⟩, ⟨8, 8, .ro⟩, ⟨16, 8, .ro⟩]⟩ /- CTL_A_STAT -/,
  ⟨0x050000C, 16, 0x400, 1, 0x400, false, 0x0#64, [⟨0, 1, .w1c⟩, ⟨1, 1, .w1c⟩, ⟨2, 1, .w1c⟩, ⟨3, 1, .w1c⟩, ⟨4, 1, .w1c⟩, ⟨5, 1, .w1c⟩]⟩ /- CTL_A_FLAGS -/,
  ⟨0x0500010, 16, 0x400, 1, 0x400, false, 0x3E80#64, [⟨0, 17, .rw⟩, ⟨17, 1, .rw⟩, ⟨18, 1, .rw⟩, ⟨19, 1, .rw⟩]⟩ /- CTL_A_PWM -/,
  ⟨0x0500014, 16, 0x400, 1, 0x400, false, 0x3E8#64, [⟨0, 16, .rw⟩]⟩ /- CTL_A_NPER -/,
  ⟨0x0500018, 16, 0x400, 1, 0x400, false, 0x19000C8#64, [⟨0, 10, .rw⟩, ⟨16, 10, .rw⟩]⟩ /- CTL_A_DT -/,
  ⟨0x0500020, 16, 0x400, 1, 0x400, true, 0x0#64, [⟨0, 64, .ro⟩]⟩ /- CTL_A_POS -/,
  ⟨0x0500028, 16, 0x400, 1, 0x400, true, 0x0#64, [⟨0, 64, .rw⟩]⟩ /- CTL_A_TARGET -/,
  ⟨0x0500030, 16, 0x400, 1, 0x400, true, 0x0#64, [⟨0, 64, .ro⟩]⟩ /- CTL_A_PG_POS -/,
  ⟨0x0500038, 16, 0x400, 1, 0x400, false, 0x0#64, [⟨0, 32, .ro⟩]⟩ /- CTL_A_PG_VEL -/,
  ⟨0x050003C, 16, 0x400, 1, 0x400, false, 0x0#64, [⟨0, 32, .ro⟩]⟩ /- CTL_A_PG_ACC -/,
  ⟨0x0500040, 16, 0x400, 1, 0x400, false, 0x0#64, [⟨0, 32, .rw⟩]⟩ /- CTL_A_VMAX -/,
  ⟨0x0500044, 16, 0x400, 1, 0x400, false, 0x0#64, [⟨0, 32, .rw⟩]⟩ /- CTL_A_AMAX -/,
  ⟨0x0500048, 16, 0x400, 1, 0x400, false, 0x0#64, [⟨0, 32, .rw⟩]⟩ /- CTL_A_JMAX -/,
  ⟨0x050004C, 16, 0x400, 1, 0x400, false, 0x0#64, [⟨0, 1, .rw⟩]⟩ /- CTL_A_PG_CTL -/,
  ⟨0x0500050, 16, 0x400, 1, 0x400, false, 0x1000000#64, [⟨0, 32, .rw⟩]⟩ /- CTL_A_FOLLOW_TOL -/,
  ⟨0x0500054, 16, 0x400, 1, 0x400, false, 0x1E8480#64, [⟨0, 32, .rw⟩]⟩ /- CTL_A_FOLLOW_DELAY -/,
  ⟨0x0500058, 16, 0x400, 1, 0x400, false, 0x14#64, [⟨0, 16, .rw⟩]⟩ /- CTL_A_STARVE_MS -/,
  ⟨0x0500060, 16, 0x400, 1, 0x400, true, 0x0#64, [⟨0, 64, .rw⟩]⟩ /- CTL_A_STREAM_BASE -/,
  ⟨0x0500068, 16, 0x400, 1, 0x400, false, 0x0#64, [⟨0, 32, .rw⟩]⟩ /- CTL_A_STREAM_SIZE -/,
  ⟨0x050006C, 16, 0x400, 1, 0x400, false, 0x0#64, [⟨0, 32, .rw⟩]⟩ /- CTL_A_STREAM_HEAD -/,
  ⟨0x0500070, 16, 0x400, 1, 0x400, false, 0x0#64, [⟨0, 32, .ro⟩]⟩ /- CTL_A_STREAM_TAIL -/,
  ⟨0x0500074, 16, 0x400, 1, 0x400, false, 0x0#64, [⟨0, 32, .rw⟩]⟩ /- CTL_A_FERR_MAX -/,
  ⟨0x0500078, 16, 0x400, 1, 0x400, false, 0x8#64, [⟨0, 8, .rw⟩]⟩ /- CTL_A_FERR_N -/,
  ⟨0x0500080, 16, 0x400, 1, 0x400, false, 0x3F800000#64, [⟨0, 32, .rw⟩]⟩ /- CTL_A_FF_V -/,
  ⟨0x0500084, 16, 0x400, 1, 0x400, false, 0x0#64, [⟨0, 32, .rw⟩]⟩ /- CTL_A_FF_A -/,
  ⟨0x0500088, 16, 0x400, 1, 0x400, false, 0x0#64, [⟨0, 32, .rw⟩]⟩ /- CTL_A_IDEM_MAX -/,
  ⟨0x050008C, 16, 0x400, 1, 0x400, false, 0x0#64, [⟨0, 32, .rw⟩]⟩ /- CTL_A_ID_REF -/,
  ⟨0x0500090, 16, 0x400, 1, 0x400, false, 0x1#64, [⟨0, 8, .rw⟩]⟩ /- CTL_A_ELEC -/]

def ctlRows1 : List RegRow := [
  ⟨0x0500094, 16, 0x400, 1, 0x400, false, 0x0#64, [⟨0, 32, .rw⟩]⟩ /- CTL_A_ELEC_OFS -/,
  ⟨0x0500098, 16, 0x400, 1, 0x400, false, 0x0#64, [⟨0, 2, .rw⟩]⟩ /- CTL_A_VEL_AVG -/,
  ⟨0x05000A0, 16, 0x400, 1, 0x400, false, 0x100#64, [⟨0, 1, .rw⟩, ⟨1, 1, .rw⟩, ⟨2, 1, .rw⟩, ⟨3, 1, .rw⟩, ⟨8, 8, .rw⟩]⟩ /- CTL_A_TBL_CTL -/,
  ⟨0x05000A4, 16, 0x400, 1, 0x400, false, 0x3C23D70A#64, [⟨0, 32, .rw⟩]⟩ /- CTL_A_V_ZERO -/,
  ⟨0x05000B0, 16, 0x400, 1, 0x400, false, 0x81000#64, [⟨0, 1, .rw⟩, ⟨1, 1, .rw⟩, ⟨2, 2, .rw⟩, ⟨4, 12, .rw⟩, ⟨16, 8, .rw⟩]⟩ /- CTL_A_OSC_CTL -/,
  ⟨0x05000B4, 16, 0x400, 1, 0x400, false, 0x1900014#64, [⟨0, 16, .rw⟩, ⟨16, 16, .rw⟩]⟩ /- CTL_A_OSC_BAND -/,
  ⟨0x05000B8, 16, 0x400, 1, 0x400, false, 0x0#64, [⟨0, 32, .rw⟩]⟩ /- CTL_A_OSC_AMP -/,
  ⟨0x05000BC, 16, 0x400, 1, 0x400, false, 0x0#64, [⟨0, 12, .ro⟩]⟩ /- CTL_A_OSC_CNT -/,
  ⟨0x05000C0, 16, 0x400, 1, 0x400, false, 0x0#64, [⟨0, 32, .ro⟩]⟩ /- CTL_A_IQ -/,
  ⟨0x05000C4, 16, 0x400, 1, 0x400, false, 0x0#64, [⟨0, 32, .ro⟩]⟩ /- CTL_A_VEL -/,
  ⟨0x05000D0, 16, 0x400, 1, 0x400, false, 0x0#64, [⟨0, 32, .clr⟩]⟩ /- CTL_A_LIMITED_CNT -/,
  ⟨0x05000D4, 16, 0x400, 1, 0x400, false, 0x0#64, [⟨0, 32, .clr⟩]⟩ /- CTL_A_OVERSHOOT_CNT -/,
  ⟨0x05000D8, 16, 0x400, 1, 0x400, false, 0x0#64, [⟨0, 32, .clr⟩]⟩ /- CTL_A_STREAM_BAD_CNT -/,
  ⟨0x05000DC, 16, 0x400, 1, 0x400, false, 0x0#64, [⟨0, 32, .clr⟩]⟩ /- CTL_A_DUTY_CLAMP_CNT -/,
  ⟨0x05000E0, 16, 0x400, 1, 0x400, false, 0x0#64, [⟨0, 32, .clr⟩]⟩ /- CTL_A_REST_CNT -/,
  ⟨0x0504000, 48, 0x80, 1, 0x80, false, 0x10000#64, [⟨0, 1, .rw⟩, ⟨1, 3, .rw⟩, ⟨4, 1, .rw⟩, ⟨5, 2, .rw⟩, ⟨7, 2, .rw⟩, ⟨9, 4, .rw⟩, ⟨16, 4, .rw⟩, ⟨20, 1, .rw⟩]⟩ /- CTL_T_CFG -/,
  ⟨0x0504004, 48, 0x80, 1, 0x80, false, 0x190#64, [⟨0, 16, .rw⟩]⟩ /- CTL_T_DL -/,
  ⟨0x0504008, 48, 0x80, 1, 0x80, false, 0x1F40#64, [⟨0, 24, .rw⟩]⟩ /- CTL_T_TIMER -/,
  ⟨0x050400C, 48, 0x80, 1, 0x80, false, 0x0#64, [⟨0, 8, .rw⟩, ⟨8, 8, .rw⟩, ⟨16, 8, .rw⟩]⟩ /- CTL_T_EXP -/,
  ⟨0x0504010, 48, 0x80, 1, 0x80, false, 0x1FF0#64, [⟨0, 8, .rw⟩, ⟨8, 8, .rw⟩]⟩ /- CTL_T_ELIM -/,
  ⟨0x0504014, 48, 0x80, 1, 0x80, false, 0x0#64, [⟨0, 8, .ro⟩, ⟨8, 1, .ro⟩, ⟨9, 1, .ro⟩, ⟨10, 4, .ro⟩, ⟨14, 1, .ro⟩]⟩ /- CTL_T_STAT -/,
  ⟨0x0504018, 48, 0x80, 1, 0x80, false, 0xBF800000#64, [⟨0, 32, .rw⟩]⟩ /- CTL_T_OUT_LO -/,
  ⟨0x050401C, 48, 0x80, 1, 0x80, false, 0x3F800000#64, [⟨0, 32, .rw⟩]⟩ /- CTL_T_OUT_HI -/,
  ⟨0x0504020, 48, 0x80, 1, 0x80, false, 0x0#64, [⟨0, 32, .ro⟩]⟩ /- CTL_T_OUT -/,
  ⟨0x0504024, 48, 0x80, 1, 0x80, false, 0x0#64, [⟨0, 32, .ro⟩]⟩ /- CTL_T_DEM -/,
  ⟨0x0504028, 48, 0x80, 1, 0x80, false, 0x0#64, [⟨0, 32, .clr⟩]⟩ /- CTL_T_MISS_CNT -/,
  ⟨0x050402C, 48, 0x80, 1, 0x80, false, 0x0#64, [⟨0, 32, .clr⟩]⟩ /- CTL_T_SAT_CNT -/,
  ⟨0x0504030, 48, 0x80, 1, 0x80, false, 0x0#64, [⟨0, 32, .clr⟩]⟩ /- CTL_T_PIN_IGN_CNT -/,
  ⟨0x0504040, 48, 0x80, 7, 0x4, false, 0x0#64, [⟨0, 24, .rw⟩]⟩ /- CTL_T_C -/,
  ⟨0x0504060, 48, 0x80, 7, 0x4, false, 0x0#64, [⟨0, 24, .rw⟩]⟩ /- CTL_T_C -/]

def ctlRows2 : List RegRow := [
  ⟨0x0506000, 16, 0x40, 1, 0x40, false, 0x3144010#64, [⟨0, 2, .rw⟩, ⟨2, 4, .rw⟩, ⟨6, 1, .rw⟩, ⟨7, 1, .rw⟩, ⟨8, 2, .rw⟩, ⟨10, 6, .rw⟩, ⟨16, 8, .rw⟩, ⟨24, 4, .rw⟩]⟩ /- CTL_E_CFG -/,
  ⟨0x0506004, 16, 0x40, 1, 0x40, false, 0x1000#64, [⟨0, 32, .rw⟩]⟩ /- CTL_E_CPR -/,
  ⟨0x0506008, 16, 0x40, 1, 0x40, false, 0x0#64, [⟨0, 32, .rw⟩]⟩ /- CTL_E_IDX_POS -/,
  ⟨0x050600C, 16, 0x40, 1, 0x40, false, 0x4#64, [⟨0, 16, .rw⟩]⟩ /- CTL_E_IDX_TOL -/,
  ⟨0x0506010, 16, 0x40, 1, 0x40, false, 0x0#64, [⟨0, 16, .rw⟩]⟩ /- CTL_E_LAT -/,
  ⟨0x0506014, 16, 0x40, 1, 0x40, false, 0x0#64, [⟨0, 32, .rw⟩]⟩ /- CTL_E_JUMP -/,
  ⟨0x0506018, 16, 0x40, 1, 0x40, true, 0x0#64, [⟨0, 64, .ro⟩]⟩ /- CTL_E_POS -/,
  ⟨0x0506020, 16, 0x40, 1, 0x40, false, 0x0#64, [⟨0, 1, .ro⟩, ⟨1, 1, .w1c⟩, ⟨2, 1, .ro⟩, ⟨3, 1, .ro⟩, ⟨4, 4, .ro⟩]⟩ /- CTL_E_STAT -/,
  ⟨0x0506024, 16, 0x40, 1, 0x40, false, 0x0#64, [⟨0, 32, .clr⟩]⟩ /- CTL_E_ERR_CNT -/,
  ⟨0x0507000, 48, 0x20, 1, 0x20, false, 0x24#64, [⟨0, 1, .rw⟩, ⟨1, 3, .rw⟩, ⟨4, 4, .rw⟩]⟩ /- CTL_SD_CFG -/,
  ⟨0x0507004, 48, 0x20, 1, 0x20, false, 0x3F800000#64, [⟨0, 32, .rw⟩]⟩ /- CTL_SD_GAIN -/,
  ⟨0x0507008, 48, 0x20, 1, 0x20, false, 0x0#64, [⟨0, 32, .rw⟩]⟩ /- CTL_SD_OFS -/,
  ⟨0x050700C, 48, 0x20, 1, 0x20, false, 0x0#64, [⟨0, 32, .rw⟩]⟩ /- CTL_SD_ITRIP -/,
  ⟨0x0507010, 48, 0x20, 1, 0x20, false, 0x0#64, [⟨0, 32, .ro⟩]⟩ /- CTL_SD_I -/,
  ⟨0x0507800, 4, 0x10, 1, 0x10, false, 0x14#64, [⟨0, 6, .rw⟩]⟩ /- CTL_G_SDCLK -/,
  ⟨0x0507C00, 1, 0x8, 1, 0x8, true, 0x0#64, [⟨0, 64, .rw⟩]⟩ /- CTL_TBL_ADDR -/,
  ⟨0x0507C08, 1, 0x8, 1, 0x8, false, 0x0#64, [⟨0, 1, .wo⟩, ⟨1, 1, .wo⟩, ⟨2, 1, .wo⟩, ⟨4, 4, .wo⟩]⟩ /- CTL_TBL_CMD -/,
  ⟨0x0507C0C, 1, 0x8, 1, 0x8, false, 0x0#64, [⟨0, 1, .ro⟩, ⟨8, 8, .ro⟩]⟩ /- CTL_TBL_STAT -/,
  ⟨0x0507C10, 1, 0x8, 1, 0x8, true, 0x0#64, [⟨0, 64, .ro⟩]⟩ /- CTL_TBL_LOADED -/]

def ctlRows : List RegRow := ctlRows0 ++ ctlRows1 ++ ctlRows2

def engRows0 : List RegRow := [
  ⟨0x0600000, 128, 0x2000, 4, 0x100, false, 0x0#64, [⟨0, 1, .wo⟩, ⟨1, 1, .wo⟩, ⟨2, 1, .wo⟩, ⟨3, 1, .wo⟩, ⟨4, 1, .wo⟩, ⟨5, 1, .wo⟩, ⟨6, 1, .wo⟩]⟩ /- ENG_B_T_CMD -/,
  ⟨0x0600004, 128, 0x2000, 4, 0x100, false, 0x0#64, [⟨0, 3, .ro⟩, ⟨3, 1, .ro⟩, ⟨4, 4, .ro⟩, ⟨8, 8, .ro⟩]⟩ /- ENG_B_T_STAT -/,
  ⟨0x0600008, 128, 0x2000, 4, 0x100, false, 0x0#64, [⟨0, 2, .rw⟩, ⟨2, 1, .rw⟩, ⟨16, 16, .rw⟩]⟩ /- ENG_B_T_CFG -/,
  ⟨0x0600010, 128, 0x2000, 4, 0x100, true, 0x0#64, [⟨0, 64, .rw⟩]⟩ /- ENG_B_T_PC -/,
  ⟨0x0600018, 128, 0x2000, 4, 0x100, true, 0x0#64, [⟨0, 64, .rw⟩]⟩ /- ENG_B_T_CTX -/,
  ⟨0x0600020, 128, 0x2000, 4, 0x100, false, 0x0#64, [⟨0, 4, .ro⟩, ⟨4, 12, .ro⟩]⟩ /- ENG_B_T_FAULT -/,
  ⟨0x0600028, 128, 0x2000, 4, 0x100, true, 0x0#64, [⟨0, 64, .ro⟩]⟩ /- ENG_B_T_FADDR -/,
  ⟨0x0600030, 128, 0x2000, 4, 0x100, false, 0x0#64, [⟨0, 8, .rw⟩, ⟨8, 2, .rw⟩, ⟨10, 1, .rw⟩]⟩ /- ENG_B_T_DBG_SEL -/,
  ⟨0x0600038, 128, 0x2000, 4, 0x100, true, 0x0#64, [⟨0, 64, .rw⟩]⟩ /- ENG_B_T_DBG_DATA -/,
  ⟨0x0600040, 128, 0x2000, 4, 0x100, true, 0x0#64, [⟨0, 64, .ro⟩]⟩ /- ENG_B_T_CYCLE -/,
  ⟨0x0600048, 128, 0x2000, 4, 0x100, true, 0x0#64, [⟨0, 64, .ro⟩]⟩ /- ENG_B_T_INSTRET -/,
  ⟨0x0600050, 128, 0x2000, 4, 0x100, false, 0x0#64, [⟨0, 32, .clr⟩]⟩ /- ENG_B_T_WAKE_LOST -/,
  ⟨0x0600800, 128, 0x2000, 1, 0x2000, false, 0x0#64, [⟨0, 1, .rw⟩, ⟨1, 1, .wo⟩]⟩ /- ENG_B_CTL -/,
  ⟨0x0600804, 128, 0x2000, 1, 0x2000, false, 0x0#64, [⟨0, 4, .ro⟩, ⟨4, 4, .ro⟩]⟩ /- ENG_B_STAT -/,
  ⟨0x0600810, 128, 0x2000, 4, 0x8, true, 0x0#64, [⟨0, 1, .rw⟩, ⟨2, 46, .rw⟩, ⟨48, 4, .rw⟩]⟩ /- ENG_B_BKPT -/,
  ⟨0x0600830, 128, 0x2000, 1, 0x2000, false, 0x0#64, [⟨0, 32, .clr⟩]⟩ /- ENG_B_ECC_CNT -/,
  ⟨0x0700000, 8, 0x1000, 1, 0x1000, false, 0x0#64, [⟨0, 16, .ro⟩]⟩ /- ENG_PIL_BARRIER -/,
  ⟨0x0700004, 8, 0x1000, 1, 0x1000, false, 0x0#64, [⟨0, 32, .clr⟩]⟩ /- ENG_PIL_ECC_CNT -/,
  ⟨0x0700008, 8, 0x1000, 1, 0x1000, false, 0x0#64, [⟨0, 8, .ro⟩]⟩ /- ENG_PIL_MOVE_ACTIVE -/,
  ⟨0x0780000, 1, 0x8, 1, 0x8, false, 0x0#64, [⟨0, 3, .ro⟩, ⟨8, 8, .ro⟩]⟩ /- ENG_THROT -/,
  ⟨0x0780004, 1, 0x8, 1, 0x8, false, 0x7D0#64, [⟨0, 12, .ro⟩]⟩ /- ENG_FREQ -/]

def engRows : List RegRow := engRows0

def memRows0 : List RegRow := [
  ⟨0x0800000, 1, 0x8, 1, 0x8, false, 0x3#64, [⟨0, 1, .rw⟩, ⟨1, 1, .rw⟩]⟩ /- MEM_CTL -/,
  ⟨0x0800004, 1, 0x8, 1, 0x8, false, 0x0#64, [⟨0, 2, .ro⟩, ⟨2, 1, .ro⟩, ⟨16, 16, .ro⟩]⟩ /- MEM_STAT -/,
  ⟨0x0800010, 1, 0x8, 1, 0x8, false, 0x7D0#64, [⟨0, 32, .rw⟩]⟩ /- MEM_SR_IDLE -/,
  ⟨0x0800014, 1, 0x8, 1, 0x8, false, 0x1F4#64, [⟨0, 32, .rw⟩]⟩ /- MEM_SR_IDLE_LO -/,
  ⟨0x0800018, 1, 0x8, 1, 0x8, false, 0xFFFFFFFF#64, [⟨0, 32, .rw⟩]⟩ /- MEM_SR_IDLE_HI -/,
  ⟨0x080001C, 1, 0x8, 1, 0x8, false, 0x1#64, [⟨0, 1, .rw⟩, ⟨1, 1, .ro⟩, ⟨2, 1, .wo⟩, ⟨3, 1, .ro⟩, ⟨4, 1, .ro⟩, ⟨5, 1, .ro⟩, ⟨6, 1, .w1c⟩, ⟨7, 1, .ro⟩, ⟨16, 16, .ro⟩]⟩ /- MEM_SR_IDLE_ADP -/,
  ⟨0x0800020, 1, 0x8, 1, 0x8, false, 0x320#64, [⟨0, 32, .ro⟩]⟩ /- MEM_SR_EXIT -/,
  ⟨0x0800024, 1, 0x8, 1, 0x8, false, 0x190#64, [⟨0, 32, .ro⟩]⟩ /- MEM_SR_RES -/,
  ⟨0x0800028, 1, 0x8, 1, 0x8, false, 0xFFFFFFFF#64, [⟨0, 32, .ro⟩]⟩ /- MEM_TOL_MIN -/,
  ⟨0x0800030, 1, 0x8, 1, 0x8, false, 0x0#64, [⟨0, 32, .clr⟩]⟩ /- MEM_SR_CNT -/,
  ⟨0x0800034, 1, 0x8, 1, 0x8, false, 0x0#64, [⟨0, 32, .clr⟩]⟩ /- MEM_SR_CANCEL_CNT -/,
  ⟨0x0800038, 1, 0x8, 1, 0x8, false, 0x0#64, [⟨0, 32, .clr⟩]⟩ /- MEM_SR_WAKE_REQ_CNT -/,
  ⟨0x080003C, 1, 0x8, 1, 0x8, false, 0x0#64, [⟨0, 32, .clr⟩]⟩ /- MEM_SR_WAKE_TOL_CNT -/,
  ⟨0x0800040, 1, 0x8, 1, 0x8, true, 0x0#64, [⟨0, 64, .ro⟩]⟩ /- MEM_SR_TIME -/,
  ⟨0x0800050, 1, 0x8, 1, 0x8, false, 0x10#64, [⟨0, 16, .rw⟩]⟩ /- MEM_NB_PROB -/,
  ⟨0x0800054, 1, 0x8, 1, 0x8, false, 0x0#64, [⟨0, 32, .wo⟩]⟩ /- MEM_NB_SEED -/,
  ⟨0x0800058, 1, 0x8, 1, 0x8, false, 0x1E0#64, [⟨0, 16, .rw⟩]⟩ /- MEM_SCRUB_PERIOD -/,
  ⟨0x0800060, 1, 0x8, 1, 0x8, true, 0x0#64, [⟨0, 64, .ro⟩]⟩ /- MEM_SCRUB_POS -/,
  ⟨0x0800068, 1, 0x8, 1, 0x8, true, 0x0#64, [⟨0, 64, .ro⟩]⟩ /- MEM_UNCORR_ADDR -/,
  ⟨0x0800070, 1, 0x8, 1, 0x8, false, 0x7D0#64, [⟨0, 14, .rw⟩]⟩ /- MEM_TRN_LIVE_MAX -/,
  ⟨0x0800400, 4, 0x10, 1, 0x10, false, 0x7D0042#64, [⟨0, 2, .rw⟩, ⟨4, 8, .rw⟩, ⟨12, 20, .rw⟩]⟩ /- MEM_SRC_QOS -/,
  ⟨0x0800440, 4, 0x10, 1, 0x10, false, 0x43#64, [⟨0, 2, .rw⟩, ⟨4, 8, .rw⟩, ⟨12, 20, .rw⟩]⟩ /- MEM_SRC_QOS -/,
  ⟨0x0800480, 4, 0x10, 1, 0x10, false, 0x3E8041#64, [⟨0, 2, .rw⟩, ⟨4, 8, .rw⟩, ⟨12, 20, .rw⟩]⟩ /- MEM_SRC_QOS -/,
  ⟨0x08004C0, 4, 0x10, 1, 0x10, false, 0x41#64, [⟨0, 2, .rw⟩, ⟨4, 8, .rw⟩, ⟨12, 20, .rw⟩]⟩ /- MEM_SRC_QOS -/,
  ⟨0x0800500, 1, 0x10, 1, 0x10, false, 0x42#64, [⟨0, 2, .rw⟩, ⟨4, 8, .rw⟩, ⟨12, 20, .rw⟩]⟩ /- MEM_SRC_QOS -/,
  ⟨0x0800510, 1, 0x10, 1, 0x10, false, 0x41#64, [⟨0, 2, .rw⟩, ⟨4, 8, .rw⟩, ⟨12, 20, .rw⟩]⟩ /- MEM_SRC_QOS -/,
  ⟨0x0800520, 1, 0x10, 1, 0x10, false, 0x41#64, [⟨0, 2, .rw⟩, ⟨4, 8, .rw⟩, ⟨12, 20, .rw⟩]⟩ /- MEM_SRC_QOS -/,
  ⟨0x0800530, 8, 0x10, 1, 0x10, false, 0x41#64, [⟨0, 2, .rw⟩, ⟨4, 8, .rw⟩, ⟨12, 20, .rw⟩]⟩ /- MEM_SRC_QOS -/,
  ⟨0x08005B0, 1, 0x10, 1, 0x10, false, 0x43#64, [⟨0, 2, .rw⟩, ⟨4, 8, .rw⟩, ⟨12, 20, .rw⟩]⟩ /- MEM_SRC_QOS -/,
  ⟨0x08005C0, 1, 0x10, 1, 0x10, false, 0x42#64, [⟨0, 2, .rw⟩, ⟨4, 8, .rw⟩, ⟨12, 20, .rw⟩]⟩ /- MEM_SRC_QOS -/]

def memRows1 : List RegRow := [
  ⟨0x08005D0, 1, 0x10, 1, 0x10, false, 0x42#64, [⟨0, 2, .rw⟩, ⟨4, 8, .rw⟩, ⟨12, 20, .rw⟩]⟩ /- MEM_SRC_QOS -/,
  ⟨0x08005E0, 1, 0x10, 1, 0x10, false, 0x40#64, [⟨0, 2, .rw⟩, ⟨4, 8, .rw⟩, ⟨12, 20, .rw⟩]⟩ /- MEM_SRC_QOS -/,
  ⟨0x0800404, 31, 0x10, 1, 0x10, false, 0x0#64, [⟨0, 32, .clr⟩]⟩ /- MEM_SRC_LATE_CNT -/,
  ⟨0x0800408, 31, 0x10, 1, 0x10, false, 0x0#64, [⟨0, 32, .clr⟩]⟩ /- MEM_SRC_LAT_MAX -/,
  ⟨0x0801000, 16, 0x400, 1, 0x400, false, 0x0#64, [⟨0, 1, .rw⟩]⟩ /- MEM_C_CTL -/,
  ⟨0x0801004, 16, 0x400, 1, 0x400, false, 0x0#64, [⟨0, 1, .ro⟩, ⟨1, 1, .ro⟩, ⟨8, 8, .ro⟩, ⟨16, 8, .ro⟩]⟩ /- MEM_C_STAT -/,
  ⟨0x0801008, 16, 0x400, 1, 0x400, false, 0x0#64, [⟨0, 8, .ro⟩, ⟨8, 8, .ro⟩]⟩ /- MEM_C_TEMP -/,
  ⟨0x0801010, 16, 0x400, 1, 0x400, false, 0x0#64, [⟨0, 1, .wo⟩, ⟨1, 2, .wo⟩, ⟨3, 1, .wo⟩, ⟨4, 1, .wo⟩, ⟨5, 1, .wo⟩]⟩ /- MEM_C_TRN_CMD -/,
  ⟨0x0801014, 16, 0x400, 1, 0x400, false, 0x0#64, [⟨0, 3, .rw⟩, ⟨3, 1, .rw⟩, ⟨4, 6, .rw⟩]⟩ /- MEM_C_TRN_PAT -/,
  ⟨0x0801018, 16, 0x400, 1, 0x400, false, 0x0#64, [⟨0, 4, .rw⟩, ⟨4, 4, .rw⟩, ⟨8, 1, .rw⟩, ⟨9, 14, .rw⟩]⟩ /- MEM_C_TRN_ADDR -/,
  ⟨0x080101C, 16, 0x400, 1, 0x400, false, 0x1#64, [⟨0, 24, .rw⟩]⟩ /- MEM_C_TRN_COUNT -/,
  ⟨0x0801020, 16, 0x400, 1, 0x400, false, 0x1#64, [⟨0, 32, .rw⟩]⟩ /- MEM_C_TRN_SEED -/,
  ⟨0x0801024, 16, 0x400, 1, 0x400, false, 0x0#64, [⟨0, 24, .ro⟩]⟩ /- MEM_C_TRN_DONE -/,
  ⟨0x0801028, 16, 0x400, 1, 0x400, false, 0x2020#64, [⟨0, 6, .rw⟩, ⟨8, 6, .rw⟩]⟩ /- MEM_C_VREF -/,
  ⟨0x080102C, 16, 0x400, 1, 0x400, false, 0x20#64, [⟨0, 7, .rw⟩]⟩ /- MEM_C_CA_DLY -/,
  ⟨0x0801040, 16, 0x400, 9, 0x8, true, 0x0#64, [⟨0, 64, .rw⟩]⟩ /- MEM_C_TRN_USER -/,
  ⟨0x0801100, 16, 0x400, 36, 0x4, false, 0x2020#64, [⟨0, 7, .rw⟩, ⟨8, 7, .rw⟩]⟩ /- MEM_C_DLY -/,
  ⟨0x0801200, 16, 0x400, 36, 0x4, false, 0x0#64, [⟨0, 16, .ro⟩, ⟨16, 4, .ro⟩, ⟨20, 1, .ro⟩]⟩ /- MEM_C_ERR -/,
  ⟨0x0801300, 16, 0x400, 1, 0x400, false, 0x0#64, [⟨0, 32, .clr⟩]⟩ /- MEM_C_CORR_CNT -/,
  ⟨0x0801304, 16, 0x400, 1, 0x400, false, 0x0#64, [⟨0, 32, .clr⟩]⟩ /- MEM_C_UNCORR_CNT -/,
  ⟨0x0801308, 16, 0x400, 1, 0x400, false, 0x0#64, [⟨0, 32, .clr⟩]⟩ /- MEM_C_NB_CNT -/,
  ⟨0x080130C, 16, 0x400, 1, 0x400, false, 0x0#64, [⟨0, 32, .clr⟩]⟩ /- MEM_C_NB_DROP_CNT -/]

def memRows : List RegRow := memRows0 ++ memRows1

def mmuRows0 : List RegRow := [
  ⟨0x0900000, 1, 0x8, 1, 0x8, false, 0x0#64, [⟨0, 16, .rw⟩]⟩ /- MMU_CTL -/,
  ⟨0x0900008, 1, 0x8, 1, 0x8, true, 0x0#64, [⟨0, 64, .rw⟩]⟩ /- MMU_CTX_BASE -/,
  ⟨0x0900010, 1, 0x8, 1, 0x8, false, 0x0#64, [⟨0, 4, .wo⟩]⟩ /- MMU_CMD -/,
  ⟨0x0900014, 1, 0x8, 1, 0x8, false, 0x0#64, [⟨0, 1, .ro⟩, ⟨8, 8, .ro⟩]⟩ /- MMU_CMD_STAT -/,
  ⟨0x0900018, 1, 0x8, 1, 0x8, false, 0x0#64, [⟨0, 17, .ro⟩]⟩ /- MMU_CMD_DONE -/,
  ⟨0x090001C, 1, 0x8, 1, 0x8, false, 0x0#64, [⟨0, 16, .rw⟩]⟩ /- MMU_CMD_ASID -/,
  ⟨0x0900020, 1, 0x8, 1, 0x8, true, 0x0#64, [⟨0, 64, .rw⟩]⟩ /- MMU_CMD_VA -/,
  ⟨0x0900028, 1, 0x8, 1, 0x8, true, 0x0#64, [⟨0, 64, .rw⟩]⟩ /- MMU_CMD_PA -/,
  ⟨0x0900030, 1, 0x8, 1, 0x8, false, 0x1#64, [⟨0, 17, .rw⟩]⟩ /- MMU_CMD_LEN -/,
  ⟨0x0900034, 1, 0x8, 1, 0x8, false, 0x0#64, [⟨0, 1, .rw⟩, ⟨1, 1, .rw⟩, ⟨2, 1, .rw⟩, ⟨3, 1, .rw⟩, ⟨4, 1, .rw⟩, ⟨5, 1, .rw⟩, ⟨6, 1, .rw⟩, ⟨7, 1, .rw⟩]⟩ /- MMU_CMD_FLAGS -/,
  ⟨0x0900040, 1, 0x8, 1, 0x8, true, 0x0#64, [⟨0, 64, .rw⟩]⟩ /- MMU_FLT_BASE -/,
  ⟨0x0900048, 1, 0x8, 1, 0x8, false, 0x0#64, [⟨0, 32, .rw⟩]⟩ /- MMU_FLT_SIZE -/,
  ⟨0x090004C, 1, 0x8, 1, 0x8, false, 0x0#64, [⟨0, 32, .ro⟩]⟩ /- MMU_FLT_HEAD -/,
  ⟨0x0900050, 1, 0x8, 1, 0x8, false, 0x0#64, [⟨0, 32, .rw⟩]⟩ /- MMU_FLT_TAIL -/,
  ⟨0x0900054, 1, 0x8, 1, 0x8, false, 0x0#64, [⟨0, 32, .clr⟩]⟩ /- MMU_FLT_LOST_CNT -/,
  ⟨0x0900058, 1, 0x8, 1, 0x8, false, 0x0#64, [⟨0, 16, .ro⟩]⟩ /- MMU_HELD -/,
  ⟨0x0900060, 1, 0x8, 1, 0x8, true, 0x0#64, [⟨0, 32, .wo⟩, ⟨32, 1, .wo⟩]⟩ /- MMU_RESOLVE -/,
  ⟨0x0900068, 1, 0x8, 1, 0x8, false, 0x0#64, [⟨0, 8, .ro⟩]⟩ /- MMU_RESOLVE_STAT -/,
  ⟨0x0900070, 1, 0x8, 1, 0x8, false, 0x3E8#64, [⟨0, 16, .rw⟩]⟩ /- MMU_PRI_TO -/,
  ⟨0x0900074, 1, 0x8, 1, 0x8, false, 0x0#64, [⟨0, 9, .ro⟩]⟩ /- MMU_PRI_OUT -/,
  ⟨0x0900078, 1, 0x8, 1, 0x8, false, 0x0#64, [⟨0, 14, .ro⟩]⟩ /- MMU_LOCK_USED -/,
  ⟨0x0900080, 1, 0x8, 1, 0x8, true, 0x0#64, [⟨0, 64, .ro⟩]⟩ /- MMU_GUARD_ADDR -/,
  ⟨0x0900088, 1, 0x8, 1, 0x8, false, 0x0#64, [⟨0, 32, .clr⟩]⟩ /- MMU_GUARD_DROP_CNT -/,
  ⟨0x090008C, 1, 0x8, 1, 0x8, false, 0x0#64, [⟨0, 32, .clr⟩]⟩ /- MMU_GUARD_FAULT_CNT -/,
  ⟨0x0900090, 1, 0x8, 1, 0x8, false, 0x0#64, [⟨0, 32, .ro⟩]⟩ /- MMU_TBL_FREE -/]

def mmuRows : List RegRow := mmuRows0

def queRows0 : List RegRow := [
  ⟨0x0A00000, 4096, 0x40, 1, 0x40, false, 0x40#64, [⟨0, 2, .rw⟩, ⟨2, 1, .rw⟩, ⟨4, 4, .rw⟩, ⟨8, 6, .rw⟩, ⟨14, 2, .rw⟩, ⟨16, 8, .rw⟩, ⟨24, 2, .rw⟩]⟩ /- QUE_Q_CTL -/,
  ⟨0x0A00004, 4096, 0x40, 1, 0x40, false, 0x0#64, [⟨0, 12, .rw⟩, ⟨16, 8, .rw⟩]⟩ /- QUE_Q_LINK -/,
  ⟨0x0A00008, 4096, 0x40, 1, 0x40, true, 0x0#64, [⟨0, 64, .rw⟩]⟩ /- QUE_Q_BASE -/,
  ⟨0x0A00010, 4096, 0x40, 1, 0x40, false, 0x0#64, [⟨0, 16, .rw⟩, ⟨16, 11, .rw⟩]⟩ /- QUE_Q_ASID -/,
  ⟨0x0A00014, 4096, 0x40, 1, 0x40, false, 0x1#64, [⟨0, 1, .rw⟩, ⟨8, 8, .rw⟩, ⟨16, 16, .rw⟩]⟩ /- QUE_Q_IRQ -/,
  ⟨0x0A00018, 4096, 0x40, 1, 0x40, false, 0x0#64, [⟨0, 1, .wo⟩, ⟨1, 1, .wo⟩, ⟨2, 1, .wo⟩, ⟨3, 1, .wo⟩]⟩ /- QUE_Q_CMD -/,
  ⟨0x0A0001C, 4096, 0x40, 1, 0x40, false, 0x0#64, [⟨0, 3, .ro⟩, ⟨3, 1, .ro⟩, ⟨8, 8, .ro⟩]⟩ /- QUE_Q_STAT -/,
  ⟨0x0A00020, 4096, 0x40, 1, 0x40, false, 0x0#64, [⟨0, 16, .ro⟩]⟩ /- QUE_Q_HEAD -/,
  ⟨0x0A00024, 4096, 0x40, 1, 0x40, false, 0x0#64, [⟨0, 16, .ro⟩]⟩ /- QUE_Q_TAIL -/,
  ⟨0x0A00028, 4096, 0x40, 1, 0x40, false, 0x0#64, [⟨0, 32, .ro⟩]⟩ /- QUE_Q_OUTST -/,
  ⟨0x0A0002C, 4096, 0x40, 1, 0x40, false, 0x3E8#64, [⟨0, 16, .rw⟩]⟩ /- QUE_Q_ABORT_TO -/,
  ⟨0x0A00030, 4096, 0x40, 1, 0x40, false, 0x0#64, [⟨0, 32, .clr⟩]⟩ /- QUE_Q_LOST_CNT -/,
  ⟨0x0A00034, 4096, 0x40, 1, 0x40, false, 0x0#64, [⟨0, 32, .clr⟩]⟩ /- QUE_Q_DB_BAD_CNT -/,
  ⟨0x0A40000, 1, 0x8, 1, 0x8, false, 0x0#64, [⟨0, 13, .ro⟩, ⟨16, 5, .ro⟩]⟩ /- QUE_STAT -/,
  ⟨0x0A40004, 1, 0x8, 1, 0x8, false, 0x0#64, [⟨0, 32, .clr⟩]⟩ /- QUE_UNROUTED_CNT -/,
  ⟨0x0A40104, 17, 0x4, 1, 0x4, false, 0x0#64, [⟨0, 12, .rw⟩, ⟨15, 1, .rw⟩, ⟨16, 3, .rw⟩]⟩ /- QUE_EVR -/,
  ⟨0x0A40204, 63, 0x4, 1, 0x4, false, 0x0#64, [⟨0, 12, .rw⟩, ⟨15, 1, .rw⟩]⟩ /- QUE_VF_EQ -/]

def queRows : List RegRow := queRows0

def glbRows0 : List RegRow := [
  ⟨0x0000000, 1, 0x8, 1, 0x8, false, 0x9640#64, [⟨0, 16, .ro⟩, ⟨16, 8, .ro⟩, ⟨24, 8, .ro⟩]⟩ /- GLB_ID -/,
  ⟨0x0000008, 1, 0x8, 1, 0x8, false, 0x0#64, [⟨0, 1, .ro⟩, ⟨1, 5, .ro⟩, ⟨6, 3, .ro⟩, ⟨9, 1, .ro⟩, ⟨10, 1, .ro⟩, ⟨11, 1, .ro⟩, ⟨12, 1, .ro⟩]⟩ /- GLB_LINK -/,
  ⟨0x000000C, 1, 0x8, 1, 0x8, false, 0x0#64, [⟨0, 32, .clr⟩]⟩ /- GLB_LINK_DOWN_CNT -/,
  ⟨0x0000010, 1, 0x8, 1, 0x8, true, 0x0#64, [⟨0, 26, .ro⟩, ⟨26, 1, .ro⟩, ⟨28, 4, .ro⟩, ⟨32, 6, .ro⟩]⟩ /- GLB_BAD_ADDR -/,
  ⟨0x0000018, 1, 0x8, 1, 0x8, false, 0x0#64, [⟨0, 32, .clr⟩]⟩ /- GLB_BAD_CNT -/,
  ⟨0x0000020, 1, 0x8, 1, 0x8, true, 0x1#64, [⟨0, 64, .ro⟩]⟩ /- GLB_FN_EN -/,
  ⟨0x0000028, 1, 0x8, 1, 0x8, false, 0x0#64, [⟨0, 32, .clr⟩]⟩ /- GLB_FLR_CNT -/,
  ⟨0x000002C, 1, 0x8, 1, 0x8, false, 0x0#64, [⟨0, 32, .clr⟩]⟩ /- GLB_HOSTRST_CNT -/,
  ⟨0x0000030, 1, 0x8, 1, 0x8, false, 0x0#64, [⟨0, 32, .rw⟩]⟩ /- GLB_SCRATCH -/]

def glbRows : List RegRow := glbRows0

def cmpRows0 : List RegRow := [
  ⟨0x0B00000, 1, 0x8, 1, 0x8, false, 0xFFF#64, [⟨0, 12, .rw⟩]⟩ /- CMP_CTL -/,
  ⟨0x0B00004, 1, 0x8, 1, 0x8, false, 0x0#64, [⟨0, 12, .ro⟩, ⟨16, 12, .ro⟩]⟩ /- CMP_STAT -/,
  ⟨0x0B00008, 1, 0x8, 1, 0x8, false, 0x0#64, [⟨0, 32, .clr⟩]⟩ /- CMP_VERIFY_FAIL_CNT -/,
  ⟨0x0B0000C, 1, 0x8, 1, 0x8, false, 0x0#64, [⟨0, 32, .clr⟩]⟩ /- CMP_DATA_BAD_CNT -/,
  ⟨0x0B01000, 12, 0x40, 1, 0x40, false, 0x0#64, [⟨0, 1, .ro⟩, ⟨1, 1, .ro⟩, ⟨2, 2, .ro⟩, ⟨8, 12, .ro⟩]⟩ /- CMP_U_STAT -/,
  ⟨0x0B01008, 12, 0x40, 1, 0x40, true, 0x0#64, [⟨0, 64, .ro⟩]⟩ /- CMP_U_IN -/,
  ⟨0x0B01010, 12, 0x40, 1, 0x40, true, 0x0#64, [⟨0, 64, .ro⟩]⟩ /- CMP_U_OUT -/,
  ⟨0x0B01018, 12, 0x40, 1, 0x40, false, 0x0#64, [⟨0, 32, .ro⟩]⟩ /- CMP_U_BLOCKS -/,
  ⟨0x0B0101C, 12, 0x40, 1, 0x40, false, 0x0#64, [⟨0, 32, .clr⟩]⟩ /- CMP_U_JOB_CNT -/]

def cmpRows : List RegRow := cmpRows0

def lnkRows0 : List RegRow := [
  ⟨0x0C00000, 48, 0x200, 1, 0x200, false, 0x0#64, [⟨0, 1, .rw⟩, ⟨1, 1, .rw⟩, ⟨2, 1, .rw⟩]⟩ /- LNK_L_CFG -/,
  ⟨0x0C00004, 48, 0x200, 1, 0x200, false, 0x0#64, [⟨0, 1, .wo⟩, ⟨1, 1, .wo⟩, ⟨2, 1, .wo⟩, ⟨3, 1, .wo⟩, ⟨4, 1, .wo⟩]⟩ /- LNK_L_CMD -/,
  ⟨0x0C00008, 48, 0x200, 1, 0x200, false, 0x20#64, [⟨0, 1, .ro⟩, ⟨1, 1, .ro⟩, ⟨2, 1, .ro⟩, ⟨3, 1, .ro⟩, ⟨4, 1, .ro⟩, ⟨5, 1, .ro⟩, ⟨6, 1, .ro⟩, ⟨7, 1, .ro⟩, ⟨8, 5, .ro⟩, ⟨16, 8, .ro⟩]⟩ /- LNK_L_STAT -/,
  ⟨0x0C0000C, 48, 0x200, 1, 0x200, false, 0x2304#64, [⟨0, 4, .rw⟩, ⟨4, 6, .rw⟩, ⟨10, 5, .rw⟩, ⟨15, 1, .rw⟩]⟩ /- LNK_L_TXEQ -/,
  ⟨0x0C00010, 48, 0x200, 1, 0x200, false, 0x0#64, [⟨0, 16, .ro⟩, ⟨16, 16, .ro⟩]⟩ /- LNK_L_LAT -/,
  ⟨0x0C00014, 48, 0x200, 1, 0x200, false, 0x0#64, [⟨0, 32, .clr⟩]⟩ /- LNK_L_HDR_ERR -/,
  ⟨0x0C00018, 48, 0x200, 1, 0x200, false, 0x0#64, [⟨0, 32, .ro⟩]⟩ /- LNK_L_REM_ERR -/,
  ⟨0x0C00020, 48, 0x200, 1, 0x200, false, 0x0#64, [⟨0, 3, .rw⟩, ⟨3, 1, .rw⟩, ⟨4, 6, .rw⟩]⟩ /- LNK_L_GEN -/,
  ⟨0x0C00028, 48, 0x200, 1, 0x200, true, 0x0#64, [⟨0, 64, .rw⟩]⟩ /- LNK_L_USER -/,
  ⟨0x0C00030, 48, 0x200, 1, 0x200, true, 0x0#64, [⟨0, 64, .ro⟩]⟩ /- LNK_L_CHK_BITS -/,
  ⟨0x0C00038, 48, 0x200, 1, 0x200, false, 0x0#64, [⟨0, 32, .clr⟩]⟩ /- LNK_L_CHK_ERR -/,
  ⟨0x0C00040, 48, 0x200, 1, 0x200, false, 0x180000#64, [⟨0, 6, .rw⟩, ⟨8, 7, .rw⟩, ⟨16, 6, .rw⟩, ⟨22, 1, .ro⟩, ⟨23, 1, .ro⟩, ⟨24, 8, .ro⟩]⟩ /- LNK_L_SCAN -/,
  ⟨0x0C00048, 48, 0x200, 1, 0x200, true, 0x0#64, [⟨0, 64, .ro⟩]⟩ /- LNK_L_SCAN_ERR -/,
  ⟨0x0C00080, 48, 0x200, 1, 0x200, false, 0xC#64, [⟨0, 5, .rw⟩]⟩ /- LNK_L_EQ -/,
  ⟨0x0C00090, 48, 0x200, 4, 0x10, false, 0x0#64, [⟨0, 6, .rw⟩]⟩ /- LNK_L_EQ -/,
  ⟨0x0C00084, 48, 0x200, 1, 0x200, false, 0x0#64, [⟨0, 5, .rw⟩]⟩ /- LNK_L_EQ_LO -/,
  ⟨0x0C00094, 48, 0x200, 4, 0x10, false, 0x20#64, [⟨0, 6, .rw⟩]⟩ /- LNK_L_EQ_LO -/,
  ⟨0x0C00088, 48, 0x200, 1, 0x200, false, 0x1F#64, [⟨0, 5, .rw⟩]⟩ /- LNK_L_EQ_HI -/,
  ⟨0x0C00098, 48, 0x200, 4, 0x10, false, 0x1F#64, [⟨0, 6, .rw⟩]⟩ /- LNK_L_EQ_HI -/,
  ⟨0x0C0008C, 48, 0x200, 1, 0x200, false, 0x1#64, [⟨0, 1, .rw⟩, ⟨1, 1, .ro⟩, ⟨2, 1, .wo⟩, ⟨3, 1, .ro⟩, ⟨4, 1, .ro⟩, ⟨5, 1, .ro⟩, ⟨6, 1, .w1c⟩, ⟨7, 1, .ro⟩, ⟨16, 16, .ro⟩]⟩ /- LNK_L_EQ_ADP -/,
  ⟨0x0C0009C, 48, 0x200, 4, 0x10, false, 0x1#64, [⟨0, 1, .rw⟩, ⟨1, 1, .ro⟩, ⟨2, 1, .wo⟩, ⟨3, 1, .ro⟩, ⟨4, 1, .ro⟩, ⟨5, 1, .ro⟩, ⟨6, 1, .w1c⟩, ⟨7, 1, .ro⟩, ⟨16, 16, .ro⟩]⟩ /- LNK_L_EQ_ADP -/,
  ⟨0x0C08000, 8, 0x100, 1, 0x100, false, 0x870#64, [⟨0, 1, .rw⟩, ⟨1, 1, .rw⟩, ⟨2, 1, .rw⟩, ⟨4, 3, .rw⟩, ⟨8, 8, .rw⟩]⟩ /- LNK_K_CTL -/,
  ⟨0x0C08004, 8, 0x100, 1, 0x100, false, 0x0#64, [⟨0, 1, .wo⟩]⟩ /- LNK_K_CMD -/,
  ⟨0x0C08008, 8, 0x100, 1, 0x100, false, 0x8#64, [⟨0, 3, .ro⟩, ⟨3, 1, .ro⟩, ⟨4, 1, .ro⟩, ⟨5, 3, .ro⟩, ⟨8, 3, .ro⟩, ⟨11, 1, .ro⟩, ⟨16, 8, .ro⟩, ⟨24, 8, .ro⟩]⟩ /- LNK_K_STAT -/,
  ⟨0x0C0800C, 8, 0x100, 1, 0x100, false, 0x0#64, [⟨0, 32, .clr⟩]⟩ /- LNK_K_FAIL_CNT -/,
  ⟨0x0C08010, 8, 0x100, 1, 0x100, false, 0x0#64, [⟨0, 32, .clr⟩]⟩ /- LNK_K_LOST_CNT -/,
  ⟨0x0C08014, 8, 0x100, 1, 0x100, false, 0x300#64, [⟨0, 12, .rw⟩]⟩ /- LNK_K_PICOT -/,
  ⟨0x0C08018, 8, 0x100, 1, 0x100, false, 0x7C3#64, [⟨0, 16, .ro⟩]⟩ /- LNK_K_PICOT_NS -/,
  ⟨0x0C09000, 1, 0x8, 1, 0x8, false, 0x7#64, [⟨0, 3, .rw⟩]⟩ /- LNK_PALIS_RATE -/,
  ⟨0x0C09004, 1, 0x8, 1, 0x8, false, 0x0#64, [⟨0, 8, .ro⟩, ⟨8, 8, .ro⟩]⟩ /- LNK_STAT -/]

def lnkRows : List RegRow := lnkRows0

def casRows0 : List RegRow := [
  ⟨0x0D00000, 1, 0x8, 1, 0x8, false, 0x640000#64, [⟨0, 1, .rw⟩, ⟨1, 1, .rw⟩, ⟨2, 2, .rw⟩, ⟨4, 4, .rw⟩, ⟨16, 16, .rw⟩]⟩ /- CAS_CTL -/,
  ⟨0x0D00004, 1, 0x8, 1, 0x8, false, 0x0#64, [⟨0, 1, .wo⟩]⟩ /- CAS_CMD -/,
  ⟨0x0D00008, 1, 0x8, 1, 0x8, false, 0x0#64, [⟨0, 1, .ro⟩, ⟨1, 2, .ro⟩, ⟨3, 1, .ro⟩, ⟨4, 1, .ro⟩, ⟨5, 1, .ro⟩, ⟨8, 4, .ro⟩, ⟨16, 8, .ro⟩]⟩ /- CAS_STAT -/,
  ⟨0x0D0000C, 1, 0x8, 1, 0x8, false, 0x3FFE#64, [⟨0, 14, .rw⟩]⟩ /- CAS_ADDR -/,
  ⟨0x0D00010, 1, 0x8, 1, 0x8, true, 0x0#64, [⟨0, 64, .ro⟩]⟩ /- CAS_UID -/,
  ⟨0x0D00018, 1, 0x8, 1, 0x8, false, 0x100832#64, [⟨0, 6, .rw⟩, ⟨8, 8, .rw⟩, ⟨16, 8, .rw⟩]⟩ /- CAS_TIME -/,
  ⟨0x0D0001C, 1, 0x8, 1, 0x8, false, 0x3E8#64, [⟨0, 32, .rw⟩]⟩ /- CAS_STEP_NS -/,
  ⟨0x0D00020, 1, 0x8, 1, 0x8, false, 0x0#64, [⟨0, 32, .ro⟩]⟩ /- CAS_OFFSET -/,
  ⟨0x0D00024, 1, 0x8, 1, 0x8, false, 0x0#64, [⟨0, 32, .ro⟩]⟩ /- CAS_ERR -/,
  ⟨0x0D00028, 1, 0x8, 1, 0x8, false, 0x0#64, [⟨0, 32, .ro⟩]⟩ /- CAS_RATE -/,
  ⟨0x0D0002C, 1, 0x8, 1, 0x8, false, 0xFF#64, [⟨0, 8, .ro⟩]⟩ /- CAS_HOPS -/,
  ⟨0x0D00040, 1, 0x8, 1, 0x8, true, 0x0#64, [⟨0, 64, .rw⟩]⟩ /- CAS_RX_BASE -/,
  ⟨0x0D00048, 1, 0x8, 1, 0x8, false, 0x0#64, [⟨0, 32, .rw⟩]⟩ /- CAS_RX_SIZE -/,
  ⟨0x0D0004C, 1, 0x8, 1, 0x8, false, 0x0#64, [⟨0, 32, .ro⟩]⟩ /- CAS_RX_HEAD -/,
  ⟨0x0D00050, 1, 0x8, 1, 0x8, false, 0x0#64, [⟨0, 32, .rw⟩]⟩ /- CAS_RX_TAIL -/,
  ⟨0x0D00060, 1, 0x8, 1, 0x8, true, 0x0#64, [⟨0, 64, .rw⟩]⟩ /- CAS_TX_BASE -/,
  ⟨0x0D00068, 1, 0x8, 1, 0x8, false, 0x0#64, [⟨0, 32, .rw⟩]⟩ /- CAS_TX_SIZE -/,
  ⟨0x0D0006C, 1, 0x8, 1, 0x8, false, 0x0#64, [⟨0, 32, .ro⟩]⟩ /- CAS_TX_HEAD -/,
  ⟨0x0D00070, 1, 0x8, 1, 0x8, false, 0x0#64, [⟨0, 32, .rw⟩]⟩ /- CAS_TX_TAIL -/,
  ⟨0x0D00074, 1, 0x8, 1, 0x8, false, 0x0#64, [⟨0, 32, .clr⟩]⟩ /- CAS_TX_BAD_CNT -/,
  ⟨0x0D00078, 1, 0x8, 1, 0x8, false, 0x0#64, [⟨0, 32, .clr⟩]⟩ /- CAS_RX_LOST_CNT -/,
  ⟨0x0D0007C, 1, 0x8, 1, 0x8, false, 0x0#64, [⟨0, 32, .clr⟩]⟩ /- CAS_HOP_DROP_CNT -/,
  ⟨0x0D00100, 4, 0x40, 1, 0x40, false, 0x0#64, [⟨0, 2, .rw⟩]⟩ /- CAS_P_CTL -/,
  ⟨0x0D00104, 4, 0x40, 1, 0x40, false, 0x0#64, [⟨0, 2, .ro⟩, ⟨2, 1, .ro⟩, ⟨3, 1, .ro⟩, ⟨4, 1, .ro⟩]⟩ /- CAS_P_STAT -/,
  ⟨0x0D00108, 4, 0x40, 1, 0x40, false, 0x0#64, [⟨0, 24, .ro⟩]⟩ /- CAS_P_DELAY -/,
  ⟨0x0D0010C, 4, 0x40, 1, 0x40, false, 0x0#64, [⟨0, 16, .rw⟩]⟩ /- CAS_P_ASYM -/,
  ⟨0x0D00110, 4, 0x40, 1, 0x40, true, 0x0#64, [⟨0, 64, .ro⟩]⟩ /- CAS_P_PEER_UID -/,
  ⟨0x0D00118, 4, 0x40, 1, 0x40, false, 0x0#64, [⟨0, 32, .clr⟩]⟩ /- CAS_P_BAD_CNT -/,
  ⟨0x0D0011C, 4, 0x40, 1, 0x40, false, 0x0#64, [⟨0, 32, .clr⟩]⟩ /- CAS_P_DROP_CNT -/,
  ⟨0x0D00400, 16, 0x20, 1, 0x20, false, 0x0#64, [⟨0, 16, .rw⟩, ⟨16, 1, .rw⟩, ⟨17, 1, .rw⟩, ⟨18, 4, .rw⟩]⟩ /- CAS_SUB_CTL -/]

def casRows1 : List RegRow := [
  ⟨0x0D00408, 16, 0x20, 1, 0x20, true, 0x0#64, [⟨0, 64, .rw⟩]⟩ /- CAS_SUB_BASE -/,
  ⟨0x0D00410, 16, 0x20, 1, 0x20, false, 0x0#64, [⟨0, 32, .rw⟩]⟩ /- CAS_SUB_SIZE -/,
  ⟨0x0D00414, 16, 0x20, 1, 0x20, false, 0x0#64, [⟨0, 32, .ro⟩]⟩ /- CAS_SUB_HEAD -/,
  ⟨0x0D00418, 16, 0x20, 1, 0x20, false, 0x0#64, [⟨0, 32, .rw⟩]⟩ /- CAS_SUB_TAIL -/,
  ⟨0x0D0041C, 16, 0x20, 1, 0x20, false, 0x0#64, [⟨0, 32, .clr⟩]⟩ /- CAS_SUB_GAP_CNT -/,
  ⟨0x0D00800, 1, 0x8, 1, 0x8, false, Config.twinStrap 0x1F42000#64, [⟨0, 1, .rw⟩, ⟨1, 1, .ro⟩, ⟨2, 2, .rw⟩, ⟨4, 4, .rw⟩, ⟨8, 4, .rw⟩, ⟨12, 1, .rw⟩, ⟨13, 1, .rw⟩, ⟨16, 16, .rw⟩]⟩ /- CAS_TW_CTL -/,
  ⟨0x0D00804, 1, 0x8, 1, 0x8, false, 0x0#64, [⟨0, 1, .wo⟩, ⟨1, 1, .wo⟩, ⟨2, 1, .wo⟩]⟩ /- CAS_TW_CMD -/,
  ⟨0x0D00808, 1, 0x8, 1, 0x8, false, 0x0#64, [⟨0, 3, .ro⟩, ⟨3, 1, .ro⟩, ⟨4, 1, .ro⟩, ⟨5, 1, .ro⟩, ⟨6, 1, .ro⟩, ⟨7, 1, .ro⟩, ⟨8, 1, .ro⟩, ⟨9, 1, .ro⟩, ⟨10, 1, .ro⟩, ⟨11, 1, .ro⟩, ⟨12, 1, .ro⟩, ⟨16, 8, .ro⟩]⟩ /- CAS_TW_STAT -/,
  ⟨0x0D0080C, 1, 0x8, 1, 0x8, false, 0x3E8#64, [⟨0, 16, .rw⟩]⟩ /- CAS_TW_PH_TOL -/,
  ⟨0x0D00810, 1, 0x8, 1, 0x8, false, 0x0#64, [⟨0, 32, .ro⟩]⟩ /- CAS_TW_LAG -/,
  ⟨0x0D00814, 1, 0x8, 1, 0x8, false, 0x0#64, [⟨0, 32, .ro⟩]⟩ /- CAS_TW_PHDIFF -/,
  ⟨0x0D00818, 1, 0x8, 1, 0x8, false, 0x0#64, [⟨0, 32, .clr⟩]⟩ /- CAS_TW_HB_MISS_CNT -/,
  ⟨0x0D0081C, 1, 0x8, 1, 0x8, false, 0x0#64, [⟨0, 32, .clr⟩]⟩ /- CAS_TW_TKO_CNT -/,
  ⟨0x0D00820, 1, 0x8, 1, 0x8, false, 0x0#64, [⟨0, 32, .clr⟩]⟩ /- CAS_TW_REFUSE_CNT -/,
  ⟨0x0D00824, 1, 0x8, 1, 0x8, false, 0x0#64, [⟨0, 32, .clr⟩]⟩ /- CAS_TW_RESYNC_CNT -/,
  ⟨0x0D00828, 1, 0x8, 1, 0x8, true, 0x0#64, [⟨0, 64, .ro⟩]⟩ /- CAS_TW_LAST_HB -/,
  ⟨0x0D00840, 4, 0x8, 1, 0x8, true, 0x0#64, [⟨0, 64, .rw⟩]⟩ /- CAS_TW_FID -/,
  ⟨0x0D00860, 4, 0x8, 1, 0x8, true, 0x0#64, [⟨0, 64, .ro⟩]⟩ /- CAS_TW_FID_TAKEN -/,
  ⟨0x0D00900, 64, 0x4, 1, 0x4, false, 0x0#64, [⟨0, 12, .rw⟩, ⟨15, 1, .rw⟩, ⟨16, 12, .rw⟩]⟩ /- CAS_TW_Q -/]

def casRows : List RegRow := casRows0 ++ casRows1

def hkpRows0 : List RegRow := [
  ⟨0x0E00000, 1, 0x8, 1, 0x8, false, 0x7364#64, [⟨0, 8, .rw⟩, ⟨8, 8, .rw⟩, ⟨16, 1, .rw⟩, ⟨17, 2, .rw⟩]⟩ /- HKP_CTL -/,
  ⟨0x0E00004, 1, 0x8, 1, 0x8, false, 0x0#64, [⟨0, 2, .ro⟩, ⟨2, 1, .ro⟩, ⟨3, 1, .ro⟩, ⟨4, 1, .ro⟩, ⟨5, 1, .ro⟩, ⟨8, 3, .ro⟩, ⟨16, 8, .ro⟩]⟩ /- HKP_STAT -/,
  ⟨0x0E00008, 1, 0x8, 1, 0x8, false, 0x20408#64, [⟨0, 8, .rw⟩, ⟨8, 8, .rw⟩, ⟨16, 8, .rw⟩]⟩ /- HKP_SKIP_N -/,
  ⟨0x0E0000C, 1, 0x8, 1, 0x8, false, 0x3C14#64, [⟨0, 8, .rw⟩, ⟨8, 8, .rw⟩]⟩ /- HKP_RATE -/,
  ⟨0x0E00010, 1, 0x8, 1, 0x8, false, 0x0#64, [⟨0, 32, .ro⟩]⟩ /- HKP_ROUND -/,
  ⟨0x0E00014, 1, 0x8, 1, 0x8, false, 0x0#64, [⟨0, 16, .ro⟩, ⟨16, 4, .ro⟩]⟩ /- HKP_T_GOV -/,
  ⟨0x0E00018, 1, 0x8, 1, 0x8, true, 0x0#64, [⟨0, 40, .ro⟩]⟩ /- HKP_SUSPECT -/,
  ⟨0x0E00020, 1, 0x8, 1, 0x8, false, 0x0#64, [⟨0, 6, .wo⟩]⟩ /- HKP_SENS_CLR -/,
  ⟨0x0E00040, 10, 0x4, 1, 0x4, false, 0x0#64, [⟨0, 16, .ro⟩, ⟨16, 1, .ro⟩, ⟨17, 3, .ro⟩, ⟨20, 12, .ro⟩]⟩ /- HKP_Z -/,
  ⟨0x0E00100, 128, 0x4, 1, 0x4, false, 0x0#64, [⟨0, 16, .ro⟩, ⟨16, 16, .ro⟩]⟩ /- HKP_CH -/,
  ⟨0x0E00300, 128, 0x4, 1, 0x4, false, 0x7FFF8000#64, [⟨0, 16, .rw⟩, ⟨16, 16, .rw⟩]⟩ /- HKP_LIM -/,
  ⟨0x0E00500, 16, 0x4, 1, 0x4, false, 0xD6B03E8#64, [⟨0, 16, .rw⟩, ⟨16, 16, .rw⟩]⟩ /- HKP_TH -/,
  ⟨0x0E00540, 4, 0x8, 1, 0x8, false, 0x5A3C140A#64, [⟨0, 5, .rw⟩, ⟨8, 8, .rw⟩, ⟨16, 8, .rw⟩, ⟨24, 8, .rw⟩]⟩ /- HKP_FAN_CTL -/,
  ⟨0x0E00544, 4, 0x8, 1, 0x8, false, 0x0#64, [⟨0, 16, .ro⟩, ⟨16, 1, .ro⟩, ⟨24, 8, .ro⟩]⟩ /- HKP_FAN_STAT -/,
  ⟨0x0E00560, 1, 0x8, 1, 0x8, false, 0x1F4#64, [⟨0, 16, .rw⟩]⟩ /- HKP_TACH_MIN -/,
  ⟨0x0E00564, 1, 0x8, 1, 0x8, false, 0x0#64, [⟨0, 2, .rw⟩]⟩ /- HKP_COOL -/,
  ⟨0x0E00600, 1, 0x8, 1, 0x8, true, 0x0#64, [⟨0, 64, .ro⟩]⟩ /- HKP_LEDGER_EQ -/,
  ⟨0x0E00608, 1, 0x8, 1, 0x8, true, 0x0#64, [⟨0, 64, .ro⟩]⟩ /- HKP_LEDGER_TIME -/,
  ⟨0x0E00610, 1, 0x8, 1, 0x8, false, 0x0#64, [⟨0, 32, .ro⟩]⟩ /- HKP_LIFE_PPM -/,
  ⟨0x0E00614, 1, 0x8, 1, 0x8, false, 0x0#64, [⟨0, 16, .ro⟩]⟩ /- HKP_T_MAX -/,
  ⟨0x0E00618, 1, 0x8, 1, 0x8, false, 0x0#64, [⟨0, 32, .ro⟩]⟩ /- HKP_PRIV_CNT -/,
  ⟨0x0E00620, 12, 0x8, 1, 0x8, true, 0x0#64, [⟨0, 64, .ro⟩]⟩ /- HKP_ARR_EQ -/,
  ⟨0x0E00680, 1, 0x8, 1, 0x8, false, 0x3C#64, [⟨0, 16, .rw⟩]⟩ /- HKP_SCRUB_PERIOD -/,
  ⟨0x0E00684, 1, 0x8, 1, 0x8, false, 0x0#64, [⟨0, 32, .clr⟩]⟩ /- HKP_SCRUB_CORR_CNT -/,
  ⟨0x0E00688, 1, 0x8, 1, 0x8, false, 0x0#64, [⟨0, 32, .clr⟩]⟩ /- HKP_SCRUB_UNCORR_CNT -/]

def hkpRows : List RegRow := hkpRows0

def calRows0 : List RegRow := [
  ⟨0x0F00040, 9, 0x40, 1, 0x40, false, 0x800#64, [⟨0, 1, .rw⟩, ⟨8, 8, .rw⟩]⟩ /- CAL_T_CTL -/,
  ⟨0x0F00044, 1, 0x8, 1, 0x8, false, 150#64, [⟨0, 16, .rw⟩]⟩ /- CAL_T_TOL -/,
  ⟨0x0F00084, 1, 0x8, 1, 0x8, false, 150#64, [⟨0, 16, .rw⟩]⟩ /- CAL_T_TOL -/,
  ⟨0x0F000C4, 1, 0x8, 1, 0x8, false, 150#64, [⟨0, 16, .rw⟩]⟩ /- CAL_T_TOL -/,
  ⟨0x0F00104, 1, 0x8, 1, 0x8, false, 250#64, [⟨0, 16, .rw⟩]⟩ /- CAL_T_TOL -/,
  ⟨0x0F00144, 1, 0x8, 1, 0x8, false, 50#64, [⟨0, 16, .rw⟩]⟩ /- CAL_T_TOL -/,
  ⟨0x0F00184, 1, 0x8, 1, 0x8, false, 1#64, [⟨0, 16, .rw⟩]⟩ /- CAL_T_TOL -/,
  ⟨0x0F001C4, 1, 0x8, 1, 0x8, false, 5#64, [⟨0, 16, .rw⟩]⟩ /- CAL_T_TOL -/,
  ⟨0x0F00204, 1, 0x8, 1, 0x8, false, 150#64, [⟨0, 16, .rw⟩]⟩ /- CAL_T_TOL -/,
  ⟨0x0F00244, 1, 0x8, 1, 0x8, false, 2#64, [⟨0, 16, .rw⟩]⟩ /- CAL_T_TOL -/,
  ⟨0x0F00048, 9, 0x40, 1, 0x40, false, 0xEA60#64, [⟨0, 24, .rw⟩]⟩ /- CAL_T_VALID -/,
  ⟨0x0F0004C, 9, 0x40, 1, 0x40, false, 0x0#64, [⟨0, 1, .wo⟩, ⟨1, 1, .wo⟩, ⟨8, 6, .wo⟩]⟩ /- CAL_T_CMD -/,
  ⟨0x0F00050, 9, 0x40, 1, 0x40, true, 0xFFFFFFFFFFFFFFFF#64, [⟨0, 64, .rw⟩]⟩ /- CAL_T_MASK -/,
  ⟨0x0F00058, 1, 0x8, 1, 0x8, true, 0xFFFFFF#64, [⟨0, 64, .ro⟩]⟩ /- CAL_T_STALE -/,
  ⟨0x0F00098, 1, 0x8, 1, 0x8, true, 0xFF#64, [⟨0, 64, .ro⟩]⟩ /- CAL_T_STALE -/,
  ⟨0x0F000D8, 1, 0x8, 1, 0x8, true, 0xFFFFFFFFFFFF#64, [⟨0, 64, .ro⟩]⟩ /- CAL_T_STALE -/,
  ⟨0x0F00118, 1, 0x8, 1, 0x8, true, 0xF#64, [⟨0, 64, .ro⟩]⟩ /- CAL_T_STALE -/,
  ⟨0x0F00158, 1, 0x8, 1, 0x8, true, 0xFFFFFFFFFFFF#64, [⟨0, 64, .ro⟩]⟩ /- CAL_T_STALE -/,
  ⟨0x0F00198, 1, 0x8, 1, 0x8, true, 0xFFFFFF#64, [⟨0, 64, .ro⟩]⟩ /- CAL_T_STALE -/,
  ⟨0x0F001D8, 1, 0x8, 1, 0x8, true, 0xFFFFFFFFFFFF#64, [⟨0, 64, .ro⟩]⟩ /- CAL_T_STALE -/,
  ⟨0x0F00218, 1, 0x8, 1, 0x8, true, 0xFFF#64, [⟨0, 64, .ro⟩]⟩ /- CAL_T_STALE -/,
  ⟨0x0F00258, 1, 0x8, 1, 0x8, true, 0x1#64, [⟨0, 64, .ro⟩]⟩ /- CAL_T_STALE -/,
  ⟨0x0F00060, 9, 0x40, 1, 0x40, true, 0x0#64, [⟨0, 64, .ro⟩]⟩ /- CAL_T_MANUAL -/,
  ⟨0x0F00068, 9, 0x40, 1, 0x40, false, 0x0#64, [⟨0, 32, .clr⟩]⟩ /- CAL_T_REJECT_CNT -/,
  ⟨0x0F0006C, 9, 0x40, 1, 0x40, false, 0x0#64, [⟨0, 8, .ro⟩, ⟨8, 6, .ro⟩, ⟨16, 4, .ro⟩, ⟨20, 1, .ro⟩]⟩ /- CAL_T_STAT -/,
  ⟨0x0F00400, 1, 0x8, 1, 0x8, false, 0x1#64, [⟨0, 4, .rw⟩, ⟨8, 6, .rw⟩]⟩ /- CAL_SEL -/,
  ⟨0x0F00408, 1, 0x8, 1, 0x8, false, 0x0#64, [⟨0, 32, .ro⟩]⟩ /- CAL_INST_COUNT -/,
  ⟨0x0F00410, 1, 0x8, 1, 0x8, true, 0x0#64, [⟨0, 64, .ro⟩]⟩ /- CAL_INST_LAST_OK -/,
  ⟨0x0F00418, 1, 0x8, 1, 0x8, false, 0x0#64, [⟨0, 32, .ro⟩]⟩ /- CAL_INST_ERR -/,
  ⟨0x0F0041C, 1, 0x8, 1, 0x8, false, 0x0#64, [⟨0, 8, .ro⟩, ⟨8, 8, .ro⟩, ⟨16, 1, .ro⟩, ⟨17, 1, .ro⟩]⟩ /- CAL_INST_VALUE -/]

def calRows : List RegRow := calRows0

def nvmRows0 : List RegRow := [
  ⟨0x1000000, 1, 0x8, 1, 0x8, false, 0x0#64, [⟨0, 4, .wo⟩, ⟨8, 4, .wo⟩]⟩ /- NVM_CMD -/,
  ⟨0x1000004, 1, 0x8, 1, 0x8, false, 0x0#64, [⟨0, 1, .ro⟩, ⟨1, 1, .ro⟩, ⟨2, 1, .ro⟩, ⟨3, 1, .ro⟩, ⟨8, 8, .ro⟩]⟩ /- NVM_STAT -/,
  ⟨0x1000008, 1, 0x8, 1, 0x8, true, 0x0#64, [⟨0, 64, .rw⟩]⟩ /- NVM_ADDR -/,
  ⟨0x1000010, 1, 0x8, 1, 0x8, true, 0x0#64, [⟨0, 64, .rw⟩]⟩ /- NVM_LEN -/,
  ⟨0x1000018, 1, 0x8, 1, 0x8, true, 0x0#64, [⟨0, 64, .ro⟩]⟩ /- NVM_DONE -/,
  ⟨0x1000020, 1, 0x8, 1, 0x8, true, 0x0#64, [⟨0, 64, .ro⟩]⟩ /- NVM_SEQ -/,
  ⟨0x1000028, 1, 0x8, 1, 0x8, true, 0x0#64, [⟨0, 64, .rw⟩]⟩ /- NVM_LOG_SEQ -/,
  ⟨0x1000030, 1, 0x8, 1, 0x8, true, 0x0#64, [⟨0, 64, .ro⟩]⟩ /- NVM_LOG_FIRST -/,
  ⟨0x1000038, 1, 0x8, 1, 0x8, true, 0x0#64, [⟨0, 64, .ro⟩]⟩ /- NVM_LOG_NEXT -/,
  ⟨0x1000040, 1, 0x8, 1, 0x8, false, 0x0#64, [⟨0, 32, .ro⟩]⟩ /- NVM_WR_ABORT -/,
  ⟨0x1000044, 1, 0x8, 1, 0x8, false, 0x0#64, [⟨0, 32, .ro⟩]⟩ /- NVM_WR_ABORT_LIFE -/,
  ⟨0x1000048, 1, 0x8, 1, 0x8, false, 0x0#64, [⟨0, 32, .ro⟩]⟩ /- NVM_SLOT_STAT -/,
  ⟨0x1000050, 1, 0x8, 1, 0x8, false, Config.keyHash0 0, [⟨0, 32, .ro⟩]⟩ /- NVM_KEYHASH0 -/,
  ⟨0x1000054, 1, 0x8, 1, 0x8, false, Config.keyHash0 1, [⟨0, 32, .ro⟩]⟩ /- NVM_KEYHASH0 -/,
  ⟨0x1000058, 1, 0x8, 1, 0x8, false, Config.keyHash0 2, [⟨0, 32, .ro⟩]⟩ /- NVM_KEYHASH0 -/,
  ⟨0x100005C, 1, 0x8, 1, 0x8, false, Config.keyHash0 3, [⟨0, 32, .ro⟩]⟩ /- NVM_KEYHASH0 -/,
  ⟨0x1000060, 1, 0x8, 1, 0x8, false, Config.keyHash0 4, [⟨0, 32, .ro⟩]⟩ /- NVM_KEYHASH0 -/,
  ⟨0x1000064, 1, 0x8, 1, 0x8, false, Config.keyHash0 5, [⟨0, 32, .ro⟩]⟩ /- NVM_KEYHASH0 -/,
  ⟨0x1000068, 1, 0x8, 1, 0x8, false, Config.keyHash0 6, [⟨0, 32, .ro⟩]⟩ /- NVM_KEYHASH0 -/,
  ⟨0x100006C, 1, 0x8, 1, 0x8, false, Config.keyHash0 7, [⟨0, 32, .ro⟩]⟩ /- NVM_KEYHASH0 -/,
  ⟨0x1000070, 1, 0x8, 1, 0x8, false, Config.keyHash0 8, [⟨0, 32, .ro⟩]⟩ /- NVM_KEYHASH0 -/,
  ⟨0x1000074, 1, 0x8, 1, 0x8, false, Config.keyHash0 9, [⟨0, 32, .ro⟩]⟩ /- NVM_KEYHASH0 -/,
  ⟨0x1000078, 1, 0x8, 1, 0x8, false, Config.keyHash0 10, [⟨0, 32, .ro⟩]⟩ /- NVM_KEYHASH0 -/,
  ⟨0x100007C, 1, 0x8, 1, 0x8, false, Config.keyHash0 11, [⟨0, 32, .ro⟩]⟩ /- NVM_KEYHASH0 -/,
  ⟨0x1000080, 1, 0x8, 1, 0x8, false, Config.keyHash1 0, [⟨0, 32, .ro⟩]⟩ /- NVM_KEYHASH1 -/,
  ⟨0x1000084, 1, 0x8, 1, 0x8, false, Config.keyHash1 1, [⟨0, 32, .ro⟩]⟩ /- NVM_KEYHASH1 -/,
  ⟨0x1000088, 1, 0x8, 1, 0x8, false, Config.keyHash1 2, [⟨0, 32, .ro⟩]⟩ /- NVM_KEYHASH1 -/,
  ⟨0x100008C, 1, 0x8, 1, 0x8, false, Config.keyHash1 3, [⟨0, 32, .ro⟩]⟩ /- NVM_KEYHASH1 -/,
  ⟨0x1000090, 1, 0x8, 1, 0x8, false, Config.keyHash1 4, [⟨0, 32, .ro⟩]⟩ /- NVM_KEYHASH1 -/,
  ⟨0x1000094, 1, 0x8, 1, 0x8, false, Config.keyHash1 5, [⟨0, 32, .ro⟩]⟩ /- NVM_KEYHASH1 -/]

def nvmRows1 : List RegRow := [
  ⟨0x1000098, 1, 0x8, 1, 0x8, false, Config.keyHash1 6, [⟨0, 32, .ro⟩]⟩ /- NVM_KEYHASH1 -/,
  ⟨0x100009C, 1, 0x8, 1, 0x8, false, Config.keyHash1 7, [⟨0, 32, .ro⟩]⟩ /- NVM_KEYHASH1 -/,
  ⟨0x10000A0, 1, 0x8, 1, 0x8, false, Config.keyHash1 8, [⟨0, 32, .ro⟩]⟩ /- NVM_KEYHASH1 -/,
  ⟨0x10000A4, 1, 0x8, 1, 0x8, false, Config.keyHash1 9, [⟨0, 32, .ro⟩]⟩ /- NVM_KEYHASH1 -/,
  ⟨0x10000A8, 1, 0x8, 1, 0x8, false, Config.keyHash1 10, [⟨0, 32, .ro⟩]⟩ /- NVM_KEYHASH1 -/,
  ⟨0x10000AC, 1, 0x8, 1, 0x8, false, Config.keyHash1 11, [⟨0, 32, .ro⟩]⟩ /- NVM_KEYHASH1 -/,
  ⟨0x10000B0, 1, 0x8, 1, 0x8, false, Config.fuseWord, [⟨0, 1, .ro⟩]⟩ /- NVM_FUSE -/,
  ⟨0x10000B4, 1, 0x8, 1, 0x8, false, Config.svnMinFused, [⟨0, 32, .ro⟩]⟩ /- NVM_SVN_MIN -/]

def nvmRows : List RegRow := nvmRows0 ++ nvmRows1

def dbgRows0 : List RegRow := [
  ⟨0x1100000, 1, 0x8, 1, 0x8, false, 0x0#64, [⟨0, 1, .w1s⟩]⟩ /- DBG_CTL -/,
  ⟨0x1100004, 1, 0x8, 1, 0x8, false, 0x0#64, [⟨0, 32, .wo⟩]⟩ /- DBG_RST_CMD -/,
  ⟨0x1100008, 1, 0x8, 1, 0x8, false, 0x1#64, [⟨0, 4, .ro⟩]⟩ /- DBG_RST_CAUSE -/,
  ⟨0x110000C, 1, 0x8, 1, 0x8, false, 0x0#64, [⟨0, 32, .ro⟩]⟩ /- DBG_RST_CNT -/,
  ⟨0x1100010, 1, 0x8, 1, 0x8, false, 0x0#64, [⟨0, 3, .ro⟩, ⟨3, 1, .ro⟩, ⟨4, 1, .ro⟩, ⟨5, 1, .ro⟩, ⟨8, 4, .ro⟩, ⟨12, 4, .ro⟩]⟩ /- DBG_BOOT_STAT -/,
  ⟨0x1100018, 1, 0x8, 1, 0x8, true, 0x0#64, [⟨0, 64, .ro⟩]⟩ /- DBG_BOOT_SEQ -/,
  ⟨0x1100020, 1, 0x8, 1, 0x8, false, 0x0#64, [⟨0, 32, .ro⟩]⟩ /- DBG_BOOT_TIME -/,
  ⟨0x1100024, 1, 0x8, 1, 0x8, false, 0x0#64, [⟨0, 32, .ro⟩]⟩ /- DBG_VIO_STAT -/,
  ⟨0x1100028, 1, 0x8, 1, 0x8, false, 0x0#64, [⟨0, 1, .ro⟩, ⟨8, 24, .ro⟩]⟩ /- DBG_REFCLK -/,
  ⟨0x110002C, 1, 0x8, 1, 0x8, false, Config.jtagId, [⟨0, 32, .ro⟩]⟩ /- DBG_JTAG_ID -/,
  ⟨0x1100030, 1, 0x8, 1, 0x8, false, 0x0#64, [⟨0, 8, .rw⟩, ⟨8, 8, .rw⟩]⟩ /- DBG_TM_A -/,
  ⟨0x1100034, 1, 0x8, 1, 0x8, false, 0x0#64, [⟨0, 6, .rw⟩, ⟨8, 6, .rw⟩, ⟨16, 6, .rw⟩, ⟨24, 6, .rw⟩]⟩ /- DBG_TM_D0 -/,
  ⟨0x1100038, 1, 0x8, 1, 0x8, false, 0x0#64, [⟨0, 6, .rw⟩, ⟨8, 6, .rw⟩, ⟨16, 6, .rw⟩, ⟨24, 6, .rw⟩]⟩ /- DBG_TM_D1 -/,
  ⟨0x110003C, 1, 0x8, 1, 0x8, false, 0x0#64, [⟨0, 5, .rw⟩, ⟨8, 4, .rw⟩]⟩ /- DBG_TM_IDX -/,
  ⟨0x1100040, 1, 0x8, 1, 0x8, false, 0x0#64, [⟨0, 1, .wo⟩]⟩ /- DBG_RCV_CMD -/,
  ⟨0x1100048, 1, 0x8, 1, 0x8, true, 0x0#64, [⟨0, 64, .rw⟩]⟩ /- DBG_RCV_LEN -/,
  ⟨0x1100050, 1, 0x8, 1, 0x8, false, 0x0#64, [⟨0, 8, .ro⟩, ⟨8, 4, .ro⟩, ⟨12, 1, .ro⟩]⟩ /- DBG_RCV_STAT -/,
  ⟨0x1101000, 128, 0x4, 1, 0x4, false, 0x0#64, [⟨0, 32, .rw⟩]⟩ /- DBG_RCV_HDR -/]

def dbgRows : List RegRow := dbgRows0

def dbRows0 : List RegRow := [
  ⟨0x2000000, 4096, 0x1000, 1, 0x1000, false, 0#64, [⟨0, 32, .wo⟩]⟩ /- QUE_DB -/,
  ⟨0x2000008, 4096, 0x1000, 1, 0x1000, false, 0#64, [⟨0, 32, .wo⟩]⟩ /- QUE_ABORT -/,
  ⟨0x200000C, 4096, 0x1000, 1, 0x1000, false, 0#64, [⟨0, 32, .ro⟩]⟩ /- QUE_ABORT_STAT -/]

def dbRows : List RegRow := dbRows0

/-- The rows of the block that holds a BAR0 offset (R40); reserved ranges hold none. -/
def rowsOf (off : Nat) : List RegRow :=
  match off / 0x100000 with
  | 0 => glbRows
  | 1 => phsRows
  | 2 => seqRows
  | 3 => pixRows
  | 4 => ldrRows
  | 5 => ctlRows
  | 6 => engRows
  | 7 => engRows
  | 8 => memRows
  | 9 => mmuRows
  | 10 => queRows
  | 11 => cmpRows
  | 12 => lnkRows
  | 13 => casRows
  | 14 => hkpRows
  | 15 => calRows
  | 16 => nvmRows
  | 17 => dbgRows
  | n => if 32 ≤ n ∧ n < 48 then dbRows else []

/-- Does a row hold the register at this offset? -/
def RegRow.holds (r : RegRow) (off : Nat) : Bool :=
  decide (r.base ≤ off) &&
    (let d := off - r.base
     decide (d / r.s1 < r.n1) && decide (d % r.s1 / r.s2 < r.n2) && decide (d % r.s1 % r.s2 = 0))

/-- The row of the register at an offset, if there is one. -/
def rowAt (off : Nat) : Option RegRow := (rowsOf off).find? (fun r => r.holds off)

/-- The SH registers have a read-only twin of their value in effect, 0x800 above them (R202). -/
def twin (r : Nat) : Nat := r + 0x800

/-- Is the register at an offset an SH register? -/
def isSh (off : Nat) : Bool :=
  match rowAt off with
  | some r => r.fields.any (fun f => f.acc == .sh)
  | none => false

/-- Is the offset that of the twin of an SH register (R202)? -/
def isTwin (off : Nat) : Bool := decide (off / 0x100000 = 3) && decide (0x800 ≤ off) && (rowAt off).isNone && isSh (off - 0x800)

/-- The reset value of the register at an offset; a twin has its register's (R202), and an offset with no register reads 0 (R40). -/
def resetOf (off : Nat) : BitVec 64 :=
  match rowAt off with
  | some r => r.reset
  | none => if isTwin off then (match rowAt (off - 0x800) with | some r => r.reset | none => 0#64) else 0#64

end Sys2Proof.Machine
end

