-- ==== Sys2Proof/Syntax.lean ====
section
/-! DEFINITION. Syntax.lean: the commands of the block, one constructor for each row of the opcode table, the instructions of the
bobbins first. An operand `dt` is the number of nanoseconds that pass before the command; an operand that a sensor, a land, a partner or the host
supplies is named for what it carries. -/

namespace Sys2Proof

/-- An update point of a string (R229): a latch of a port, or a period of a free-running string. -/
inductive UpdPoint where
  | port (p : Fin 4)
  | string (n : Fin 24)
deriving DecidableEq, Repr


/-- An adaptive parameter (R41): a string's scale or band, an equaliser parameter of a lane, the idle time before self-refresh. -/
inductive AdaptPar where
  | scale (n : Fin 24)
  | hyst (n : Fin 24)
  | eq (n : Fin 48) (k : Fin 5)
  | srIdle
deriving DecidableEq, Repr

/-- The commands of the block. -/
inductive Instr where
  /-- ILLEGAL_INSTRUCTION (R311): An illegal encoding faults the thread with cause ILLEGAL. -/
  | illegalInstruction (b : Fin 128) (t : Fin 4) (w : BitVec 32) (finding : Fin 5) (off : BitVec 17)
  /-- ADD (R313): g_d = a + b. -/
  | wAdd (b : Fin 128) (t : Fin 4) (d a c : Fin 64)
  /-- SUB (R313): g_d = a − b. -/
  | wSub (b : Fin 128) (t : Fin 4) (d a c : Fin 64)
  /-- AND (R313): g_d = a & b. -/
  | wAnd (b : Fin 128) (t : Fin 4) (d a c : Fin 64)
  /-- OR (R313): g_d = a | b. -/
  | wOr (b : Fin 128) (t : Fin 4) (d a c : Fin 64)
  /-- XOR (R313): g_d = a ^ b. -/
  | wXor (b : Fin 128) (t : Fin 4) (d a c : Fin 64)
  /-- ANDN (R313): g_d = a & ~b. -/
  | wAndn (b : Fin 128) (t : Fin 4) (d a c : Fin 64)
  /-- SHL (R313): Shift left by b mod 64. -/
  | wShl (b : Fin 128) (t : Fin 4) (d a c : Fin 64)
  /-- SHR (R313): Logical shift right. -/
  | wShr (b : Fin 128) (t : Fin 4) (d a c : Fin 64)
  /-- SAR (R313): Arithmetic shift right. -/
  | wSar (b : Fin 128) (t : Fin 4) (d a c : Fin 64)
  /-- ROR (R313): Rotate right. -/
  | wRor (b : Fin 128) (t : Fin 4) (d a c : Fin 64)
  /-- MIN (R313): Signed minimum. -/
  | wMin (b : Fin 128) (t : Fin 4) (d a c : Fin 64)
  /-- MAX (R313): Signed maximum. -/
  | wMax (b : Fin 128) (t : Fin 4) (d a c : Fin 64)
  /-- MINU (R313): Unsigned minimum. -/
  | wMinu (b : Fin 128) (t : Fin 4) (d a c : Fin 64)
  /-- MAXU (R313): Unsigned maximum. -/
  | wMaxu (b : Fin 128) (t : Fin 4) (d a c : Fin 64)
  /-- CLZ (R313): Count leading zeros. -/
  | wClz (b : Fin 128) (t : Fin 4) (d a : Fin 64)
  /-- POPC (R313): Count set bits. -/
  | wPopc (b : Fin 128) (t : Fin 4) (d a : Fin 64)
  /-- BREV (R313): Reverse the 64 bits. -/
  | wBrev (b : Fin 128) (t : Fin 4) (d a : Fin 64)
  /-- BSWAP (R313): Reverse the 8 bytes. -/
  | wBswap (b : Fin 128) (t : Fin 4) (d a : Fin 64)
  /-- SELP (R313): Select a or b by predicate p_k. -/
  | wSelp (b : Fin 128) (t : Fin 4) (d a c : Fin 64) (k : Fin 8)
  /-- ADDI (R314): Add a signed immediate. -/
  | wAddi (b : Fin 128) (t : Fin 4) (d a : Fin 64) (i : BitVec 10)
  /-- ANDI (R314): AND with an immediate. -/
  | wAndi (b : Fin 128) (t : Fin 4) (d a : Fin 64) (i : BitVec 10)
  /-- ORI (R314): OR with an immediate. -/
  | wOri (b : Fin 128) (t : Fin 4) (d a : Fin 64) (i : BitVec 10)
  /-- XORI (R314): XOR with an immediate. -/
  | wXori (b : Fin 128) (t : Fin 4) (d a : Fin 64) (i : BitVec 10)
  /-- SHLI (R314): Shift left by an immediate. -/
  | wShli (b : Fin 128) (t : Fin 4) (d a : Fin 64) (i : BitVec 10)
  /-- SHRI (R314): Logical shift right by an immediate. -/
  | wShri (b : Fin 128) (t : Fin 4) (d a : Fin 64) (i : BitVec 10)
  /-- SARI (R314): Arithmetic shift right by an immediate. -/
  | wSari (b : Fin 128) (t : Fin 4) (d a : Fin 64) (i : BitVec 10)
  /-- RORI (R314): Rotate right by an immediate. -/
  | wRori (b : Fin 128) (t : Fin 4) (d a : Fin 64) (i : BitVec 10)
  /-- MINI (R314): Signed minimum with an immediate. -/
  | wMini (b : Fin 128) (t : Fin 4) (d a : Fin 64) (i : BitVec 10)
  /-- MAXI (R314): Signed maximum with an immediate. -/
  | wMaxi (b : Fin 128) (t : Fin 4) (d a : Fin 64) (i : BitVec 10)
  /-- CONST_SET (R315): g_d = imm16 << 16k. -/
  | wConstSet (b : Fin 128) (t : Fin 4) (d : Fin 64) (k : Fin 4) (v : BitVec 16)
  /-- CONST_INS (R315): Insert imm16 into slot k of g_d. -/
  | wConstIns (b : Fin 128) (t : Fin 4) (d : Fin 64) (k : Fin 4) (v : BitVec 16)
  /-- CONST_SETS (R315): Place a sign-extended imm16 at slot k. -/
  | wConstSets (b : Fin 128) (t : Fin 4) (d : Fin 64) (k : Fin 4) (v : BitVec 16)
  /-- MUL (R316): Low 64 bits of a × b. -/
  | wMul (b : Fin 128) (t : Fin 4) (d a c : Fin 64)
  /-- MULH (R316): Signed high 64 bits of a × b. -/
  | wMulh (b : Fin 128) (t : Fin 4) (d a c : Fin 64)
  /-- MULHU (R316): Unsigned high 64 bits of a × b. -/
  | wMulhu (b : Fin 128) (t : Fin 4) (d a c : Fin 64)
  /-- DIV (R316): Signed division; division by zero sets IDZ. -/
  | wDiv (b : Fin 128) (t : Fin 4) (d a c : Fin 64)
  /-- DIVU (R316): Unsigned division. -/
  | wDivu (b : Fin 128) (t : Fin 4) (d a c : Fin 64)
  /-- REM (R316): Signed remainder. -/
  | wRem (b : Fin 128) (t : Fin 4) (d a c : Fin 64)
  /-- REMU (R316): Unsigned remainder. -/
  | wRemu (b : Fin 128) (t : Fin 4) (d a c : Fin 64)
  /-- MULQ (R316): Q32.32 multiply, truncated. -/
  | wMulq (b : Fin 128) (t : Fin 4) (d a c : Fin 64)
  /-- FADD (R317): binary32 a + b. -/
  | wFadd (b : Fin 128) (t : Fin 4) (d a c : Fin 64)
  /-- FSUB (R317): binary32 a − b. -/
  | wFsub (b : Fin 128) (t : Fin 4) (d a c : Fin 64)
  /-- FMUL (R317): binary32 a × b. -/
  | wFmul (b : Fin 128) (t : Fin 4) (d a c : Fin 64)
  /-- FDIV (R317): binary32 a / b. -/
  | wFdiv (b : Fin 128) (t : Fin 4) (d a c : Fin 64)
  /-- FSQRT (R317): binary32 square root. -/
  | wFsqrt (b : Fin 128) (t : Fin 4) (d a : Fin 64)
  /-- FMA (R317): binary32 fused d + a × b. -/
  | wFma (b : Fin 128) (t : Fin 4) (d a c : Fin 64)
  /-- FMIN (R317): binary32 minimum. -/
  | wFmin (b : Fin 128) (t : Fin 4) (d a c : Fin 64)
  /-- FMAX (R317): binary32 maximum. -/
  | wFmax (b : Fin 128) (t : Fin 4) (d a c : Fin 64)
  /-- FABS (R317): binary32 absolute value. -/
  | wFabs (b : Fin 128) (t : Fin 4) (d a : Fin 64)
  /-- FNEG (R317): binary32 negation. -/
  | wFneg (b : Fin 128) (t : Fin 4) (d a : Fin 64)
  /-- FCVTFI (R317): Signed integer to binary32. -/
  | wFcvtfi (b : Fin 128) (t : Fin 4) (d a : Fin 64)
  /-- FCVTIF (R317): binary32 to signed integer, saturating. -/
  | wFcvtif (b : Fin 128) (t : Fin 4) (d a : Fin 64)
  /-- FCVTFQ (R317): Q32.32 to binary32. -/
  | wFcvtfq (b : Fin 128) (t : Fin 4) (d a : Fin 64)
  /-- FCVTQF (R317): binary32 to Q32.32. -/
  | wFcvtqf (b : Fin 128) (t : Fin 4) (d a : Fin 64)
  /-- EQ (R318): p_d = a = b. -/
  | wEq (b : Fin 128) (t : Fin 4) (d : Fin 8) (a c : Fin 64)
  /-- NE (R318): p_d = a ≠ b. -/
  | wNe (b : Fin 128) (t : Fin 4) (d : Fin 8) (a c : Fin 64)
  /-- LT (R318): Signed less than. -/
  | wLt (b : Fin 128) (t : Fin 4) (d : Fin 8) (a c : Fin 64)
  /-- GE (R318): Signed greater or equal. -/
  | wGe (b : Fin 128) (t : Fin 4) (d : Fin 8) (a c : Fin 64)
  /-- LTU (R318): Unsigned less than. -/
  | wLtu (b : Fin 128) (t : Fin 4) (d : Fin 8) (a c : Fin 64)
  /-- GEU (R318): Unsigned greater or equal. -/
  | wGeu (b : Fin 128) (t : Fin 4) (d : Fin 8) (a c : Fin 64)
  /-- FEQ (R318): binary32 equal. -/
  | wFeq (b : Fin 128) (t : Fin 4) (d : Fin 8) (a c : Fin 64)
  /-- FLT (R318): binary32 less than. -/
  | wFlt (b : Fin 128) (t : Fin 4) (d : Fin 8) (a c : Fin 64)
  /-- FLE (R318): binary32 less or equal. -/
  | wFle (b : Fin 128) (t : Fin 4) (d : Fin 8) (a c : Fin 64)
  /-- PAND (R318): Predicate AND. -/
  | wPand (b : Fin 128) (t : Fin 4) (d a c : Fin 8)
  /-- POR (R318): Predicate OR. -/
  | wPor (b : Fin 128) (t : Fin 4) (d a c : Fin 8)
  /-- PXOR (R318): Predicate XOR. -/
  | wPxor (b : Fin 128) (t : Fin 4) (d a c : Fin 8)
  /-- PNOT (R318): Predicate NOT. -/
  | wPnot (b : Fin 128) (t : Fin 4) (d a : Fin 8)
  /-- B (R319): Conditional PC-relative branch. -/
  | wB (b : Fin 128) (t : Fin 4) (k : Fin 8) (n : Bool) (o : BitVec 22)
  /-- CALL (R319): Branch and link in g63. -/
  | wCall (b : Fin 128) (t : Fin 4) (k : Fin 8) (n : Bool) (o : BitVec 22)
  /-- JR (R319): Jump to g_a. -/
  | wJr (b : Fin 128) (t : Fin 4) (k : Fin 8) (n : Bool) (a : Fin 64)
  /-- JALR (R319): Jump to g_a and link. -/
  | wJalr (b : Fin 128) (t : Fin 4) (k : Fin 8) (n : Bool) (a : Fin 64)
  /-- LB (R320): Load a sign-extended byte. -/
  | wLb (b : Fin 128) (t : Fin 4) (d a : Fin 64) (o : BitVec 12) (x : Fin 5)
  /-- LBU (R320): Load a zero-extended byte. -/
  | wLbu (b : Fin 128) (t : Fin 4) (d a : Fin 64) (o : BitVec 12) (x : Fin 5)
  /-- LH (R320): Load a sign-extended 16 bits. -/
  | wLh (b : Fin 128) (t : Fin 4) (d a : Fin 64) (o : BitVec 12) (x : Fin 5)
  /-- LHU (R320): Load a zero-extended 16 bits. -/
  | wLhu (b : Fin 128) (t : Fin 4) (d a : Fin 64) (o : BitVec 12) (x : Fin 5)
  /-- LW (R320): Load a sign-extended 32 bits. -/
  | wLw (b : Fin 128) (t : Fin 4) (d a : Fin 64) (o : BitVec 12) (x : Fin 5)
  /-- LWU (R320): Load a zero-extended 32 bits. -/
  | wLwu (b : Fin 128) (t : Fin 4) (d a : Fin 64) (o : BitVec 12) (x : Fin 5)
  /-- LD (R320): Load 64 bits. -/
  | wLd (b : Fin 128) (t : Fin 4) (d a : Fin 64) (o : BitVec 12) (x : Fin 5)
  /-- LDA (R320): Load 64 bits with acquire. -/
  | wLda (b : Fin 128) (t : Fin 4) (d a : Fin 64) (o : BitVec 12) (x : Fin 5)
  /-- LWA (R320): Load 32 bits with acquire. -/
  | wLwa (b : Fin 128) (t : Fin 4) (d a : Fin 64) (o : BitVec 12) (x : Fin 5)
  /-- SB (R320): Store 8 bits. -/
  | wSb (b : Fin 128) (t : Fin 4) (d a : Fin 64) (o : BitVec 12)
  /-- SH (R320): Store 16 bits. -/
  | wSh (b : Fin 128) (t : Fin 4) (d a : Fin 64) (o : BitVec 12)
  /-- SW (R320): Store 32 bits. -/
  | wSw (b : Fin 128) (t : Fin 4) (d a : Fin 64) (o : BitVec 12)
  /-- SD (R320): Store 64 bits. -/
  | wSd (b : Fin 128) (t : Fin 4) (d a : Fin 64) (o : BitVec 12)
  /-- SWR (R320): Store 32 bits with release. -/
  | wSwr (b : Fin 128) (t : Fin 4) (d a : Fin 64) (o : BitVec 12)
  /-- SDR (R320): Store 64 bits with release. -/
  | wSdr (b : Fin 128) (t : Fin 4) (d a : Fin 64) (o : BitVec 12)
  /-- SWAP (R321): Atomic swap at memory. -/
  | wSwap (b : Fin 128) (t : Fin 4) (d a c : Fin 64) (x : Fin 5)
  /-- AADD (R321): Atomic 64-bit add. -/
  | wAadd (b : Fin 128) (t : Fin 4) (d a c : Fin 64) (x : Fin 5)
  /-- AAND (R321): Atomic AND. -/
  | wAand (b : Fin 128) (t : Fin 4) (d a c : Fin 64) (x : Fin 5)
  /-- AOR (R321): Atomic OR. -/
  | wAor (b : Fin 128) (t : Fin 4) (d a c : Fin 64) (x : Fin 5)
  /-- AMAXU (R321): Atomic unsigned maximum. -/
  | wAmaxu (b : Fin 128) (t : Fin 4) (d a c : Fin 64) (x : Fin 5)
  /-- CAS (R321): Atomic compare-and-swap. -/
  | wCas (b : Fin 128) (t : Fin 4) (d a c : Fin 64) (x : Fin 5)
  /-- AADDW (R321): Atomic 32-bit add. -/
  | wAaddw (b : Fin 128) (t : Fin 4) (d a c : Fin 64) (x : Fin 5)
  /-- CASW (R321): Atomic 32-bit compare-and-swap. -/
  | wCasw (b : Fin 128) (t : Fin 4) (d a c : Fin 64) (x : Fin 5)
  /-- FENCE_R (R321): Later loads wait for earlier loads. -/
  | wFenceR (b : Fin 128) (t : Fin 4)
  /-- FENCE_W (R321): Later stores wait for earlier stores. -/
  | wFenceW (b : Fin 128) (t : Fin 4)
  /-- FENCE_RW (R321): Full load and store fence. -/
  | wFenceRw (b : Fin 128) (t : Fin 4)
  /-- FENCE_IO (R321): Wait for I/O-window writes to reach their blocks. -/
  | wFenceIo (b : Fin 128) (t : Fin 4)
  /-- FENCE_I (R321): Invalidate the instruction cache. -/
  | wFenceI (b : Fin 128) (t : Fin 4)
  /-- VADD (R322): Vector add. -/
  | wVadd (b : Fin 128) (t : Fin 4) (w : Fin 4) (d a c : Fin 16)
  /-- VSUB (R322): Vector subtract. -/
  | wVsub (b : Fin 128) (t : Fin 4) (w : Fin 4) (d a c : Fin 16)
  /-- VAND (R322): Vector AND. -/
  | wVand (b : Fin 128) (t : Fin 4) (w : Fin 4) (d a c : Fin 16)
  /-- VOR (R322): Vector OR. -/
  | wVor (b : Fin 128) (t : Fin 4) (w : Fin 4) (d a c : Fin 16)
  /-- VXOR (R322): Vector XOR. -/
  | wVxor (b : Fin 128) (t : Fin 4) (w : Fin 4) (d a c : Fin 16)
  /-- VMINU (R322): Vector unsigned minimum. -/
  | wVminu (b : Fin 128) (t : Fin 4) (w : Fin 4) (d a c : Fin 16)
  /-- VMAXU (R322): Vector unsigned maximum. -/
  | wVmaxu (b : Fin 128) (t : Fin 4) (w : Fin 4) (d a c : Fin 16)
  /-- VMIN (R322): Vector signed minimum. -/
  | wVmin (b : Fin 128) (t : Fin 4) (w : Fin 4) (d a c : Fin 16)
  /-- VMAX (R322): Vector signed maximum. -/
  | wVmax (b : Fin 128) (t : Fin 4) (w : Fin 4) (d a c : Fin 16)
  /-- VMUL (R322): Vector multiply, low half. -/
  | wVmul (b : Fin 128) (t : Fin 4) (w : Fin 3) (d a c : Fin 16)
  /-- VSHL (R322): Vector shift left. -/
  | wVshl (b : Fin 128) (t : Fin 4) (w : Fin 4) (d a c : Fin 16)
  /-- VSHR (R322): Vector logical shift right. -/
  | wVshr (b : Fin 128) (t : Fin 4) (w : Fin 4) (d a c : Fin 16)
  /-- VADDUS (R322): Vector unsigned saturating add. -/
  | wVaddus (b : Fin 128) (t : Fin 4) (w : Fin 2) (d a c : Fin 16)
  /-- VCMPEQ (R322): Vector compare equal. -/
  | wVcmpeq (b : Fin 128) (t : Fin 4) (w : Fin 4) (d a c : Fin 16)
  /-- VCMPLT (R322): Vector compare signed less than. -/
  | wVcmplt (b : Fin 128) (t : Fin 4) (w : Fin 4) (d a c : Fin 16)
  /-- VSEL (R322): Vector select by d. -/
  | wVsel (b : Fin 128) (t : Fin 4) (w : Fin 4) (d a c : Fin 16)
  /-- VFADD (R322): Vector binary32 add. -/
  | wVfadd (b : Fin 128) (t : Fin 4) (d a c : Fin 16)
  /-- VFMUL (R322): Vector binary32 multiply. -/
  | wVfmul (b : Fin 128) (t : Fin 4) (d a c : Fin 16)
  /-- VFMA (R322): Vector binary32 fused multiply-add. -/
  | wVfma (b : Fin 128) (t : Fin 4) (d a c : Fin 16)
  /-- VSPLAT (R322): Broadcast g_a to every element. -/
  | wVsplat (b : Fin 128) (t : Fin 4) (w : Fin 4) (d : Fin 16) (a : Fin 64)
  /-- VEXT (R322): Extract an element to g_d. -/
  | wVext (b : Fin 128) (t : Fin 4) (w : Fin 4) (d : Fin 64) (a : Fin 16) (k : Fin 32)
  /-- VINS (R322): Insert g_a into an element. -/
  | wVins (b : Fin 128) (t : Fin 4) (w : Fin 4) (d : Fin 16) (a : Fin 64) (k : Fin 32)
  /-- VREDADD (R322): Sum the elements into g_d. -/
  | wVredadd (b : Fin 128) (t : Fin 4) (w : Fin 4) (d : Fin 64) (a : Fin 16)
  /-- VPERM (R322): Byte permute. -/
  | wVperm (b : Fin 128) (t : Fin 4) (d a c : Fin 16)
  /-- VTRANS (R322): Transpose a 16 × 16 bit matrix. -/
  | wVtrans (b : Fin 128) (t : Fin 4) (d a : Fin 16)
  /-- VLD (R323): Load 32 B into a vector register. -/
  | wVld (b : Fin 128) (t : Fin 4) (v : Fin 16) (a : Fin 64) (o : BitVec 12) (x : Fin 5)
  /-- VST (R323): Store a vector register. -/
  | wVst (b : Fin 128) (t : Fin 4) (v : Fin 16) (a : Fin 64) (o : BitVec 12)
  /-- MOVE (R324): Start an asynchronous copy on the pillow's move engine. -/
  | wMove (b : Fin 128) (t : Fin 4) (l a e : Fin 64)
  /-- MOVE_DONE (R324): A move ends, freeing a slot and releasing MWAIT. -/
  | moveDone (b : Fin 128) (t : Fin 4) (k : Fin 8) (dt : Nat)
  /-- MWAIT (R323): Wait until all of the thread's moves have ended. -/
  | wMwait (b : Fin 128) (t : Fin 4) (d : Fin 64)
  /-- QPOP (R325): Claim the oldest unclaimed entry of a submission queue. -/
  | wQpop (b : Fin 128) (t : Fin 4) (d a : Fin 64)
  /-- QWAIT (R325): Claim an entry, waiting until one is available. -/
  | wQwait (b : Fin 128) (t : Fin 4) (d a : Fin 64)
  /-- QWAIT_WAKE (R325): An entry becomes available and a waiting QWAIT claims it. -/
  | qwaitWake (b : Fin 128) (t : Fin 4)
  /-- QPROG (R325): Record an entry's resume offset. -/
  | wQprog (b : Fin 128) (t : Fin 4) (_d a c : Fin 64)
  /-- QDONE (R327): Complete an entry, the queue manager settling the race with an abort. -/
  | wQdone (b : Fin 128) (t : Fin 4) (d a c : Fin 64)
  /-- QCHK (R325): Return whether an abort was requested for an entry. -/
  | wQchk (b : Fin 128) (t : Fin 4) (d a : Fin 64)
  /-- QPUSH (R325): Append an entry and ring the queue's doorbell. -/
  | wQpush (b : Fin 128) (t : Fin 4) (d a c : Fin 64)
  /-- QEVENT (R325): Write an event record to an event ring. -/
  | wQevent (b : Fin 128) (t : Fin 4) (d a c : Fin 64)
  /-- PHREAD (R328): Read a timebase's phase. -/
  | wPhread (b : Fin 128) (t : Fin 4) (d a : Fin 64)
  /-- PHWAIT (R329): Wait until a timebase reaches a phase. -/
  | wPhwait (b : Fin 128) (t : Fin 4) (d a c : Fin 64)
  /-- PHWAIT_WAKE (R329): The phase reaches the target and the thread returns to RUN. -/
  | phwaitWake (b : Fin 128) (t : Fin 4) (lag : Fin 101)
  /-- PINPOST (R330): Post a one-shot pin to a timebase. -/
  | wPinpost (b : Fin 128) (t : Fin 4) (_d a c : Fin 64)
  /-- SHOWTIME (R328): Read show time. -/
  | wShowtime (b : Fin 128) (t : Fin 4) (d : Fin 64)
  /-- WAITEV (R328): Wait for the thread's mailbox. -/
  | wWaitev (b : Fin 128) (t : Fin 4) (d c : Fin 64)
  /-- WAITEV_TIMEOUT (R328): A WAITEV reaches its timeout with no delivery. -/
  | waitevTimeout (b : Fin 128) (t : Fin 4)
  /-- SIGNAL (R331): Deliver a value to a thread's mailbox. -/
  | wSignal (b : Fin 128) (t : Fin 4) (_d a c : Fin 64)
  /-- BARRIER (R332): Arrive at a pillow barrier, releasing all waiting threads when the count is reached. -/
  | wBarrier (b : Fin 128) (t : Fin 4) (_d a c : Fin 64)
  /-- CSRR (R333): Read a control register. -/
  | wCsrr (b : Fin 128) (t : Fin 4) (d : Fin 64) (n : Fin 11)
  /-- CSRW (R333): Write a control register. -/
  | wCsrw (b : Fin 128) (t : Fin 4) (d a : Fin 64) (n : Fin 11)
  /-- CSRS (R333): Set bits in a control register. -/
  | wCsrs (b : Fin 128) (t : Fin 4) (d a : Fin 64) (n : Fin 11)
  /-- CSRC (R333): Clear bits in a control register. -/
  | wCsrc (b : Fin 128) (t : Fin 4) (d a : Fin 64) (n : Fin 11)
  /-- YIELD (R333): Give up issue until each equal-priority thread has issued. -/
  | wYield (b : Fin 128) (t : Fin 4)
  /-- HALT (R333): The thread enters HALT. -/
  | wHalt (b : Fin 128) (t : Fin 4)
  /-- TRAP (R333): The thread enters FAULT with cause TRAP. -/
  | wTrap (b : Fin 128) (t : Fin 4) (v : BitVec 12)
  /-- BKPT (R333): Halt before itself when DBG_EN is 1. -/
  | wBkpt (b : Fin 128) (t : Fin 4)
  /-- TSTART (R333): Start another thread of this bobbin. -/
  | wTstart (b : Fin 128) (t : Fin 4) (a c : Fin 64)
  /-- TSTOP (R333): Stop another thread of this bobbin. -/
  | wTstop (b : Fin 128) (t : Fin 4) (a : Fin 64)
  /-- REGISTER_WRITE (R6): A BAR0 write to a register field that has no row of its own, applied by its access code. -/
  | registerWrite (fn : Fin 64) (bar4 : Bool) (off : BitVec 26) (wide : Bool) (v : BitVec 64)
  /-- BAD_WIDTH_ACCESS (R617): A BAR0 access of a width or alignment that is not permitted is dropped, or returns all ones, and is recorded in GLB_BAD_ADDR and GLB_BAD_CNT. -/
  | badWidthAccess (fn : Fin 64) (off : BitVec 26) (size : Fin 8) (write : Bool)
  /-- LOWER_HALF_WRITE (R10): A 32-bit write to the lower half of a 64-bit register is held aside and changes nothing in effect. -/
  | lowerHalfWrite (fn : Fin 64) (off : BitVec 26) (v : BitVec 32)
  /-- UPPER_HALF_WRITE (R10): A 32-bit write to the upper half makes the register take the whole new value. -/
  | upperHalfWrite (fn : Fin 64) (off : BitVec 26) (v : BitVec 32)
  /-- LOWER_HALF_READ (R11): A 32-bit read of the lower half of a 64-bit RO counter latches the upper half for the next read. -/
  | lowerHalfRead (fn : Fin 64) (bar4 : Bool) (off : BitVec 26) (wide : Bool)
  /-- ADAPT_VALUE_WRITE (R42): A software write to an adaptive value register takes effect as written and sets HOLD. -/
  | adaptValueWrite (a : AdaptPar) (v : BitVec 32)
  /-- ADAPT_RELEASE (R41): A write of 1 to _ADP.RELEASE clears HOLD, so adaptation may resume. -/
  | adaptRelease (a : AdaptPar)
  /-- ADAPT_BOUNDS_WRITE (R45): A write to an adaptive parameter's bounds takes effect at the next step and may set BOUNDS_BAD. -/
  | adaptBoundsWrite (a : AdaptPar) (hi : Bool) (v : BitVec 32)
  /-- BINDING_WRITE (R21): A write of a unit's timebase binding is held until the next cycle boundary of the newly named timebase. -/
  | bindingWrite (kind : Fin 5) (i : Fin 48) (tb : Fin 4)
  /-- BINDING_EFFECT (R21): A pending binding change takes effect at a cycle boundary of the new timebase, or when it stops. -/
  | bindingEffect (kind : Fin 5) (i : Fin 48)
  /-- CYCLE_BOUNDARY (R49): A timebase's fraction wraps and its cycle count advances. -/
  | cycleBoundary (n : Fin 4)
  /-- TB_ENABLE (R52): A write of PHS_TBn_CTL.EN = 1 starts an OFF timebase at phase 0, or withdraws a pending stop. -/
  | tbEnable (n : Fin 4)
  /-- TB_DISABLE (R52): A write of EN = 0 makes the timebase's stop pending until its next cycle boundary. -/
  | tbDisable (n : Fin 4)
  /-- TB_STOP (R52): At the boundary after EN was cleared, the timebase stops, becomes OFF and drops its banks. -/
  | tbStop (n : Fin 4)
  /-- INC_BASE_WRITE (R51): A software write to PHS_TBn_INC_BASE is taken, ignored or refused according to the timebase's state, its banks and its source. -/
  | incBaseWrite (n : Fin 4) (v : BitVec 64)
  /-- SRC_WRITE (R70): A write to PHS_TBn_SRC while EN is 1 moves the timebase to ACQUIRE or to FREE. -/
  | srcWrite (n : Fin 4) (v : BitVec 32)
  /-- PHASE0_REFERENCE (R60): A phase-0 reference edge or sample arrives and is judged for acceptance, agreement and correction. -/
  | phase0Reference (n : Fin 4) (dt : Nat) (q : Fin 4) (sample : BitVec 64)
  /-- SUBCYCLE_REFERENCE (R60): A sub-cycle reference arrives and, if it is accepted, updates the correction. -/
  | subcycleReference (n : Fin 4) (dt : Nat) (q : Fin 4) (pos : BitVec 32)
  /-- REFERENCE_MISSED (R60): An expected phase-0 reference, or a beacon interval, passes its window with no accepted reference. -/
  | referenceMissed (n : Fin 4)
  /-- CYCLE_COUNT_SET (R62): At the boundary after the first lock, the cycle count is set to 0 or to the beacon's count. -/
  | cycleCountSet (n : Fin 4)
  /-- CYCLE_STEP (R62): A LOCKED BEACON timebase takes the beacons' differing cycle count at the next boundary. -/
  | cycleStep (n : Fin 4)
  /-- CMD_ALIGN (R69): A write of PHS_TBn_CMD.ALIGN makes an alignment pending, or is refused. -/
  | cmdAlign (n : Fin 4)
  /-- ALIGNMENT (R69): A pending alignment sets the fraction at the next phase-0 reference accepted in SLEWING or LOCKED. -/
  | alignment (n : Fin 4) (dt : Nat) (q : Fin 4)
  /-- ARM_GO (R77): A write of PHS_TBn_ARM with GO = 1 starts validation of a bank, or is refused under R78. -/
  | armGo (n : Fin 4) (v : BitVec 32)
  /-- ARM_VALIDATION_DONE (R77): Validation of a bank ends, passed or failed. -/
  | armValidationDone (n : Fin 4) (dt : Nat)
  /-- CANCEL_ARM (R80): A write of CMD.CANCEL_ARM withdraws a pending arm, or reads NOTHING_TO_ABORT. -/
  | cancelArm (n : Fin 4)
  /-- BANK_SWAP (R79): A validated bank becomes active at its boundary, the old bank loses its guard, and SWAP is written. -/
  | bankSwap (n : Fin 4)
  /-- PIN_READAHEAD (R81): A read of pins from DRAM returns into the timebase's read-ahead buffer. -/
  | pinReadahead (n : Fin 4) (dt : Nat) (coming : Bool) (finding : Fin 5)
  /-- PIN_DISPATCH (R83): PHS dispatches a due pin to its destination ahead of its placed time. -/
  | pinDispatch (n : Fin 4)
  /-- NOP (R73): A NOP pin fires with no effect. -/
  | nop (n : Fin 4)
  /-- BLOCK_LOAD (R142): A BLOCK_LOAD pin fires and streams one load to a facet port. -/
  | blockLoad (n : Fin 4)
  /-- MIRROR_RESET (R154): A MIRROR_RESET pin fires and sends a RESET word to an array. -/
  | mirrorReset (n : Fin 4)
  /-- LEVEL_LO (R231): A LEVEL_LO pin sets the level index of strings 0 to 15. -/
  | levelLo (n : Fin 4)
  /-- LEVEL_HI (R231): A LEVEL_HI pin sets the level index of strings 16 to 23. -/
  | levelHi (n : Fin 4)
  /-- SHUNT (R233): A SHUNT pin opens or closes the shunts of the strings in its mask. -/
  | shunt (n : Fin 4)
  /-- PD_WINDOW (R237): A PD_WINDOW pin opens an integration window on a photodiode input. -/
  | pdWindow (n : Fin 4)
  /-- LOOP_TRIGGER (R285): A LOOP_TRIGGER pin starts a sample of the loop tiles in its mask. -/
  | loopTrigger (n : Fin 4)
  /-- VB_LATCH (R106): A VB_LATCH pin flips a port's plane set and drives the pipe's take and the strings' update points. -/
  | vbLatch (n : Fin 4)
  /-- PARK_AT_LATCH (R159): A pending CMD.PARK sends PARK resets at the latch and starts dropping pins. -/
  | parkAtLatch (p : Fin 4)
  /-- UNPARK_AT_LATCH (R159): A pending CMD.UNPARK ends the park hold at the latch. -/
  | unparkAtLatch (p : Fin 4)
  /-- TRIP_RELEASE (R163): An accepted CLEAR_TRIP releases an array trip at the next latch. -/
  | tripRelease (p : Fin 4)
  /-- CAL_SLOT (R560): A CAL_SLOT pin starts a calibration run of its target. -/
  | calSlot (n : Fin 4) (ok : Bool)
  /-- BEAM_SWEEP (R131): A BEAM_SWEEP pin starts one beam line in the given direction. -/
  | beamSweep (n : Fin 4)
  /-- WAKE (R331): A WAKE pin delivers a value to a thread's mailbox. -/
  | wake (n : Fin 4)
  /-- MARK (R73): A MARK pin fires with only its stamp and event. -/
  | mark (n : Fin 4)
  /-- CW_WRITE (R89): A write to a camera-window register is held until the next boundary of the bound timebase. -/
  | cwWrite (w : Fin 4) (reg : Fin 4) (v : BitVec 32)
  /-- CW_CHANGE_EFFECT (R89): Waiting window changes take effect at a boundary, and the blind gaps are recomputed. -/
  | cwChangeEffect (w : Fin 4)
  /-- SHUTTER_OPEN_EDGE (R91): An open edge at a shutter input is recorded against the window. -/
  | shutterOpenEdge (k : Fin 4) (dt : Nat)
  /-- SHUTTER_CLOSE_EDGE (R91): A close edge completes an open interval, which is assigned to an instance and checked. -/
  | shutterCloseEdge (k : Fin 4) (dt : Nat)
  /-- SET_READY_WRITE (R107): A write of SEQ_Pp_SET_READY marks a set ready for the next latch. -/
  | setReadyWrite (p : Fin 4) (v : BitVec 32)
  /-- PLANE_FETCH_START (R111): SEQ starts fetching a plane's blocks once the buffer's last streaming has ended. -/
  | planeFetchStart (p : Fin 4)
  /-- PLANE_FETCH_DATA (R111): Fetched plane data arrives in the plane store. -/
  | planeFetchData (p : Fin 4) (b : Fin 2) (dt cnt : Nat)
  /-- LOAD_QUEUED_START (R115): A load queued behind another starts when the link is free. -/
  | loadQueuedStart (p : Fin 4)
  /-- LOAD_STREAM_DONE (R619): The last word of a load enters the serialiser and the link becomes free. -/
  | loadStreamDone (p : Fin 4)
  /-- SEQ_PORT_ENABLE (R167): A write of SEQ_Pp_CTL.EN = 1 enables a port after its capability, clone, beam and array checks. -/
  | seqPortEnable (p : Fin 4)
  /-- SEQ_PORT_DISABLE (R128): Clearing SEQ_Pp_CTL.EN discards queued loads and retires every set. -/
  | seqPortDisable (p : Fin 4)
  /-- STATUS_WORD (R160): An array's STATUS word updates BSTATE. -/
  | statusWord (p : Fin 4) (a : Fin 3) (parked floating : BitVec 16) (flags : BitVec 8)
  /-- ACK (R150): An ACK word is matched with its load and its result recorded. -/
  | ack (p : Fin 4) (a : Fin 3) (blk : Fin 16) (lseq : BitVec 16) (result : Fin 8) (group : BitVec 8)
  /-- ACK_TIMEOUT (R150): A load has no matching ACK within ACK_TO. -/
  | ackTimeout (p : Fin 4)
  /-- TEMP_WORD (R162): A TEMP reading is compared with WARN and TRIP and passed to the island. -/
  | tempWord (p : Fin 4) (a : Fin 3) (k : Fin 4) (dt : Nat) (temp : BitVec 16)
  /-- TEMP_STALE (R162): A sensor sends no TEMP word for 16 intervals, and the array trips. -/
  | tempStale (p : Fin 4) (a : Fin 3) (k : Fin 4) (dt : Nat)
  /-- RESET_NAK (R157): A RESET_NAK word reports blocks that an array refused. -/
  | resetNak (p : Fin 4) (a : Fin 3) (rseq : BitVec 8) (blocks : BitVec 16) (reason : Fin 16)
  /-- ECHO_WORD (R165): An ECHO reply completes a round-trip measurement. -/
  | echoWord (p : Fin 4) (arg : BitVec 40) (dt : Nat)
  /-- CAP_WORD (R166): A CAP word delivers one capability value. -/
  | capWord (p : Fin 4) (a : Fin 3) (index : Fin 7) (value : BitVec 32)
  /-- BACK_WORD_DISCARD (R141): A back-channel word of an unlisted type is discarded and counted. -/
  | backWordDiscard (p : Fin 4)
  /-- CMD_PARK (R159): A write of SEQ_Fp_CMD.PARK makes a park pending for the next latch. -/
  | cmdPark (p : Fin 4)
  /-- CMD_UNPARK (R159): A write of CMD.UNPARK makes an unpark pending for the next latch. -/
  | cmdUnpark (p : Fin 4)
  /-- CMD_CLEAR_TRIP (R163): A write of CMD.CLEAR_TRIP requests release of a trip, or is refused. -/
  | cmdClearTrip (p : Fin 4)
  /-- CMD_RECAP (R170): A write of CMD.RECAP repeats capability exchange on an active link. -/
  | cmdRecap (p : Fin 4)
  /-- FACET_CAPS_DONE (R165): Capability exchange completes, and the port fills its registers. -/
  | facetCapsDone (p : Fin 4)
  /-- TLIM_WRITE (R164): A write to TLIM is limited to the values the array reported. -/
  | tlimWrite (p : Fin 4) (a : Fin 3) (v : BitVec 32)
  /-- TEMP_INT_WRITE (R177): A write of TEMP_INT sends SET_TEMP_INT to the arrays. -/
  | tempIntWrite (p : Fin 4) (v : BitVec 8)
  /-- CLONE_WRITE (R175): A write to CLONE_EN or CLONE_SRC takes effect only while both ports are disabled. -/
  | cloneWrite (p : Fin 4) (en : Bool) (src : Fin 4)
  /-- COMMIT_GO (R203): A write of PIX_Pp_COMMIT.GO requests a commit at the next latch. -/
  | commitGo (p : Fin 4)
  /-- COMMIT_CANCEL (R208): A write of COMMIT.CANCEL withdraws a pending commit. -/
  | commitCancel (p : Fin 4)
  /-- RENDER_DONE (R199): The render's last plane write is acknowledged, and READY is written to every routed port. -/
  | renderDone (p : Fin 4) (dt : Nat)
  /-- FENCE_READ (R209): The pipe issues a layer's fence read 4 µs before the latch, or when the GO arrives. -/
  | fenceRead (p : Fin 4) (l : Fin 8)
  /-- FENCE_READ_RETURN (R209): A fence read returns, and the layer is judged ready or not. -/
  | fenceReadReturn (p : Fin 4) (l : Fin 8) (dt : Nat)
  /-- TABLE_LOAD (R198): A write of PIX_Pp_TBL_CMD.LOAD starts loading a mesh or 3D-table bank. -/
  | tableLoad (p : Fin 4) (kind : Fin 2) (b : Fin 2)
  /-- TABLE_LOAD_DONE (R198): A table load completes, or faults. -/
  | tableLoadDone (p : Fin 4) (kind : Fin 2) (dt : Nat)
  /-- STRING_MODE_OFF (R223): A write of MODE = OFF closes the shunt and turns off the gates at once. -/
  | stringModeOff (n : Fin 24)
  /-- STRING_MODE_PLANE (R223): A write of MODE = PLANE from OFF is accepted after its checks. -/
  | stringModePlane (n : Fin 24)
  /-- STRING_MODE_FREE (R235): A write of MODE = FREE from OFF is accepted after its checks. -/
  | stringModeFree (n : Fin 24)
  /-- BAND_THRESHOLD (R226): The sensed current reaches a band threshold, and the converter switches its gates. -/
  | bandThreshold (n : Fin 24) (dt : Nat) (code : BitVec 12)
  /-- HYST_ADAPT (R227): After every 256 switching periods, HYST adapts toward FSW. -/
  | hystAdapt (n : Fin 24)
  /-- UPDATE_POINT_EVALUATION (R229): 4 µs before an update point, the string values, the colour loop and the fades are evaluated. -/
  | updatePointEvaluation (pt : UpdPoint)
  /-- FADE_GO (R247): A write of FADE_CMD.GO starts or restarts a fade. -/
  | fadeGo (g : Fin 8) (curve : Bool)
  /-- FADE_CANCEL (R248): A write of FADE_CMD.CANCEL stops a fade. -/
  | fadeCancel (g : Fin 8)
  /-- GROUP_V_WRITE (R248): A write to LDR_Gg_V cancels any fade and takes effect at the next update point. -/
  | groupVWrite (g : Fin 8) (v : BitVec 32)
  /-- FREE_PERIOD_START (R234): A free-mode pattern period starts, and the string takes its new values. -/
  | freePeriodStart (n : Fin 24)
  /-- FREE_SHUNT_EDGE (R235): A generated free-mode shunt edge fires. -/
  | freeShuntEdge (n : Fin 24)
  /-- PD_SEGMENT_DONE (R237): A 500 ns integration segment ends and is converted. -/
  | pdSegmentDone (i : Fin 8) (code : BitVec 18)
  /-- PD_WINDOW_CLOSE (R239): A photodiode window closes, and its reading is computed, flagged and stored. -/
  | pdWindowClose (i : Fin 8)
  /-- INTERLOCK_OPEN (R249): An interlock input goes low, and every string is held dark. -/
  | interlockOpen (i : Fin 4) (w : Nat)
  /-- STRING_OVERCURRENT (R249): A string's current crosses ILIM for OC_N periods, or exceeds 1.25 × ILIM, and the OC cause latches. -/
  | stringOvercurrent (n : Fin 24) (i : BitVec 22)
  /-- STRING_OPEN (R249): The high side stays on for OPEN_NS without reaching threshold, and the OPEN cause latches. -/
  | stringOpen (n : Fin 24)
  /-- SAFE_CLR (R252): A write of LDR_SAFE_CLR clears the named light-off causes, or is refused. -/
  | safeClr (v : BitVec 32)
  /-- DERATE_FALL_TIMEOUT (R253): 50 ms after a round requires a fall in D, the fall takes effect if no update point came first. -/
  | derateFallTimeout (b : Fin 4)
  /-- DIAG_WINDOW_END (R254): A 64 ms diagnosis window ends, and STATE is judged. -/
  | diagWindowEnd (n : Fin 24)
  /-- PROBE_REQ (R255): A write of LDR_PROBE_REQ requests a probe for a string. -/
  | probeReq (mask : BitVec 24)
  /-- PROBE_START (R256): A probe placed in a blind gap runs its level and shunt pins. -/
  | probeStart (n : Fin 24)
  /-- PROBE_MISS (R256): No qualifying gap within four gaps, and the probe is dropped. -/
  | probeMiss (n : Fin 24)
  /-- VGD_LOW (R586): VGDb stays below 9.0 V for 1 µs, and bank b's gates are turned off and its shunts closed. -/
  | vgdLow (b : Fin 4) (dt : Nat) (mv : BitVec 16)
  /-- AXIS_EN (R266): A write of CTL_An_CMD.EN is checked and accepted from DISABLED, or refused. -/
  | axisEn (n : Fin 16)
  /-- AXIS_RUN_START (R267): An accepted axis enters RUN at the next carrier period start and releases its brake; without SYNC that start is `dt` ns away. -/
  | axisRunStart (n : Fin 16) (dt : Nat)
  /-- AXIS_DISABLE (R267): A write of CMD.DISABLE takes an axis from RUN to DISABLED. -/
  | axisDisable (n : Fin 16)
  /-- AXIS_CLEAR (R291): A write of CMD.CLEAR takes a faulted axis to DISABLED if every cause has ended. -/
  | axisClear (n : Fin 16)
  /-- AXIS_GO (R293): A write of CMD.GO makes TARGET the goal in TARGET mode. -/
  | axisGo (n : Fin 16)
  /-- LIMIT_WRITE (R292): A write to VMAX, AMAX or JMAX while moving is held pending. -/
  | limitWrite (n : Fin 16) (which : Fin 3) (v : BitVec 32)
  /-- CARRIER_PERIOD_START (R268): A carrier period starts, reloading compare values and triggering PWM-triggered tiles. -/
  | carrierPeriodStart (n : Fin 16)
  /-- CARRIER_PEAK (R270): A centre-aligned carrier reaches its peak, where UPD = 1 reloads the compare values. -/
  | carrierPeak (n : Fin 16)
  /-- TILE_SAMPLE_START (R285): A loop tile's sample starts on its trigger. -/
  | tileSampleStart (t : Fin 48) (fs : List Int)
  /-- TILE_OUTPUT (R286, R287): A tile writes its output: a position or velocity tile passes the demand down, a current tile's becomes compare values. -/
  | tileOutput (t : Fin 48)
  /-- DEADLINE_MISS (R288): A tile's output is not written by its deadline. -/
  | deadlineMiss (t : Fin 48)
  /-- AXIS_OVERCURRENT (R273): a fast-path value of input k, of ±256; OC_N consecutive ones above ITRIP set the OC cause. -/
  | axisOvercurrent (k : Fin 48) (f : Int)
  /-- QUADRATURE_EDGE (R274): A filtered quadrature transition updates the count. -/
  | quadratureEdge (e : Fin 16) (dt : Nat) (kind : Fin 3)
  /-- ENCODER_INDEX (R274): An index pulse sets or checks the count. -/
  | encoderIndex (e : Fin 16)
  /-- ENCODER_IDLE_REQUEST (R275): A serial request is issued every 20 µs while no axis uses the interface. -/
  | encoderIdleRequest (e : Fin 16)
  /-- ENCODER_FRAME_DONE (R277): A serial encoder frame completes, and its reading is judged valid or not. -/
  | encoderFrameDone (e : Fin 16) (dt : Nat) (data : BitVec 32) (err noData : Bool)
  /-- ENC_FAULT_CLEAR (R277): A write of 1 to STAT.FAULT clears an encoder fault. -/
  | encFaultClear (e : Fin 16)
  /-- STREAM_STARVED (R296): Extrapolation past the last record exceeds STARVE_MS, and the goal becomes the stop point. -/
  | streamStarved (n : Fin 16) (dt : Nat)
  /-- CTL_TABLE_LOAD (R284): A write of CTL_TBL_CMD.LOAD starts a cogging or friction table load. -/
  | ctlTableLoad (n : Fin 16) (kind : Fin 2) (b : Fin 2)
  /-- CTL_TABLE_LOAD_DONE (R284): A friction or cogging table load completes, or faults. -/
  | ctlTableLoadDone (dt : Nat)
  /-- BREAKPOINT (R347): A fetch address matches an enabled breakpoint, and the thread halts before the instruction. -/
  | breakpoint (b : Fin 128) (t : Fin 4)
  /-- CMD_START (R343): A write of CMD.START starts an EMPTY slot. -/
  | cmdStart (b : Fin 128) (t : Fin 4)
  /-- CMD_STOP (R343): A write of CMD.STOP discards a slot's context. -/
  | cmdStop (b : Fin 128) (t : Fin 4)
  /-- CMD_PREEMPT (R341): A write of CMD.PREEMPT stops the thread and saves its context. -/
  | cmdPreempt (b : Fin 128) (t : Fin 4)
  /-- CONTEXT_SAVE_DONE (R341): The context is written, the slot becomes EMPTY, and SAVED is written. -/
  | contextSaveDone (b : Fin 128) (t : Fin 4)
  /-- CMD_RESTORE (R342): A write of CMD.RESTORE reads a context into an EMPTY slot. -/
  | cmdRestore (b : Fin 128) (t : Fin 4)
  /-- CONTEXT_RESTORE_DONE (R342): The context read ends, resumed or rejected. -/
  | contextRestoreDone (b : Fin 128) (t : Fin 4)
  /-- CMD_HALT (R345): A write of CMD.HALT stops the thread at the next instruction boundary. -/
  | cmdHalt (b : Fin 128) (t : Fin 4)
  /-- CMD_RUN (R346): A write of CMD.RUN resumes a halted thread. -/
  | cmdRun (b : Fin 128) (t : Fin 4)
  /-- CMD_STEP (R346): A write of CMD.STEP executes one instruction from HALT. -/
  | cmdStep (b : Fin 128) (t : Fin 4)
  /-- STEP_DONE (R346): The stepped instruction retires and the thread returns to HALT. -/
  | stepDone (b : Fin 128) (t : Fin 4)
  /-- DEBUG_REG_ACCESS (R345): A DBG_DATA access reads or writes the selected register of a halted thread. -/
  | debugRegAccess (b : Fin 128) (t : Fin 4) (write : Bool) (v : BitVec 64)
  /-- ICACHE_INVALIDATE (R350): A write of ENG_Bb_CTL.ICINV invalidates the instruction cache. -/
  | icacheInvalidate (_b : Fin 128)
  /-- MAP (R360): The MMU maps a range of pages. -/
  | map
  /-- UNMAP (R360): The MMU clears the leaves of a range. -/
  | unmap
  /-- PROTECT (R360): The MMU sets W and X on a range. -/
  | protect
  /-- PIN (R360): The MMU increments PINCNT on a range. -/
  | pin
  /-- UNPIN (R360): The MMU decrements PINCNT on a range. -/
  | unpin
  /-- TABLE_ADD (R360): A device page is added to table memory. -/
  | tableAdd
  /-- TABLE_REMOVE (R360): A page leaves table memory. -/
  | tableRemove
  /-- CTX_CREATE (R360): A translation context is made valid. -/
  | ctxCreate
  /-- CTX_DESTROY (R360): A context's leaves and tables are cleared. -/
  | ctxDestroy
  /-- RESOLVE_PAGE (R360): Every held access of a context in the range is resolved. -/
  | resolvePage
  /-- MMU_COMMAND_COMPLETE (R361): An MMU command's status is written once its affected requests have been performed. -/
  | mmuCommandComplete
  /-- RESOLVE (R367): A write of MMU_RESOLVE retries or fails the held access named by a SEQ. -/
  | resolve (v : BitVec 64)
  /-- PAGE_REQUEST_RESPONSE (R363): A page request response retries the held access or turns it into a fault. -/
  | pageRequestResponse (asid : BitVec 16) (page : BitVec 52) (code : Fin 3)
  /-- PRI_TIMEOUT (R363): A page request sees no response within MMU_PRI_TO, and the access faults with HOST_FAULT. -/
  | priTimeout (asid : BitVec 16) (page : BitVec 52)
  /-- ATS_INVALIDATE (R362): A host Invalidate Request drops cached translations before the completion is sent. -/
  | atsInvalidate (asid : BitVec 16) (page : BitVec 52) (count : Nat)
  /-- BAR2_WRITE (R409): A host write to device DRAM through BAR2. -/
  | bar2Write (off : BitVec 32) (bs : List (BitVec 8))
  /-- BAR2_READ (R409): A host read of device DRAM through BAR2. -/
  | bar2Read (off : BitVec 32) (len : Nat) (finding : Fin 5)
  /-- SCRUB_READ (R378): The DRAM scrubber reads a burst and writes back a corrected one. -/
  | scrubRead (finding : Fin 5)
  /-- REFRESH (R383): A row of a die is refreshed on the refresh interval. -/
  | refresh (c : Fin 16) (die : Fin 2)
  /-- NEIGHBOUR_REFRESH (R384): A queued neighbour refresh is performed. -/
  | neighbourRefresh (c : Fin 16)
  /-- DRAM_TEMP_REPORT (R383): A die reports its temperature, setting the refresh rate. -/
  | dramTempReport (c : Fin 16) (die : Fin 2) (t : BitVec 8)
  /-- SR_ENTRY_START (R386): The self-refresh conditions are met, and the controller enters ENTERING. -/
  | srEntryStart
  /-- SR_COMMAND (R386): The self-refresh command goes to every die, and the state becomes ASLEEP. -/
  | srCommand
  /-- SR_EXIT_START (R386): Exit starts on a waiting request or a low tolerance after minimum residency. -/
  | srExitStart (dt : Nat)
  /-- SR_EXIT_DONE (R386): The memory becomes AWAKE after 800 ns, and SR_IDLE adapts. -/
  | srExitDone
  /-- KEEP_AWAKE (R618): A write of SR_IDLE_LO = 0xFFFF_FFFF forbids entry and cancels ENTERING. -/
  | keepAwake
  /-- CHANNEL_ONLINE_WRITE (R389): A write of MEM_Cc_CTL.ONLINE takes a channel on or off line, or is refused. -/
  | channelOnlineWrite (c : Fin 16) (on : Bool)
  /-- TRN_WRITE (R390): Training helper writes its pattern. -/
  | trnWrite (c : Fin 16) (live : Bool)
  /-- TRN_READ (R390): Training helper reads and compares. -/
  | trnRead (c : Fin 16) (live : Bool)
  /-- TRN_WRITE_READ (R390): Training helper writes then compares a range. -/
  | trnWriteRead (c : Fin 16) (live : Bool)
  /-- TRN_CANCEL (R390): A write of TRN_CMD.CANCEL stops a helper operation. -/
  | trnCancel (c : Fin 16)
  /-- TRN_CLR_ERR (R397): A write of TRN_CMD.CLR_ERR clears every ERRk. -/
  | trnClrErr (c : Fin 16)
  /-- TRAIN_DONE (R390): A training helper operation ends. -/
  | trainDone (c : Fin 16) (dt : Nat) (done : Nat) (noise : List Nat)
  /-- TRAIN_LIVE_TIMEOUT (R392): A live step finds no suitable moment within 1 ms and ends TIMEOUT. -/
  | trainLiveTimeout (c : Fin 16) (dt : Nat)
  /-- MEM_DELAY_WRITE (R393): A write to DLYk, VREF or CA_DLY takes effect at once or at the next live step. -/
  | memDelayWrite (c : Fin 16) (k : Fin 38) (v : BitVec 32)
  /-- HOST_RESET (R405): A host-side reset drains every queue and resets the MSI-X tables. -/
  | hostReset (kind : Fin 4)
  /-- VF_RESET (R433): A VF is disabled or reset, and its queues enter DRAINING. -/
  | vfReset (v : Fin 64) (flr : Bool)
  /-- QUEUE_DRAINED (R433): A draining queue with no claimed entry left becomes DISABLED. -/
  | queueDrained (q : Fin 4096)
  /-- QUEUE_ENABLE (R411): A write of QUE_Qq_CMD.ENABLE enables a queue after its checks. -/
  | queueEnable (q : Fin 4096)
  /-- QUEUE_STOP (R413): A write of CMD.STOP stops a queue. -/
  | queueStop (q : Fin 4096)
  /-- QUEUE_RESUME (R413): A write of CMD.RESUME resumes a stopped queue. -/
  | queueResume (q : Fin 4096)
  /-- QUEUE_DISABLE (R413): A write of CMD.DISABLE drains a queue. -/
  | queueDisable (q : Fin 4096)
  /-- SQ_DOORBELL (R414): A DB write advances an SQ's TAIL. -/
  | sqDoorbell (fn : Fin 64) (q : Fin 4096) (v : BitVec 32)
  /-- CQ_DOORBELL (R414): A DB write advances a CQ or EQ's HEAD and may re-arm it. -/
  | cqDoorbell (fn : Fin 64) (q : Fin 4096) (v : BitVec 32)
  /-- ABORT (R430): A write of ABORT requests an abort of a named entry. -/
  | abort (q : Fin 4096) (v : BitVec 32)
  /-- DESCRIPTOR_CLAIM (R422): An SQ entry is claimed once its CQ can reserve a slot. -/
  | descriptorClaim (q : Fin 4096)
  /-- DMA_NOP (R420): A NOP descriptor completes DONE. -/
  | dmaNop (q : Fin 4096) (idx : BitVec 16)
  /-- COPY (R420): A COPY descriptor copies LEN bytes. -/
  | copy (q : Fin 4096) (idx : BitVec 16) (bursts : Nat)
  /-- FILL (R420): A FILL descriptor writes a repeated pattern. -/
  | fill (q : Fin 4096) (idx : BitVec 16) (bursts : Nat)
  /-- WRITE64 (R420): A WRITE64 descriptor writes one atomic 64-bit value. -/
  | write64 (q : Fin 4096) (idx : BitVec 16)
  /-- DMA_JOB_DONE (R421): A DMA job ends and its completion is committed. -/
  | dmaJobDone (q : Fin 4096) (idx : BitVec 16)
  /-- IRQ_TIMER (R429): TIME µs pass since the first pending entry, and the ring signals. -/
  | irqTimer (q : Fin 4096)
  /-- ABORT_TIMEOUT (R432): An aborted pillow entry sees no QDONE within ABORT_TO, and a forced completion is written. -/
  | abortTimeout (q : Fin 4096) (idx : BitVec 16)
  /-- PCIE_LINK_UP (R404): The PCI Express link reaches L0. -/
  | pcieLinkUp (width : Nat) (speed : Fin 7) (flit : Bool)
  /-- PCIE_LINK_DOWN (R443): The PCI Express link leaves L0. -/
  | pcieLinkDown
  /-- COMPRESS (R452): A COMPRESS descriptor runs on a compressor. -/
  | compress (q : Fin 4096) (idx : BitVec 16) (blocks : Nat)
  /-- DECOMPRESS (R455): A DECOMPRESS descriptor runs on a decompressor. -/
  | decompress (q : Fin 4096) (idx : BitVec 16) (blocks : Nat)
  /-- VERIFY (R447): A VERIFY descriptor decodes and checks without writing. -/
  | verify (q : Fin 4096) (idx : BitVec 16) (blocks : Nat)
  /-- CMP_JOB_DONE (R460): A compression job ends, writing POST if set and its completion. -/
  | cmpJobDone (q : Fin 4096) (idx : BitVec 16)
  /-- LINK_ENABLE (R472): A write of LNK_Lk_CTL.EN = 1 starts a link in DETECT or TEST. -/
  | linkEnable (k : Fin 8)
  /-- LINK_DISABLE (R472): A write of EN = 0 takes the link OFF at once. -/
  | linkDisable (k : Fin 8)
  /-- LINK_RETRY (R479): A write of CMD.RETRY takes a DOWN link to DETECT. -/
  | linkRetry (k : Fin 8)
  /-- DETECT_POLL (R472): A 10 ms poll listens for signal, block lock and TS words. -/
  | detectPoll (k : Fin 8) (dt : Nat) (heard : Bool) (rate : Fin 8)
  /-- TRAIN_COMPLETE (R472): Both ends report RX_READY, and the link enters LOCK. -/
  | trainComplete (k : Fin 8)
  /-- LOCK_COMPLETE (R476): Both ends report deskew complete, and the link enters CAPS. -/
  | lockComplete (k : Fin 8)
  /-- CAPS_COMPLETE (R477): The user reports its exchange complete, and the link enters ACTIVE. -/
  | capsComplete (k : Fin 8)
  /-- STAGE_TIMEOUT (R478): A link stage exceeds its time limit and fails. -/
  | stageTimeout (k : Fin 8)
  /-- LOSS_OF_SIGNAL (R469): A receiver loses signal or block lock. -/
  | lossOfSignal (n : Fin 48)
  /-- BLOCK_LOCK (R469): 64 consecutive valid headers give block lock. -/
  | blockLock (n : Fin 48)
  /-- BLOCK_LOCK_LOST (R469): 16 invalid headers among 64 words lose block lock. -/
  | blockLockLost (n : Fin 48) (dt : Nat) (errs : Fin 65)
  /-- TS_WORD (R473): A TS word carries the partner's stage, readiness and tap requests. -/
  | tsWord (n : Fin 48) (dt : Nat) (stage : Fin 8) (lane : Fin 16) (ready : Bool) (req : BitVec 6)
  /-- ALIGN_WORD (R476): An ALIGN word serves deskew, or outside a picot takes the link down. -/
  | alignWord (n : Fin 48) (dt : Nat) (count : BitVec 16) (skew : Nat)
  /-- EIDLE_WORD (R484): A received EIDLE starts the receiver's LOS grace period. -/
  | eidleWord (k : Fin 8) (dt : Nat)
  /-- EIDLE_ENTER (R483): A transmitter sends EIDLE and enters electrical idle. -/
  | eidleEnter (k : Fin 8) (dt : Nat)
  /-- PICOT_START (R483): A picot starts before a due word, or after 64 µs of idle. -/
  | picotStart (k : Fin 8) (dt : Nat)
  /-- PICOT_DONE (R483): A picot ends with its ALIGN row. -/
  | picotDone (k : Fin 8)
  /-- IDLE_LOS_WINDOW_END (R484): The LOS grace after EIDLE ends without signal or agreement, and the link is lost. -/
  | idleLosWindowEnd (k : Fin 8)
  /-- BEAM_LOCK_DONE (R481): A beam link's 1 ms LOCK ends, and the link enters ACTIVE. -/
  | beamLockDone (k : Fin 8)
  /-- LSTAT_WORD (R485): An LSTAT word updates REM_ERR of a forward lane. -/
  | lstatWord (k : Fin 4) (lane : Fin 16) (cnt : BitVec 32)
  /-- SLIP (R487): A write of CMD.SLIP moves the block boundary one bit. -/
  | slip (n : Fin 48)
  /-- INJ (R486): A write of CMD.INJ inverts one bit of the next data word. -/
  | inj (n : Fin 48)
  /-- CHK_CLR (R488): A write of CMD.CHK_CLR clears the checker. -/
  | chkClr (n : Fin 48)
  /-- SCAN_GO (R489): A write of CMD.SCAN_GO starts an eye scan. -/
  | scanGo (n : Fin 48)
  /-- SCAN_STOP (R489): A write of CMD.SCAN_STOP aborts an eye scan. -/
  | scanStop (n : Fin 48)
  /-- SCAN_DONE (R489): An eye scan ends. -/
  | scanDone (n : Fin 48) (cnt : BitVec 64)
  /-- EQ_ADAPT_STEP (R482): Receive equaliser adaptation takes a step. -/
  | eqAdaptStep (n : Fin 48) (k : Fin 5) (want : Int)
  /-- TXEQ_WRITE (R475): A write to TXEQ sets the transmit taps, or is ignored. -/
  | txeqWrite (n : Fin 48) (v : BitVec 32)
  /-- BEACON (R528): A BEACON packet disciplines show time and feeds PHS, and is regenerated. -/
  | beacon (p : Fin 4) (dt : Nat) (w : BitVec 64) (ws : List (BitVec 64))
  /-- BEACON_SEND (R526): The master sends a beacon each 64 µs, or an UP_LOST unit sends one with HOLDOVER set. -/
  | beaconSend
  /-- UPSTREAM_LOST (R522): 16 beacon intervals are missed, or the upstream link drops. -/
  | upstreamLost
  /-- REROOT (R522): A write of CAS_CMD.REROOT clears the upstream and the BLOCKED marks. -/
  | reroot
  /-- DELAY_REQ_SEND (R527): A DELAY_REQ is sent every 1 ms. -/
  | delayReqSend (p : Fin 4)
  /-- DELAY_REQ (R527): A received DELAY_REQ is answered with DELAY_RESP. -/
  | delayReq (p : Fin 4) (dt : Nat) (w : BitVec 64) (ws : List (BitVec 64))
  /-- DELAY_RESP (R527): A DELAY_RESP yields a one-way delay sample. -/
  | delayResp (p : Fin 4) (dt : Nat) (w : BitVec 64) (ws : List (BitVec 64))
  /-- JOIN (R530): A JOIN is forwarded upstream, or taken by the master. -/
  | join (p : Fin 4) (dt : Nat) (w : BitVec 64) (ws : List (BitVec 64))
  /-- ROSTER (R530): A ROSTER is taken locally and forwarded downstream. -/
  | roster (p : Fin 4) (dt : Nat) (w : BitVec 64) (ws : List (BitVec 64))
  /-- PRESENCE (R530): A PRESENCE packet is forwarded or taken by the master. -/
  | presence (p : Fin 4) (dt : Nat) (w : BitVec 64) (ws : List (BitVec 64))
  /-- PRESENCE_SEND (R530): A unit sends PRESENCE every PRES_MS. -/
  | presenceSend
  /-- CONTENT (R535): A CONTENT fragment is forwarded and copied into subscriptions. -/
  | content (p : Fin 4) (dt : Nat) (w : BitVec 64) (ws : List (BitVec 64))
  /-- MSG (R523): A MSG packet is forwarded or taken into the RX ring. -/
  | msg (p : Fin 4) (dt : Nat) (w : BitVec 64) (ws : List (BitVec 64))
  /-- FOLLOW (R536): A FOLLOW packet is forwarded and written into an axis stream ring. -/
  | follow (p : Fin 4) (dt : Nat) (w : BitVec 64) (ws : List (BitVec 64))
  /-- CAPS_PACKET (R498): A partner's CAPS packet is received and the modes compared. -/
  | capsPacket (p : Fin 4) (dt : Nat) (w : BitVec 64) (ws : List (BitVec 64))
  /-- TX_RING_SEND (R534): CAS sends the next TX ring record, or skips a bad one. -/
  | txRingSend
  /-- TWIN_ENABLE (R508): A write of CAS_TW_CTL.EN changes the twin state between OFF and WAIT. -/
  | twinEnable (en : Bool)
  /-- ALONE_TIMEOUT (R508): No twin link after ALONE_MS, and the module claims and enters ALONE. -/
  | aloneTimeout
  /-- HEARTBEAT_SEND (R515): A HEARTBEAT is sent every 10 µs. -/
  | heartbeatSend
  /-- HEARTBEAT (R516): A received heartbeat may raise a takeover trigger. -/
  | heartbeat (dt : Nat) (w : BitVec 64) (ws : List (BitVec 64))
  /-- HEARTBEAT_MISS (R516): No heartbeat within 11 µs, and three consecutive misses trigger takeover. -/
  | heartbeatMiss
  /-- MIRROR_COMMIT (R513): A COMMIT mirror record feeds the lag count. -/
  | mirrorCommit (seq : BitVec 32) (p : Fin 4) (id _time : BitVec 64)
  /-- MIRROR_SWAP (R513): A SWAP record is compared with the module's own swap. -/
  | mirrorSwap (seq : BitVec 32) (n : Fin 4) (_bank : Bool) (count : BitVec 32)
  /-- MIRROR_AXIS (R513): An AXIS record overwrites generator and tile state. -/
  | mirrorAxis (seq : BitVec 32) (n : Fin 16) (ws : List (BitVec 64))
  /-- MIRROR_LIGHT (R513): A LIGHT record supplies a group's values at its next update point. -/
  | mirrorLight (seq : BitVec 32) (g : Fin 8) (ws : List (BitVec 64))
  /-- MIRROR_QUEUE (R513): A QUEUE record sets a twin queue's HEAD and TAIL. -/
  | mirrorQueue (seq : BitVec 32) (i : Fin 64) (head tail : BitVec 16) (q : Fin 4096)
  /-- MIRROR_ENTRY (R513): An ENTRY record adds or removes a claimed entry. -/
  | mirrorEntry (seq : BitVec 32) (i : Fin 64) (idx : BitVec 16) (ended : Bool)
  /-- FULL_BEGIN (R512): A full-state record opens. -/
  | fullBegin (seq : BitVec 32)
  /-- FULL_END (R514): A full state completes and STALE clears. -/
  | fullEnd (seq : BitVec 32)
  /-- TWIN_YIELD (R516): A write of CAS_TW_CMD.YIELD makes the holder set YIELD. -/
  | twinYield
  /-- TWIN_FORCE (R518): A write of CMD.FORCE starts a handover at once. -/
  | twinForce
  /-- TWIN_RESYNC (R514): A write of CMD.RESYNC requests a full state. -/
  | twinResync
  /-- HANDOVER_START (R519): A handover starts and the module asserts TKOVR_DEM_O. -/
  | handoverStart
  /-- TKOVR_DEM_I_ASSERT (R507): DEM_I is asserted, and a holder releases. -/
  | tkovrDemIAssert (dt : Nat)
  /-- TKOVR_HOLD_I_CHANGE (R507): The partner's hold line changes. -/
  | tkovrHoldIChange (level : Bool) (dt : Nat)
  /-- HOLD_O_ASSERT (R507): After HOLD_I has been deasserted for 1 µs, HOLD_O is asserted. -/
  | holdOAssert
  /-- HOLD_ACQUIRED (R520): After 1 µs of HOLD_O, the module holds and restores mirrored state. -/
  | holdAcquired
  /-- TAKEOVER_STUCK (R519): HOLD_I is still asserted 10 µs after H, and again every 1 ms. -/
  | takeoverStuck
  /-- HKP_CONVERSION (R547): One housekeeping channel is converted and checked against its limits. -/
  | hkpConversion (code value : BitVec 16)
  /-- HOUSEKEEPING_ROUND (R547): At the end of a round, the zone, rate, throttle, fan, derating and ledger steps run. -/
  | housekeepingRound (lag : Fin 64001) (rpm0 rpm1 rpm2 rpm3 : BitVec 16)
  /-- SHUTDOWN_CLOCK_STOP (R545): 100 µs into latched shutdown, the clocks stop except those that are kept. -/
  | shutdownClockStop
  /-- PRIVILEGED_SHUTDOWN (R546): A zone comparator at 125 °C or more holds the island in reset and stops the links. -/
  | privilegedShutdown (z : Fin 10) (dt : Nat) (temp : BitVec 16)
  /-- ISLAND_RESTART (R546): With every comparator below 100 °C for 1 s, the island restarts. -/
  | islandRestart (dt : Nat)
  /-- FAN_FAIL (R557): A fan stays below TACH_MIN for 2 s at 30 % duty or more. -/
  | fanFail (f : Fin 4)
  /-- SENS_CLR (R552): A write of HKP_SENS_CLR clears SUSPECT, or is refused. -/
  | sensClr (i : BitVec 6)
  /-- SRAM_SCRUB (R558): The island scrubs a pad or shared-memory word. -/
  | sramScrub (mem : Fin 136) (off : BitVec 21) (uncorr : Bool) (dt : Nat)
  /-- CAL_RUN (R560): A write of CAL_Tt_CMD.RUN runs one instance at once. -/
  | calRun (t : Fin 10) (ok : Bool)
  /-- CAL_RELEASE (R565): A write of CMD.RELEASE clears MANUAL for an instance. -/
  | calRelease (t : Fin 10) (i : Fin 64)
  /-- CAL_RUN_DONE (R562): A calibration run ends, succeeding or rejected. -/
  | calRunDone (t : Fin 10) (broken : Bool) (err residual value : BitVec 32)
  /-- CAL_STALE (R564): An instance whose LAST_OK is older than VALID becomes STALE. -/
  | calStale (t : Fin 10) (i : Fin 64)
  /-- CAL_MANUAL_WRITE (R565): A software write to a calibrated value sets MANUAL. -/
  | calManualWrite (which : Fin 4) (n : Fin 48) (v : BitVec 32)
  /-- NVM_WRITE (R570): An NVM WRITE command starts a journalled object write. -/
  | nvmWrite (o : Fin 16)
  /-- NVM_PAGE_DONE (R570): A store page program completes, and the next step of the write proceeds. -/
  | nvmPageDone (lag : Nat) (misread : Bool)
  /-- NVM_READ (R572): An NVM READ command copies the newest valid copy. -/
  | nvmRead (o : Fin 16)
  /-- NVM_READ_DONE (R572): A store read completes, falling back if the CRC fails. -/
  | nvmReadDone (lag : Nat) (bad : Bool)
  /-- LOG_APPEND (R572): An NVM LOG_APPEND programs one log page. -/
  | logAppend
  /-- LOG_READ (R572): An NVM LOG_READ copies a log page. -/
  | logRead
  /-- LEDGER_SAVE (R575): An NVM LEDGER_SAVE writes the LEDGER object. -/
  | ledgerSave
  /-- SVN_BUMP (R573): An NVM SVN_BUMP raises the fused NVM_SVN_MIN. -/
  | svnBump
  /-- LEDGER_PERIODIC_SAVE (R575): Every 15 minutes of powered time, the island writes the LEDGER. -/
  | ledgerPeriodicSave
  /-- POWER_ON_RESET (R595): VIN passes VIN_ON after the island had stopped, and power-up runs. -/
  | powerOnReset (dt : Nat)
  /-- REFCLK_PRESENT (R596): REFCLK is found within ±2 %, and power-up proceeds. -/
  | refclkPresent (dt : Nat) (khz : BitVec 24)
  /-- BOOT_READ_DONE (R597): The firmware boot read ends: bobbin 0 starts, or the module falls back or enters RECOVERY. -/
  | bootReadDone (dt : Nat) (misA misB : Bool)
  /-- RCV_GO (R599): A write of DBG_RCV_CMD.GO verifies and starts a recovery image. -/
  | rcvGo (dt : Nat)
  /-- VIN_PF (R588): VIN falls to VIN_PF, and the geode write window closes. -/
  | vinPf (dt : Nat)
  /-- BROWN_OUT (R589): VIN falls to VIN_BOR, and the brown-out sequence runs. -/
  | brownOut (dt : Nat)
  /-- OVERVOLT (R591): VIN rises above VIN_OV, and the brown-out sequence runs. -/
  | overvolt (dt : Nat)
  /-- RAIL_FAULT (R591): A main rail stays out of tolerance for 10 µs, and the brown-out sequence runs. -/
  | railFault (dt : Nat)
  /-- REFCLK_LOSS (R591): REFCLK is absent for 10 µs, and the brown-out sequence runs. -/
  | refclkLoss (dt : Nat)
  /-- BROWNOUT_RECOVERY (R589): After at least 1 ms with the cause cleared, power-up resumes at the rail step. -/
  | brownoutRecovery (dt : Nat)
  /-- ISLAND_STOP (R588): VIN falls below VIN_ISL, and the island and the store stop. -/
  | islandStop (dt : Nat)
  /-- BANK_DOWN (R585): A VIO bank falls below 1.50 V for 10 µs, or out of range in a round, and its lands are released. -/
  | bankDown (v : Fin 8) (dt : Nat) (mv : BitVec 16)
  /-- WARM_RESET (R594): RESET_N is held low for at least 1 µs, and the warm reset sequence runs. -/
  | warmReset (dt : Nat)
  /-- RST_CMD (R592): A write of the key to DBG_RST_CMD starts a warm reset. -/
  | rstCmd (v : BitVec 32)
  /-- WARM_RESET_RELEASE (R594): RESET_N goes high, or 100 µs pass, and boot proceeds. -/
  | warmResetRelease (dt : Nat)
  /-- EXTEST (R610): The EXTEST TAP instruction loads and puts the module into warm reset. -/
  | extest
  /-- IDCODE (R610): The IDCODE TAP instruction loads. -/
  | idcode
  /-- SAMPLE_PRELOAD (R610): The SAMPLE/PRELOAD TAP instruction loads. -/
  | samplePreload
  /-- HIGHZ (R610): The HIGHZ TAP instruction loads, with a warm reset. -/
  | highz
  /-- CLAMP (R610): The CLAMP TAP instruction loads, with a warm reset. -/
  | clamp
  /-- DBG_ACCESS (R611): The DBG_ACCESS TAP instruction loads. -/
  | dbgAccess
  /-- BYPASS (R610): The BYPASS TAP instruction loads. -/
  | bypass
  /-- DBG_ACCESS_UPDATE (R611): Update-DR performs a BAR0 access through the TAP. -/
  | dbgAccessUpdate (data : BitVec 64) (off : BitVec 26) (write wide : Bool)
  /-- JTAG_LOCK (R611): A write of DBG_CTL.JTAG_LOCK locks the TAP until power-on reset. -/
  | jtagLock
  /-- FURTHER_PARK (R159): A block that R113 removed from the PARK reset at the latch is sent a further PARK at the first instant MIN_DWELL permits. -/
  | furtherPark (p : Fin 4) (a : Fin 3)
  /-- INTERLOCK_HEALTHY (R250): An interlock input returns high at its bank's VIO, so INTLK_STAT.LEVEL reads healthy and INTLK may be cleared. -/
  | interlockHealthy (i : Fin 4)
  /-- TKOVR_DEM_I_DEASSERT (R507): The partner deasserts TKOVR_DEM_I, lifting the bar on asserting HOLD_O. -/
  | tkovrDemIDeassert (dt : Nat)
  /-- VGD_RECOVERY (R586): VGDb has stood at or above 9.5 V for 1 ms, and the power die releases the GH, GL and SHD lands of bank b. -/
  | vgdRecovery (b : Fin 4) (dt : Nat)
  /-- VF_ENABLE (R411): A host enables virtual functions through SR-IOV, setting their bits in GLB_FN_EN so that their queues may be enabled. -/
  | vfEnable (mask : BitVec 64)
  /-- PRI_ENABLE (R363): The host disables and re-enables the Page Request Interface, and the MMU may send page requests again. -/
  | priEnable
deriving DecidableEq, Repr

end Sys2Proof
end

