-- ==== Sys2Proof/Machine/State.lean ====
section
/-! DEFINITION. Machine/State.lean: the state of the block, as plain data: its registers, its memories, the record it keeps of each
of its units, and the queue of commands waiting. Times are in nanoseconds since power-on unless a field says quanta (0.25 ns). -/

namespace Sys2Proof.Machine

/-- Why the block stops. -/
inductive Fault where
  /-- Raised by no meaning of this model: the block has no behaviour the manual leaves without effect (safe). -/
  | noEffectGiven
deriving DecidableEq, Repr

/-- Why a command has no meaning. -/
inductive Refusal where
  /-- Raised by an arm of exec whose command has no meaning yet (safe). -/
  | notModelled (mnemonic : String)
deriving DecidableEq, Repr

/-! ### Timebases and camera windows (02) -/

/-- A pin (R71): its fraction, action code, flags, target and argument. -/
structure Pin where
  frac : Nat := 0
  action : Nat := 0
  flags : Nat := 0
  target : Nat := 0
  arg : Nat := 0
deriving DecidableEq, Repr

/-- A pin handed to its destination with its placed time, in quanta (R83): the cycle in which it is due, counted in `wraps` of the fraction,
whether it was posted, whether its delay line was not current (R92), and whether a duplicate of its placed time has fired for it (R84). -/
structure Placed where
  pin : Pin
  index : Nat
  bank : Nat
  placed : Nat
  late : Bool
  due : Nat
  stale : Bool
  posted : Bool := false
  dup : Bool := false
deriving DecidableEq, Repr

/-- An arm that is validating or waiting for its boundary (R77 to R80): `validAt` is the time at which validation passed,
`refFail` the virtual address of the first page refused. -/
structure Arm where
  bank : Nat
  atCycle : Bool
  goAt : Nat
  validAt : Option Nat
  refFail : Option Nat
deriving DecidableEq, Repr

/-- What a timebase keeps beside its registers (R49 to R95). `wraps` counts the carries out of the fraction since power-on; what waits for a
boundary (a stop, a count set or stepped) carries the count of wraps at which it began to wait. Of its references: the period measured
last in quanta, the expected position judged last, in 2⁻⁵⁶ of a cycle with `wraps` above, and, for a beacon, the time in quanta from which
the interval in progress counts; whether sub-cycle references are heard in SLEWING (R60). Of its pins: those read ahead (bank, index, pin), the index of the next pin of
the active bank and of the one coming in, in which cycle, counted in `wraps`, the next pin falls due, the posted pins with
the earliest time of each, the pins dispatched and not yet fired, the nanosecond after the last dispatch, and the pins (bank x 65,536 +
index) whose read was uncorrectable. While a beam port bound to it draws a line, `trail` holds the time in ns, the accumulator and the
increment at the beginning of each stretch of time passed (R132). -/
structure Timebase where
  acc : Nat := 0
  integ : Int := 0
  corrHist : List Int := []
  railCnt : Nat := 0
  agreeCnt : Nat := 0
  badCnt : Nat := 0
  missCnt : Nat := 0
  periods : List Nat := []
  lastEdge : Option Nat := none
  windowMet : Bool := false
  everLocked : Bool := false
  countPend : Option (Nat × Nat) := none
  stepPend : Option (Nat × Nat) := none
  stopFrom : Nat := 0
  lastPer : Nat := 0
  subOk : Bool := false
  lastExp : Nat := 0
  beaconFrom : Nat := 0
  lastPhase : Nat := 0
  beaconDiff : Nat := 0
  alignPend : Bool := false
  arm : Option Arm := none
  scanCentre : Nat := 0
  swBase : Nat := 0
  readAhead : List (Nat × Nat × Pin) := []
  heldWhole : Bool := false
  nextPin : Nat := 0
  nextIn : Nat := 0
  pinDue : Nat := 0
  wraps : Nat := 0
  posted : List (Nat × Pin) := []
  dispatched : List Placed := []
  lastDispatch : Nat := 0
  lateWritten : Bool := false
  incChanged : Bool := false
  eccSkip : List Nat := []
  lastSwap : Option Nat := none
  trail : Option (List (Nat × Nat × Nat)) := none
deriving DecidableEq, Repr, Inhabited

/-- What a camera window keeps beside its registers (R86, R89, R91): the waiting writes and the count of wraps at which the first was made,
the guard as a fraction, as it stood when the gaps were last computed, the open edge in progress and the mismatch marks of this cycle and
of the cycle before. -/
structure CamWin where
  pend : List (Nat × Nat) := []
  pendFrom : Nat := 0
  guardF : Nat := 0
  openFrac : Option Nat := none
  measured : Bool := false
  mism : Bool := false
  mismBefore : Bool := false
deriving DecidableEq, Repr, Inhabited

/-! ### Plane sequencing and facet ports (03, 04) -/

/-- A word on a facet or Palis lane: control or data header, and 64 payload bits (R140, R468). -/
structure LWord where
  ctl : Bool
  w : Word
  inj : Bool := false
deriving DecidableEq, Repr

/-- One of a port's two plane buffers (R110, R111): the plane it holds (set, array, plane index), the deadline of the fetch in progress, the
blocks fetched or being fetched, in order, how many of their words have arrived, and the values of these. -/
structure PlaneBuf where
  plane : Option (Nat × Nat × Nat) := none
  fetching : Option Nat := none
  blocks : List Nat := []
  got : Nat := 0
  words : KMap Word := []
deriving DecidableEq, Repr, Inhabited

/-- One of a beam port's two line buffers (R133): the line it holds (set, line), how many of its columns have arrived, and their values. -/
structure LineBuf where
  line : Option (Nat × Nat) := none
  got : Nat := 0
  words : KMap Word := []
deriving DecidableEq, Repr, Inhabited

/-- A block load of a port (R142): its array, block mask, plane index, the set it reads (none: fixed plane or all-off content), when
its first word is ready (quanta), the position in the stream of its next word, how many of its words have entered, whether one of them
was replaced, the words of the CRC groups not yet closed, whether it waited behind another, and the buffer that a load in flight keeps
when the port is disabled (R128). -/
structure Load where
  arr : Nat
  mask : Nat
  plane : Nat
  set : Option Nat
  fill : Option Bool
  ready : Nat := 0
  next : Nat := 0
  sent : Nat := 0
  under : Bool := false
  group : List Word := []
  queued : Bool := false
  kept : Option PlaneBuf := none
deriving DecidableEq, Repr

/-- A RESET or CMD word that is to enter the stream (R154). A reset has its placed time and the time at which its word falls due, both in
quanta; the PARK of a trip is sent whatever R113 and R114 say. -/
inductive DueWord where
  | reset (arr kind mask placed due : Nat) (trip : Bool)
  | cmd (op arr arg due : Nat)
deriving DecidableEq, Repr

/-- A fetch notice (R111): the timebase, bank and index of its pin; array, mask, plane index; predicted placed time in quanta. -/
structure Notice where
  tb : Nat
  bank : Nat
  index : Nat
  arr : Nat
  mask : Nat
  plane : Nat
  placed : Nat
deriving DecidableEq, Repr

/-- A line that a beam port draws (R131, R132): its direction, set and line, when its next sample enters (quanta), how many samples have
entered, and whether one of them was replaced. -/
structure BeamLine where
  rev : Bool
  set : Option Nat
  line : Nat
  next : Nat
  n : Nat := 0
  under : Bool := false
deriving DecidableEq, Repr

/-- A reset-block load sent and awaiting its ACK (R150), with the time in quanta at which its last word left the serialiser. -/
structure AwaitAck where
  arr : Nat
  blk : Nat
  lseq : Nat
  plane : Nat
  sentAt : Option Nat
deriving DecidableEq, Repr

/-- What a port keeps for one of its arrays (04): the last reset of each block, sequence numbers, STATUS flags, the time of each
sensor's last TEMP word, the values of the capability exchange, and of its sensors (as masks) those that are stale and those that owe a
TEMP word since (R162). -/
structure ArrayRec where
  lastReset : KMap (Option Nat) := []
  lseq : Nat := 0
  rseq : Nat := 0
  flags : Nat := 0
  tempAt : KMap Nat := []
  tempVal : KMap Nat := []
  reported : Nat := 0
  caps : KMap Word32 := []
  doneCaps : KMap Word32 := []
  capsSeen : Nat := 0
  tlimRep : Nat := 0
  parkAgain : Nat := 0
  late : Nat := 0
  owed : Nat := 0
deriving DecidableEq, Repr, Inhabited

/-- What a facet port keeps beside its registers (R106 to R175). Of its stream: the time in quanta of the row boundary from which positions
count, the next position free, the load in progress and those that wait, the RESET and CMD words to come, and the words sent with their
positions: the word at position m travels on lane m mod 10 of the port in FTX cycle m / 10, and a position not listed holds IDLE (R139,
R140). `parkDue` and `tripDue` are what a VB_LATCH has let through of PARK, UNPARK and CLEAR_TRIP; `taints` the frames that are tainted, by
the latch that began them (R151); `samples` the samples of drawn sweeps, with their number in the line and their lane (R129); `evalDone`: whether the values of its next update point have been evaluated (R229). -/
structure Port where
  ready : List (Nat × Nat) := []
  lastLatch : Option Nat := none
  buf0 : PlaneBuf := {}
  buf1 : PlaneBuf := {}
  notices : List Notice := []
  rowFrom : Nat := 0
  nextPos : Nat := 0
  cur : Option Load := none
  queue : List Load := []
  due : List DueWord := []
  sent : List (Nat × LWord) := []
  frameEv : List Nat := []
  arr0 : ArrayRec := {}
  arr1 : ArrayRec := {}
  arr2 : ArrayRec := {}
  await : List AwaitAck := []
  taints : List (Option Nat) := []
  parkPend : Option Bool := none
  parkDue : Option (Bool × Nat) := none
  parkHold : Bool := false
  clearPend : Nat := 0
  tripDue : Nat := 0
  capsBusy : Bool := false
  capsDone : Bool := false
  echoes : List Nat := []
  echoSent : List (Nat × Nat) := []
  line0 : LineBuf := {}
  line1 : LineBuf := {}
  beam : Option BeamLine := none
  samples : List (Nat × Nat × Word) := []
  evalDone : Bool := false
deriving DecidableEq, Repr, Inhabited

/-! ### Pixel path (05) -/

/-- A fence read of a layer (R209): for the pending commit or for the carried state, its address, when it was issued (quanta), what it read (none
where it faulted), and when it returned (quanta). -/
structure FenceRead where
  go : Bool
  addr : Nat
  issued : Nat
  value : Option Nat
  back : Option Nat := none
deriving DecidableEq, Repr

/-- What a pipe keeps for a layer beside its registers: the state carried for a later latch (R210), the state in effect before the last latch and
whether its buffer was then valid (R211, R213), whether a fault of the buffer in effect was resolved as failed (R368), and its fence reads (R209). A
layer state is the values of its SH registers, in the order of R218. -/
structure LayerRec where
  carried : Option (List Word) := none
  prev : List Word := []
  prevOk : Bool := false
  bad : Bool := false
  fences : List FenceRead := []
deriving DecidableEq, Repr, Inhabited

/-- What a layer shows in a render: a state's buffer (none: the layer is off or transparent), or from an output line on that of its previous state, or
nothing (R210, R213). -/
structure Shown where
  layer : Nat
  st : List Word
  cut : Option Nat
  after : List Word
deriving DecidableEq, Repr

/-- A buffer referenced for a layer (R214, R369): its number, layer, ADDR0, the byte ranges of its planes, and whether it was taken. -/
structure LayerBuf where
  gen : Nat
  layer : Nat
  addr0 : Nat
  ranges : List (Nat × Nat)
  taken : Bool
deriving DecidableEq, Repr

/-- A render in progress (R199): its set slot, the ports it is routed to, the placed time of its latch (quanta), and what its layers show, from the
bottom up. -/
structure Render where
  slot : Nat
  ports : List Nat
  placed : Nat
  shown : List Shown
deriving DecidableEq, Repr

/-- What a pipe keeps beside its registers: its layers, buffers, render, table loads in progress (bank and address) and tables. -/
structure PipeRec where
  layers : KMap LayerRec := []
  bufs : List LayerBuf := []
  genNext : Nat := 0
  render : Option Render := none
  meshLoad : Option (Nat × Nat) := none
  lutLoad : Option (Nat × Nat) := none
  mesh0 : List Byte := []
  mesh1 : List Byte := []
  lut0 : List Byte := []
  lut1 : List Byte := []
deriving DecidableEq, Repr, Inhabited

/-! ### Light drive (06) -/

/-- The values a string has taken at an update point (R229): level table, threshold, clamp, scale, group level and derating. -/
structure Taken where
  lvl : List Nat := []
  ith : Nat := 0
  imax : Nat := 0
  scale : Nat := 0x8000
  v : Nat := 0x10000
  d : Nat := 0x10000
deriving DecidableEq, Repr, Inhabited

/-- What is to happen at a string at a known time: the reference goes to a level (R231), a shunt edge reaches its land (R233), asked for by a
pin or by the pulse-spread generator (R235), or a gate turns on or off (R226). -/
inductive StrAct where
  | level (k : Nat)
  | shunt (closed free : Bool)
  | hs (on : Bool)
  | ls (on : Bool)
deriving DecidableEq, Repr

/-- An action due at a string, in quanta; of a probe's pin its placed time (R256). -/
structure StrDue where
  at_ : Nat
  act : StrAct
  probe : Option Nat := none
deriving DecidableEq, Repr

/-- What a string keeps beside its registers (R222 to R256): values in effect and those evaluated for the next update point, the
reference in force and the level it belongs to, the two gates with the times of their last change, what is due at it, the step in progress,
the switching periods (all, those without a change of the reference and the sum of these) and those of the last 256 once complete, the
overcurrent count, whether it was clamped in its group's frame, the frames with a late step (by their latch), free-mode values and the slot
acted on last, the on-time and the high-side time within it with the time up to which they are counted, when the shunt last opened, and
the probe: when requested, the gaps tried, the start of the last of them, and its final pin's placed time once placed. Times but the
request's are in quanta. -/
structure StringRec where
  taken : Taken := {}
  evald : Option Taken := none
  iref : Nat := 0
  lvl : Nat := 0
  hs : Bool := false
  ls : Bool := false
  hsAt : Nat := 0
  lsAt : Nat := 0
  due : List StrDue := []
  stepFrom : Option Nat := none
  lastOn : Option Nat := none
  refChanged : Bool := false
  perCnt : Nat := 0
  perUse : Nat := 0
  perSum : Nat := 0
  meanDue : Option (Nat × Nat) := none
  overCnt : Nat := 0
  overThis : Bool := false
  clamped : Bool := false
  lateFrames : List (Option Nat) := []
  waitPeriod : Bool := false
  freeDuty : Nat := 0
  freeBits : Nat := 0
  freeRep : Nat := 0
  freeSlot : Option Nat := none
  markAt : Nat := 0
  onTime : Nat := 0
  hsTime : Nat := 0
  litAt : Nat := 0
  openSeen : Bool := false
  diagLast : Nat := 0
  probeAt : Option Nat := none
  probeTried : Nat := 0
  probeGap : Nat := 0
  probeRun : Option Nat := none
deriving DecidableEq, Repr, Inhabited

/-- A reading kept for a group's frame (R242, R243): input, kind, current (binary32), window length, time of closing in quanta, the latches
that began the frames in which its window opened, port by port, and whether its own flags let the loop use it. -/
structure Reading where
  input : Nat
  kind : Nat
  cur : Nat
  len : Nat
  closed : Nat
  frames : List (Option Nat)
  usable : Bool
deriving DecidableEq, Repr

/-- A running fade (R247). -/
structure Fade where
  v0 : Nat
  v1 : Nat
  ms : Nat
  curve : Bool
  start : Nat
deriving DecidableEq, Repr

/-- A mirrored LIGHT record (R511): V, the fade if one is active, and for each member string its number, SCALE and D. -/
structure LightMir where
  v : Nat
  fade : Option Fade
  strings : List (Nat × Nat × Nat)
deriving DecidableEq, Repr

/-- What a colour group keeps beside its registers (R242 to R248): V as written or as a fade left it, V last applied, whether V keeps the
value last applied (R248), V in effect in the present frame of PORT, what was evaluated for the next point of PORT (with the fade that ends
there), the fade, the readings of the frame, and the state of ratios, drift and light. -/
structure GroupRec where
  vCur : Nat := 0x10000
  vApp : Nat := 0x10000
  vHold : Bool := false
  vFrame : Nat := 0x10000
  vEval : Option (Nat × Option Fade) := none
  fade : Option Fade := none
  readings : List Reading := []
  ratioM : List Nat := []
  ratioL : List Nat := []
  seenM : Bool := false
  seenL : Bool := false
  driftM : Bool := false
  driftL : Bool := false
  chromaX : Bool := false
  noLight : Bool := false
  mir : Option LightMir := none
deriving DecidableEq, Repr, Inhabited

/-- An open photodiode window (R237, R239): opening time in quanta, length, range, tag, what its reading must carry, and the latches that
began the frames of its opening, port by port (R242). -/
structure PdWin where
  openAt : Nat
  openShow : Nat
  len : Nat
  range : Nat
  tag : Nat
  settle : Bool
  stale : Bool
  holdover : Bool
  lit : Bool
  frames : List (Option Nat)
  codes : List Nat
deriving DecidableEq, Repr

/-- What a photodiode input keeps beside its registers. -/
structure PdRec where
  win : Option PdWin := none
  lastClose : Option (Nat × Nat) := none
deriving DecidableEq, Repr, Inhabited

/-- What a string bank keeps beside its registers (R253): the falls of D that not every string has taken, oldest first, each with the time in
ns of the round that required it, the last temperature, and whether VGD is low, with the time at which it was found so (R586). -/
structure BankRec where
  falls : List (Nat × Nat) := []
  temp : Option Int := none
  vgdLow : Bool := false
  vgdAt : Nat := 0
deriving DecidableEq, Repr, Inhabited

/-- An edge at a shunt-drive land: string, closed or open, and its time in quanta (R233). -/
structure LandEdge where
  string : Nat
  closed : Bool
  time : Nat
deriving DecidableEq, Repr

/-! ### Motion control (07) -/

/-- A record of a follow stream that CTL has read and still needs (R295): show time, position (Q32.32) and its index in the ring. -/
structure StreamRec where
  time : Nat
  pos : Int
  idx : Nat
deriving DecidableEq, Repr

/-- What an axis keeps beside its registers (R263 to R299): when an EN not yet in RUN was accepted (ns); the generator's position (turns),
velocity, acceleration, goal and goal velocity; a goal of GO not yet taken; whether the next sample is the first after EN; the limits in
effect while a write is pending; the action in force in FAULT (0 HOLD, 1 BRAKE, 2 COAST); carrier periods since RUN; the gates (0 off, 1
low sides on, 2 driven); the compare values written and not yet reloaded, with the time of their writing in quanta, and those in effect
(high-side on-time of each pair, quanta); the start of the carrier period (quanta), with SYNC its number over all cycles, and whether its peak
is still to come; the following records; the oscillation detector. -/
structure AxisRec where
  enabling : Option Nat := none
  p : Rat := 0
  v : Rat := 0
  a : Rat := 0
  g : Rat := 0
  vg : Rat := 0
  goal : Option Int := none
  first : Bool := false
  limEff : Option (Nat × Nat × Nat) := none
  action : Nat := 0
  periods : Nat := 0
  gates : Nat := 0
  cmpPend : Option (Nat × List Nat) := none
  cmpEff : List Nat := []
  carrierAt : Nat := 0
  slot : Nat := 0
  peak : Bool := false
  far : Bool := false
  ferrRun : Nat := 0
  readings : List (Int × Nat) := []
  vel : Rat := 0
  recs : List StreamRec := []
  nextIdx : Nat := 0
  lastTime : Option Nat := none
  oscState : List Rat := []
  oscSide : Int := 0
  oscN : Nat := 0
  oscCross : List Nat := []
  oscDisarmed : Bool := false
deriving DecidableEq, Repr, Inhabited

/-- What a sigma-delta input keeps of its fast path (R273): how many consecutive values lay above ITRIP, and the last value, of ±256. -/
structure SdRec where
  run : Nat := 0
  last : Int := 0
deriving DecidableEq, Repr, Inhabited

/-- What a loop tile keeps beside its registers (R278 to R288): history mantissas, latest first, the run of quiet samples, the demand register, the
sample starts triggered and not yet made, the start of the computation in progress, the encoder reading it has and when that reading arrived, of a
current sample the filter outputs latched and the electrical angle, the last start (for TIMER), the last firing and the interval before it (for PIN,
ns), and when it last wrote SATURATED (ns). Times but these are in quanta. -/
structure TileRec where
  x : List Int := [0, 0, 0]
  y : List Int := [0, 0, 0]
  quiet : Nat := 0
  dem : Nat := 0
  due : List Nat := []
  startAt : Option Nat := none
  reading : Option (Int × Nat) := none
  readAt : Nat := 0
  fs : List Int := []
  angle : Rat := 0
  lastFire : Option Nat := none
  interval : Nat := 0
  satAt : Option Nat := none
deriving DecidableEq, Repr, Inhabited

/-- What an encoder interface keeps beside its registers (R274 to R277): the quadrature count, the last two valid readings (Q32.32, ns),
the run of invalid readings, the time of the request of the frame in progress, and when an idle request was last issued. -/
structure EncRec where
  count : Int := 0
  last : Option (Int × Nat) := none
  before : Option (Int × Nat) := none
  badRun : Nat := 0
  frame : Option Nat := none
  idleAt : Nat := 0
deriving DecidableEq, Repr, Inhabited

/-- A friction or cogging table load in progress (R284). -/
structure TblLoad where
  axis : Nat
  kind : Nat
  bank : Nat
  addr : Nat
deriving DecidableEq, Repr

/-! ### Bobbins (08) -/

/-- What a thread in WAIT waits for (R308, R324 to R332), with the register its result goes to. -/
inductive Waiting where
  | nothing
  | phase (tb target d : Nat)
  | mail (d : Nat) (deadline : Option Nat)
  | queue (q d : Nat)
  | barrier (k : Nat)
  | moves (d : Nat)
  | slot (src dst len : Nat)
deriving DecidableEq, Repr

/-- A move of a thread (R324, R340). -/
structure Move where
  valid : Bool := false
  suspended : Bool := false
  status : Nat := 0
  src : Nat := 0
  dst : Nat := 0
  left : Nat := 0
deriving DecidableEq, Repr, Inhabited

/-- What a thread slot keeps beside its registers (R308 to R347): the register files, priority, FPST, OPST, CYCLE (what it had when its
context was loaded, and the bobbin's cycles then), mailbox, the instruction not retired, what it waits for, its moves and the first
failed one's status, debug flags, the siblings a YIELD waits for, the state a SAVING context records, and a STOP that waits. -/
structure Thread where
  g : KMap Word := []
  v : KMap Vec := []
  p : Nat := 1
  tpri : Nat := 0
  fpst : Nat := 0
  opst : Nat := 0
  cycBase : Nat := 0
  cycFrom : Nat := 0
  mail : Word := 0#64
  mailFull : Bool := false
  lossRun : Bool := false
  pendInsn : Nat := 0
  pendAddr : Nat := 0
  wait : Waiting := .nothing
  moves : KMap Move := []
  moveFail : Option Nat := none
  stepping : Bool := false
  stepDone : Bool := false
  bpPass : Bool := false
  bpAt : Option Nat := none
  yieldFor : List Nat := []
  saveState : Nat := 0
  stopPend : Bool := false
deriving DecidableEq, Repr, Inhabited

/-- A pillow barrier (R332): its count and the threads that have arrived. -/
structure Barrier where
  count : Nat := 0
  arrived : List Nat := []
deriving DecidableEq, Repr, Inhabited

/-! ### Memory and translation (09) -/

/-- Who holds a reference or guard (R369). -/
inductive HolderId where
  | bank (tb bank : Nat)
  | set (port slot : Nat)
  | layer (pipe layer plane gen : Nat)
deriving DecidableEq, Repr

/-- A reference (R369): its range of virtual addresses in the system's context, whether it guards and since when, and for a locked reference
the 64 KiB pages it was resolved to, as pairs of virtual and physical page numbers. -/
structure Holder where
  id : HolderId
  va : Nat
  len : Nat
  guarded : Bool
  guardAt : Nat := 0
  locked : Bool
  pages : List (Nat × Nat)
  entries : Nat
deriving DecidableEq, Repr

/-- An access that the MMU holds (R364, R368): its record's SEQ, agent and unit, context, address and kind of access, whether it
waits for a page request, for a ring entry the bytes still to be written, and which of the unit's accesses it is (a job's entry index plus 2, a
move's index; for a queue 0 is a ring entry written and 1 an entry read), and the host page of the page request it waits for. -/
structure HeldAccess where
  seq : Nat
  agent : Nat
  unit : Nat
  asid : Nat
  va : Nat
  kind : Nat
  pri : Bool
  data : List Byte
  sub : Nat := 0
  page : Nat := 0
deriving DecidableEq, Repr

/-- A page request outstanding (R363). -/
structure PageReq where
  asid : Nat
  page : Nat
  sentAt : Nat
deriving DecidableEq, Repr

/-- An entry of the address translation cache (R362): context, host page and the translated page. -/
structure AtcEntry where
  asid : Nat
  page : Nat
  xlat : Nat
deriving DecidableEq, Repr

/-- What the MMU keeps beside its registers: `lapsing` are the physical pages of guards released, and when (R371). -/
structure Mmu where
  holders : List Holder := []
  lapsing : List (Nat × List Nat) := []
  tblPages : List Nat := []
  tables : List (Nat × Nat) := []
  held : List HeldAccess := []
  seqNext : Nat := 0
  lostRun : Bool := false
  atc : List AtcEntry := []
  priEn : Bool := false
  priStop : Bool := false
  priOut : List PageReq := []
  priWait : List PageReq := []
  cmdPend : Option Nat := none
  guardDropAt : Option Nat := none
deriving DecidableEq, Repr, Inhabited

/-- A training operation in progress (R390 to R392). -/
structure TrainOp where
  op : Nat
  live : Bool
  startedAt : Nat
  cancelled : Bool
deriving DecidableEq, Repr

/-- What a memory channel keeps beside its registers. -/
structure Channel where
  train : Option TrainOp := none
  rows : KMap (Option (BitVec 576)) := []
  delayEff : KMap Word := []
  delayPend : List (Nat × Word) := []
  nbQueue : List (Nat × Nat × Nat) := []
  corrAt : Option Nat := none
  nbDropAt : Option Nat := none
  refreshRow0 : Nat := 0
  refreshRow1 : Nat := 0
  refreshAt0 : Nat := 0
  refreshAt1 : Nat := 0
  hot0 : Bool := false
  hot1 : Bool := false
deriving DecidableEq, Repr, Inhabited

/-- A host access through BAR2 (R409): a write of bytes at an offset, or a read with what the check of its burst finds. -/
inductive Bar2Req where
  | write (a : Nat) (bs : List Byte)
  | read (a len finding : Nat)
deriving DecidableEq, Repr

/-- What the memory controller keeps beside its registers (R385 to R389, R618): `waiting` says that a request waits for memory that sleeps,
`bar2Wait` holds the host's accesses that wait for a channel. -/
structure MemCtl where
  uncorr : List Nat := []
  lastReq : Nat := 0
  waiting : Bool := false
  bar2Wait : List Bar2Req := []
  srCmdAt : Nat := 0
  srEnterAt : Nat := 0
  srExitAt : Nat := 0
  srByReq : Bool := false
  missAt : KMap (Option Nat) := []
  passStart : Nat := 0
  asleepNs : Nat := 0
deriving DecidableEq, Repr, Inhabited

/-! ### Host interface and queues (10) -/

/-- Who serves a claimed entry (R422). -/
inductive Claimant where
  | dma
  | cmp (unit : Nat)
  | thread (t : Nat)
deriving DecidableEq, Repr

/-- A claimed entry that has not ended (R417 to R432, R460): its index, its 64 bytes, its claimant, how far its job has come, whether a
fault holds it, when its abort took effect, the outcome its job has reached, the last QPROG offset, and for a compression job its output
bytes, its blocks, its error code and the window behind it, latest byte first. -/
structure Claim where
  idx : Nat
  desc : List Byte
  by_ : Claimant
  done : Nat := 0
  held : Bool := false
  aborted : Option Nat := none
  outcome : Option Nat := none
  prog : Nat := 0
  out : Nat := 0
  blocks : Nat := 0
  err : Nat := 0
  win : Option (List Byte) := none
deriving DecidableEq, Repr

/-- What the queue manager keeps for a queue beside its registers. -/
structure QueueRec where
  claims : List Claim := []
  ended : KMap (Option (Nat × Nat)) := []
  skip : List (Nat × Bool) := []
  readHeld : Bool := false
  flrDrain : Bool := false
  wrapped : Nat := 0
  evSeq : Nat := 0
  lost : Nat := 0
  sinceSig : Nat := 0
  firstPend : Option Nat := none
  irqNow : Bool := false
  dbBadAt : Option Nat := none
deriving DecidableEq, Repr, Inhabited

/-- One vector of an MSI-X table (R402, R429). -/
structure MsixVec where
  addr : Word := 0#64
  data : Word32 := 0#32
  masked : Bool := true
  pending : Bool := false
deriving DecidableEq, Repr, Inhabited

/-- A message the block sends on the PCI Express link. -/
inductive HostMsg where
  | msix (fn vec : Nat) (addr : Word) (data : Word32)
  | pageRequest (asid page : Nat)
  | invalidateCompletion (asid page : Nat)
  | bar2Data (off : Nat) (data : List Byte) (poisoned : Bool)
  | unsupportedRequest (off : Nat)
deriving DecidableEq, Repr

/-- What the host interface keeps beside its registers. -/
structure HostIf where
  linkDown : Bool := true
  badAccessAt : Option Nat := none
  flr : List Nat := []
deriving DecidableEq, Repr, Inhabited

/-- An event record (R15) kept until a route exists for it (R616, R443). -/
structure EventRec where
  time : Nat
  block : Nat
  sev : Nat
  code : Nat
  loc : Nat
  arg : Nat
deriving DecidableEq, Repr

/-! ### Serial lanes (12) -/

/-- What a lane keeps beside its registers (R469 to R490): the receiver's word boundary (0 to 65), when each transmit tap last moved, the
answers to the last request, an INJ not yet used, the last ALIGN count and the run of rows that agree, whether the partner has reported
deskew, when HDR_ERRORS was last written, when the checker began to lock, how many bits its lock takes and how many have been settled, a scan's
start and bits, when each equaliser parameter last stepped, and since when the receiver has been quiet (R475). -/
structure LaneRec where
  boundary : Nat := 0
  tapAt : KMap (Option Nat) := []
  resp : Nat := 0
  inj : Bool := false
  alignLast : Option Nat := none
  agree : Nat := 0
  pDesk : Bool := false
  hdrAt : Option Nat := none
  chkFrom : Nat := 0
  chkLock : Nat := 0
  chkSeen : Nat := 0
  scan : Option (Nat × Nat) := none
  eqAt : KMap (Option Nat) := []
  quietFrom : Nat := 0
deriving DecidableEq, Repr, Inhabited

/-- What a link keeps beside its registers (R472 to R484), in nanoseconds: entry to its stage, the next poll, when it announced
electrical idle, when the partner did, the picot in progress, the end of the last picot, the count of its last ALIGN row, and whether it was
brought up as a beam link (R481). -/
structure LinkRec where
  stageAt : Nat := 0
  pollAt : Nat := 0
  idleFrom : Option Nat := none
  eidleAt : Option Nat := none
  picotAt : Option Nat := none
  picotEnd : Option Nat := none
  alignTx : Nat := 0
  beam : Bool := false
deriving DecidableEq, Repr, Inhabited

/-! ### Palis and twins (13) -/

/-- A Palis packet (R500): `len` is the LEN of a packet cut short, `crc` the CRC word of a packet passed on (R501, R502). -/
structure CasPkt where
  kind : Nat
  flags : Nat
  dest : Nat
  src : Nat
  hops : Nat
  data : List Word
  len : Option Nat := none
  crc : Option Word := none
deriving DecidableEq, Repr

/-- What waits in an output port's FIFO (R525): a packet as it is, or one whose content is fixed as it is sent: a beacon (its sequence and
HOLDOVER), a DELAY_REQ, a DELAY_RESP (T1, T2), a HEARTBEAT (its sequence and flags), or the mirror records that wait (R511). -/
inductive CasOut where
  | packet (p : CasPkt)
  | beacon (seq : Nat) (hold : Bool)
  | delayReq
  | delayResp (t1 t2 : Word)
  | heartbeat (seq flags mir : Nat)
  | records
deriving DecidableEq, Repr

/-- An entry of a FIFO: when it may leave, in quanta, and its rank of R525. -/
structure CasQ where
  at_ : Nat
  prio : Nat
  item : CasOut
deriving DecidableEq, Repr

/-- A packet as it was sent: the position of its PKT word in the port's stream of words (R497), and those of its words that an INJ met (R486). -/
structure CasSent where
  pos : Nat
  pkt : CasPkt
  hit : List Nat
deriving DecidableEq, Repr

/-- What a Palis port keeps beside its registers (R497 to R527): the last values of D, the limits of its events, its FIFO, the time in quanta from
which its words are counted, the next free position, the packets it has sent, the CAPS packets among them, the last DELAY_REQ, and what its
partner's CAPS said (mode and version, R498). -/
structure PalisPort where
  delays : List Int := []
  badAt : Option Nat := none
  dropAt : Option Nat := none
  fifo : List CasQ := []
  rowFrom : Nat := 0
  nextPos : Nat := 0
  sent : List CasSent := []
  capsSent : Nat := 0
  reqAt : Option Nat := none
  agreed : Bool := false
  heard : Option (Nat × Nat) := none
  misRun : Bool := false
  peerHolds : Bool := false
deriving DecidableEq, Repr, Inhabited

/-- A byte ring of CAS (R533 to R537): the offset at which a held write will leave HEAD, whether a failed fault stopped it, and whether it
is losing records. -/
structure CasRing where
  stall : Option Nat := none
  stopped : Bool := false
  losing : Bool := false
deriving DecidableEq, Repr, Inhabited

/-- What a subscription keeps beside its registers (R535): its ring, the last fragment's sequence, and whether it discards. -/
structure SubRec where
  ring : CasRing := {}
  last : Option Nat := none
  skipping : Bool := false
deriving DecidableEq, Repr, Inhabited

/-- The last beacon of the upstream port: T_S, ERR, hops from the master, and for each timebase carried its number, phase, increment. -/
structure BeaconRec where
  tS : Nat
  err : Nat
  hops : Nat
  phases : List (Nat × Nat × Nat)
deriving DecidableEq, Repr

/-- What the tree keeps beside its registers (R521 to R537): whether the next beacon may step show time, the loop's integrator, the last
beacon and when it came, the sequence of the next beacon sent, the last multiple of 64,000 ns served, the last PRESENCE, the rings. -/
structure CasTree where
  mayStep : Bool := true
  integ : Int := 0
  beacon : Option BeaconRec := none
  beaconAt : Nat := 0
  seq : Nat := 0
  lastMult : Nat := 0
  presAt : Option Nat := none
  rx : CasRing := {}
  tx : CasRing := {}
deriving DecidableEq, Repr, Inhabited

/-- What a twin keeps beside its registers (R505 to R520): whether it claims (1: for ACTIVE, 2: for ALONE), when HOLD_O was asserted, when
HOLD_I was last deasserted, the entry to WAIT, the handover's start H, trigger and FORCED flag, the trigger awaited, the last
TAKEOVER_STUCK, DEM_O, YIELD, the triggers heard and refused, heartbeats sent and heard, RESYNC, the mirror sequences, the records that wait to be sent with
their times in quanta, the AXIS records that wait for a generator period or a tile's sample, the identities of each pipe, the
phase checks, the swaps mirrored, the axes in RUN, the claimed entries, and the state of the mirror. -/
structure TwinRec where
  claiming : Nat := 0
  holdAt : Nat := 0
  hiOff : Nat := 0
  waitAt : Nat := 0
  hAt : Nat := 0
  trig : Nat := 0
  forced : Bool := false
  awaited : Option Nat := none
  stuckAt : Option Nat := none
  demO : Bool := false
  yield : Bool := false
  heard : List Nat := []
  refused : List Nat := []
  partnerRef : Bool := false
  hbSeq : Nat := 0
  hbSent : Option Nat := none
  hbHeard : Option Nat := none
  missRun : Nat := 0
  partnerHolds : Option Bool := none
  resync : Bool := false
  mirTx : Nat := 0
  mirRx : Option Nat := none
  mirOut : List (Nat × List Word) := []
  axPend : KMap (List Word) := []
  tilePend : KMap (List Word) := []
  ids : KMap (List Word) := []
  phaseRun : KMap Nat := []
  swaps : KMap (Option Nat) := []
  axesRun : List Nat := []
  entries : List (Nat × Nat) := []
  beyond : Bool := false
  full : Bool := false
  badSlots : List Nat := []
  qSent : KMap (Option (Nat × Nat)) := []
deriving DecidableEq, Repr, Inhabited

/-! ### Temperature, calibration and the geode (14) -/

/-- What the island keeps of an on-die sensor (R552): its run count and its last checks, latest first, up to four. -/
structure SensRec where
  run : Nat := 0
  checks : List Bool := []
deriving DecidableEq, Repr, Inhabited

/-- What the island keeps of a zone (R553, R554): its temperatures in 1/16 °C, latest first, since the last change of SUBST, and whether
its rate stands above RATE_WARN. -/
structure ZoneRec where
  hist : List Int := []
  warn : Bool := false
deriving DecidableEq, Repr, Inhabited

/-- What the safety island keeps beside its registers (R544 to R558, R585): sensors, zones, the thermistors in a run of invalid readings,
the channels outside their limits, whether VIN stands at or below VIN_PF, the rounds for which R554 still holds level 1, the rounds that
T_GOV has stood below the present level's threshold, whether a round has ended, since when each fan is slow, the range in which the last
round found each VIO bank, when latched shutdown began, whether its clocks have stopped, when a privileged shutdown began, whether the
PCI Express link is down until power-on reset, the last SRAM_CORR, the channel that the converter works on, when its conversion began, the
end of a round whose steps have yet to run, whether a round's steps have run since reset, and the words of the pads (by bobbin x 131,072 + offset) and shared
memories (by pillow x 2,097,152 + offset) found uncorrectable, by address div 8. -/
structure Island where
  sens : KMap SensRec := []
  zones : KMap ZoneRec := []
  thermBad : List Nat := []
  limOut : List Nat := []
  vinLow : Bool := false
  hold : Nat := 0
  cool : Nat := 0
  seen : Bool := false
  fanSlow : KMap (Option Nat) := []
  vioSeen : KMap Nat := []
  shutAt : Option Nat := none
  clocksOff : Bool := false
  privAt : Option Nat := none
  pcieDown : Bool := false
  scrubAt : Option Nat := none
  channel : Nat := 0
  convAt : Nat := 0
  roundAt : Option Nat := none
  stepped : Bool := false
  padBad : List Nat := []
  pilBad : List Nat := []
deriving DecidableEq, Repr, Inhabited

/-- An instance of a calibration target (R562 to R564): tap, trim code, COUNT, LAST_OK (show time) and the last error. -/
structure CalInst where
  tap : Nat := 0
  trim : Int := 0
  count : Nat := 0
  lastOk : Option Nat := none
  err : Int := 0
deriving DecidableEq, Repr, Inhabited

/-- A calibration run that is open (R560, R562): its instance, the show time at which its slot started, and the slot's ends in quanta. -/
structure CalRun where
  inst : Nat
  start : Nat
  openAt : Nat
  closeAt : Nat
deriving DecidableEq, Repr

/-- What CAL keeps of a target beside its registers: its instances, the run in progress, the instance run last, and the last CAL_REJECT. -/
structure CalTarget where
  insts : KMap CalInst := []
  run : Option CalRun := none
  last : Option Nat := none
  rejAt : Option Nat := none
deriving DecidableEq, Repr, Inhabited

/-- What the LEDGER object holds (R569, R574, R576): the accumulators, and the SEQ listed for each object's cut write. -/
structure Ledger where
  eq : Nat := 0
  time : Nat := 0
  tmax : Nat := 0
  seen : Bool := false
  priv : Nat := 0
  arr : List Nat := []
  life : Nat := 0
  cuts : KMap Nat := []
deriving DecidableEq, Repr, Inhabited

/-- A store command in progress (R570 to R572, R575): 1 WRITE, 2 READ, 3 LOG_APPEND, 4 LOG_READ, 5 LEDGER write; its object and slot (for a
log page its sequence), the payload, SEQ, the pages programmed, the show time of the start, whether the window has closed since, whether
a command asked for it, the destination, for a LEDGER the record it saves, and when the page operation in progress began. -/
structure NvmOp where
  op : Nat
  obj : Nat := 0
  slot : Nat := 0
  data : List Byte := []
  seq : Nat := 0
  step : Nat := 0
  start : Nat := 0
  closed : Bool := false
  asked : Bool := true
  addr : Nat := 0
  len : Nat := 0
  led : Option Ledger := none
  at_ : Nat := 0
deriving DecidableEq, Repr

/-- What the geode keeps beside its registers: the command in progress, whether a LEDGER write is due, the cut writes found and not yet
listed (object, SEQ), the cuts that the ledger in effect lists, the record that each LEDGER slot holds, and when the ledger was last
written. -/
structure Geode where
  op : Option NvmOp := none
  due : Bool := false
  found : List (Nat × Nat) := []
  cuts : KMap Nat := []
  slots : KMap Ledger := []
  savedAt : Nat := 0
deriving DecidableEq, Repr, Inhabited

/-! ### Power, reset and test access (15) -/

/-- Why a warm reset lasts (R594, R610). -/
inductive WarmKind where
  | pin
  | soft
  | test
deriving DecidableEq, Repr

/-- What the power die, the reset logic and the TAP keep beside their registers (R583 to R611): whether the island runs, whether the main
die runs, whether power-up waits for REFCLK, when the main die went off and for which cause (as RST_CAUSE), the consecutive RAIL causes,
the warm reset that runs, with the time of its request and of the first reset sample, whether boot is done, from when DBG_BOOT_TIME counts,
SVN of the running image, the lands PWRGD and FAULT_N, the TAP instruction, when the main die was last released from reset and the DBG_ACCESS
register. -/
structure Power where
  islandUp : Bool := true
  mainUp : Bool := true
  refWait : Bool := false
  offAt : Option Nat := none
  offCause : Nat := 0
  rails : Nat := 0
  warm : Option WarmKind := none
  warmAt : Nat := 0
  booted : Bool := false
  bootFrom : Nat := 0
  svn : Option Nat := none
  pwrgd : Bool := true
  faultN : Bool := false
  tap : Nat := 1
  relAt : Nat := 0
  dbgReg : Nat := 0
  selfRef : List Nat := []
deriving DecidableEq, Repr, Inhabited

/-! ### The state -/

/-- The state of the block. -/
structure State where
  /-- commands waiting, first in first out -/
  pending : List Instr := []
  /-- nanoseconds since power-on reset -/
  now : Nat := 0
  /-- show time (R12) in units of 2⁻³² ns -/
  showAcc : Nat := 0
  /-- the registers of BAR0, by offset; an unlisted one holds its reset value -/
  regs : KMap Word := []
  /-- lower halves held aside (R10) -/
  heldLow : KMap (Option Word32) := []
  /-- upper halves latched (R11) -/
  latchedHi : KMap (Option Word32) := []
  /-- what the last BAR0 read returned -/
  lastRead : Word := 0#64
  /-- how many free values have been taken -/
  freeCtr : Nat := 0
  /-- device DRAM, by device physical address -/
  dram : List Host.Cell := []
  /-- host memory as the block sees it, by host address -/
  host : List Host.Cell := []
  /-- bindings waiting for their boundary (R21), by the binding field's key: the timebase, and its count of wraps at the write -/
  bindPend : KMap (Option (Nat × Nat)) := []
  tbs : KMap Timebase := []
  cws : KMap CamWin := []
  ports : KMap Port := []
  mmu : Mmu := {}
  chans : KMap Channel := []
  memc : MemCtl := {}
  queues : KMap QueueRec := []
  msix : KMap MsixVec := []
  hostIf : HostIf := {}
  hostMsgs : List HostMsg := []
  heldEvents : List EventRec := []
  pipes : KMap PipeRec := []
  strings : KMap StringRec := []
  groups : KMap GroupRec := []
  pds : KMap PdRec := []
  banks : KMap BankRec := []
  shdEdges : List LandEdge := []
  /-- VIN of the last housekeeping round, in 10 mV (R254) -/
  vin10 : Nat := 0
  axes : KMap AxisRec := []
  tiles : KMap TileRec := []
  encs : KMap EncRec := []
  sds : KMap SdRec := []
  /-- the bytes of table 4n + 2 x kind + bank (R283) -/
  ctlTables : KMap (List Byte) := []
  ctlLoad : Option TblLoad := none
  /-- thread slots, by 4 x bobbin + thread -/
  threads : KMap Thread := []
  /-- the pads, by bobbin x 131,072 + offset (R306, R309) -/
  padMem : List Host.Cell := []
  /-- the pillows' shared memories, by pillow x 2,097,152 + offset (R306, R309) -/
  pilMem : List Host.Cell := []
  /-- the barriers, by pillow x 16 + barrier (R332) -/
  barriers : KMap Barrier := []
  /-- ENG cycles delivered, in 1/65,536 (R334, R335) -/
  engAcc : Nat := 0
  /-- when each bobbin (0 to 127) or pillow (128 on) last wrote ECC_CORRECTED (R352) -/
  engEccAt : KMap (Option Nat) := []
  /-- when each compression unit last wrote DATA_BAD (R464) -/
  cmpBadAt : KMap (Option Nat) := []
  lanes : KMap LaneRec := []
  links : KMap LinkRec := []
  palis : KMap PalisPort := []
  subs : KMap SubRec := []
  tree : CasTree := {}
  twin : TwinRec := {}
  island : Island := {}
  cals : KMap CalTarget := []
  geode : Geode := {}
  /-- the store die, by page x 4,096 + offset (R567) -/
  store : List Host.Cell := []
  power : Power := {}
deriving DecidableEq, Repr

/-- The machine right after power-on reset: every register at its reset value, nothing listed in any memory, every unit's record
empty (log entries 1 to 3). -/
def State.reset : State := {}

end Sys2Proof.Machine
end

