-- ==== Sys2Proof/Machine/Ops.lean ====
section
/-! DEFINITION. Machine/Ops.lean: the named operations over registers, memories, time and the records of the units. -/

namespace Sys2Proof.Machine

/-- What a meaning answers. -/
abbrev Out := Host.Outcome State Fault Refusal

/-! ### Status codes (R14) -/

def stOK : Nat := 0
def stDONE : Nat := 1
def stABORTED : Nat := 2
def stNOTHING : Nat := 3
def stBUSY : Nat := 4
def stFAULT : Nat := 5
def stGUARD : Nat := 6
def stPRECOND : Nat := 7
def stLINEBUF : Nat := 8
def stOUTFULL : Nat := 9
def stOUTLIMIT : Nat := 10
def stTIMEOUT : Nat := 11
def stBADDESC : Nat := 12
def stNOTPERM : Nat := 13
def stSTALE : Nat := 14
def stLIMITED : Nat := 15

/-! ### Severities (R17) -/

def svINFO : Nat := 0
def svNOTICE : Nat := 1
def svWARNING : Nat := 2
def svERROR : Nat := 3
def svCRITICAL : Nat := 4
def svSAFETY : Nat := 5

/-! ### Registers and fields -/

/-- The value a register holds. -/
def State.rd (s : State) (r : Nat) : Word := kget resetOf s.regs r

/-- Put a value into a register. -/
def State.wr (s : State) (r : Nat) (v : Word) : State := { s with regs := kset resetOf s.regs r v }

/-- Nothing is held aside for a 64-bit register any more (R10): it has taken a whole value. -/
def dropAside (r : Nat) (s : State) : State := { s with heldLow := kset (fun _ => none) s.heldLow r none }

/-- The value of a register as a number. -/
def State.rdN (s : State) (r : Nat) : Nat := (s.rd r).toNat

/-- Put a number into a register, modulo 2⁶⁴. -/
def State.wrN (s : State) (r : Nat) (v : Nat) : State := s.wr r (BitVec.ofNat 64 v)

/-- The mask of a field's bits within its register. -/
def Fld.mask (f : Fld) : Word := (BitVec.ofNat 64 (2 ^ f.w - 1)) <<< f.lo

/-- A word with one field replaced. -/
def putBits (old : Word) (f : Fld) (v : Nat) : Word :=
  (old &&& ~~~ f.mask) ||| ((BitVec.ofNat 64 (v % 2 ^ f.w)) <<< f.lo)

/-- A field's value. -/
def State.fld (s : State) (f : Fld) : Nat := (s.rd f.reg).toNat / 2 ^ f.lo % 2 ^ f.w

/-- Write a field, leaving the register's other bits as they are. -/
def State.setFld (s : State) (f : Fld) (v : Nat) : State := s.wr f.reg (putBits (s.rd f.reg) f v)

/-- Is a one-bit field set? -/
def State.flag (s : State) (f : Fld) : Bool := s.fld f != 0

/-- Bits [lo+w-1:lo] of a number. -/
def bits (v lo w : Nat) : Nat := v / 2 ^ lo % 2 ^ w

/-- Is bit i of a number set? -/
def bit (v i : Nat) : Bool := v / 2 ^ i % 2 == 1

/-- Pack fields (lowest bit, width, value) into a number. -/
def pack : List (Nat × Nat × Nat) → Nat
  | [] => 0
  | (lo, w, v) :: t => v % 2 ^ w * 2 ^ lo + pack t

/-- 1 for true. -/
def b2n (b : Bool) : Nat := if b then 1 else 0

/-- A number as a two's complement integer of w bits. -/
def sext (v w : Nat) : Int := if v % 2 ^ w < 2 ^ (w - 1) then ((v % 2 ^ w : Nat) : Int) else ((v % 2 ^ w : Nat) : Int) - ((2 ^ w : Nat) : Int)

/-- An integer as a field of w bits. -/
def ofInt (i : Int) (w : Nat) : Nat := (i % ((2 ^ w : Nat) : Int)).toNat

/-- Limit an integer to a range. -/
def clampI (x lo hi : Int) : Int := if x < lo then lo else if hi < x then hi else x

/-- Limit a number to a range. -/
def clampN (x lo hi : Nat) : Nat := if x < lo then lo else if hi < x then hi else x

/-- floor(a/b + 1/2), halves toward +infinity, for b > 0 (`rnd` of R279). -/
def rndDiv (a b : Int) : Int := (2 * a + b).fdiv (2 * b)

/-- ceil(a/b). -/
def ceilDiv (a b : Nat) : Nat := (a + b - 1) / b

/-- Advance a 32-bit counter that saturates at 0xFFFF_FFFF. -/
def State.bump (s : State) (r : Nat) : State := s.wrN r (if s.rdN r < 0xFFFFFFFF then s.rdN r + 1 else 0xFFFFFFFF)

/-- Advance a saturating 32-bit counter by n. -/
def State.bumpBy (s : State) (r n : Nat) : State := s.wrN r (min (s.rdN r + n) 0xFFFFFFFF)

/-! ### Bytes and memories -/

/-- Little-endian bytes of a number (R5). -/
def leBytes : Nat → Nat → List Byte
  | 0, _ => []
  | n + 1, v => BitVec.ofNat 8 v :: leBytes n (v / 256)

/-- The number that little-endian bytes spell (R5). -/
def leNat : List Byte → Nat
  | [] => 0
  | b :: t => b.toNat + 256 * leNat t

/-- n bytes of a memory from an address. -/
def readMem (m : List Host.Cell) (a : Nat) : Nat → List Byte
  | 0 => []
  | n + 1 => kget unwritten m a :: readMem m (a + 1) n

/-- A memory with bytes stored from an address. -/
def writeMem (m : List Host.Cell) (a : Nat) : List Byte → List Host.Cell
  | [] => m
  | b :: t => writeMem (kset unwritten m a b) (a + 1) t

/-- A number read from memory. -/
def readNat (m : List Host.Cell) (a n : Nat) : Nat := leNat (readMem m a n)

/-- A memory with an n-byte number stored. -/
def writeNat (m : List Host.Cell) (a n v : Nat) : List Host.Cell := writeMem m a (leBytes n v)

/-! ### The records of the units -/

def State.tb (s : State) (n : Nat) : Timebase := kget (fun _ => {}) s.tbs n
def State.setTb (s : State) (n : Nat) (x : Timebase) : State := { s with tbs := kset (fun _ => {}) s.tbs n x }
def State.cw (s : State) (n : Nat) : CamWin := kget (fun _ => {}) s.cws n
def State.setCw (s : State) (n : Nat) (x : CamWin) : State := { s with cws := kset (fun _ => {}) s.cws n x }
def State.port (s : State) (n : Nat) : Port := kget (fun _ => {}) s.ports n
def State.setPort (s : State) (n : Nat) (x : Port) : State := { s with ports := kset (fun _ => {}) s.ports n x }
def State.queue (s : State) (q : Nat) : QueueRec := kget (fun _ => {}) s.queues q
def State.setQueue (s : State) (q : Nat) (x : QueueRec) : State := { s with queues := kset (fun _ => {}) s.queues q x }
def State.chan (s : State) (c : Nat) : Channel := kget (fun _ => {}) s.chans c
def State.setChan (s : State) (c : Nat) (x : Channel) : State := { s with chans := kset (fun _ => {}) s.chans c x }

def State.str (s : State) (n : Nat) : StringRec := kget (fun _ => {}) s.strings n
def State.setStr (s : State) (n : Nat) (x : StringRec) : State := { s with strings := kset (fun _ => {}) s.strings n x }
def State.grp (s : State) (n : Nat) : GroupRec := kget (fun _ => {}) s.groups n
def State.setGrp (s : State) (n : Nat) (x : GroupRec) : State := { s with groups := kset (fun _ => {}) s.groups n x }
def State.pd (s : State) (n : Nat) : PdRec := kget (fun _ => {}) s.pds n
def State.setPd (s : State) (n : Nat) (x : PdRec) : State := { s with pds := kset (fun _ => {}) s.pds n x }
def State.bank (s : State) (n : Nat) : BankRec := kget (fun _ => {}) s.banks n
def State.setBank (s : State) (n : Nat) (x : BankRec) : State := { s with banks := kset (fun _ => {}) s.banks n x }

def State.pipe (s : State) (p : Nat) : PipeRec := kget (fun _ => {}) s.pipes p
def State.setPipe (s : State) (p : Nat) (x : PipeRec) : State := { s with pipes := kset (fun _ => {}) s.pipes p x }

def State.axis (s : State) (n : Nat) : AxisRec := kget (fun _ => {}) s.axes n
def State.setAxis (s : State) (n : Nat) (x : AxisRec) : State := { s with axes := kset (fun _ => {}) s.axes n x }
def State.tile (s : State) (t : Nat) : TileRec := kget (fun _ => {}) s.tiles t
def State.setTile (s : State) (t : Nat) (x : TileRec) : State := { s with tiles := kset (fun _ => {}) s.tiles t x }
def State.enc (s : State) (e : Nat) : EncRec := kget (fun _ => {}) s.encs e
def State.setEnc (s : State) (e : Nat) (x : EncRec) : State := { s with encs := kset (fun _ => {}) s.encs e x }

def State.sd (s : State) (k : Nat) : SdRec := kget (fun _ => {}) s.sds k
def State.setSd (s : State) (k : Nat) (x : SdRec) : State := { s with sds := kset (fun _ => {}) s.sds k x }

def State.th (s : State) (u : Nat) : Thread := kget (fun _ => {}) s.threads u
def State.setTh (s : State) (u : Nat) (x : Thread) : State := { s with threads := kset (fun _ => {}) s.threads u x }
def State.barrier (s : State) (k : Nat) : Barrier := kget (fun _ => {}) s.barriers k
def State.setBarrier (s : State) (k : Nat) (x : Barrier) : State := { s with barriers := kset (fun _ => {}) s.barriers k x }

def State.lane (s : State) (n : Nat) : LaneRec := kget (fun _ => {}) s.lanes n
def State.setLane (s : State) (n : Nat) (x : LaneRec) : State := { s with lanes := kset (fun _ => {}) s.lanes n x }
def State.link (s : State) (k : Nat) : LinkRec := kget (fun _ => {}) s.links k
def State.setLink (s : State) (k : Nat) (x : LinkRec) : State := { s with links := kset (fun _ => {}) s.links k x }

def State.palisPort (s : State) (p : Nat) : PalisPort := kget (fun _ => {}) s.palis p
def State.setPalis (s : State) (p : Nat) (x : PalisPort) : State := { s with palis := kset (fun _ => {}) s.palis p x }
def State.sub (s : State) (k : Nat) : SubRec := kget (fun _ => {}) s.subs k
def State.setSub (s : State) (k : Nat) (x : SubRec) : State := { s with subs := kset (fun _ => {}) s.subs k x }

/-! ### What runs, and the VIO banks (R545, R585, R589, R594) -/

/-- Does the main die run, outside a warm reset? -/
def State.mainOn (s : State) : Bool := s.power.mainUp && s.power.warm.isNone

/-- Do the clocks run that latched shutdown stops (R545)? -/
def State.clocked (s : State) : Bool := s.mainOn && !s.island.clocksOff

/-- Are BAR0 accesses to a block served (R545, R594)? -/
def State.served (s : State) (block : Nat) : Bool := s.mainOn && (!s.island.clocksOff || block == 0 || (decide (14 ≤ block) && decide (block ≤ 17)))

/-- Is a VIO bank UP (R585)? While it is DOWN, its lands read as R585's table says. -/
def State.bankUp (s : State) (v : Nat) : Bool := bits (s.rdN DBG_VIO_STAT) (2 * v) 2 != 0

/-- TKOVR_HOLD_I and TKOVR_DEM_I as they read: asserted while bank 0 is DOWN (R585). -/
def State.holdI (s : State) : Bool := s.flag CAS_TW_STAT_HOLD_I || !s.bankUp 0
def State.demI (s : State) : Bool := s.flag CAS_TW_STAT_DEM_I || !s.bankUp 0

def State.cal (s : State) (t : Nat) : CalTarget := kget (fun _ => {}) s.cals t
def State.setCal (s : State) (t : Nat) (x : CalTarget) : State := { s with cals := kset (fun _ => {}) s.cals t x }

/-- The record of array a of a port. -/
def Port.arr (p : Port) (a : Nat) : ArrayRec := if a = 0 then p.arr0 else if a = 1 then p.arr1 else p.arr2

/-- A port with the record of array a replaced. -/
def Port.setArr (p : Port) (a : Nat) (x : ArrayRec) : Port :=
  if a = 0 then { p with arr0 := x } else if a = 1 then { p with arr1 := x } else { p with arr2 := x }

/-! ### The twin (R505 to R513) -/

/-- Does the module drive the outputs it shares with a twin: a lone module, or one that holds (R505, R508)? -/
def State.driving (s : State) : Bool :=
  !s.flag CAS_TW_CTL_EN || s.fld CAS_TW_STAT_STATE == 3 || s.fld CAS_TW_STAT_STATE == 4

/-- A holder sends a mirror record (R511, R512) while the twin link is ACTIVE: type, index and data words. -/
def mirror (ty idx : Nat) (ws : List Word) (s : State) : State :=
  if s.flag CAS_TW_CTL_EN && s.driving && s.fld (LNK_K_STAT_STAGE 7) == 5 then
    let seq := (s.twin.mirTx + 1) % 2 ^ 32
    let hdr : Word := BitVec.ofNat 64 (ty + idx % 256 * 2 ^ 8 + ws.length % 2 ^ 16 * 2 ^ 16 + seq * 2 ^ 32)
    { s with twin := { s.twin with mirTx := seq, mirOut := s.twin.mirOut ++ [(4 * s.now, hdr :: ws)] } }
  else s

/-- The enabled twin slots whose own queue is q (R541). -/
def twinSlots (s : State) (q : Nat) : List Nat :=
  (List.range 64).filter (fun i => s.flag (CAS_TW_Q_EN i) && s.fld (CAS_TW_Q_OWN i) == q)

/-- ENTRY records of an entry of a twin SQ: 0 claimed, 1 ended (R512). -/
def mirrorEntry (q idx ended : Nat) (s : State) : State :=
  (twinSlots s q).foldl (fun t i => mirror 8 i [BitVec.ofNat 64 (idx + ended * 65536)] t) s

/-! ### Free values -/

/-- Take a free 64-bit value (log entry 4). -/
def State.takeFree (s : State) : Word × State := (Config.freeWord s.freeCtr, { s with freeCtr := s.freeCtr + 1 })

/-- Take a free bit (log entry 4). -/
def State.takeBit (s : State) : Bool × State := (Config.freeBit s.freeCtr, { s with freeCtr := s.freeCtr + 1 })

/-! ### Time -/

/-- Show time in whole nanoseconds, modulo 2⁶⁴ (R12). -/
def State.showTime (s : State) : Nat := s.showAcc / 2 ^ 32 % 2 ^ 64

/-- The state code of timebase n (R59). -/
def State.tbState (s : State) (n : Nat) : Nat := s.fld (PHS_TB_STAT_STATE n)

/-- The increment in use of timebase n (R49). -/
def State.incEff (s : State) (n : Nat) : Nat := s.rdN (PHS_TB_INC_EFF n)

/-- The nominal increment of timebase n. -/
def State.incBase (s : State) (n : Nat) : Nat := s.rdN (PHS_TB_INC_BASE n)

/-- One timebase's accumulator after dt nanoseconds, which `now` already counts (R49): an OFF timebase is stopped. -/
def advanceTb (dt n : Nat) (s : State) : State :=
  if s.tbState n = 0 then s
  else
    let t := s.tb n
    let a := t.acc + dt * s.incEff n
    s.setTb n { t with acc := a % 2 ^ 88, wraps := t.wraps + (a / 2 ^ 56 - t.acc / 2 ^ 56), trail := t.trail.map (fun l => l ++ [(s.now - dt, t.acc, s.incEff n)]) }

/-- ENG cycles a nanosecond, in 1/65,536, of the 2,000 MHz clock as it is throttled (R335, R351). -/
def engRate (s : State) : Nat :=
  let m := s.rdN ENG_THROT % 8
  let n := bits (s.rdN ENG_THROT) 8 8
  if m = 1 then 65536 else if m = 2 then 32768 else if m = 3 then 16384
  else if m = 4 && n != 0 then 131072 * (n - 1) / n else 131072

/-- dt nanoseconds pass: show time, every running timebase and the ENG clock advance (R12, R49, R335). DESIGN CHOICE (log entry 6): show time
does not count while the main die is off, before its release at power-on and in brown-out. -/
def passTime (dt : Nat) (s : State) : State :=
  let rate := sext (s.rdN CAS_RATE) 32
  let s1 := { s with now := s.now + dt, engAcc := s.engAcc + dt * engRate s, showAcc := if s.power.mainUp then (s.showAcc + (dt * ((2 : Int) ^ 32 + rate)).toNat) % 2 ^ 96 else s.showAcc }
  advanceTb dt 3 (advanceTb dt 2 (advanceTb dt 1 (advanceTb dt 0 s1)))

/-- The fraction of timebase n, 32 bits (R13). -/
def State.frac (s : State) (n : Nat) : Nat := (s.tb n).acc / 2 ^ 24 % 2 ^ 32

/-- The fraction of timebase n with its 24 sub-bits, 56 bits. -/
def State.frac56 (s : State) (n : Nat) : Nat := (s.tb n).acc % 2 ^ 56

/-- The cycle count of timebase n (R13). -/
def State.cycle (s : State) (n : Nat) : Nat := (s.tb n).acc / 2 ^ 56 % 2 ^ 32

/-- The phase of timebase n, in the format of R13. -/
def State.phase (s : State) (n : Nat) : Nat := (s.tb n).acc / 2 ^ 24 % 2 ^ 64

/-- Show time in nanoseconds at a time in quanta near the present (R12). -/
def showAtQ (s : State) (q : Nat) : Nat :=
  let d : Int := ((q : Int) - ((4 * s.now : Nat) : Int)).fdiv 4
  (((s.showAcc : Int) + d * ((2 : Int) ^ 32 + sext (s.rdN CAS_RATE) 32)).fdiv 4294967296).toNat % 2 ^ 64

/-- Is latched shutdown in force (R545)? -/
def isLatched (s : State) : Bool := s.flag HKP_STAT_LATCHED

/-- Is a timebase running? -/
def State.tbOn (s : State) (n : Nat) : Bool := s.tbState n != 0

/-- Has a bound been passed since a limited event was last written (1 ms)? -/
def msPassed (last : Option Nat) (now : Nat) : Bool :=
  match last with
  | none => true
  | some t => decide (t + 1000000 ≤ now)

end Sys2Proof.Machine
end

