-- ==== Sys2Proof/Machine/Xlate.lean ====
section
/-! DEFINITION. Machine/Xlate.lean: translation of device virtual addresses, references and guards (R353 to R359, R369 to R373). -/

namespace Sys2Proof.Machine

/-! ### Addresses (R354) -/

/-- The channel of a device physical address. -/
def chanOf (pa : Nat) : Nat := bits pa 8 4 ^^^ bits pa 12 4 ^^^ bits pa 16 4
/-- The die, 0 to 31. -/
def dieOf (pa : Nat) : Nat := 2 * chanOf pa + bits pa 12 1
/-- The bank. -/
def bankOf (pa : Nat) : Nat := bits pa 6 2 + 4 * bits pa 13 2
/-- The row. -/
def rowOf (pa : Nat) : Nat := bits pa 19 13
/-- The address of a burst of a channel: die within it, bank, column and row. -/
def paOf (c die bank col row : Nat) : Nat :=
  let hi := pack [(12, 1, die), (13, 2, bank / 4), (15, 4, col), (19, 13, row)]
  hi + 64 * (bank % 4) + 256 * (c % 16 ^^^ bits hi 12 4 ^^^ bits hi 16 4)

/-- Does a channel serve requests (R389)? -/
def chanOnline (s : State) (c : Nat) : Bool := s.flag (MEM_C_STAT_ONLINE c)

/-- Do all channels serve requests, or do the bursts of n bytes at a device physical address lie in channels that do (R389)? -/
def devServed (s : State) (pa n : Nat) : Bool :=
  (List.range 16).all (chanOnline s) ||
    (decide (n < 65536) && (List.range ((pa + n - 1) / 64 + 1 - pa / 64)).all (fun i => chanOnline s (chanOf (pa / 64 * 64 + 64 * i))))

/-- The location of a channel, and of a die and bank (R400). -/
def chanLoc (c : Nat) : Nat := 0x60300000 + c / 4 * 0x10000 + c % 4 * 0x800
def dieLoc (d bank : Nat) : Nat := 0x60300000 + (d + 1) * 0x800000 + bank * 0x800
/-- The memory slice's location (R400). -/
def sliceLoc : Nat := 0xA0300000

/-! ### The walk -/

/-- A leaf a walk found (R358): address bits, the address of its entry, its size, its bits and its pin count. -/
structure Leaf where
  entry : Nat
  large : Bool
  w : Bool
  x : Bool
  host : Bool
  pin : Nat
  addr : Nat
deriving DecidableEq, Repr

/-- What a walk or a translation answers: a value, or a fault cause (R365) with its level and whether the leaf is a host leaf. -/
inductive Xl (α : Type) where
  | ok (v : α)
  | bad (cause level : Nat) (host : Bool)
deriving DecidableEq, Repr

def fcNOT_MAPPED : Nat := 1
def fcWRITE : Nat := 2
def fcEXEC : Nat := 3
def fcGUARD : Nat := 4
def fcHOST_FAULT : Nat := 5
def fcHOST_ERR : Nat := 6
def fcTABLE_BAD : Nat := 7
def fcCTX_BAD : Nat := 8
def fcECC : Nat := 9

/-- The device physical address of the context table (R356). -/
def ctxBase (s : State) : Nat := s.rdN MMU_CTX_BASE

/-- The two words of a context's entry (R356). -/
def ctxLo (s : State) (asid : Nat) : Nat := readNat s.dram (ctxBase s + 16 * asid) 8
def ctxHi (s : State) (asid : Nat) : Nat := readNat s.dram (ctxBase s + 16 * asid + 8) 8

/-- Is a context valid (R356)? -/
def ctxValid (s : State) (asid : Nat) : Bool := bit (ctxLo s asid) 0

/-- Is any context valid: does any entry of the context table have its V bit set (R356)? -/
def anyCtxValid (s : State) : Bool :=
  s.dram.any (fun c => decide (ctxBase s ≤ c.1) && decide (c.1 < ctxBase s + 0x100000) && (c.1 - ctxBase s) % 16 == 0 &&
    bit c.2.toNat 0)

/-- Is the burst at a device physical address uncorrectable (R377)? -/
def badBurst (s : State) (pa : Nat) : Bool := s.memc.uncorr.contains (pa / 64)

/-- The index of a level (R357). -/
def vaIndex (lvl va : Nat) : Nat :=
  match lvl with
  | 0 => bits va 39 9
  | 1 => bits va 30 9
  | 2 => bits va 21 9
  | _ => bits va 16 5

/-- May a table address stand in an entry of a level: aligned to its table and below 4 GiB (R358)? -/
def tableOk (lvl a : Nat) : Bool := a % (if lvl == 2 then 256 else 4096) == 0 && decide (a < 2 ^ 32)

/-- The walk from a table of level `lvl` (R357, R358). `n` levels are left. -/
def walkFrom (s : State) (hostOk : Bool) (va : Nat) : Nat → Nat → Nat → Xl Leaf
  | 0, lvl, _ => .bad fcTABLE_BAD lvl false
  | n + 1, lvl, tbl =>
    let ea := tbl + 8 * vaIndex lvl va
    let e := readNat s.dram ea 8
    if badBurst s ea then .bad fcECC lvl false
    else if !bit e 0 then .bad fcNOT_MAPPED lvl false
    else if bit e 1 then
      if lvl < 2 || bits e 5 3 != 0 || (lvl == 2 && bits e 16 5 != 0) || (!bit e 4 && bits e 32 32 != 0) ||
          (bit e 4 && !hostOk) then .bad fcTABLE_BAD lvl (bit e 4)
      else .ok { entry := ea, large := lvl == 2, w := bit e 2, x := bit e 3, host := bit e 4, pin := bits e 8 8,
                 addr := e / 65536 * 65536 }
    else if lvl == 3 || bits e 2 6 != 0 || !tableOk lvl (e / 256 * 256) then .bad fcTABLE_BAD lvl false
    else walkFrom s hostOk va n (lvl + 1) (e / 256 * 256)

/-- The walk of an address in a context (R353, R356 to R358). -/
def walk (s : State) (asid va : Nat) : Xl Leaf :=
  let lo := ctxLo s asid
  if 2 ^ 48 ≤ va then .bad fcNOT_MAPPED 0 false
  else if badBurst s (ctxBase s + 16 * asid) then .bad fcECC 0 false
  else if !bit lo 0 then .bad fcNOT_MAPPED 0 false
  else if bits lo 3 9 != 0 || bits (ctxHi s asid) 21 43 != 0 then .bad fcCTX_BAD 0 false
  else if 2 ^ 32 ≤ lo / 4096 * 4096 then .bad fcTABLE_BAD 0 false
  else walkFrom s (bit lo 1) va 4 0 (lo / 4096 * 4096)

/-- The addresses of the entries that a walk reads from a table of level `lvl` on. -/
def readsFrom (s : State) (va : Nat) : Nat → Nat → Nat → List Nat
  | 0, _, _ => []
  | n + 1, lvl, tbl =>
    let ea := tbl + 8 * vaIndex lvl va
    let e := readNat s.dram ea 8
    ea :: (if !badBurst s ea && bit e 0 && !bit e 1 && lvl != 3 && bits e 2 6 == 0 && tableOk lvl (e / 256 * 256) then readsFrom s va n (lvl + 1) (e / 256 * 256) else [])

/-- The addresses that the walk of an address in a context reads. -/
def walkReads (s : State) (asid va : Nat) : List Nat :=
  let ce := ctxBase s + 16 * asid
  if 2 ^ 48 ≤ va then []
  else if badBurst s ce || !bit (ctxLo s asid) 0 || bits (ctxLo s asid) 3 9 != 0 || bits (ctxHi s asid) 21 43 != 0 || decide (2 ^ 32 ≤ ctxLo s asid / 4096 * 4096) then [ce]
  else ce :: readsFrom s va 4 0 (ctxLo s asid / 4096 * 4096)

/-- The uncorrectable burst at which a walk fails (R365, R377). -/
def walkBadAt (s : State) (asid va : Nat) : Option Nat := (walkReads s asid va).find? (badBurst s)

/-- The address a leaf gives to a virtual address. -/
def Leaf.at_ (l : Leaf) (va : Nat) : Nat := if l.large then l.addr + va % 2 ^ 21 else l.addr + va % 2 ^ 16

/-! ### References and guards -/

/-- The context in which SEQ, PHS, PIX, LDR, CTL and CAS translate (R355). -/
def sysAsid (s : State) : Nat := s.fld MMU_CTL_SYS_ASID

/-- The 64 KiB virtual pages of a holder's range. -/
def Holder.vpages (h : Holder) : List Nat :=
  if h.len = 0 then [] else (List.range ((h.va + h.len - 1) / 65536 + 1 - h.va / 65536)).map (fun i => h.va / 65536 + i)

/-- The physical 64 KiB page of a virtual page, where it is a device page. -/
def devPage (s : State) (asid vp : Nat) : Option Nat :=
  match walk s asid (vp * 65536) with
  | .ok l => if l.host then none else some (l.at_ (vp * 65536) / 65536)
  | .bad _ _ _ => none

/-- Does a holder's range include a virtual page (R370)? -/
def Holder.covers (h : Holder) (vp : Nat) : Bool :=
  h.len != 0 && decide (h.va / 65536 ≤ vp) && decide (vp ≤ (h.va + h.len - 1) / 65536)

/-- Does a holder guard a physical page (R369, R371), which it does more than 40 ns after its guard was taken? A locked holder guards the
pages it resolved; another the pages its range now stands at. -/
def Holder.guardsPage (s : State) (h : Holder) (pp : Nat) : Bool :=
  h.guarded && decide (h.guardAt + 40 < s.now) && (if h.locked then h.pages.any (fun p => p.2 == pp)
    else h.vpages.any (fun vp => devPage s (sysAsid s) vp == some pp))

/-- The physical pages that a holder holds. -/
def Holder.physPages (s : State) (h : Holder) : List Nat :=
  if h.locked then h.pages.map (fun p => p.2) else h.vpages.filterMap (devPage s (sysAsid s))

/-- Is a 64 KiB device physical page guarded (R359, R371)? A guard that was released lasts 40 ns. -/
def guardedPage (s : State) (pp : Nat) : Bool :=
  s.mmu.tblPages.contains pp ||
  (decide (ctxBase s / 65536 ≤ pp) && decide (pp < ctxBase s / 65536 + 16) && anyCtxValid s) ||
  s.mmu.holders.any (fun h => h.guardsPage s pp) || s.mmu.lapsing.any (fun e => decide (s.now ≤ e.1 + 40) && e.2.contains pp)

/-- Is a virtual page of a context referenced (R370)? Holders translate in the system's context. -/
def referencedPage (s : State) (asid vp : Nat) : Bool :=
  asid == sysAsid s && s.mmu.holders.any (fun h => h.covers vp)

/-- Is a physical page referenced? -/
def referencedPhys (s : State) (pp : Nat) : Bool :=
  s.mmu.holders.any (fun h => if h.locked then h.pages.any (fun p => p.2 == pp)
    else h.vpages.any (fun vp => devPage s (sysAsid s) vp == some pp))

/-- Guard a holder, if it is there. -/
def guardHolder (id : HolderId) (s : State) : State :=
  { s with mmu := { s.mmu with holders := s.mmu.holders.map (fun h => if h.id = id ∧ h.guarded = false then { h with guarded := true, guardAt := s.now } else h) } }

/-- Locked translation entries in use (R373). -/
def lockUsed (hs : List Holder) : Nat := (hs.map (fun h => if h.locked then h.entries else 0)).sum

/-- Release a holder's references and guards (R369); what it guarded stays so for 40 ns (R371). -/
def dropHolder (id : HolderId) (s : State) : State :=
  let hs := s.mmu.holders.filter (fun h => h.id != id)
  let gone := s.mmu.holders.filter (fun h => h.id == id && h.guarded && decide (h.guardAt + 40 < s.now))
  let lap := s.mmu.lapsing.filter (fun e => decide (s.now ≤ e.1 + 40)) ++ gone.map (fun h => (s.now, h.physPages s))
  { s with mmu := { s.mmu with holders := hs, lapsing := lap }, regs := (s.wrN MMU_LOCK_USED (lockUsed hs)).regs }

/-- Is there a holder of this name? -/
def hasHolder (s : State) (id : HolderId) : Bool := s.mmu.holders.any (fun h => h.id == id)

/-- The leaves that a range of pages stands on, and the first page that fails the checks of R373: mapped, a device page, pinned, and of
an entry that fits among the `room` locked ones still free. -/
def checkPages (s : State) (asid room : Nat) : List Nat → List (Nat × Nat) → List Nat → Except Nat (List (Nat × Nat) × List Nat)
  | [], ps, es => .ok (ps, es)
  | vp :: t, ps, es =>
    match walk s asid (vp * 65536) with
    | .ok l =>
      let es2 := if es.contains l.entry then es else l.entry :: es
      if l.host || l.pin == 0 || room < es2.length then .error vp
      else checkPages s asid room t (ps ++ [(vp, l.at_ (vp * 65536) / 65536)]) es2
    | .bad _ _ _ => .error vp

/-- Take a locked reference (R369, R373): the state with the holder, or the virtual address of the first failing page. -/
def takeLocked (id : HolderId) (va len : Nat) (guarded : Bool) (s : State) : Except Nat State :=
  let h0 : Holder := { id := id, va := va, len := len, guarded := guarded, guardAt := s.now, locked := true, pages := [], entries := 0 }
  let rest := s.mmu.holders.filter (fun h => h.id != id)
  match checkPages s (sysAsid s) (8192 - lockUsed rest) h0.vpages [] [] with
  | .error vp => .error (vp * 65536)
  | .ok (ps, es) =>
    let hs := rest ++ [{ h0 with pages := ps, entries := es.length }]
    .ok { s with mmu := { s.mmu with holders := hs }, regs := (s.wrN MMU_LOCK_USED (lockUsed hs)).regs }

/-- Take an unlocked reference (a layer's buffer, R369). -/
def takeRef (id : HolderId) (va len : Nat) (s : State) : State :=
  { s with mmu := { s.mmu with holders := s.mmu.holders.filter (fun h => h.id != id) ++
      [{ id := id, va := va, len := len, guarded := false, locked := false, pages := [], entries := 0 }] } }

/-! ### Translation -/

/-- The kinds of access (R364). -/
def akREAD : Nat := 0
def akWRITE : Nat := 1
def akFETCH : Nat := 2
def akATOMIC : Nat := 3

/-- Where an access lands: device or host memory, and the address. -/
structure Target where
  host : Bool
  addr : Nat
deriving DecidableEq, Repr

/-- May a function's requests go on the link (R405, R433)? -/
def linkOpen (s : State) (fn : Nat) : Bool := !s.hostIf.linkDown && !s.hostIf.flr.contains fn

/-- The cached translation of a host page, if there is one (R362). -/
def atcLookup (s : State) (asid page : Nat) : Option Nat :=
  (s.mmu.atc.find? (fun e => e.asid == asid && e.page == page)).map (fun e => e.xlat)

/-- A host leaf's access (R362, R363). -/
def hostXlate (s : State) (asid fn a : Nat) : Xl Target :=
  let page := a / 4096
  if !linkOpen s fn then .bad fcHOST_ERR 4 true
  else if !Config.atsOn then (if Config.hostFails a s.now then .bad fcHOST_ERR 4 true else .ok ⟨true, a⟩)
  else match atcLookup s asid page with
    | some p => .ok ⟨true, p * 4096 + a % 4096⟩
    | none =>
      if Config.atsGrants asid page s.now then .ok ⟨true, Config.atsPage asid page s.now * 4096 + a % 4096⟩
      else .bad fcHOST_FAULT 4 true

/-- Translate one access (R355 to R358, R362, R363, R371). An access never spans a 64 KiB page here: callers split. -/
def xlate (s : State) (asid fn va kind : Nat) : Xl Target :=
  match walk s asid va with
  | .bad c l h => .bad c l h
  | .ok lf =>
    let wr := kind == akWRITE || kind == akATOMIC
    if wr && !lf.w then .bad fcWRITE 4 lf.host
    else if kind == akFETCH && !lf.x then .bad fcEXEC 4 lf.host
    else if lf.host then hostXlate s asid fn (lf.at_ va)
    else if wr && guardedPage s (lf.at_ va / 65536) then .bad fcGUARD 4 false
    else .ok ⟨false, lf.at_ va⟩

/-- Keep the completion of a Translation Request in the cache (R362), at most 2,048 of them. -/
def cacheXlat (s : State) (asid page xl : Nat) : State :=
  if (atcLookup s asid page).isSome then s
  else { s with mmu := { s.mmu with atc := (s.mmu.atc ++ [AtcEntry.mk asid page xl]).drop (s.mmu.atc.length + 1 - 2048) } }

/-- An access through a host leaf has been translated by the host (R362): its completion is kept. -/
def keepXlat (asid va : Nat) (s : State) : State :=
  match walk s asid va with
  | .ok l =>
    if l.host && Config.atsOn && Config.atsGrants asid (l.at_ va / 4096) s.now then cacheXlat s asid (l.at_ va / 4096) (Config.atsPage asid (l.at_ va / 4096) s.now)
    else s
  | .bad _ _ _ => s

/-! ### Stores and loads at a target -/

/-- Bursts that a store covers whole lose their uncorrectable mark (R377). -/
def clearBursts (pa n : Nat) (m : MemCtl) : MemCtl :=
  let whole := fun b : Nat => decide (pa ≤ b * 64) && decide (b * 64 + 64 ≤ pa + n)
  { m with uncorr := m.uncorr.filter (fun b => !whole b) }

/-- An entry into self-refresh is cancelled (R386). -/
def srCancel (s : State) : State := (s.setFld MEM_STAT_SR_STATE 0).bump MEM_SR_CANCEL_CNT

/-- A request reaches the controller: it ends the idle time of R385, cancels an entry that has begun and waits where the memory sleeps (R386,
R387). -/
def memArrive (s : State) : State :=
  let st := s.fld MEM_STAT_SR_STATE
  let s1 := { s with memc := { s.memc with lastReq := s.now, waiting := s.memc.waiting || st == 2 } }
  if st = 1 then srCancel s1 else s1

/-- Store bytes in device memory (R375). -/
def storeDev (pa : Nat) (bs : List Byte) (s : State) : State :=
  let t := memArrive s
  { t with dram := writeMem t.dram pa bs, memc := clearBursts pa bs.length t.memc }

/-- Store bytes at a target. -/
def storeAt (t : Target) (bs : List Byte) (s : State) : State :=
  if t.host then { s with host := writeMem s.host t.addr bs } else storeDev t.addr bs s

/-- Read bytes at a target. -/
def loadAt (s : State) (t : Target) (n : Nat) : List Byte :=
  if t.host then readMem s.host t.addr n else readMem s.dram t.addr n

/-- Does a read of n bytes at a target meet an uncorrectable burst (R377)? -/
def readsBad (s : State) (t : Target) (n : Nat) : Bool :=
  !t.host && n != 0 && s.memc.uncorr.any (fun b => decide (t.addr / 64 ≤ b) && decide (b ≤ (t.addr + n - 1) / 64))

/-- Is an access to n bytes served (R389): are the channels online that its walk and, in device memory, its bytes need? -/
def accessServed (s : State) (asid fn va n kind : Nat) : Bool :=
  (walkReads s asid va).all (fun a => devServed s a 8) &&
    (match xlate s asid fn va kind with
    | .ok t => t.host || devServed s t.addr n
    | .bad _ _ _ => true)

/-- Read n bytes of the system's context byte by byte, for agents that use locked translations: a byte whose page is no device page
reads as 0. -/
def sysRead (s : State) (va n : Nat) : List Byte :=
  (List.range n).map (fun i =>
    match walk s (sysAsid s) (va + i) with
    | .ok l => if l.host then kget unwritten s.host (l.at_ (va + i)) else kget unwritten s.dram (l.at_ (va + i))
    | .bad _ _ _ => 0#8)

end Sys2Proof.Machine
end

