-- ==== Sys2Proof/Machine/Events.lean ====
section
/-! DEFINITION. Machine/Events.lean: fault records, completion and event rings, interrupts and event records (R15 to R19, R364 to
R368, R412, R424 to R429, R436). -/

namespace Sys2Proof.Machine

/-! ### Events (R15) -/

/-- Event record bytes 0 to 31 (R15). -/
def eventBytes (e : EventRec) (seq : Nat) : List Byte :=
  leBytes 8 e.time ++ leBytes 1 e.block ++ leBytes 1 e.sev ++ leBytes 2 e.code ++ leBytes 4 e.loc ++ leBytes 8 e.arg ++
    leBytes 4 seq ++ leBytes 4 0

/-- Block identifiers (R16). -/
def blkGLB : Nat := 1
def blkPHS : Nat := 2
def blkSEQ : Nat := 3
def blkPIX : Nat := 4
def blkLDR : Nat := 5
def blkCTL : Nat := 6
def blkENG : Nat := 7
def blkMEM : Nat := 8
def blkMMU : Nat := 9
def blkQUE : Nat := 10
def blkCMP : Nat := 11
def blkLNK : Nat := 12
def blkCAS : Nat := 13
def blkHKP : Nat := 14
def blkCAL : Nat := 15
def blkNVM : Nat := 16
def blkDBG : Nat := 17

/-- A location word (R29, R30). -/
def locWord (depth die slice cluster tile macro_ : Nat) : Nat :=
  pack [(29, 3, depth), (23, 6, die), (20, 3, slice), (16, 4, cluster), (11, 5, tile), (0, 11, macro_)]

/-! ### Rings (R410, R412) -/

def qType (s : State) (q : Nat) : Nat := s.fld (QUE_Q_CTL_TYPE q)
def qSize (s : State) (q : Nat) : Nat := 2 ^ s.fld (QUE_Q_CTL_LOG2 q)
def qOwner (s : State) (q : Nat) : Nat := s.fld (QUE_Q_CTL_OWNER q)
def qState (s : State) (q : Nat) : Nat := s.fld (QUE_Q_STAT_STATE q)
def qHead (s : State) (q : Nat) : Nat := s.fld (QUE_Q_HEAD_HEAD q)
def qTail (s : State) (q : Nat) : Nat := s.fld (QUE_Q_TAIL_TAIL q)
def qAsid (s : State) (q : Nat) : Nat := s.fld (QUE_Q_ASID_ASID q)
def qBase (s : State) (q : Nat) : Nat := s.rdN (QUE_Q_BASE q)

/-- Entries present (R412). -/
def qPresent (s : State) (q : Nat) : Nat := (qTail s q + qSize s q - qHead s q) % qSize s q

/-- The key of a function's vector in the MSI-X tables: 2,048 vectors a function. -/
def msixKey (fn vec : Nat) : Nat := fn * 2048 + vec

/-- Signal a vector (R429): a masked vector, or one behind a link that is down, takes its pending bit. -/
def signalVector (fn vec : Nat) (s : State) : State :=
  let v := kget (fun _ => ({} : MsixVec)) s.msix (msixKey fn vec)
  if v.masked || !linkOpen s fn then { s with msix := kset (fun _ => {}) s.msix (msixKey fn vec) { v with pending := true } }
  else { s with hostMsgs := s.hostMsgs ++ [.msix fn vec v.addr v.data] }

/-- Signal a ring if R429's conditions hold, the timer's `timed` included. -/
def irqCheck (timed : Bool) (q : Nat) (s : State) : State :=
  let r := s.queue q
  let cnt := max 1 (s.fld (QUE_Q_IRQ_COUNT q))
  if s.flag (QUE_Q_STAT_ARMED q) && s.flag (QUE_Q_IRQ_EN q) && min r.sinceSig (qPresent s q) != 0 && (cnt ≤ r.sinceSig || r.irqNow || timed) then
    signalVector (qOwner s q) (s.fld (QUE_Q_ASID_VECTOR q))
      ((s.setQueue q { r with sinceSig := 0, firstPend := none, irqNow := false }).setFld (QUE_Q_STAT_ARMED q) 0)
  else s

/-! ### Fault records (R364 to R368) -/

/-- What a fault record says of an access. -/
structure FaultInfo where
  agent : Nat
  unit : Nat
  asid : Nat
  va : Nat
  kind : Nat
  cause : Nat
  level : Nat
  hostLeaf : Bool
  held : Bool
  data : List Byte
  sub : Nat := 0
deriving DecidableEq, Repr

/-- May the ring of fault records be used: its size is a power of two from 16 to 65,536 (R366). -/
def fltOk (s : State) : Bool := [4, 5, 6, 7, 8, 9, 10, 11, 12, 13, 14, 15, 16].any (fun k => s.rdN MMU_FLT_SIZE == 2 ^ k)

/-- Records present in the fault ring (R366). -/
def fltPresent (s : State) : Nat :=
  (s.rdN MMU_FLT_HEAD + s.rdN MMU_FLT_SIZE - s.rdN MMU_FLT_TAIL % s.rdN MMU_FLT_SIZE) % s.rdN MMU_FLT_SIZE

/-- The bytes of a fault record (R364). -/
def faultBytes (s : State) (f : FaultInfo) (seq : Nat) : List Byte :=
  leBytes 8 s.showTime ++ leBytes 8 f.va ++ leBytes 2 f.asid ++ leBytes 1 f.agent ++ leBytes 1 f.cause ++
    leBytes 1 (f.kind + 4 * b2n f.held + 8 * b2n f.hostLeaf) ++ leBytes 1 f.level ++ leBytes 2 f.unit ++ leBytes 4 seq ++ leBytes 4 0

/-- MMU_HELD and MMU_PRI_OUT show what is held and what is outstanding (R398). -/
def showHeld (s : State) : State :=
  (s.wrN MMU_HELD s.mmu.held.length).wrN MMU_PRI_OUT s.mmu.priOut.length

/-- A walk that meets an uncorrectable burst (R365, R377): its counter, its address and ECC_UNCORR of source 27. -/
def walkUncorr (f : FaultInfo) (s : State) : State × List EventRec :=
  match (if f.cause == fcECC then walkBadAt s f.asid f.va else none) with
  | some pa =>
    ((s.bump (MEM_C_UNCORR_CNT (chanOf pa))).wrN MEM_UNCORR_ADDR (pa / 64 * 64),
      [{ time := s.showTime, block := blkMEM, sev := svERROR, code := 2, loc := dieLoc (dieOf pa) (bankOf pa), arg := pa / 64 * 64 + 27 * 2 ^ 32 }])
  | none => (s, [])

/-- Take the SEQ of a new record, hold the access where it is held, count a GUARD fault (R364, R368, R398). -/
def noteFault (f : FaultInfo) (s : State) : State :=
  let seq := s.mmu.seqNext
  let h : HeldAccess := { seq := seq, agent := f.agent, unit := f.unit, asid := f.asid, va := f.va, kind := f.kind, pri := false, data := f.data, sub := f.sub }
  let s1 := { s with mmu := { s.mmu with seqNext := (seq + 1) % 2 ^ 32, held := if f.held then s.mmu.held ++ [h] else s.mmu.held } }
  showHeld (if f.cause == fcGUARD then s1.bump MMU_GUARD_FAULT_CNT else s1)

/-- An MMU event (R401). -/
def mmuEvent (s : State) (code sev arg : Nat) : EventRec :=
  { time := s.showTime, block := blkMMU, sev := sev, code := code, loc := 0x60340000, arg := arg }

/-- A QUE event (R442). -/
def queEvent (s : State) (code sev arg : Nat) : EventRec :=
  { time := s.showTime, block := blkQUE, sev := sev, code := code, loc := 0x60080000, arg := arg }

/-- Put a fault record into its ring (R366): the state, and the events that this calls for. -/
def putFault (f : FaultInfo) (s : State) : State × List EventRec :=
  let seq := s.mmu.seqNext
  let s1 := noteFault f s
  if fltOk s && decide (fltPresent s < s.rdN MMU_FLT_SIZE - 1) then
    let s2 := storeDev (s.rdN MMU_FLT_BASE + 32 * s.rdN MMU_FLT_HEAD) (faultBytes s f seq) s1
    let s3 := { s2.wrN MMU_FLT_HEAD ((s.rdN MMU_FLT_HEAD + 1) % s.rdN MMU_FLT_SIZE) with mmu := { s2.mmu with lostRun := false } }
    (s3, if fltPresent s = 0 then [mmuEvent s 1 svNOTICE seq] else [])
  else
    let s2 := s1.bump MMU_FLT_LOST_CNT
    ({ s2 with mmu := { s2.mmu with lostRun := true } },
      if s.mmu.lostRun then [] else [mmuEvent s 2 svWARNING (s2.rdN MMU_FLT_LOST_CNT)])

/-- Can a page request be sent for this access (R363)? -/
def priUsable (s : State) (asid : Nat) : Bool := bit (ctxLo s asid) 2 && s.mmu.priEn && !s.mmu.priStop

/-- Hold an access behind a page request (R363): one request a page, at most 256 outstanding. -/
def pageRequest (h : HeldAccess) (page : Nat) (s : State) : State :=
  let r : PageReq := { asid := h.asid, page := page, sentAt := s.now }
  let m := { s.mmu with held := s.mmu.held ++ [{ h with page := page }] }
  if (s.mmu.priOut ++ s.mmu.priWait).any (fun x => x.asid == r.asid && x.page == r.page) then showHeld { s with mmu := m }
  else if s.mmu.priOut.length < 256 then
    showHeld { s with mmu := { m with priOut := s.mmu.priOut ++ [r] }, hostMsgs := s.hostMsgs ++ [.pageRequest h.asid page] }
  else showHeld { s with mmu := { m with priWait := s.mmu.priWait ++ [r] } }

/-- The host page of an access (R363). -/
def hostPageOf (s : State) (asid va : Nat) : Nat :=
  match walk s asid va with
  | .ok l => l.at_ va / 4096
  | .bad _ _ _ => 0

/-- An access meets a fault (R363, R364): it waits for a page request where one can be sent, and else its record is written. -/
def meetFault (f : FaultInfo) (s : State) : State × List EventRec :=
  if f.cause == fcHOST_FAULT && f.held && priUsable s f.asid then
    (pageRequest { seq := 2 ^ 32, agent := f.agent, unit := f.unit, asid := f.asid, va := f.va, kind := f.kind, pri := true, data := f.data, sub := f.sub }
      (hostPageOf s f.asid f.va) s, [])
  else
    let w := walkUncorr f s
    let p := putFault f w.1
    (p.1, w.2 ++ p.2)

/-! ### Ring writes -/

/-- A queue goes to ERROR, and with a CQ every SQ that completes to it (R436). -/
def queueError1 (q : Nat) (s : State) : State := (s.setFld (QUE_Q_STAT_STATE q) 4)

/-- The SQs that complete to a CQ and are enabled or stopped. -/
def sqsOf (s : State) (cq : Nat) : List Nat :=
  (List.range 4096).filter (fun q => qType s q == 0 && s.fld (QUE_Q_LINK_CQ q) == cq && (qState s q == 1 || qState s q == 2))

/-- Enter ERROR (R436): the state and the QUEUE_ERROR events. -/
def queueError (q seq : Nat) (s : State) : State × List EventRec :=
  let qs := q :: (if qType s q == 1 then sqsOf s q else [])
  (qs.foldl (fun t x => queueError1 x t) s, qs.map (fun x => queEvent s 2 svERROR (x + seq % 65536 * 65536)))

/-- Write the bytes of one entry into a ring (R410, R436): the state and the events. -/
def ringStore (q idx : Nat) (bs : List Byte) (s : State) : State × List EventRec :=
  let va := qBase s q + 64 * idx
  match xlate s (qAsid s q) (qOwner s q) va akWRITE with
  | .ok t => (storeAt t bs (keepXlat (qAsid s q) va s), [])
  | .bad c l h =>
    let seq := s.mmu.seqNext
    let r := meetFault { agent := 3, unit := q, asid := qAsid s q, va := va, kind := akWRITE, cause := c, level := l, hostLeaf := h,
                         held := c != fcHOST_ERR, data := bs } s
    if c == fcHOST_ERR then
      let e := queueError q seq r.1
      (e.1, r.2 ++ e.2)
    else r

/-- Write an entry at a ring's TAIL (R412, R424): byte 63 carries the phase of this pass. The index is assigned at once, whether
or not the store is held (DESIGN CHOICE, log entry 12). -/
def ringPut (q : Nat) (bs63 : List Byte) (irq : Bool) (s : State) : State × List EventRec :=
  let idx := qTail s q
  let r := s.queue q
  let ph := (r.wrapped + 1) % 2
  let nxt := (idx + 1) % qSize s q
  let s1 := (s.setFld (QUE_Q_TAIL_TAIL q) nxt).setQueue q
    { r with wrapped := if nxt = 0 then r.wrapped + 1 else r.wrapped, sinceSig := r.sinceSig + 1,
             firstPend := some (r.firstPend.getD s.now), irqNow := r.irqNow || irq }
  let p := ringStore q idx (bs63 ++ leBytes 1 ph) s1
  (irqCheck false q p.1, p.2)

/-- Put an event record into an EQ (R18, R426, R428): one that finds the ring full is lost but takes its SEQ; the first record after
a loss is preceded by EVENTS_LOST, whose space is kept aside. -/
def eqPut (q : Nat) (e : EventRec) (s : State) : State × List EventRec :=
  let r := s.queue q
  let free := qSize s q - 1 - qPresent s q
  let rec1 := fun (x : EventRec) (n : Nat) => eventBytes x n ++ List.replicate 31 0#8
  if r.lost = 0 then
    let s1 := s.setQueue q { r with evSeq := (r.evSeq + 1) % 2 ^ 32 }
    if 2 ≤ free then ringPut q (rec1 e r.evSeq) false s1
    else ((s1.setQueue q { s1.queue q with lost := 1 }).bump (QUE_Q_LOST_CNT q), [])
  else if 2 ≤ free then
    let l := queEvent s 4 svWARNING (q + r.lost % 2 ^ 32 * 2 ^ 32)
    let s1 := s.setQueue q { r with evSeq := (r.evSeq + 2) % 2 ^ 32, lost := 0 }
    let p := ringPut q (rec1 l r.evSeq) false s1
    let p2 := ringPut q (rec1 e ((r.evSeq + 1) % 2 ^ 32)) false p.1
    (p2.1, p.2 ++ p2.2)
  else ((s.setQueue q { r with evSeq := (r.evSeq + 1) % 2 ^ 32, lost := r.lost + 1 }).bump (QUE_Q_LOST_CNT q), [])

/-- The EQ that a block's route names, if the route works (R427, R439): enabled, an EQ, owned by the PF, working. -/
def routeOf (s : State) (b : Nat) : Option Nat :=
  let q := s.fld (QUE_EVR_EQ b)
  if s.flag (QUE_EVR_EN b) && qType s q == 2 && qOwner s q == 0 && (qState s q == 1 || qState s q == 2) then some q else none

/-- The EQ of a virtual function (R427, R439). -/
def vfRouteOf (s : State) (v : Nat) : Option Nat :=
  let q := s.fld (QUE_VF_EQ_EQ v)
  if s.flag (QUE_VF_EQ_EN v) && qType s q == 2 && qOwner s q == v && (qState s q == 1 || qState s q == 2) then some q else none

/-- An event goes to its route (R427); one below MIN_SEV is filtered and not counted (DEDUCED, log entry 13). -/
def route1 (e : EventRec) (s : State) : State × List EventRec :=
  match routeOf s e.block with
  | none => (s.bump QUE_UNROUTED_CNT, [])
  | some q => if e.sev < min (s.fld (QUE_EVR_MIN_SEV e.block)) 5 then (s, []) else eqPut q e s

/-- QUE events about a VF's queue also go to the VF's own EQ, with its local slot in place of the queue (R427). -/
def route2 (e : EventRec) (s : State) : State × List EventRec :=
  let q := e.arg % 4096
  let v := qOwner s q
  if e.block = blkQUE && v != 0 then
    match vfRouteOf s v with
    | some vq => eqPut vq { e with arg := e.arg / 4096 * 4096 + s.fld (QUE_Q_LINK_LOCAL q) } s
    | none => (s, [])
  else (s, [])

/-- Deliver events, and the events that delivering them calls for (a fault of a ring write), as far as `n` levels. -/
def deliver : Nat → List EventRec → State → State
  | 0, _, s => s
  | _ + 1, [], s => s
  | n + 1, e :: t, s =>
    let p := route1 e s
    let p2 := route2 e p.1
    deliver n t (deliver n (p.2 ++ p2.2) p2.1)

/-- Write events (R15, R427). Nothing but the rings' own state, the memories and the interrupts' messages can change. -/
def emitAll (es : List EventRec) (s : State) : State :=
  let t := deliver (es.length + 5) es s
  { s with regs := t.regs, dram := t.dram, host := t.host, mmu := t.mmu, memc := t.memc, queues := t.queues, msix := t.msix,
           hostMsgs := t.hostMsgs }

/-- Write one event of a block (R15). -/
def emit (block code sev loc arg : Nat) (s : State) : State :=
  emitAll [{ time := s.showTime, block := block, sev := sev, code := code, loc := loc, arg := arg }] s

/-- Write one event if a condition holds. -/
def emitIf (c : Bool) (block code sev loc arg : Nat) (s : State) : State := if c then emit block code sev loc arg s else s

/-- An agent's access meets a fault: held behind a page request, or recorded (R363, R364). -/
def faultOn (f : FaultInfo) (s : State) : State :=
  let r := meetFault f s
  let t := emitAll r.2 r.1
  { s with regs := t.regs, dram := t.dram, host := t.host, mmu := t.mmu, memc := t.memc, queues := t.queues, msix := t.msix,
           hostMsgs := t.hostMsgs }

/-- A write of a ring or record of a block in the system's context that is not held (agent 8, R368): the state, and whether the bytes
were written. The bytes lie within one page. -/
def sysStore (block unit va : Nat) (bs : List Byte) (s : State) : State × Bool :=
  match xlate s (sysAsid s) 0 va akWRITE with
  | .ok t => (storeAt t bs (keepXlat (sysAsid s) va s), true)
  | .bad c l h =>
    (faultOn { agent := 8, unit := block + 256 * unit, asid := sysAsid s, va := va, kind := akWRITE, cause := c, level := l, hostLeaf := h,
               held := false, data := [] } s, false)

/-- REF_REFUSED (R373, R401): a reference of a block failed at a virtual address. -/
def refRefused (block unit va : Nat) (s : State) : State :=
  emit blkMMU 4 svERROR 0x60340000 (block + 256 * unit + va / 65536 * 65536) s

end Sys2Proof.Machine
end

