-- ==== Sys2Proof/Machine/Dram.lean ====
section
/-! DEFINITION. Machine/Dram.lean: requests to the DRAM controller: activations and what the check of a burst finds (R376, R377, R384). -/

namespace Sys2Proof.Machine

/-- Change a channel's record. -/
def updChan (c : Nat) (f : Channel → Channel) (s : State) : State := s.setChan c (f (s.chan c))

/-! ### Requests and errors -/

/-- An activation of a row (R384): with NB_EN a neighbour refresh may be queued, drawn from a generator whose values are free. -/
def activate (pa : Nat) (s0 : State) : State :=
  let s := memArrive s0
  if !s.flag MEM_CTL_NB_EN then s
  else
    let c := chanOf pa
    let r := s.takeFree
    if r.1.toNat % 65536 < s.rdN MEM_NB_PROB % 65536 then
      if (s.chan c).nbQueue.length < 16 then
        updChan c (fun x => { x with nbQueue := x.nbQueue ++ [(dieOf pa, bankOf pa, rowOf pa)] }) r.2
      else
        let s1 := r.2.bump (MEM_C_NB_DROP_CNT c)
        emitIf (msPassed (s.chan c).nbDropAt s.now) blkMEM 7 svNOTICE (chanLoc c) (s1.rdN (MEM_C_NB_DROP_CNT c))
          (if msPassed (s.chan c).nbDropAt s.now then updChan c (fun x => { x with nbDropAt := some s.now }) s1 else s1)
    else r.2

/-- A burst with `n` symbols corrected (R376). -/
def eccCorrected (pa n : Nat) (s : State) : State :=
  let c := chanOf pa
  let s1 := s.bump (MEM_C_CORR_CNT c)
  if msPassed (s.chan c).corrAt s.now then
    emit blkMEM 1 svNOTICE (dieLoc (dieOf pa) (bankOf pa)) (pa / 64 * 64 + n % 16 * 2 ^ 32) (updChan c (fun x => { x with corrAt := some s.now }) s1)
  else s1

/-- An uncorrectable burst met by a source (R377). -/
def eccUncorr (pa src : Nat) (s : State) : State :=
  emit blkMEM 2 svERROR (dieLoc (dieOf pa) (bankOf pa)) (pa / 64 * 64 + src % 32 * 2 ^ 32)
    ((s.bump (MEM_C_UNCORR_CNT (chanOf pa))).wrN MEM_UNCORR_ADDR (pa / 64 * 64))

/-- What the check of a burst finds (R376): 0 no error, 1 to 3 symbols corrected, 4 uncorrectable. A burst marked uncorrectable stays so. -/
def eccFind (pa finding src : Nat) (s : State) : State :=
  if badBurst s pa || finding = 4 then
    eccUncorr pa src (if badBurst s pa then s else { s with memc := { s.memc with uncorr := pa / 64 :: s.memc.uncorr } })
  else if finding = 0 then s else eccCorrected pa finding s

/-- A read of n bytes at a device physical address (R375, R384): it reaches the controller. Each uncorrectable burst of the range is counted and
reported for its source (R377). -/
def devRead (pa n src : Nat) (s : State) : State :=
  let bad := s.memc.uncorr.filter (fun b => decide (pa / 64 ≤ b) && decide (b ≤ (pa + n - 1) / 64))
  bad.foldl (fun t b => eccUncorr (64 * b) src t) (activate pa s)

/-- A read of n bytes at a target: host memory is none of the controller's. -/
def targetTouch (t : Target) (n src : Nat) (s : State) : State := if t.host || n = 0 then s else devRead t.addr n src s

/-- A read of n bytes of the system's context, page by page. -/
def sysTouch (va n src : Nat) (s : State) : State :=
  if n = 0 then s
  else (List.range ((va + n - 1) / 65536 + 1 - va / 65536)).foldl (fun t i =>
    let a := max va ((va / 65536 + i) * 65536)
    match walk t (sysAsid t) a with
    | .ok l => if l.host then t else devRead (l.at_ a) (min (va + n) ((va / 65536 + i + 1) * 65536) - a) src t
    | .bad _ _ _ => t) s

/-- Are n bytes of the system's context served, page by page (R389)? -/
def sysServed (s : State) (va n : Nat) : Bool :=
  (List.range ((va + n - 1) / 65536 + 1 - va / 65536)).all (fun i =>
    let a := max va ((va / 65536 + i) * 65536)
    accessServed s (sysAsid s) 0 a (min (va + n) ((va / 65536 + i + 1) * 65536) - a) akREAD)

/-- A read of a stream or fence of a block in the system's context that is not held (agent 8, R368). -/
def sysLoad (block unit va n : Nat) (s : State) : State × Option (List Byte) :=
  match xlate s (sysAsid s) 0 va akREAD with
  | .ok t => (targetTouch t n 29 (keepXlat (sysAsid s) va s), if readsBad s t n then none else some (loadAt s t n))
  | .bad c l h =>
    (faultOn { agent := 8, unit := block + 256 * unit, asid := sysAsid s, va := va, kind := akREAD, cause := c, level := l, hostLeaf := h,
               held := false, data := [] } s, none)

end Sys2Proof.Machine
end

