-- ==== Sys2Proof/Machine/CalSlot.lean ====
section
/-! DEFINITION. Machine/CalSlot.lean: what an open calibration run is to the units it watches: its place, its status, its rejection, and the
breach of a precondition (R559 to R563, R578, R581). -/

namespace Sys2Proof.Machine

def strLoc (n : Nat) : Nat := 0x60400000 + n / 6 * 0x10000 + n % 6 * 0x800
def tileLoc (t : Nat) : Nat := 0x60440000 + t / 12 * 0x10000 + t % 12 * 0x800

def updCal (t : Nat) (f : CalTarget → CalTarget) (s : State) : State := s.setCal t (f (s.cal t))

def State.calInst (s : State) (t i : Nat) : CalInst := kget (fun _ => {}) (s.cal t).insts i

def updInst (t i : Nat) (f : CalInst → CalInst) (s : State) : State :=
  updCal t (fun x => { x with insts := kset (fun _ => {}) x.insts i (f (kget (fun _ => {}) x.insts i)) }) s

/-- The location of an instance (R581). -/
def calLoc (t i : Nat) : Nat :=
  if t = 1 || t = 6 then strLoc i
  else if t = 2 then 0x60480000 + i * 0x800
  else if t = 5 then 0x60480000 + i / 6 * 0x800
  else if t = 3 || t = 7 then tileLoc i
  else if t = 4 then 0x60150000 + i * 0x800
  else if t = 8 then 0x60160000 + i % 4 * 0x800
  else 0x60510000

def calEvent (t i code sev rest : Nat) (s : State) : State := emit blkCAL code sev (calLoc t i) (t + i * 256 + rest * 65536) s

def calManual (s : State) (t i : Nat) : Bool := s.flag ⟨CAL_T_MANUAL t, i, 1⟩

/-- Is an instance of a calibration target STALE (R564)? -/
def calStale (s : State) (t i : Nat) : Bool := s.flag ⟨CAL_T_STALE t, i, 1⟩
def setStale (t i : Nat) (b : Bool) (s : State) : State := s.setFld ⟨CAL_T_STALE t, i, 1⟩ (b2n b)

/-- CAL_Tt_STAT (R578). -/
def calStat (t st i reason : Nat) (running : Bool) (s : State) : State :=
  s.wrN (CAL_T_STAT t) (pack [(0, 8, st), (8, 6, i), (16, 4, reason), (20, 1, b2n running)])

/-- A run is rejected (R562 to R564). -/
def calReject (t i reason : Nat) (s : State) : State :=
  let s1 := calStat t stPRECOND i reason false (updCal t (fun x => { x with run := none }) (s.bump (CAL_T_REJECT_CNT t)))
  let s2 := if calManual s t i then s1 else setStale t i true s1
  let quiet := match (s.cal t).rejAt with
    | none => false
    | some u => decide (s.now < u + 1000000000)
  if quiet then s2
  else calEvent t i 2 svWARNING (reason + s2.rdN (CAL_T_REJECT_CNT t) * 65536) (updCal t (fun x => { x with rejAt := some s.now }) s2)

/-- Something at a time in quanta breaks a precondition of those instances of a target that a test picks (R562): a run whose slot holds that
time is rejected with reason BROKEN. -/
def calBreak (t at_ : Nat) (hit : Nat → Bool) (s : State) : State :=
  match (s.cal t).run with
  | some r => if hit r.inst && decide (r.openAt ≤ at_) && decide (at_ < r.closeAt) then calReject t r.inst 2 s else s
  | none => s

end Sys2Proof.Machine
end

