-- ==== Sys2Proof/Machine/Adapt.lean ====
section
/-! DEFINITION. Machine/Adapt.lean: adaptive parameters (R41 to R48): value, bounds and the _ADP register. -/

namespace Sys2Proof.Machine

/-- An adaptive parameter: the offsets of its value, bounds and _ADP registers, the block and location of its events, its width and
whether it is signed. -/
structure AParam where
  val : Nat
  lo : Nat
  hi : Nat
  adp : Nat
  block : Nat
  loc : Nat
  w : Nat
  signed : Bool
deriving DecidableEq, Repr

/-- A field of an _ADP register (R41). -/
def adpAEN (r : Nat) : Fld := ⟨r, 0, 1⟩
def adpHOLD (r : Nat) : Fld := ⟨r, 1, 1⟩
def adpPINNED (r : Nat) : Fld := ⟨r, 3, 1⟩
def adpAT_HI (r : Nat) : Fld := ⟨r, 4, 1⟩
def adpOVR (r : Nat) : Fld := ⟨r, 5, 1⟩
def adpPINNED_SEEN (r : Nat) : Fld := ⟨r, 6, 1⟩
def adpBOUNDS_BAD (r : Nat) : Fld := ⟨r, 7, 1⟩
def adpSTEPS (r : Nat) : Fld := ⟨r, 16, 16⟩

/-- A register's field of w bits as an integer. -/
def aval (s : State) (p : AParam) (r : Nat) : Int := if p.signed then sext (s.rdN r) p.w else ((s.rdN r % 2 ^ p.w : Nat) : Int)

/-- May hardware adapt the parameter now (R43)? -/
def mayAdapt (s : State) (p : AParam) : Bool :=
  s.flag (adpAEN p.adp) && !s.flag (adpHOLD p.adp) && !s.flag (adpOVR p.adp) && !s.flag (adpBOUNDS_BAD p.adp)

/-- The parameter stands at a bound and is asked to go beyond it (R44, R48). -/
def pinAt (p : AParam) (hi : Bool) (s : State) : State :=
  let was := s.flag (adpPINNED p.adp)
  let s1 := (s.setFld (adpPINNED p.adp) 1).setFld (adpAT_HI p.adp) (b2n hi)
  if was then s1
  else emit p.block 0x0F00 svNOTICE p.loc (p.adp + s.rdN p.val % 2 ^ 32 * 2 ^ 32) (s1.setFld (adpPINNED_SEEN p.adp) 1)

/-- One adaptation step that asks for the value `want` (R43 to R45). DESIGN CHOICE (log entry 23): a permitted step that moves nothing (the
value already stands at `want`, or at the bound beyond which it is asked to go) counts in STEPS as any other. -/
def adaptStep (p : AParam) (want : Int) (s : State) : State :=
  if !mayAdapt s p then s
  else
    let cur := aval s p p.val
    let lo := aval s p p.lo
    let hi := aval s p p.hi
    let s1 := s.setFld (adpSTEPS p.adp) (s.fld (adpSTEPS p.adp) + 1)
    let put := fun v : Int => s1.wrN p.val (ofInt v p.w)
    if cur < lo then pinAt p false (put lo)
    else if hi < cur then pinAt p true (put hi)
    else if hi < want then pinAt p true (put hi)
    else if want < lo then pinAt p false (put lo)
    else if want = cur then s1
    else (put want).setFld (adpPINNED p.adp) 0

/-- A software write of the value (R42). -/
def adaptValue (p : AParam) (v : Nat) (s : State) : State := (s.wrN p.val (v % 2 ^ p.w)).setFld (adpHOLD p.adp) 1

/-- A write of 1 to RELEASE (R41). -/
def adaptRelease (p : AParam) (s : State) : State := s.setFld (adpHOLD p.adp) 0

/-- BOUNDS_BAD follows the bounds (R46, R48). -/
def boundsCheck (p : AParam) (s : State) : State :=
  let bad := decide (aval s p p.hi < aval s p p.lo)
  let was := s.flag (adpBOUNDS_BAD p.adp)
  let s1 := s.setFld (adpBOUNDS_BAD p.adp) (b2n bad)
  emitIf (bad && !was) p.block 0x0F01 svWARNING p.loc (p.adp + s.rdN p.val % 2 ^ 32 * 2 ^ 32) s1

/-- A safety override begins or ends (R47). -/
def setOvr (adp : Nat) (on : Bool) (s : State) : State := s.setFld (adpOVR adp) (b2n on)

end Sys2Proof.Machine
end

