-- ==== Sys2Proof/Machine/Float.lean ====
section
/-! DEFINITION. Machine/Float.lean: IEEE 754 binary32 arithmetic, rounded to nearest, ties to even (R243, R317, R322). A value is a
number of 32 bits; results carry the exceptions they raise: bit 0 INV, 1 FDZ, 2 OVF, 3 UNF, 4 INX. -/

namespace Sys2Proof.Machine

/-- What 32 bits stand for: not a number, an infinity, or (-1)^neg × m × 2^e. -/
inductive FV where
  | nan
  | inf (neg : Bool)
  | fin (neg : Bool) (m : Nat) (e : Int)
deriving DecidableEq, Repr

/-- A result and the exceptions it raises. -/
structure FR where
  v : Nat
  ex : Nat
deriving DecidableEq, Repr

def fxINV : Nat := 1
def fxFDZ : Nat := 2
def fxOVF : Nat := 4
def fxUNF : Nat := 8
def fxINX : Nat := 16

/-- The canonical quiet NaN (R317). -/
def qNaN : Nat := 0x7FC00000

def fsign (n : Bool) : Nat := if n then 0x80000000 else 0

def fInf (n : Bool) : Nat := fsign n + 0x7F800000

/-- What 32 bits stand for. -/
def fval (x : Nat) : FV :=
  let ex := bits x 23 8
  let m := bits x 0 23
  if ex = 255 then (if m = 0 then .inf (bit x 31) else .nan)
  else if ex = 0 then .fin (bit x 31) m (-149)
  else .fin (bit x 31) (m + 2 ^ 23) ((ex : Int) - 150)

/-- 2^k, or 1 where k is negative. -/
def pow2 (k : Int) : Nat := 2 ^ k.toNat

/-- Round (-1)^n × num/den × 2^e, den > 0, to nearest even (R317). Tininess is judged before rounding (DESIGN CHOICE, log entry 30). -/
def fround (n : Bool) (num den : Nat) (e : Int) : FR :=
  if num = 0 then ⟨fsign n, 0⟩
  else
    let nu := num * pow2 e
    let de := den * pow2 (-e)
    let l0 : Int := (Nat.log2 nu : Int) - (Nat.log2 de : Int)
    let l : Int := if de * pow2 l0 ≤ nu * pow2 (-l0) then l0 else l0 - 1
    let q : Int := if l - 23 < -149 then -149 else l - 23
    let a := nu * pow2 (-q)
    let b := de * pow2 q
    let f := a / b
    let r := a % b
    let m := if b < 2 * r || (2 * r = b && f % 2 = 1) then f + 1 else f
    let out := (q + 149).toNat * 2 ^ 23 + m
    let inx := if r = 0 then 0 else fxINX
    let unf := if r != 0 && l < -126 then fxUNF else 0
    if 0x7F800000 ≤ out then ⟨fInf n, fxOVF + fxINX⟩ else ⟨fsign n + out, inx + unf⟩

/-- Round an integer times 2^e; zero takes the sign `nz`. -/
def froundI (i : Int) (e : Int) (nz : Bool) : FR := if i = 0 then ⟨fsign nz, 0⟩ else fround (decide (i < 0)) i.natAbs 1 e

/-- A signed magnitude as an integer. -/
def fsi (n : Bool) (m : Nat) : Int := if n then -(m : Int) else (m : Int)

/-- Is a value a signaling NaN? It raises INV. -/
def fsnan (x : Nat) : Nat := if bits x 23 8 = 255 && bits x 0 23 != 0 && !bit x 22 then fxINV else 0

/-- A NaN result: an operand was a NaN. -/
def fnan (xs : List Nat) : FR := ⟨qNaN, if xs.any (fun x => fsnan x != 0) then fxINV else 0⟩

def fadd (x y : Nat) : FR :=
  match fval x, fval y with
  | .nan, _ => fnan [x, y]
  | _, .nan => fnan [x, y]
  | .inf a, .inf b => if a = b then ⟨fInf a, 0⟩ else ⟨qNaN, fxINV⟩
  | .inf a, .fin _ _ _ => ⟨fInf a, 0⟩
  | .fin _ _ _, .inf b => ⟨fInf b, 0⟩
  | .fin a m e, .fin b k f =>
    let g := min e f
    froundI (fsi a m * pow2 (e - g) + fsi b k * pow2 (f - g)) g (a && b)

def fneg (x : Nat) : Nat := if bit x 31 then x - 0x80000000 else x + 0x80000000

def fabs (x : Nat) : Nat := x % 0x80000000

def fsub (x y : Nat) : FR :=
  match fval y with
  | .nan => fnan [x, y]
  | _ => fadd x (fneg y)

def fmul (x y : Nat) : FR :=
  let n := bit x 31 != bit y 31
  match fval x, fval y with
  | .nan, _ => fnan [x, y]
  | _, .nan => fnan [x, y]
  | .inf _, .inf _ => ⟨fInf n, 0⟩
  | .inf _, .fin _ k _ => if k = 0 then ⟨qNaN, fxINV⟩ else ⟨fInf n, 0⟩
  | .fin _ m _, .inf _ => if m = 0 then ⟨qNaN, fxINV⟩ else ⟨fInf n, 0⟩
  | .fin _ m e, .fin _ k f => fround n (m * k) 1 (e + f)

def fdiv (x y : Nat) : FR :=
  let n := bit x 31 != bit y 31
  match fval x, fval y with
  | .nan, _ => fnan [x, y]
  | _, .nan => fnan [x, y]
  | .inf _, .inf _ => ⟨qNaN, fxINV⟩
  | .inf _, .fin _ _ _ => ⟨fInf n, 0⟩
  | .fin _ _ _, .inf _ => ⟨fsign n, 0⟩
  | .fin _ m e, .fin _ k f =>
    if k = 0 then (if m = 0 then ⟨qNaN, fxINV⟩ else ⟨fInf n, fxFDZ⟩) else fround n m k (e - f)

/-- floor of the square root, by `n` steps of bits from the top. -/
def isqrtGo : Nat → Nat → Nat → Nat
  | 0, _, r => r
  | n + 1, x, r => let t := r + 2 ^ n; if t * t ≤ x then isqrtGo n x t else isqrtGo n x r

def isqrt (x : Nat) : Nat := isqrtGo (Nat.log2 x / 2 + 1) x 0

def fsqrt (x : Nat) : FR :=
  match fval x with
  | .nan => fnan [x]
  | .inf a => if a then ⟨qNaN, fxINV⟩ else ⟨fInf false, 0⟩
  | .fin a m e =>
    if m = 0 then ⟨fsign a, 0⟩
    else if a then ⟨qNaN, fxINV⟩
    else
      let odd := e % 2 = 1
      let big := (if odd then 2 * m else m) * 2 ^ 60
      let e2 : Int := ((if odd then e - 1 else e) - 60) / 2
      let r := isqrt big
      fround false (2 * r + b2n (decide (r * r ≠ big))) 1 (e2 - 1)

/-- d + x × y rounded once (R317). -/
def fma (d x y : Nat) : FR :=
  let n := bit x 31 != bit y 31
  let prodInf := fun _ : Unit => match fval d with
    | .nan => fnan [d, x, y]
    | .inf b => if b = n then ⟨fInf b, 0⟩ else (⟨qNaN, fxINV⟩ : FR)
    | .fin _ _ _ => ⟨fInf n, 0⟩
  match fval x, fval y with
  | .nan, _ => fnan [d, x, y]
  | _, .nan => fnan [d, x, y]
  | .inf _, .inf _ => prodInf ()
  | .inf _, .fin _ k _ => if k = 0 then ⟨qNaN, fxINV⟩ else prodInf ()
  | .fin _ m _, .inf _ => if m = 0 then ⟨qNaN, fxINV⟩ else prodInf ()
  | .fin _ m e, .fin _ k f =>
    match fval d with
    | .nan => fnan [d, x, y]
    | .inf b => ⟨fInf b, 0⟩
    | .fin b r g =>
      let h := min (e + f) g
      froundI (fsi n (m * k) * pow2 (e + f - h) + fsi b r * pow2 (g - h)) h (n && b)

/-- A finite value as an exact fraction: numerator and denominator. -/
def fratio (x : Nat) : Option (Int × Nat) :=
  match fval x with
  | .fin n m e => some (fsi n m * pow2 e, pow2 (-e))
  | _ => none

/-- Ordering of two values that are not NaN: is x below y? -/
def flt0 (x y : Nat) : Bool :=
  match fval x, fval y with
  | .inf a, .inf b => a && !b
  | .inf a, .fin _ _ _ => a
  | .fin _ _ _, .inf b => !b
  | .fin a m e, .fin b k f =>
    let g := min e f
    decide (fsi a m * (pow2 (e - g) : Int) < fsi b k * (pow2 (f - g) : Int))
  | _, _ => false

def isNaN (x : Nat) : Bool := decide (fval x = .nan)

/-- Equality of two values: zeros of both signs are equal. -/
def feq0 (x y : Nat) : Bool := !isNaN x && !isNaN y && !flt0 x y && !flt0 y x

/-- A signed fraction num/den rounded to binary32. -/
def fofRatio (num : Int) (den : Nat) : Nat := if den = 0 then qNaN else (fround (decide (num < 0)) num.natAbs den 0).v

/-- Round a fraction to the nearest integer, ties to even. -/
def rneDiv (num : Int) (den : Nat) : Int :=
  let d : Int := den
  let f := num.fdiv d
  let r := num - f * d
  if d < 2 * r || (2 * r = d && f % 2 = 1) then f + 1 else f

/-- binary32 times 2^sh to a signed 64-bit integer, saturating (R317). -/
def fcvtInt (x sh : Nat) : FR :=
  let lo : Int := -(2 ^ 63 : Nat)
  let hi : Int := ((2 ^ 63 : Nat) : Int) - 1
  match fval x with
  | .nan => ⟨0, fxINV⟩
  | .inf n => ⟨ofInt (if n then lo else hi) 64, fxINV⟩
  | .fin n m e =>
    let num := fsi n m * pow2 (e + sh)
    let den := pow2 (-(e + sh))
    let i := rneDiv num den
    if i < lo then ⟨ofInt lo 64, fxINV⟩ else if hi < i then ⟨ofInt hi 64, fxINV⟩
    else ⟨ofInt i 64, if i * den = num then 0 else fxINX⟩

end Sys2Proof.Machine
end

