-- ==== Sys2Proof/Machine/Phs.lean ====
section
/-! DEFINITION. Machine/Phs.lean: timebases, their locking, arming of banks, camera windows and blind gaps (R49 to R102). -/

namespace Sys2Proof.Machine

/-! ### Shared pieces -/

def tbOFF : Nat := 0
def tbFREE : Nat := 1
def tbACQUIRE : Nat := 2
def tbSLEWING : Nat := 3
def tbLOCKED : Nat := 4
def tbHOLDOVER : Nat := 5

/-- Write a PHS event of a timebase (R102). -/
def phsEvent (n code sev arg : Nat) (s : State) : State := emit blkPHS code sev (0x60160000 + n * 0x800) arg s

def setTbState (n st : Nat) (s : State) : State := s.setFld (PHS_TB_STAT_STATE n) st
def setTbStatus (n st : Nat) (s : State) : State := s.setFld (PHS_TB_STAT_CMD_STATUS n) st

/-- Change a timebase's record. -/
def updTb (n : Nat) (f : Timebase → Timebase) (s : State) : State := s.setTb n (f (s.tb n))

/-- Is a bank active or armed (R51, R61, R69)? -/
def bankBusy (s : State) (n : Nat) : Bool := s.flag (PHS_TB_STAT_ACTIVE n) || s.flag (PHS_TB_STAT_ARM_PEND n)

/-- The range of INC_BASE (R50). -/
def incInRange (v : Nat) : Bool := decide (0x0112E0BE ≤ v) && decide (v ≤ 0x068DB8BAC711)

/-- INC_EFF from INC_BASE and a correction (R63). -/
def incWith (base : Nat) (corr : Int) : Nat := ((base : Int) + ((base : Int) * corr).fdiv 4294967296).toNat % 2 ^ 48

/-- The correction in use, signed. -/
def corrOf (s : State) (n : Nat) : Int := sext (s.rdN (PHS_TB_CORR n)) 32

/-- Put a correction into force (R63). -/
def setCorr (n : Nat) (c : Int) (s : State) : State :=
  (s.wrN (PHS_TB_CORR n) (ofInt c 32)).wrN (PHS_TB_INC_EFF n) (incWith (s.incBase n) c)

/-- The slew limit in units of 2⁻³² (R63, R64). -/
def slewLim (s : State) (n : Nat) : Int :=
  let v := s.fld (PHS_TB_SLEW_SLEW_PPM n)
  ((if v = 0 || 50 < v then 50 else v) * 4295 : Nat)

/-- Is a bank's rate bounded: a correction beyond the slew limit is brought to it (R64)? -/
def clampCorr (n : Nat) (s : State) : State :=
  if bankBusy s n && decide ((slewLim s n).natAbs < (corrOf s n).natAbs) then setCorr n (clampI (corrOf s n) (-slewLim s n) (slewLim s n)) s else s

/-- A write of PHS_TBn_SLEW (R64, R97): a new limit holds at once for a timebase with a bank active or armed. -/
def slewWrite (n v : Nat) (s : State) : State :=
  clampCorr n ((s.setFld (PHS_TB_SLEW_SLEW_PPM n) v).setFld (PHS_TB_SLEW_CAPTURE_PPM n) (v / 65536))

/-- CAPTURE_PPM as it acts (R97). -/
def capturePpm (s : State) (n : Nat) : Nat := clampN (s.fld (PHS_TB_SLEW_CAPTURE_PPM n)) 1 10000

/-- MULT as it acts (R56). -/
def multOf (s : State) (n : Nat) : Nat := if s.fld (PHS_TB_SRC_MULT n) = 0 then 16 else s.fld (PHS_TB_SRC_MULT n)

/-- Is the timebase at a cycle boundary: has its fraction just wrapped? -/
def atBoundary (s : State) (n : Nat) : Bool := decide (s.frac56 n < s.incEff n)

/-! ### Blind gaps (R86 to R89) -/

/-- Insert into a list ordered by start. -/
def insSpan (x : Nat × Nat) : List (Nat × Nat) → List (Nat × Nat)
  | [] => [x]
  | y :: t => if x.1 ≤ y.1 then x :: y :: t else y :: insSpan x t

/-- The guard of a window as a fraction, rounded up, at the timebase's INC_BASE (R86). -/
def cwGuard (s : State) (w n : Nat) : Nat := ceilDiv (s.rdN (PHS_CW_GUARD w) % 2 ^ 20 * s.incBase n) (2 ^ 24)

/-- The windows bound to a timebase take their guards at its INC_BASE, as the gaps are computed (R86). -/
def takeGuards (n : Nat) (s : State) : State :=
  [0, 1, 2, 3].foldl (fun t w => if t.fld (PHS_CW_CTL_TB w) = n then t.setCw w { t.cw w with guardF := cwGuard t w n } else t) s

/-- REPEAT as it acts (R100). -/
def cwRepeat (s : State) (w : Nat) : Nat := if s.fld (PHS_CW_CTL_REPEAT w) = 0 then 16 else s.fld (PHS_CW_CTL_REPEAT w)

/-- The widened starts of a window's instances, and the widened length (R86). -/
def cwSpans (s : State) (w : Nat) : List Nat × Nat :=
  let g := (s.cw w).guardF
  let len := s.rdN (PHS_CW_LEN w)
  if len = 0 then ([], 0)
  else ((List.range (cwRepeat s w)).map (fun k =>
      (s.rdN (PHS_CW_START w) + k * 2 ^ 32 / cwRepeat s w + 2 ^ 32 * (g / 2 ^ 32 + 1) - g) % 2 ^ 32), len + 2 * g)

/-- Spans that do not wrap, from a widened span. -/
def unwrapSpan (a len : Nat) : List (Nat × Nat) :=
  if 2 ^ 32 ≤ len then [(0, 2 ^ 32)]
  else if a + len ≤ 2 ^ 32 then [(a, a + len)]
  else [(a, 2 ^ 32), (0, a + len - 2 ^ 32)]

/-- The gaps that ordered spans leave from `p` on. -/
def gapsOf (p : Nat) : List (Nat × Nat) → List (Nat × Nat)
  | [] => if p < 2 ^ 32 then [(p, 2 ^ 32)] else []
  | (a, b) :: t => if p < a then (p, a) :: gapsOf (max p b) t else gapsOf (max p b) t

/-- Join the gaps at both ends of the cycle into one that spans the boundary (R88). -/
def joinGaps (g : List (Nat × Nat)) : List (Nat × Nat) :=
  match g with
  | (0, b) :: t =>
    match t.getLast? with
    | some (a, e) => if e = 2 ^ 32 then t.dropLast ++ [(a, b)] else g
    | none => g
  | _ => g

/-- The enabled windows bound to a timebase that have an instance. -/
def cwsOf (s : State) (n : Nat) : List Nat :=
  [0, 1, 2, 3].filter (fun w => s.flag (PHS_CW_CTL_EN w) && s.fld (PHS_CW_CTL_TB w) == n && s.rdN (PHS_CW_LEN w) != 0)

/-- The blind gaps of a timebase (R88); none means that the whole cycle is blind. -/
def blindGaps (s : State) (n : Nat) : Option (List (Nat × Nat)) :=
  let ws := cwsOf s n
  if ws.isEmpty then none
  else
    let spans := ws.flatMap (fun w => (cwSpans s w).1.flatMap (fun a => unwrapSpan a (cwSpans s w).2))
    some ((joinGaps (gapsOf 0 (spans.foldr insSpan []))).take 64)

/-- Recompute and list the gaps (R88). -/
def recomputeGaps (n : Nat) (s0 : State) : State :=
  let s := takeGuards n s0
  let gs := (blindGaps s n).getD []
  let s1 := (List.range 64).foldl (fun t k =>
    match gs[k]? with
    | some (a, b) => t.wrN (PHS_TB_BLIND n k) (a + b % 2 ^ 32 * 2 ^ 32)
    | none => t.wrN (PHS_TB_BLIND n k) 0) s
  (s1.wrN (PHS_TB_BLIND_CNT n) (gs.length + 256 * b2n (blindGaps s n).isNone))

/-- Does a fraction lie in a blind gap as listed (R88)? -/
def inGap (s : State) (n f : Nat) : Bool :=
  s.flag (PHS_TB_BLIND_CNT_ALL n) ||
  (List.range (s.rdN (PHS_TB_BLIND_CNT n) % 128)).any (fun k =>
    let v := s.rdN (PHS_TB_BLIND n k)
    let a := v % 2 ^ 32
    let b := v / 2 ^ 32
    if a < b then decide (a ≤ f) && decide (f < b) else decide (a ≤ f) || decide (f < b))

/-! ### The correction loop and the states (R59 to R68) -/

/-- An integer wrapped into (-m/2, m/2]. -/
def wrapI (x m : Int) : Int := let r := x % m; if m < 2 * r then r - m else r

/-- What a reference says: its error in quanta against the nearest expected position, the error wrapped into half a cycle (R63), both also
in units of 2⁻⁵⁸ cycle, and the phase at its corrected time-stamp, in those units, with the count of wraps above. -/
structure RefErr where
  at58 : Int
  near : Int
  e : Int
  near58 : Int
  e58 : Int
deriving DecidableEq, Repr

/-- The phase passed since power-on, in units of 2⁻⁵⁶ cycle: the count of wraps, and the fraction with its sub-bits. -/
def totalPhase (s : State) (n : Nat) : Nat := (s.tb n).wraps * 2 ^ 56 + s.frac56 n

/-- The phase so counted, in units of 2⁻⁵⁸ cycle, at the corrected time-stamp of an edge of 4 PHS cycles ago (R56, R58). -/
def stamp58 (s : State) (n q : Nat) : Int := ((totalPhase s n * 4 : Nat) : Int) + ((q : Int) - 16 - sext (s.rdN (PHS_TB_DELAY n)) 16) * (s.incEff n : Int)

/-- The error of a reference that is expected at k/of of a reference period, or, with `any`, at whichever multiple of 1/of is nearest (R54,
R56, R63): time-stamped 4 PHS cycles ago (R58), q quanta into that cycle, and corrected by DELAY. -/
def refError (s : State) (n q k of_ : Nat) (any : Bool) : RefErr :=
  let inc : Int := s.incEff n
  let x : Int := (((s.tb n).acc * 4 : Nat) : Int) + ((q : Int) - 16 - sext (s.rdN (PHS_TB_DELAY n)) 16) * inc - ((s.rdN (PHS_TB_OFFSET n) * 2 ^ 26 : Nat) : Int)
  let m : Int := multOf s n
  let o : Int := of_
  let c : Int := (2 ^ 58 : Nat)
  let at58 := stamp58 s n q
  if s.fld (PHS_TB_SRC_DIR n) = 0 then
    let w := wrapI ((k : Int) * c - x * m * o) (if any then c else c * o)
    { at58 := at58, near := rndDiv w (m * o * inc), e := rndDiv w (m * o * inc), near58 := rndDiv w (m * o), e58 := rndDiv w (m * o) }
  else
    let d := (k : Int) * m * c - x * o
    let w := wrapI d (if any then m * c else m * c * o)
    let v := wrapI w (c * o)
    { at58 := at58, near := rndDiv w (o * inc), e := rndDiv v (o * inc), near58 := rndDiv w o, e58 := rndDiv v o }

/-- The error of a beacon's phase sample (R55, R57, R529): the sample less the local phase `lag` quanta ago. -/
def beaconError (s : State) (n : Nat) (sample : Nat) (lag : Int) : RefErr :=
  let inc : Int := s.incEff n
  let d := wrapI (((sample * 2 ^ 26 : Nat) : Int) - ((((s.tb n).acc * 4 : Nat) : Int) - lag * inc)) ((2 ^ 58 : Nat) : Int)
  { at58 := 0, near := rndDiv d inc, e := rndDiv d inc, near58 := d, e58 := d }

/-- By how many cycles a beacon's count differs from the timebase's own, modulo 2³² (R62). -/
def beaconCountDiff (s : State) (n sample : Nat) (lag : Int) : Nat :=
  ofInt (rndDiv (((sample * 2 ^ 26 : Nat) : Int) - ((((s.tb n).acc * 4 : Nat) : Int) - lag * (s.incEff n : Int))) ((2 ^ 58 : Nat) : Int)) 32

/-- The integrator takes a value (R63, R65): RANGE clears, and its run of references ends, when it does not stand at the limit. -/
def setInteg (n : Nat) (i : Int) (s : State) : State :=
  if i = slewLim s n || i = -slewLim s n then updTb n (fun t => { t with integ := i }) s
  else (updTb n (fun t => { t with integ := i, railCnt := 0 }) s).setFld (PHS_TB_STAT_RANGE n) 0

/-- One accepted reference updates the correction (R63, R65); SOURCE_RANGE carries the period measured last. -/
def correct (n : Nat) (e : Int) (s : State) : State :=
  let lim := slewLim s n
  let i := clampI ((s.tb n).integ + (e * (s.fld (PHS_TB_LOOP_KI n) : Nat)).fdiv 256) (-lim) lim
  let c := clampI (e * (s.fld (PHS_TB_LOOP_KP n) : Nat) + i) (-lim) lim
  let s1 := setCorr n c (setInteg n i s)
  if i = lim || i = -lim then
    let s2 := updTb n (fun t => { t with railCnt := t.railCnt + 1 }) s1
    if (s2.tb n).railCnt = 64 then phsEvent n 4 svWARNING ((s2.tb n).lastPer / 4 % 2 ^ 32) (s2.setFld (PHS_TB_STAT_RANGE n) 1) else s2
  else s1

/-- A reference accepted in SLEWING or LOCKED updates the correction, which counts in the mean of R66. -/
def correctCounted (n : Nat) (e : Int) (s : State) : State :=
  let s1 := correct n e s
  updTb n (fun t => { t with corrHist := (t.corrHist ++ [corrOf s1 n]).drop (t.corrHist.length + 1 - 64) }) s1

/-- Agreement at an accepted phase-0 reference (R59, R60, R62). -/
def judgeLock (n : Nat) (e : Int) (s : State) : State :=
  let t := s.tb n
  let tol : Int := (4 * s.fld (PHS_TB_LOCK_LOCK_TOL n) : Nat)
  let cnt := max 1 (s.fld (PHS_TB_LOCK_LOCK_CNT n))
  if s.tbState n = tbSLEWING then
    let a := if e.natAbs ≤ tol then t.agreeCnt + 1 else 0
    if cnt ≤ a then
      phsEvent n 1 svINFO (ofInt e 32) (setTbState n tbLOCKED (s.setTb n
        { t with agreeCnt := 0, badCnt := 0, everLocked := true, countPend := if t.everLocked then t.countPend else some (t.beaconDiff, t.wraps) }))
    else s.setTb n { t with agreeCnt := a }
  else if s.tbState n = tbLOCKED then
    let b := if 4 * tol < e.natAbs then t.badCnt + 1 else 0
    if cnt ≤ b then phsEvent n 3 svNOTICE (ofInt e 32) (setTbState n tbSLEWING (s.setTb n { t with badCnt := 0, agreeCnt := 0, subOk := true }))
    else s.setTb n { t with badCnt := b }
  else s

/-- The period of the reference in quanta as a fraction (numerator, denominator) at an increment (R56, R57). -/
def refPeriod (s : State) (n inc : Nat) : Nat × Nat :=
  if s.fld (PHS_TB_SRC_TYPE n) = 4 then (256000, 1)
  else if s.fld (PHS_TB_SRC_DIR n) = 0 then (2 ^ 58, inc * multOf s n)
  else (2 ^ 58 * multOf s n, inc)

/-- Does a sum of `cnt` measured periods lie within the capture range of an increment (R61, R94)? -/
def inCapture (s : State) (n inc sum cnt : Nat) : Bool :=
  let p := if s.fld (PHS_TB_SRC_TYPE n) = 4 then (2 ^ 58, inc) else refPeriod s n inc
  let a := cnt * p.1
  let b := sum * p.2
  decide ((if a ≤ b then b - a else a - b) * 1000000 ≤ a * capturePpm s n)

/-- The increment that a sum of `cnt` measured periods implies, rounded to nearest (R61). -/
def incFromPeriods (s : State) (n sum cnt : Nat) : Nat :=
  if sum = 0 then 0
  else if s.fld (PHS_TB_SRC_TYPE n) = 4 then (rndDiv ((2 ^ 58 * cnt : Nat) : Int) (sum : Nat)).toNat % 2 ^ 48
  else if s.fld (PHS_TB_SRC_DIR n) = 0 then (rndDiv ((2 ^ 58 * cnt : Nat) : Int) ((sum * multOf s n : Nat) : Int)).toNat % 2 ^ 48
  else (rndDiv ((2 ^ 58 * cnt * multOf s n : Nat) : Int) ((sum : Nat) : Int)).toNat % 2 ^ 48

/-- The acceptance window, in quanta (R60). -/
def winQuanta (s : State) (n : Nat) : Nat := 4 * (s.rdN (PHS_TB_WIN n) % 2 ^ 20)

/-- SLEWING is entered with an error (R59, R60): sub-cycle references are heard at once where it lies within WIN, and the next expected
position is the first that is still to come. -/
def enterSlewing (n : Nat) (r : RefErr) (s : State) : State :=
  let ok := decide (r.near.natAbs ≤ winQuanta s n)
  phsEvent n 3 svNOTICE (ofInt r.e 32) (setTbState n tbSLEWING (updTb n (fun t => { t with missCnt := 0, agreeCnt := 0, badCnt := 0, subOk := ok, lastExp := if ok then ((r.at58 + r.near58) / 4).toNat else totalPhase s n }) s))

/-- ACQUIRE measures a period; after eight it judges their mean (R61, R69). -/
def acquirePeriod (n per : Nat) (r : RefErr) (s : State) : State :=
  let t := s.tb n
  let ps := t.periods ++ [per]
  if ps.length < 8 then s.setTb n { t with periods := ps }
  else
    let sum := ps.sum
    if !inCapture s n (s.incBase n) sum 8 then
      phsEvent n 4 svWARNING (sum / 32 % 2 ^ 32) (s.setTb n { t with periods := [] })
    else
      let s1 := if bankBusy s n then s
        else (s.wrN (PHS_TB_INC_BASE n) (incFromPeriods s n sum 8)).setFld (PHS_TB_STAT_BASE_UPD n) 1
      let s2 := s1.setTb n { t with periods := [], corrHist := [], incChanged := t.incChanged || !bankBusy s n, alignPend := t.alignPend || (s.flag (PHS_TB_CTL_ALIGN_AUTO n) && !bankBusy s n) }
      enterSlewing n r (setCorr n 0 (setInteg n 0 s2))

/-- A SCANNER timebase follows the measured period, at every phase-0 reference (R51, R94). -/
def scannerFollow (n per : Nat) (s : State) : State :=
  if s.fld (PHS_TB_SRC_TYPE n) != 5 then s
  else if inCapture s n (s.tb n).scanCentre per 1 then
    let s1 := ((s.wrN (PHS_TB_INC_BASE n) (incFromPeriods s n per 1)).setFld (PHS_TB_STAT_BASE_UPD n) 1)
    setCorr n (corrOf s n) (updTb n (fun t => { t with incChanged := true }) s1)
  else setCorr n (corrOf s n) (phsEvent n 4 svWARNING (per / 4 % 2 ^ 32) s)

/-- The fraction jumps so that a phase-0 reference has no error; the count stays (R69). The reference that aligns does not run the loop of
R63 and counts toward no agreement (DESIGN CHOICE, log entry 112). -/
def alignAt (n : Nat) (r : RefErr) (s : State) : State :=
  let t := s.tb n
  let f := ((t.acc % 2 ^ 56 : Nat) : Int) + rndDiv r.e58 4
  let x := (f % ((2 ^ 56 : Nat) : Int)).toNat
  (s.setTb n { t with acc := t.acc / 2 ^ 56 * 2 ^ 56 + x, alignPend := false, missCnt := 0, subOk := true, lastExp := t.wraps * 2 ^ 56 + x }).wrN (PHS_TB_ERR n) 0

/-- A phase-0 reference, its error and the period since the one before in hand (R60 to R69, R94). -/
def phase0 (n stamp : Nat) (r : RefErr) (per : Option Nat) (s0 : State) : State :=
  let win := winQuanta s0 n
  let st := s0.tbState n
  let beacon := s0.fld (PHS_TB_SRC_TYPE n) == 4
  let s1 := updTb n (fun t => { t with lastEdge := some stamp, lastPer := per.getD t.lastPer, beaconFrom := stamp, missCnt := if beacon then 0 else t.missCnt }) s0
  let s2 := match per with
    | some p => scannerFollow n p s1
    | none => s1
  let err := fun s : State => s.wrN (PHS_TB_ERR n) (ofInt r.e 32)
  if st = tbACQUIRE then
    match per with
    | some p => acquirePeriod n p r (err s2)
    | none => err s2
  else if st = tbSLEWING || st = tbLOCKED then
    if (s0.tb n).alignPend && !bankBusy s0 n then alignAt n r s2
    else if r.near.natAbs ≤ win then
      judgeLock n r.e (correctCounted n r.e (updTb n (fun t => { t with missCnt := 0, subOk := true, lastExp := ((r.at58 + r.near58) / 4).toNat }) (err s2)))
    else s2.bump (PHS_TB_REJECT_CNT n)
  else if st = tbHOLDOVER then
    let rp := refPeriod s0 n (s0.incEff n)
    match per with
    | some p =>
      if ((p * rp.2 : Nat) - (rp.1 : Nat) : Int).natAbs ≤ win * rp.2 then correct n r.e (enterSlewing n r (err s2))
      else s2.bump (PHS_TB_REJECT_CNT n)
    | none => s2
  else s2

/-- A phase-0 edge whose correction acts now: it was time-stamped 4 ns ago, q quanta into that nanosecond (R58). -/
def phase0Edge (n q : Nat) (s : State) : State :=
  let stamp := 4 * s.now + q - 16
  phase0 n stamp (refError s n q 0 1 false) ((s.tb n).lastEdge.map (fun t => stamp - t)) s

/-- A beacon's phase sample of `lag` quanta ago reaches a timebase (R55, R57, R62, R529): a LOCKED timebase whose count differs takes the
beacons' count at the next boundary; one whose count agrees again does not. -/
def beaconSample (n sample : Nat) (lag : Int) (s : State) : State :=
  let stamp := (((4 * s.now : Nat) : Int) - lag).toNat
  let r := beaconError s n sample lag
  let t := s.tb n
  let d := beaconCountDiff s n sample lag
  let adv := (sample + 2 ^ 64 - t.lastPhase) % 2 ^ 64
  let per := t.lastEdge.map (fun e => if s.tbState n = tbACQUIRE then (rndDiv (((stamp - e) * 2 ^ 32 : Nat) : Int) ((max 1 adv : Nat) : Int)).toNat else stamp - e)
  let s1 := s.setTb n { t with lastPhase := sample, beaconDiff := d }
  let s2 := phase0 n stamp r per s1
  if s2.tbState n = tbLOCKED && (s2.tb n).countPend.isNone then
    updTb n (fun t => { t with stepPend := if d = 0 then none else some (d, (t.stepPend.map (fun p => p.2)).getD t.wraps) }) s2
  else s2

/-- HOLDOVER is entered at the mean correction (R66). -/
def enterHoldover (n : Nat) (s : State) : State :=
  let t := s.tb n
  let m : Int := if t.corrHist.isEmpty then corrOf s n else rndDiv t.corrHist.sum t.corrHist.length
  let s1 := setTbState n tbHOLDOVER (setCorr n m (setInteg n m (s.setTb n { t with missCnt := 0, agreeCnt := 0, badCnt := 0, subOk := false })))
  (phsEvent n 2 svWARNING (ofInt m 32) s1).bump (PHS_TB_HOLD_CNT n)

/-! ### Commands on timebases -/

/-- What happens at every cycle boundary of a timebase (R49, R88, R91): the gaps follow a changed INC_BASE, and its windows start a
new cycle of measurement. -/
def boundaryWork (n : Nat) (s : State) : State :=
  let s1 := updTb n (fun t => { t with incChanged := false, lateWritten := false }) (if (s.tb n).incChanged then recomputeGaps n s else s)
  [0, 1, 2, 3].foldl (fun t w => if t.fld (PHS_CW_CTL_TB w) = n then
    t.setCw w { t.cw w with mismBefore := (t.cw w).mism, mism := false, measured := false } else t) s1

/-- Nanoseconds until the fraction of a timebase wraps. -/
def toBoundary (s : State) (n : Nat) : Nat := if s.incEff n = 0 then 0 else ceilDiv (2 ^ 56 - s.frac56 n) (s.incEff n)

/-- CYCLE_BOUNDARY: time passes to the next boundary of timebase n (R49). -/
def execCycleBoundary (n : Fin 4) (s : State) : Out :=
  if !s.mainOn then .next s else
  if s.tbOn n && s.incEff n != 0 then .next (boundaryWork n (passTime (toBoundary s n) s)) else .next s

/-- Does timebase n stand at a boundary that came after its count of wraps stood at `since`: one at which what was written then takes
effect (R21, R52, R62, R89)? -/
def boundaryAfter (s : State) (n since : Nat) : Bool := atBoundary s n && decide (since < (s.tb n).wraps)

/-- TB_DISABLE (R52, R69): the stop waits for the next boundary. -/
def execTbDisable (n : Fin 4) (s : State) : Out :=
  if !s.clocked then .next s else
  let s1 := setTbStatus n stOK (s.setFld (PHS_TB_CTL_EN n) 0)
  .next (if s.tbOn n then
      updTb n (fun t => { t with alignPend := false, stopFrom := if s.flag (PHS_TB_STAT_STOP_PEND n) then t.stopFrom else t.wraps }) (s1.setFld (PHS_TB_STAT_STOP_PEND n) 1)
    else s1)

/-- INC_BASE_WRITE (R51). -/
def execIncBaseWrite (n : Fin 4) (v : BitVec 64) (s : State) : Out :=
  if !s.clocked then .next s else
  let x := v.toNat % 2 ^ 48
  let took := fun t : State => updTb n (fun r => { r with scanCentre := x, incChanged := true }) (t.wrN (PHS_TB_INC_BASE n) x)
  .next (dropAside (PHS_TB_INC_BASE n) (
    if !s.tbOn n then recomputeGaps n (updTb n (fun r => { r with incChanged := false }) (took s))
    else if !incInRange x then setTbStatus n stPRECOND s
    else if s.fld (PHS_TB_SRC_TYPE n) = 5 then took s
    else if bankBusy s n then setTbStatus n stNOTPERM s
    else (took s).wrN (PHS_TB_INC_EFF n) (incWith x (corrOf s n))))

/-- Enter the state that a source's TYPE calls for (R59, R70). -/
def enterSource (n : Nat) (s : State) : State :=
  let s1 := setInteg n 0 (updTb n (fun t => { t with periods := [], lastEdge := none, lastPer := 0, corrHist := [], agreeCnt := 0, badCnt := 0, missCnt := 0, subOk := false, alignPend := false, stepPend := none, beaconDiff := 0 }) s)
  if s.fld (PHS_TB_SRC_TYPE n) = 0 then setTbState n tbFREE (setCorr n 0 s1) else setTbState n tbACQUIRE s1

/-- Does a value of SRC name a pickup-mode input as a GENLOCK source (R55)? -/
def namesPickup (s : State) (v : Nat) : Bool :=
  v % 8 == 1 && decide (bits v 4 5 < 4) && bit (s.fld PHS_IN_CTL_PICKUP) (bits v 4 5)

/-- The VIO bank whose lands carry a timebase's source (R54, R601): 1, or that of an encoder interface; none for a beacon. -/
def srcBank (s : State) (n : Nat) : Option Nat :=
  let e := s.fld (PHS_TB_SRC_SEL n) % 16
  match s.fld (PHS_TB_SRC_TYPE n) with
  | 2 => some (if e < 8 then 4 else 5)
  | 4 => none
  | 5 => if s.fld (PHS_TB_SRC_SEL n) < 16 then some 1 else some (if e < 8 then 4 else 5)
  | _ => some 1

/-- Is there an input that SRC.SEL names (R54, R55): of a GENLOCK source one that is no pickup, of a SCANNER source a genlock input that is
one, or an encoder interface? -/
def srcInput (s : State) (n : Nat) : Bool :=
  let sel := s.fld (PHS_TB_SRC_SEL n)
  let encoder := s.fld (CTL_E_CFG_TYPE (sel % 16)) == 1 || s.fld (CTL_E_CFG_TYPE (sel % 16)) == 2
  match s.fld (PHS_TB_SRC_TYPE n) with
  | 1 => decide (sel < 4) && !bit (s.fld PHS_IN_CTL_PICKUP) sel
  | 2 => decide (sel < 16) && encoder
  | 3 => decide (sel < 2)
  | 4 => decide (sel < 4)
  | 5 => if sel < 16 then decide (sel < 4) && bit (s.fld PHS_IN_CTL_PICKUP) sel else encoder
  | _ => false

/-- Does a timebase's source deliver references: is it running, is its input there, and the bank of its lands UP (R54, R55, R585)? -/
def hearsSource (s : State) (n : Nat) : Bool :=
  s.tbOn n && srcInput s n && (match srcBank s n with | some v => s.bankUp v | none => true)

/-- PHASE0_REFERENCE (R58, R60): after dt ns the correction of an edge acts, which was stamped 4 ns before, q quanta into its nanosecond; or
for a BEACON source a corrected sample arrives. -/
def execPhase0Reference (n : Fin 4) (dt : Nat) (q : Fin 4) (sample : BitVec 64) (s : State) : Out :=
  if !s.mainOn then .next s else
  let s1 := passTime dt s
  .next (if !hearsSource s1 n then s1
    else if s1.fld (PHS_TB_SRC_TYPE n) = 4 then beaconSample n sample.toNat 0 s1
    else phase0Edge n q s1)

/-- The error of a sub-cycle reference of a timebase's source (R54): a genlock line pulse or an encoder count at the nearest multiple of
1/SUBDIV, a position of an absolute encoder at position / 2^bits, the falling crossing of a mains input (with BOTH) or scanner at 1/2;
none where the source has none. -/
def subError (s : State) (n q pos : Nat) : Option RefErr :=
  let div := s.rdN (PHS_TB_SUBDIV n) % 2 ^ 24
  let e := s.fld (PHS_TB_SRC_SEL n) % 16
  let counts := if div = 0 then none else some (refError s n q 0 div true)
  match s.fld (PHS_TB_SRC_TYPE n) with
  | 1 => counts
  | 2 => if s.fld (CTL_E_CFG_TYPE e) = 1 then counts
    else
      let b := clampN (s.fld (CTL_E_CFG_BITS e)) 8 32
      some (refError s n q (pos % 2 ^ b) (2 ^ b) false)
  | 3 => if s.flag (PHS_TB_SRC_BOTH n) then some (refError s n q 1 2 false) else none
  | 5 => some (refError s n q 1 2 false)
  | _ => none

/-- SUBCYCLE_REFERENCE (R54, R56, R60): heard in LOCKED, and in SLEWING once the error lies within WIN; `pos` is the position that an absolute
encoder samples. -/
def execSubcycleReference (n : Fin 4) (dt : Nat) (q : Fin 4) (pos : BitVec 32) (s : State) : Out :=
  if !s.mainOn then .next s else
  let s1 := passTime dt s
  let st := s1.tbState n
  .next (
    if !hearsSource s1 n || !(st = tbLOCKED || (st = tbSLEWING && (s1.tb n).subOk)) then s1
    else match subError s1 n q pos.toNat with
      | none => s1
      | some r =>
        if r.near.natAbs ≤ winQuanta s1 n then correctCounted n r.e (s1.wrN (PHS_TB_ERR n) (ofInt r.e 32)) else s1.bump (PHS_TB_REJECT_CNT n))

/-- The expected position that follows a phase (R56), both in 2⁻⁵⁶ cycle with the count of wraps above: the next multiple of 1/MULT, or,
with DIR 1, the start of the next cycle whose count is a multiple of MULT; OFFSET added. -/
def nextExpected (s : State) (n since : Nat) : Nat :=
  let m := multOf s n
  let off : Int := (s.rdN (PHS_TB_OFFSET n) * 2 ^ 24 : Nat)
  let c : Int := (2 ^ 56 : Nat)
  if s.fld (PHS_TB_SRC_DIR n) = 0 then
    let j := (((since : Int) + 2 - off) * m).fdiv c + 1
    ((j * c).fdiv m + off).toNat
  else
    let w := ((since : Int) + 2 - off).fdiv c + 1
    let cnt := ((s.cycle n : Int) + w - ((s.tb n).wraps : Int)) % (2 ^ 32 : Int)
    ((w + (-cnt) % m) * c + off).toNat

/-- The nanoseconds until the window of the next expected reference has passed (R60): of a beacon, 64 µs and WIN after the interval began; of
another source, WIN after the time at which its stamp, DELAY taken off, would lie on the expected position. -/
def missAfter (s : State) (n : Nat) : Nat :=
  if s.fld (PHS_TB_SRC_TYPE n) = 4 then ceilDiv ((s.tb n).beaconFrom + 256000 + winQuanta s n - 4 * s.now) 4
  else
    let inc : Int := max 1 (s.incEff n)
    let p : Int := nextExpected s n (s.tb n).lastExp
    let d := 4 * (p - (totalPhase s n : Int)) + (sext (s.rdN (PHS_TB_DELAY n)) 16 + (winQuanta s n : Int)) * inc
    (-((-d).fdiv (4 * inc))).toNat

/-- REFERENCE_MISSED (R60, R66): time passes until the window of the next expected reference has passed, no reference having been accepted;
LOS_N in a row lose the source. -/
def execReferenceMissed (n : Fin 4) (s0 : State) : Out :=
  if !s0.mainOn then .next s0 else
  if !(s0.tbState n = tbSLEWING || s0.tbState n = tbLOCKED) then .next s0 else
  let s := passTime (missAfter s0 n) s0
  if max 1 (s.fld (PHS_TB_LOCK_LOS_N n)) ≤ (s.tb n).missCnt + 1 then .next (enterHoldover n s)
  else .next (updTb n (fun t => { t with missCnt := t.missCnt + 1, lastExp := nextExpected s0 n t.lastExp, beaconFrom := t.beaconFrom + 256000 }) s)

/-- Set the cycle count, the fraction untouched (R53). -/
def setCount (n c : Nat) (s : State) : State := updTb n (fun t => { t with acc := c % 2 ^ 32 * 2 ^ 56 + t.acc % 2 ^ 56 }) s

/-- CYCLE_COUNT_SET (R62): at the boundary after the first lock. -/
def execCycleCountSet (n : Fin 4) (s : State) : Out :=
  if !s.mainOn then .next s else
  match (s.tb n).countPend with
  | some (d, since) =>
    if boundaryAfter s n since && s.tbOn n then
      .next (updTb n (fun t => { t with countPend := none })
        (setCount n (if s.fld (PHS_TB_SRC_TYPE n) = 4 then s.cycle n + d else 0) s))
    else .next s
  | none => .next s

/-- CYCLE_STEP (R62): at a boundary of a LOCKED BEACON timebase. -/
def execCycleStep (n : Fin 4) (s : State) : Out :=
  if !s.mainOn then .next s else
  match (s.tb n).stepPend with
  | some (d, since) =>
    if boundaryAfter s n since && s.tbState n = tbLOCKED then
      let c := (s.cycle n + d) % 2 ^ 32
      .next (phsEvent n 13 svWARNING (s.cycle n + c % 2 ^ 24 * 2 ^ 32) (updTb n (fun t => { t with stepPend := none }) (setCount n c s)))
    else .next s
  | none => .next s

/-- CMD_ALIGN (R69). -/
def execCmdAlign (n : Fin 4) (s : State) : Out :=
  if !s.clocked then .next s else
  .next (
    if bankBusy s n then setTbStatus n stNOTPERM s
    else if s.tbState n = tbOFF || s.tbState n = tbFREE then setTbStatus n stPRECOND s
    else updTb n (fun t => { t with alignPend := true }) (setTbStatus n stOK s))

/-- ALIGNMENT (R69): a pending alignment meets a phase-0 reference in SLEWING or LOCKED. -/
def execAlignment (n : Fin 4) (dt : Nat) (q : Fin 4) (s : State) : Out :=
  if !s.mainOn then .next s else
  let s1 := passTime dt s
  .next (if (s1.tb n).alignPend && !bankBusy s1 n && hearsSource s1 n && (s1.tbState n = tbSLEWING || s1.tbState n = tbLOCKED) &&
      s1.fld (PHS_TB_SRC_TYPE n) != 4 then phase0Edge n q s1 else s1)

/-! ### Arming (R75 to R81) -/

def bankBase (s : State) (n b : Nat) : Nat := if b = 0 then s.rdN (PHS_TB_BANKA_BASE n) else s.rdN (PHS_TB_BANKB_BASE n)
def bankCount (s : State) (n b : Nat) : Nat := (if b = 0 then s.rdN (PHS_TB_BANKA_COUNT n) else s.rdN (PHS_TB_BANKB_COUNT n)) % 2 ^ 17

/-- The bytes of a pin as a pin (R71). -/
def pinOf (bs : List Byte) : Pin :=
  let v := leNat bs
  { frac := bits v 0 32, action := bits v 32 8, flags := bits v 40 8, target := bits v 48 16, arg := bits v 64 64 }

/-- Pin i of a bank, as memory holds it. -/
def readPin (s : State) (n b i : Nat) : Pin := pinOf (sysRead s (bankBase s n b + 16 * i) 16)

/-- Reserved bits of TARGET and ARG that are set, per action (R71, R73). -/
def pinReserved (p : Pin) : Bool :=
  let tm := fun w : Nat => p.target / 2 ^ w != 0
  let am := fun w : Nat => p.arg / 2 ^ w != 0
  match p.action with
  | 0 => tm 0 || am 0
  | 1 => tm 4 || am 24
  | 2 => tm 4 || am 20
  | 3 => false
  | 4 => tm 8 || am 32
  | 5 => tm 0 || am 48
  | 6 => tm 3 || am 40 || bits p.arg 27 5 != 0
  | 7 => tm 0 || am 48
  | 8 => tm 2 || am 0
  | 9 => am 32
  | 10 => tm 2 || am 1
  | 11 => tm 9
  | 12 => tm 0
  | _ => true

/-- A target outside the device (R74, R77): array 3, and a calibration target that no pin runs. Target 9 is one of these, since it runs by
itself (R560; DESIGN CHOICE, log entry 112). -/
def pinBadTarget (p : Pin) : Bool :=
  match p.action with
  | 1 => bits p.target 2 2 == 3
  | 2 => bits p.target 2 2 == 3
  | 9 => decide (p.target = 0) || decide (9 ≤ p.target)
  | _ => false

/-- The reason, if any, for which a pin fails (R77), ps being the bank's pins and i its index. -/
def pinFails (s : State) (n : Nat) (ps : List Pin) (i : Nat) (p : Pin) : Option Nat :=
  let cnt := ps.length
  let prev := if i = 0 then 0 else (ps[i - 1]?.getD {}).frac
  let later := (ps[(i + 64) % cnt]?.getD {}).frac + (i + 64) / cnt * 2 ^ 32
  if p.frac < prev then some 1
  else if 0x0D ≤ p.action || bits p.flags 4 2 == 3 || bits p.flags 6 2 != 0 || pinReserved p then some 2
  else if pinBadTarget p then some 3
  else if (later - p.frac) * 2 ^ 24 < 64 * s.incBase n then some 4
  else if (bit p.flags 3 || p.action == 9) && !inGap s n p.frac then some 5
  else none

/-- The first failing pin: its reason and index. -/
def firstFail (s : State) (n : Nat) (ps : List Pin) : Nat → List Pin → Option (Nat × Nat)
  | _, [] => none
  | i, p :: t =>
    match pinFails s n ps i p with
    | some r => some (r, i)
    | none => firstFail s n ps (i + 1) t

/-- The tolerance of a bank (R81): the shortest span of 1,024 consecutive pins, in ns at INC_BASE, rounded down (DESIGN CHOICE, log entry
112). -/
def bankTol (s : State) (n : Nat) (ps : List Pin) : Nat :=
  let cnt := ps.length
  if cnt ≤ 2048 then 0xFFFFFFFF
  else (List.range cnt).foldl (fun m i =>
    min m (((ps[(i + 1023) % cnt]?.getD {}).frac + (i + 1023) / cnt * 2 ^ 32 - (ps[i]?.getD {}).frac) * 2 ^ 24 / s.incBase n)) 0xFFFFFFFF

/-- ARM_STAT and ARM_REJECT (R77, R78). -/
def armReject (n status reason index : Nat) (s : State) : State :=
  let v := pack [(0, 8, status), (8, 4, reason), (16, 16, index)]
  phsEvent n 5 svERROR v (s.wrN (PHS_TB_ARM_STAT n) v)

/-- An arm ends without becoming active: its bank's reference goes (R369), and no pin of the bank fires. -/
def dropArm (n : Nat) (s : State) : State :=
  match (s.tb n).arm with
  | some a => dropHolder (.bank n a.bank) (updTb n (fun t => { t with arm := none, nextIn := 0, readAhead := t.readAhead.filter (fun e => e.1 != a.bank), dispatched := t.dispatched.filter (fun d => d.posted || d.bank != a.bank) }) (s.setFld (PHS_TB_STAT_ARM_PEND n) 0))
  | none => s

/-- ARM_GO (R77, R78, R369, R373). Where several refusals of R78 hold at once, the active bank is judged first, then a pending arm, then EN
(DESIGN CHOICE, log entry 112). -/
def execArmGo (n : Fin 4) (v : BitVec 32) (s : State) : Out :=
  if !s.clocked then .next s else
  let b := v.toNat % 2
  .next (
    if !bit v.toNat 2 then s
    else if s.flag (PHS_TB_STAT_ACTIVE n) && s.fld (PHS_TB_STAT_ACTIVE_BANK n) == b then armReject n stNOTPERM 0 0 s
    else if s.flag (PHS_TB_STAT_ARM_PEND n) then armReject n stBUSY 0 0 s
    else if !s.flag (PHS_TB_CTL_EN n) then armReject n stPRECOND 0 0 s
    else
      let base := bankBase s n b
      let cnt := bankCount s n b
      let arm : Arm := { bank := b, atCycle := bit v.toNat 1, goAt := s.now, validAt := none, refFail := none }
      let s1 := clampCorr n ((updTb n (fun t => { t with alignPend := false, arm := some arm }) s).setFld (PHS_TB_STAT_ARM_PEND n) 1)
      if 65536 < cnt || base % 16 != 0 then s1
      else match takeLocked (.bank n b) base (16 * cnt) true s1 with
        | .ok s2 => s2
        | .error va => refRefused blkPHS n va (updTb n (fun t => { t with arm := some { arm with refFail := some va } }) s1))

/-- ARM_VALIDATION_DONE (R77, R80, R81). -/
def execArmValidationDone (n : Fin 4) (dt : Nat) (s0 : State) : Out :=
  if !s0.clocked then .next (passTime dt s0) else
  let s := passTime dt s0
  match (s.tb n).arm with
  | none => .next s
  | some a =>
    if a.validAt.isSome then .next s
    else
      let base := bankBase s n a.bank
      let cnt := bankCount s n a.bank
      if 65536 < cnt || base % 16 != 0 then .next (armReject n stBADDESC 6 0 (dropArm n s))
      else match a.refFail with
        | some va => .next (armReject n stBADDESC 6 (if va ≤ base then 0 else (va - base) / 16) (dropArm n s))
        | none =>
          let ps := (List.range cnt).map (readPin s n a.bank)
          match firstFail s n ps 0 ps with
          | some (r, i) => .next (armReject n stBADDESC r i (dropArm n s))
          | none =>
            let s1 := (s.wrN (PHS_TB_ARM_STAT n) stOK).wrN (PHS_TB_TOL n) (bankTol s n ps)
            let ahead := (s.rdN (PHS_TB_SWAP_CYCLE n) + 2 ^ 32 - s.cycle n) % 2 ^ 32
            let ns := if s.incEff n = 0 then 0 else ceilDiv (ahead * 2 ^ 56 - s.frac56 n) (s.incEff n)
            if a.atCycle && (ahead = 0 || 2 ^ 31 ≤ ahead || ns < 8000) then
              .next (phsEvent n 7 svERROR (s.rdN (PHS_TB_SWAP_CYCLE n) * 256) (dropArm n (s1.wrN (PHS_TB_ARM_STAT n) stTIMEOUT)))
            else .next (updTb n (fun t => { t with arm := some { a with validAt := some s.now } }) s1)

/-- Does the boundary at which the timebase stands bring an arm's bank in (R79, R80)? An AT_CYCLE arm whose cycle has passed has none. -/
def swapNow (s : State) (n : Nat) (a : Arm) : Bool :=
  match a.validAt with
  | none => false
  | some v => atBoundary s n && s.tbOn n && (if a.atCycle then s.cycle n == s.rdN (PHS_TB_SWAP_CYCLE n) else decide (v + 8000 ≤ s.now))

/-- CANCEL_ARM (R80): in the PHS cycle of the swap boundary the cancel loses. -/
def execCancelArm (n : Fin 4) (s : State) : Out :=
  if !s.clocked then .next s else
  .next (match (s.tb n).arm with
    | some a => if swapNow s n a then setTbStatus n stNOTHING s else setTbStatus n stOK (dropArm n s)
    | none => setTbStatus n stNOTHING s)

/-- A validated bank becomes active (R79): the old one loses its guard. -/
def swapBank (n : Nat) (a : Arm) (s : State) : State :=
  let old := s.fld (PHS_TB_STAT_ACTIVE_BANK n)
  let s1 := if s.flag (PHS_TB_STAT_ACTIVE n) then dropHolder (.bank n old) s else s
  let s2 := ((s1.setFld (PHS_TB_STAT_ACTIVE n) 1).setFld (PHS_TB_STAT_ACTIVE_BANK n) a.bank).setFld (PHS_TB_STAT_ARM_PEND n) 0
  let cnt := bankCount s n a.bank
  let done := decide (cnt ≤ (s.tb n).nextIn)
  let s3 := updTb n (fun t => { t with arm := none, readAhead := t.readAhead.filter (fun e => e.1 == a.bank), nextPin := if done then 0 else t.nextIn, nextIn := 0, pinDue := t.wraps + b2n done, heldWhole := decide (cnt ≤ 2048), eccSkip := t.eccSkip.filter (fun k => k / 65536 == a.bank), lastSwap := some (s.cycle n) }) s2
  phsEvent n 6 svINFO (a.bank + s.cycle n * 256) s3

/-- An arm lapses at its boundary (R80). -/
def lapseArm (n : Nat) (s : State) : State :=
  phsEvent n 7 svERROR (s.rdN (PHS_TB_SWAP_CYCLE n) * 256) (dropArm n (s.wrN (PHS_TB_ARM_STAT n) stTIMEOUT))

/-! ### Pins: when they fall due, and their stamps (R82, R83, R92, R93) -/

/-- The cycle count as it is or will be at a boundary where, but for a setting or a step of R62, it is c: what waits for that boundary is
counted in. -/
def countWith (s : State) (n c : Nat) (now : Bool) : Nat :=
  let t := s.tb n
  let due := fun since : Nat => !now || boundaryAfter s n since
  match t.countPend with
  | some (d, since) => if due since then (if s.fld (PHS_TB_SRC_TYPE n) = 4 then (c + d) % 2 ^ 32 else 0) else c
  | none =>
    match t.stepPend with
    | some (d, since) => if s.tbState n = tbLOCKED && due since then (c + d) % 2 ^ 32 else c
    | none => c

/-- The cycle count k cycles from the present one, steps that wait for a boundary counted in (R53, R62). -/
def countAfter (s : State) (n : Nat) (k : Int) : Nat :=
  let c := countWith s n (s.cycle n) true
  if k ≤ 0 then ofInt ((c : Int) + k) 32
  else ofInt (((if c = s.cycle n then countWith s n ((s.cycle n + 1) % 2 ^ 32) false else (c + 1) % 2 ^ 32 : Nat) : Int) + k - 1) 32

/-- A validated arm whose boundary is the next one (R53, R79). -/
def swapSoon (s : State) (n : Nat) : Option Arm :=
  match (s.tb n).arm with
  | some a =>
    match a.validAt with
    | some v => if (if a.atCycle then countAfter s n 1 == s.rdN (PHS_TB_SWAP_CYCLE n) else decide (v + 8000 ≤ s.now + toBoundary s n)) then some a else none
    | none => none
  | none => none

/-- How far, in units of the accumulator, the phase is from fraction f of the cycle that is `ahead` cycles on. -/
def untilFrac (s : State) (n f : Nat) (ahead : Int) : Int := ahead * ((2 ^ 56 : Nat) : Int) + ((f * 2 ^ 24 : Nat) : Int) - ((s.frac56 n : Nat) : Int)

/-- How many boundaries from now an arm's bank comes in (R79). -/
def armCycles (s : State) (n : Nat) : Nat :=
  match (s.tb n).arm with
  | some a =>
    if a.atCycle then 1 + (s.rdN (PHS_TB_SWAP_CYCLE n) + 2 ^ 32 - countAfter s n 1) % 2 ^ 32
    else
      let wait := a.validAt.getD s.now + 8000 - s.now
      if wait ≤ toBoundary s n then 1 else 1 + ceilDiv ((wait - toBoundary s n) * s.incEff n) (2 ^ 56)
  | none => 1

/-- How far pin i of a bank is: of the active bank, or of the one that comes in. -/
def pinAhead (s : State) (n b i f : Nat) : Int :=
  let t := s.tb n
  if s.flag (PHS_TB_STAT_ACTIVE n) && s.fld (PHS_TB_STAT_ACTIVE_BANK n) == b then
    untilFrac s n f ((t.pinDue : Int) - (t.wraps : Int) + (if i < t.nextPin then 1 else 0))
  else untilFrac s n f (armCycles s n)

/-- The placed time, in quanta, of a phase that far ahead, at INC_EFF (R82). -/
def placedAt (s : State) (n : Nat) (d : Int) : Int := ((4 * s.now : Nat) : Int) + (4 * d).fdiv ((max 1 (s.incEff n) : Nat) : Int)

/-- How many boundaries lie between the present and a phase that far ahead. -/
def cyclesTo (s : State) (n : Nat) (d : Int) : Int := (((s.frac56 n : Nat) : Int) + d).fdiv ((2 ^ 56 : Nat) : Int)

/-- The cycle count there. -/
def cycleAt (s : State) (n : Nat) (d : Int) : Nat := countAfter s n (cyclesTo s n d)

/-- Does a pin fire in a cycle: EN and PARITY (R72)? -/
def pinDueIn (p : Pin) (cycle : Nat) : Bool :=
  bit p.flags 0 && (bits p.flags 4 2 == 0 || (bits p.flags 4 2 == 1 && cycle % 2 == 0) || (bits p.flags 4 2 == 2 && cycle % 2 == 1))

/-- Is a ring's size usable: a power of two from 16 to 65,536 (R92, R241)? -/
def ringSizeOk (n : Nat) : Bool := (List.range 13).any (fun k => n == 2 ^ (k + 4))

/-- A stamp goes to the ring of its timebase, or is lost (R93): STAMP_LOST at the first of every 1,024 losses. -/
def putStamp (n : Nat) (bs : List Byte) (s : State) : State :=
  let size := s.rdN (PHS_TB_STAMP_SIZE n)
  let head := s.rdN (PHS_TB_STAMP_HEAD n)
  let lose := fun t : State =>
    let u := t.bump (PHS_TB_STAMP_LOST_CNT n)
    if u.rdN (PHS_TB_STAMP_LOST_CNT n) % 1024 = 1 then phsEvent n 11 svNOTICE (u.rdN (PHS_TB_STAMP_LOST_CNT n)) u else u
  if !ringSizeOk size then s
  else if (head + size - s.rdN (PHS_TB_STAMP_TAIL n) % size) % size = size - 1 then lose s
  else
    let r := sysStore blkPHS n (s.rdN (PHS_TB_STAMP_BASE n) + 16 * head) bs s
    if r.2 then r.1.wrN (PHS_TB_STAMP_HEAD n) ((head + 1) % size) else lose r.1

/-- The flags HOLDOVER and UNLOCKED of what a timebase stamps now (R67, R70). -/
def stampFlags (s : State) (n : Nat) : Nat := b2n (s.tbState n == tbSLEWING || s.tbState n == tbHOLDOVER) + 2 * b2n (s.tbState n == tbACQUIRE)

/-- The stamp and the event that a firing pin asks for (R72, R92), with the cycle count of its firing. -/
def stampPin (n : Nat) (d : Placed) (cycle : Nat) (s : State) : State :=
  let fl := stampFlags s n + 4 * b2n d.late + d.placed % 4 * 8 + d.bank % 2 * 32 + 64 * b2n d.stale
  let s1 := if bit d.pin.flags 1 || s.flag (PHS_TB_CTL_STAMP_ALL n) then
      putStamp n (leBytes 8 (showAtQ s d.placed) ++ leBytes 4 cycle ++ leBytes 2 d.index ++ leBytes 1 fl ++ leBytes 1 d.pin.action) s
    else s
  if bit d.pin.flags 2 then phsEvent n 12 svINFO (pack [(0, 16, d.index), (16, 8, d.pin.action), (24, 32, cycle)]) s1 else s1

/-! ### Pins that fire (R73, R76, R84, R85, R89) -/

/-- Does the first of two dispatched pins fire before the second? By placed time; of pins of one placed time a VB_LATCH comes first, so that
the others see what it latches (R106), and else table order holds. -/
def Placed.before (a b : Placed) : Bool := decide (a.placed < b.placed) || (a.placed == b.placed && a.pin.action == 8 && b.pin.action != 8)

/-- The dispatched pin of timebase n that fires next. -/
def nextPlaced (s : State) (n : Nat) : Option Placed :=
  (s.tb n).dispatched.foldl (fun b d => match b with
    | none => some d
    | some x => if d.before x then some d else b) none

/-- The count of the cycle in which a dispatched pin is due (R72). -/
def dueCount (s : State) (n : Nat) (d : Placed) : Nat := countAfter s n ((d.due : Int) - ((s.tb n).wraps : Int))

/-- What is left of a dispatched pin as its placed time comes: not one whose PARITY passes the cycle over (R53, R72), nor a BLIND one outside
the gaps as they now are (R89). -/
def mayFire (s : State) (n : Nat) (d : Placed) : Bool :=
  pinDueIn d.pin (dueCount s n d) && (!(bit d.pin.flags 3 || d.pin.action == 9) || inGap s n d.pin.frac)

/-- The strings that a level pin or a SHUNT pin touches, as a mask of 24 (R84). -/
def touched (p : Pin) : Nat :=
  if p.action = 3 then p.target % 65536 else if p.action = 4 then p.target % 256 * 65536 else if p.action = 5 then p.arg % 2 ^ 24 else 0

/-- How many bits a mask of 48 sets. -/
def popMask (m : Nat) : Nat := ((List.range 48).filter (fun i => bit m i)).length

/-- A pin less the strings of a mask. -/
def lessStrings (p : Pin) (m : Nat) : Pin :=
  if p.action = 3 then { p with target := p.target - (p.target &&& m % 65536) }
  else if p.action = 4 then { p with target := p.target - (p.target &&& m / 65536) }
  else if p.action = 5 then { p with arg := p.arg - (p.arg &&& m) }
  else p

/-- A pin fires together with others of its placed time, which come after it in table order (R84): on a string that one of them touches its
effect is discarded and counted. -/
def resolveStrings (n : Nat) (d : Placed) (s : State) : Placed × State :=
  let later := ((s.tb n).dispatched.filter (fun x => x.placed == d.placed && mayFire s n x)).foldl (fun m x => m ||| touched x.pin) 0
  let lost := touched d.pin &&& later
  if lost = 0 then (d, s) else ({ d with pin := lessStrings d.pin lost }, s.bumpBy (PHS_TB_CONFLICT_CNT n) (popMask lost))

/-- Duplicates of a firing pin, of its placed time and on its target, collapse into it (R84): of a LOOP_TRIGGER its tiles. -/
def markDups (n : Nat) (d : Placed) (s : State) : State :=
  let a := d.pin.action
  updTb n (fun t => { t with dispatched := t.dispatched.map (fun x =>
    if x.placed != d.placed || x.pin.action != a then x
    else if a = 7 then { x with pin := { x.pin with arg := x.pin.arg - (x.pin.arg &&& d.pin.arg) } }
    else if (a = 8 || a = 11 || a = 12) && x.pin.target == d.pin.target then { x with dup := true }
    else x) }) s

/-- The next dispatched pin of timebase n fires, where its action is this one: time passes to its placed time, and it leaves the dispatched
ones, with its stamp and its event. The answer holds the pin where it takes effect (R72, R76, R83 to R85, R89). A boundary that comes before
its placed time is passed first (CYCLE_BOUNDARY). -/
def fire (n action : Nat) (s0 : State) : Option Placed × State :=
  match nextPlaced s0 n with
  | none => (none, s0)
  | some d =>
    let dt := d.placed / 4 - s0.now
    if d.pin.action != action || !s0.clocked || !s0.tbOn n || (decide (0 < dt) && decide (toBoundary s0 n ≤ dt)) then (none, s0)
    else
      let s := passTime dt s0
      let s1 := updTb n (fun t => { t with dispatched := t.dispatched.erase d }) s
      if !pinDueIn d.pin (dueCount s n d) then (none, s1)
      else if !mayFire s n d then (none, s1.bump (PHS_TB_BLIND_SUP_CNT n))
      else
        let r := resolveStrings n d s1
        let s2 := stampPin n d (if d.late then s.cycle n else dueCount s n d) (markDups n d r.2)
        (if d.dup then none else some r.1, s2)

/-! ### Camera windows (R86 to R91) -/

/-- Put a waiting write of a window into effect (R87, R89). -/
def cwApply1 (w reg v : Nat) (s : State) : State :=
  match reg with
  | 0 =>
    let en := bit v 0 && s.fld (PHS_TB_SRC_TYPE (bits v 1 2)) != 5
    let same := bits v 1 2 == s.fld (PHS_CW_CTL_TB w) && bits v 8 3 == bits (s.rdN (PHS_CW_CTL w)) 8 3
    (if same then s else s.setCw w { s.cw w with openFrac := none }).wrN (PHS_CW_CTL w) (pack [(0, 1, b2n en), (1, 2, bits v 1 2), (4, 4, bits v 4 4), (8, 1, bits v 8 1), (9, 2, bits v 9 2)] +
      s.fld (PHS_CW_CTL_PEND w) * 2 ^ 11)
  | 1 => s.wrN (PHS_CW_START w) (v % 2 ^ 32)
  | 2 => s.wrN (PHS_CW_LEN w) (v % 2 ^ 32)
  | _ => s.wrN (PHS_CW_GUARD w) (v % 2 ^ 20)

/-- Pins of the active bank that lie within the widened instances of a window and must be blind (R89). -/
def blindPinsIn (s : State) (n w : Nat) : Nat :=
  if !s.flag (PHS_TB_STAT_ACTIVE n) || !s.flag (PHS_CW_CTL_EN w) then 0
  else
    let sp := cwSpans s w
    let b := s.fld (PHS_TB_STAT_ACTIVE_BANK n)
    ((List.range (min 65536 (bankCount s n b))).filter (fun i =>
      let p := readPin s n b i
      (bit p.flags 3 || p.action == 9) && sp.1.any (fun a => decide ((p.frac + 2 ^ 32 - a) % 2 ^ 32 < sp.2)))).length

/-- Every waiting write of a window takes effect (R89). -/
def cwEffect (w : Nat) (s : State) : State :=
  let c := s.cw w
  if c.pend.isEmpty then s
  else
    let n0 := s.fld (PHS_CW_CTL_TB w)
    let s1 := (c.pend.foldl (fun t p => cwApply1 w p.1 p.2 t) (s.setCw w { c with pend := [] })).setFld (PHS_CW_CTL_PEND w) 0
    let n1 := s1.fld (PHS_CW_CTL_TB w)
    let s2 := recomputeGaps n1 (recomputeGaps n0 s1)
    let k := blindPinsIn s2 n1 w
    if k = 0 then s2 else phsEvent n1 10 svWARNING (k % 2 ^ 16 + w * 2 ^ 56) s2

/-- Put aside a write of a window's register `reg` (0 CTL, 1 START, 2 LEN, 3 GUARD), or take it at once where its timebase is OFF (R89). -/
def cwWrite (w reg v : Nat) (s : State) : State :=
  let c := s.cw w
  let s1 := s.setCw w { c with pend := c.pend.filter (fun p => p.1 != reg) ++ [(reg, v)], pendFrom := if c.pend.isEmpty then (s.tb (s.fld (PHS_CW_CTL_TB w))).wraps else c.pendFrom }
  if s.tbOn (s.fld (PHS_CW_CTL_TB w)) then s1.setFld (PHS_CW_CTL_PEND w) 1 else cwEffect w s1

/-- CW_WRITE (R89). -/
def execCwWrite (w : Fin 4) (reg : Fin 4) (v : BitVec 32) (s : State) : Out :=
  if !s.clocked then .next s else
  .next (cwWrite w reg v.toNat s)

/-- CW_CHANGE_EFFECT (R89): at a boundary of the bound timebase. -/
def execCwChangeEffect (w : Fin 4) (s : State) : Out :=
  if !s.mainOn then .next s else
  let n := s.fld (PHS_CW_CTL_TB w)
  .next (if boundaryAfter s n (s.cw w).pendFrom || !s.tbOn n then cwEffect w s else s)

/-- The windows that measure a shutter input (R91). -/
def shutWindows (s : State) (k : Nat) : List Nat :=
  [0, 1, 2, 3].filter (fun w => s.flag (PHS_CW_CTL_SHUT_EN w) && s.fld (PHS_CW_CTL_SHUT_SEL w) == k && s.bankUp 1 && s.tbOn (s.fld (PHS_CW_CTL_TB w)))

/-- SHUTTER_OPEN_EDGE at input k (R91). -/
def execShutterOpenEdge (k : Fin 4) (dt : Nat) (s : State) : Out :=
  if !s.mainOn then .next s else
  let s1 := passTime dt s
  .next ((shutWindows s1 k).foldl (fun t w =>
    if (t.cw w).openFrac.isSome then t else t.setCw w { t.cw w with openFrac := some (t.frac (t.fld (PHS_CW_CTL_TB w))) }) s1)

/-- The instance to which an open edge belongs: its index and whether the edge lies in its widened span (R91). Where it lies in the spans of
several instances that overlap, it belongs to the first of them (DESIGN CHOICE, log entry 112). -/
def cwInstance (spans : List Nat) (len o : Nat) : Nat × Bool :=
  let ix := List.range spans.length
  let off := fun k : Nat => (o + 2 ^ 32 - spans[k]?.getD 0) % 2 ^ 32
  match ix.find? (fun k => decide (off k < len) || decide (2 ^ 32 ≤ len)) with
  | some k => (k, true)
  | none => (ix.foldl (fun b k => if (spans[k]?.getD 0 + 2 ^ 32 - o) % 2 ^ 32 < (spans[b]?.getD 0 + 2 ^ 32 - o) % 2 ^ 32 then k else b) 0, false)

/-- An open interval completes at a window (R91). With LEN 0 the cycle of an interval is the one in which it closes (DESIGN CHOICE, log entry
112). -/
def cwClose (w : Nat) (s : State) : State :=
  let c := s.cw w
  let n := s.fld (PHS_CW_CTL_TB w)
  match c.openFrac with
  | none => s
  | some o =>
    let cl := s.frac n
    let sp := cwSpans s w
    let s1 := s.setCw w { c with openFrac := none }
    let meas := fun t : State => t.wrN (PHS_CW_MEAS w) (o + cl * 2 ^ 32)
    if s.rdN (PHS_CW_LEN w) = 0 then
      if c.measured then s1 else meas (s1.setCw w { c with openFrac := none, measured := true })
    else
      let i := cwInstance sp.1 sp.2 o
      let s2 := if i.1 = 0 then meas s1 else s1
      let off := (o + 2 ^ 32 - sp.1[i.1]?.getD 0) % 2 ^ 32
      let mis := !i.2 || decide (sp.2 < off + (cl + 2 ^ 32 - o) % 2 ^ 32)
      if mis then
        let s3 := (s2.bump (PHS_CW_MISMATCH_CNT w)).setCw w { s2.cw w with mism := true }
        if c.mism || c.mismBefore then s3
        else phsEvent n 9 svWARNING (o + cl / 256 * 2 ^ 32 + w * 2 ^ 56) s3
      else s2

/-- SHUTTER_CLOSE_EDGE at input k (R91). -/
def execShutterCloseEdge (k : Fin 4) (dt : Nat) (s : State) : Out :=
  if !s.mainOn then .next s else
  let s1 := passTime dt s
  .next ((shutWindows s1 k).foldl (fun t w => cwClose w t) s1)

end Sys2Proof.Machine
end

