-- ==== Sys2Proof/Machine/Seq.lean ====
section
/-! DEFINITION. Machine/Seq.lean: plane sets, the plane store, the word stream of a facet port, block loads and resets, beam lines, parking
and the back channel (R103 to R116, R125 to R133, R138 to R160, R165 to R175, R619). -/

namespace Sys2Proof.Machine

def seqEvent (p code sev arg : Nat) (s : State) : State := emit blkSEQ code sev (0x60150000 + p * 0x800) arg s

/-- Change a port's record. -/
def updPort (p : Nat) (f : Port → Port) (s : State) : State := s.setPort p (f (s.port p))

/-- Change the record of an array of a port. -/
def updArr (p a : Nat) (f : ArrayRec → ArrayRec) (s : State) : State := updPort p (fun x => x.setArr a (f (x.arr a))) s

/-- Write an event of a port at most once in an output frame (R116, R150). -/
def seqFrameEvent (p code sev arg : Nat) (s : State) : State :=
  if (s.port p).frameEv.contains code then s
  else seqEvent p code sev arg (updPort p (fun x => { x with frameEv := code :: x.frameEv }) s)

/-! ### Geometry (R103, R104, R135) -/

def pArrays (s : State) (p : Nat) : Nat := max 1 (s.fld (SEQ_P_CTL_ARRAYS p))
def pComps (s : State) (p : Nat) : Nat := clampN (s.fld (SEQ_P_CTL_COMPS p)) 1 4
def pCols (s : State) (p : Nat) : Nat := 256 * s.fld (SEQ_P_GEOM_COLS_256 p)
def pRows (s : State) (p : Nat) : Nat := 16 * s.fld (SEQ_P_GEOM_ROWS_16 p)
def planeBytes (s : State) (p : Nat) : Nat := pCols s p / 8 * pRows s p
def planeStride (s : State) (p : Nat) : Nat := ceilDiv (planeBytes s p) 65536 * 65536

/-- Data words, CRC groups and CRC words of a reset block (R142, R145). -/
def blkW (s : State) (p : Nat) : Nat := pCols s p / 64 * (pRows s p / 16)
def blkCrcs (s : State) (p : Nat) : Nat := ceilDiv (ceilDiv (blkW s p) 64) 2

/-- The forward rate in Mbaud, 0 before the link has one (R176). -/
def fwdRate (s : State) (p : Nat) : Nat := s.rdN (SEQ_F_RATE p) % 65536

/-- BLK_TIME follows the geometry and the forward rate (R152); it reads 0 until the link has a rate. -/
def showBlkTime (p : Nat) (s : State) : State :=
  if fwdRate s p = 0 then s else s.wrN (SEQ_P_BLK_TIME p) (blkW s p * 66 * 1000 / (10 * fwdRate s p))

/-- The address of a plane (a, c, b) in a set (R104). -/
def planeAddr (s : State) (p set a plane : Nat) : Nat :=
  s.rdN (SEQ_P_SET_BASE p set) + ((a * pComps s p + bits plane 4 2) * 16 + plane % 16) * planeStride s p

/-- The bytes that a set occupies (R369), or a beam frame (R130). -/
def setBytes (s : State) (p : Nat) : Nat :=
  if s.flag (SEQ_P_CTL_MODE p) then s.fld (SEQ_P_BEAM_GEOM_LINES p) * s.rdN (SEQ_P_BEAM_STRIDE p)
  else pArrays s p * pComps s p * 16 * planeStride s p

/-- The blocks of a mask, ascending. -/
def maskBlocks (m : Nat) : List Nat := (List.range 16).filter (fun b => bit m b)

/-- A mask of blocks. -/
def blockMask (bs : List Nat) : Nat := (bs.map (fun b => 2 ^ b)).sum

/-- How many blocks a mask names. -/
def popBlocks (m : Nat) : Nat := (maskBlocks m).length

/-! ### Words (R140 to R146) -/

/-- One bit of CRC-32, reflected (R146). -/
def crcBit (c : Nat) : Nat := if c % 2 = 1 then (c / 2) ^^^ 0xEDB88320 else c / 2

/-- CRC-32 over one byte (R146). -/
def crcByte (c : Nat) (b : Byte) : Nat := crcBit (crcBit (crcBit (crcBit (crcBit (crcBit (crcBit (crcBit (c ^^^ b.toNat))))))))

/-- CRC-32 of bytes: initial value and final exclusive-or 0xFFFF_FFFF (R146). -/
def crc32 (bs : List Byte) : Nat := (bs.foldl crcByte 0xFFFFFFFF) ^^^ 0xFFFFFFFF

/-- CRC-32 of a group of words, least significant byte first (R146). -/
def crcWords (ws : List Word) : Nat := crc32 (ws.flatMap (fun w => leBytes 8 w.toNat))

/-- A control word of a type and body (R140). -/
def ctlWord (ty body : Nat) : LWord := { ctl := true, w := BitVec.ofNat 64 (ty + body * 256) }

/-- The ports that send every word of port p (R174). -/
def clonesOf (s : State) (p : Nat) : List Nat :=
  [0, 1, 2, 3].filter (fun c => s.flag (SEQ_F_CTL_CLONE_EN c) && s.fld (SEQ_F_CTL_CLONE_SRC c) == p && c != p)

/-! ### The stream: rows and positions (R139, R153, R154, R171) -/

/-- Does the link of a plane-mode port carry words: in CAPS or ACTIVE (R165, R472)? -/
def linkCarries (s : State) (p : Nat) : Bool := !s.flag (SEQ_P_CTL_MODE p) && (s.fld (LNK_K_STAT_STAGE p) == 4 || s.fld (LNK_K_STAT_STAGE p) == 5)

/-- The first FTX row that begins at or after `t` quanta: a row lasts 66 / f ns (R139, R152). -/
def rowCyc (s : State) (p t : Nat) : Nat := ceilDiv ((t - (s.port p).rowFrom) * fwdRate s p) 264000

/-- When a row begins, in quanta, rounded down. -/
def rowTime (s : State) (p r : Nat) : Nat := (s.port p).rowFrom + r * 264000 / max 1 (fwdRate s p)

/-- From when the forward lanes carry words: not in electrical idle, nor before a picot ends (R171, R483); none where nothing says when. -/
def openFrom (s : State) (p : Nat) : Option Nat :=
  if !linkCarries s p || fwdRate s p == 0 || (s.link p).idleFrom.isSome then none
  else match (s.link p).picotAt with
    | some t => some (4 * (t + s.rdN (LNK_K_PICOT_NS p)))
    | none => some 0

/-- When a RESET or CMD word falls due. -/
def DueWord.dueAt : DueWord → Nat
  | .reset _ _ _ _ d _ => d
  | .cmd _ _ _ d => d

/-- The next word position for a word that falls due at a time (R154). -/
def duePos (s : State) (p opened t : Nat) : Nat := max (s.port p).nextPos (10 * rowCyc s p (max t opened))

/-- The position of a load's next word: a load begins at a row boundary and has no gap (R142, R153). -/
def loadPos (s : State) (p opened : Nat) (l : Load) : Nat := if l.sent = 0 then max l.next (10 * rowCyc s p (max l.ready opened)) else l.next

/-- The first row boundary from which a load may begin: it is ready, and the words before it have entered. -/
def loadStart (s : State) (p ready : Nat) : Nat := 10 * max (rowCyc s p ready) (ceilDiv (s.port p).nextPos 10)

/-- Keep the words to come in order of the time at which they fall due. -/
def insDue (w : DueWord) : List DueWord → List DueWord
  | [] => [w]
  | v :: t => if v.dueAt ≤ w.dueAt then v :: insDue w t else w :: v :: t

/-- A RESET or CMD word is to enter the stream of a port whose link carries words. -/
def putDue (p : Nat) (w : DueWord) (s : State) : State :=
  if linkCarries s p then updPort p (fun x => { x with due := insDue w x.due }) s else s

/-- A CMD word of port p (R168). -/
def sendCmd (p op arr arg : Nat) (s : State) : State := putDue p (.cmd op arr arg (4 * s.now)) s

/-- Is a RESET word of an array withheld from a clone, whose arrays stay parked after a trip (R175)? -/
def cloneHolds (s : State) (c : Nat) (w : LWord) : Bool :=
  w.ctl && w.w.toNat % 256 == 0xC3 && bit (s.fld (SEQ_F_STAT_TRIP c)) (bits w.w.toNat 8 2)

/-- The word that leaves on the lane of a position: an INJ of the lane inverts one line bit of its next data word (R486). -/
def laneWord (p pos : Nat) (w : LWord) (s : State) : LWord × State :=
  let n := 10 * p + pos % 10
  if !w.ctl && (s.lane n).inj then ({ w with inj := true }, s.setLane n { s.lane n with inj := false }) else (w, s)

/-- A clone sends a word of its source within one FTX cycle, on the same lane where that is free (R174). -/
def cloneWord (c pos t : Nat) (w : LWord) (s : State) : State :=
  if !linkCarries s c || cloneHolds s c w then s
  else
    let q := max (s.port c).nextPos (10 * rowCyc s c t + pos % 10)
    let l := laneWord c q w s
    updPort c (fun x => { x with sent := x.sent ++ [(q, l.1)], nextPos := q + 1 }) l.2

/-- A word of port p enters the serialiser at a position, and those of its clones (R139, R174). -/
def sendWord (p pos : Nat) (w : LWord) (s : State) : State :=
  let l := laneWord p pos w s
  (clonesOf s p).foldl (fun t c => cloneWord c pos (rowTime s p (pos / 10)) w t)
    (updPort p (fun x => { x with sent := x.sent ++ [(pos, l.1)], nextPos := pos + 1 }) l.2)

/-- Change the loads awaiting their ACK of a port and its clones (R150, R174). -/
def updAwait (p : Nat) (f : List AwaitAck → List AwaitAck) (s : State) : State :=
  (p :: clonesOf s p).foldl (fun t c => updPort c (fun x => { x with await := f x.await }) t) s

/-! ### Streaming a load (R142 to R146, R125, R152) -/

/-- Words of one reset-block load. -/
def perBlock (s : State) (p : Nat) (l : Load) : Nat := if l.fill.isSome then 1 else 1 + blkW s p + blkCrcs s p

/-- Words of a load. -/
def loadTotal (s : State) (p : Nat) (l : Load) : Nat := (maskBlocks l.mask).length * perBlock s p l

/-- The body of a LOAD_HDR word (R143). -/
def loadHdr (s : State) (p : Nat) (l : Load) (blk lseq : Nat) (last : Bool) : LWord :=
  ctlWord 0xB4 (pack [(0, 2, l.arr), (2, 4, blk), (6, 8, l.plane), (14, 1, b2n l.fill.isSome), (15, 1, b2n (l.fill.getD false)),
    (16, 1, b2n last), (24, 16, lseq), (40, 16, if l.fill.isSome then 0 else blkW s p)])

/-- Word r of a block in a buffer, if it has arrived: blocks arrive one after the other (R111). -/
def PlaneBuf.word (b : PlaneBuf) (w blk r : Nat) : Option Word :=
  match b.blocks.findIdx? (fun x => x == blk) with
  | some i => if i * w + r < b.got then some (kget (fun _ => 0#64) b.words (blk * w + r)) else none
  | none => none

/-- Word r of a block of a load, if it has reached the store (R112). -/
def storeWord (s : State) (p : Nat) (l : Load) (blk r : Nat) : Option Word :=
  match l.kept, l.set with
  | some b, _ => b.word (blkW s p) blk r
  | none, some k => ([(s.port p).buf0, (s.port p).buf1].find? (fun b => decide (b.plane = some (k, l.arr, l.plane)))).bind (fun b => b.word (blkW s p) blk r)
  | none, none => none

/-- When the word at a position has left the serialiser: its row and the latency of the lane (R150, R471). -/
def leftAt (s : State) (p pos : Nat) : Nat := rowTime s p (pos / 10) + s.rdN (LNK_L_LAT (10 * p)) % 65536

/-- The block that ends with the word at a position waits for its ACK from then on (R150). -/
def noteLast (p pos : Nat) (l : Load) (blk : Nat) (s : State) : State :=
  let q := (((s.port p).arr l.arr).lseq + 65535) % 65536
  updAwait p (fun as => as.map (fun a => if a.arr = l.arr ∧ a.blk = blk ∧ a.lseq = q then { a with sentAt := some (leftAt s p pos) } else a)) s

/-- A LOAD_HDR word opens a reset-block load (R142, R143); a module that drives waits for its ACK. -/
def sendHdr (p pos : Nat) (l : Load) (blk : Nat) (last : Bool) (s : State) : State :=
  let q := ((s.port p).arr l.arr).lseq
  let s1 := updArr p l.arr (fun a => { a with lseq := (q + 1) % 65536 }) (sendWord p pos (loadHdr s p l blk q last) s)
  let s2 := (p :: clonesOf s p).foldl (fun t c => t.setFld ⟨SEQ_F_A_LSEQ c l.arr, 0, 16⟩ q) s1
  let s3 := updAwait p (fun as => if s.driving then as ++ [⟨l.arr, blk, q, l.plane, none⟩] else as) s2
  updPort p (fun x => { x with cur := some { l with sent := l.sent + 1, next := pos + 1, group := [] } }) (if l.fill.isSome then noteLast p pos l blk s3 else s3)

/-- A plane word is missing as it falls due: the last pixel word goes in its place (R125). UNDERRUN_CNT counts once for the load of a
BLOCK_LOAD, whichever of its blocks lack words (DESIGN CHOICE, log entry 113). -/
def underrun (p plane : Nat) (first : Bool) (s : State) : State :=
  let s1 := s.bump (SEQ_P_UNDERRUN_WORDS p)
  if !first then s1
  else
    let s2 := s1.bump (SEQ_P_UNDERRUN_CNT p)
    seqFrameEvent p 1 svWARNING (plane + s2.rdN (SEQ_P_UNDERRUN_CNT p) * 256) s2

/-- The next word of port p's load in progress enters the serialiser at a position. -/
def sendNext (p pos : Nat) (l : Load) (s : State) : State :=
  let per := perBlock s p l
  let blks := maskBlocks l.mask
  let blk := blks[l.sent / per]?.getD 0
  let k := l.sent % per
  let w := blkW s p
  if k = 0 then sendHdr p pos l blk (l.sent / per + 1 == blks.length) s
  else
    let r := k - 1
    let g := r % 129
    let full := w / 128
    let s1 := if k + 1 = per then noteLast p pos l blk s else s
    if (if r / 129 < full then g == 128 else g == w - 128 * full) then
      let lo := crcWords (l.group.take 64)
      let hi := if (l.group.drop 64).isEmpty then 0xFFFFFFFF else crcWords (l.group.drop 64)
      updPort p (fun x => { x with cur := some { l with sent := l.sent + 1, next := pos + 1, group := [] } })
        (sendWord p pos { ctl := false, w := BitVec.ofNat 64 (lo + hi * 2 ^ 32) } s1)
    else
      let v := storeWord s p l blk (r / 129 * 128 + g)
      let u := v.getD (s.rd (SEQ_P_LAST_WORD p))
      let s2 := if v.isNone then underrun p l.plane (!l.under) s1 else s1.wr (SEQ_P_LAST_WORD p) u
      updPort p (fun x => { x with cur := some { l with sent := l.sent + 1, next := pos + 1, under := l.under || v.isNone, group := l.group ++ [u] } })
        (sendWord p pos { ctl := false, w := u } s2)

/-- The link is free: the first load that waits is to begin at the next row boundary (R115). -/
def freeLink (p : Nat) (s : State) : State :=
  match (s.port p).queue with
  | l :: t => updPort p (fun x => { x with queue := t, cur := some { l with next := loadStart s p l.ready } }) s
  | [] => updPort p (fun x => { x with cur := none }) s

/-! ### Resets enter the stream (R113, R114, R154, R155, R619) -/

/-- The block of array a whose load is streaming (R619): its LOAD_HDR word has entered and its last word has not. -/
def streamingBlock (s : State) (p a : Nat) : Option Nat :=
  match (s.port p).cur with
  | some l =>
    let per := perBlock s p l
    if l.arr = a && l.sent % per != 0 then (maskBlocks l.mask)[l.sent / per]? else none
  | none => none

/-- Blocks of a mask that had a reset less than MIN_DWELL before `t` quanta (R113). -/
def dwellBlocks (s : State) (p a mask t : Nat) : Nat :=
  blockMask ((maskBlocks mask).filter (fun b =>
    match kget (fun _ => (none : Option Nat)) ((s.port p).arr a).lastReset b with
    | some u => decide (t < u + 4 * (s.rdN (SEQ_P_MIN_DWELL p) % 65536))
    | none => false))

/-- Remember the reset of each block of a mask. -/
def noteResets (p a mask t : Nat) (s : State) : State :=
  updArr p a (fun r => { r with lastReset := (maskBlocks mask).foldl (fun m b => kset (fun _ => none) m b (some t)) r.lastReset }) s

/-- The word after a position is the load's next one where a load has begun; one that has not begins at the next row boundary (R154). -/
def shiftLoad (p pos : Nat) (s : State) : State :=
  updPort p (fun x => { x with cur := x.cur.map (fun l => { l with next := if l.sent = 0 then max l.next (10 * ceilDiv (pos + 1) 10) else pos + 1 }) }) s

/-- A RESET word enters at a position `resid` quanta after it fell due (R155, R156), or is not sent where that is more than 1,023. -/
def sendReset (p pos a kind mask placed resid : Nat) (late : Bool) (s : State) : State :=
  let rs := ((s.port p).arr a).rseq
  if late then
    seqFrameEvent p 0x16 svERROR (pack [(0, 2, a), (2, 16, mask), (18, 4, 3), (22, 8, rs)]) (s.bumpBy (SEQ_F_A_RESET_NAK_CNT p a) (popBlocks mask))
  else
    let s1 := shiftLoad p pos (sendWord p pos (ctlWord 0xC3 (pack [(0, 2, a), (2, 4, kind), (6, 16, mask), (22, 10, resid), (32, 8, rs)])) s)
    noteResets p a mask placed (updArr p a (fun r => { r with rseq := (rs + 1) % 256 }) s1)

/-- A reset's word is due to enter at a position: the blocks that R113 and R114 remove go first. RESID is told in whole quanta, rounded down
(DESIGN CHOICE, log entry 113). -/
def enterReset (p pos a kind mask placed due : Nat) (trip : Bool) (s : State) : State :=
  let dw := if trip then 0 else dwellBlocks s p a mask placed
  let m1 := mask - dw
  let s1 := if dw = 0 then s else seqFrameEvent p 4 svERROR (dw + a * 65536) (s.bump (SEQ_P_DWELL_VIOL_CNT p))
  let cut := match streamingBlock s1 p a with
    | some b => if bit m1 b && !trip then 2 ^ b else 0
    | none => 0
  let m2 := m1 - cut
  let s2 := if cut = 0 then s1 else seqFrameEvent p 5 svERROR (cut + a * 65536) (s1.bump (SEQ_P_RESET_CUT_CNT p))
  let late := decide ((due + 1023 - (s.port p).rowFrom) * fwdRate s p < pos / 10 * 264000)
  if m2 = 0 then s2 else sendReset p pos a kind m2 placed (rowTime s p (pos / 10) - due) late s2

/-- The first RESET or CMD word to come enters at a position. -/
def enterDue (p pos : Nat) (w : DueWord) (s : State) : State :=
  let s1 := updPort p (fun x => { x with due := x.due.drop 1 }) s
  match w with
  | .reset a kind mask placed due trip => enterReset p pos a kind mask placed due trip s1
  | .cmd op arr arg due =>
    let s2 := shiftLoad p pos (sendWord p pos (ctlWord 0xD2 (pack [(0, 8, op), (8, 2, arr), (16, 40, arg)])) s1)
    if op = 1 then updPort p (fun x => { x with echoSent := x.echoSent ++ [(arg, max due (rowTime s p (pos / 10)))] }) s2 else s2

/-! ### The stream moves on (R112, R139, R153, R154) -/

/-- One thing that happens in the stream of port p before a position: a word of the load, a RESET or CMD word, or the end of a load; none where
nothing does. A word that falls due as a load is to begin comes after the load's first word. -/
def streamStep (p lim : Nat) (s : State) : Option State :=
  match openFrom s p with
  | none => none
  | some o =>
    let due := (s.port p).due.head?.map (fun w => (w, duePos s p o w.dueAt))
    match (s.port p).cur, due with
    | some l, some (w, d) =>
      let n := loadPos s p o l
      if loadTotal s p l ≤ l.sent then some (freeLink p s)
      else if d < n || (d == n && l.sent != 0) then (if d < lim then some (enterDue p d w s) else none)
      else if n < lim then some (sendNext p n l s) else none
    | some l, none =>
      let n := loadPos s p o l
      if loadTotal s p l ≤ l.sent then some (freeLink p s) else if n < lim then some (sendNext p n l s) else none
    | none, some (w, d) => if d < lim then some (enterDue p d w s) else none
    | none, none => none

/-- As much of the stream as falls due before a position, in at most `n` steps. -/
def streamRun (p lim : Nat) : Nat → State → State
  | 0, s => s
  | n + 1, s =>
    match streamStep p lim s with
    | some t => streamRun p lim n t
    | none => s

/-- Every word of port p's stream enters whose row begins before `t` quanta. -/
def advance (p t : Nat) (s : State) : State :=
  let lim := 10 * rowCyc s p t
  streamRun p lim (lim + 1 - (s.port p).nextPos + (s.port p).due.length + 2 * (s.port p).queue.length) s

/-! ### Beam lines (R129 to R133) -/

/-- Entry j of a port's linearisation table (R136). -/
def linEntry (s : State) (p j : Nat) : Nat := bits (s.rdN (SEQ_P_LIN p (j / 2))) (16 * (j % 2)) 16

/-- Lanes in use (R135). -/
def beamLanes (s : State) (p : Nat) : Nat := clampN (s.fld (SEQ_P_BEAM_CTL_LANES p)) 1 10

/-- Quanta from one sample to the next (R135). -/
def sampleQ (s : State) (p : Nat) : Nat := 16 / 2 ^ s.fld (SEQ_P_BEAM_CTL_RATE p)

/-- Does a beam port draw: is it enabled, with a running SCANNER timebase (R128, R129)? -/
def beamDraws (s : State) (p : Nat) : Bool :=
  let n := s.fld (SEQ_P_CTL_TB p)
  s.flag (SEQ_P_CTL_EN p) && s.flag (SEQ_P_CTL_MODE p) && s.fld (PHS_TB_SRC_TYPE n) == 5 && s.tbOn n

/-- The fraction of timebase n, 56 bits, at a past time in quanta: by the stretch of time in which it lies (R132). -/
def fracAt (s : State) (n q : Nat) : Nat :=
  let b := ((((s.tb n).trail.getD []).filter (fun e => decide (4 * e.1 ≤ q))).getLast?).getD (s.now, (s.tb n).acc, s.incEff n)
  (b.2.1 + (q - 4 * b.1) * b.2.2 / 4) % 2 ^ 56

/-- Column c of a line (R130, R132): 0 at or beyond COLS, none where its word has not arrived (R133). -/
def beamCol (s : State) (p : Nat) (b : BeamLine) (c : Nat) : Option Word :=
  if s.fld (SEQ_P_BEAM_GEOM_COLS p) ≤ c then some 0#64
  else ([(s.port p).line0, (s.port p).line1].find? (fun x => decide (x.line = b.set.map (fun k => (k, b.line))))).bind (fun x =>
    if c < x.got then some (kget (fun _ => 0#64) x.words c) else none)

/-- How far a fraction of 32 bits lies into the half cycle that a sweep of a direction covers (R131). -/
def sweepPos (rev : Bool) (f : Nat) : Nat := if rev then (f + 2 ^ 32 - 2 ^ 30) % 2 ^ 32 else (f + 2 ^ 30) % 2 ^ 32

/-- A sample at a fraction (R132): none where a word that it needs is missing. -/
def beamValue (s : State) (p : Nat) (b : BeamLine) (f : Nat) : Option Word :=
  let j := sweepPos b.rev f * 4096 / 2 ^ 32
  let e := linEntry s p (if b.rev then 2047 - j else j)
  if e = 0xFFFF || b.set.isNone then some 0#64
  else if s.flag (SEQ_P_BEAM_CTL_INTERP p) then
    match beamCol s p b (e / 16), beamCol s p b (e / 16 + 1) with
    | some x, some y =>
      some (BitVec.ofNat 64 (pack ([0, 1, 2, 3].map (fun c => (16 * c, 16, (bits x.toNat (16 * c) 16 * (16 - e % 16) + bits y.toNat (16 * c) 16 * (e % 16) + 8) / 16)))))
    | _, _ => none
  else beamCol s p b ((e + 8) / 16)

/-- A timebase keeps the stretches of time that pass while a line of a port bound to it is drawn. -/
def retrail (n : Nat) (s : State) : State :=
  let drawn := [0, 1, 2, 3].any (fun k => (s.port k).beam.isSome && s.fld (SEQ_P_CTL_TB k) == n)
  updTb n (fun t => { t with trail := if drawn then some (t.trail.getD []) else none }) s

/-- No line is being drawn at port p any more. -/
def endLine (p : Nat) (s : State) : State :=
  retrail (s.fld (SEQ_P_CTL_TB p)) (((updPort p (fun x => { x with beam := none }) s).setFld (SEQ_P_BEAM_LINE_ACTIVE p) 0).setFld (SEQ_P_BEAM_LINE_DIR p) 0)

/-- One sample of port p's line enters (R129, R132, R133). -/
def drawSample (p f : Nat) (b : BeamLine) (s : State) : State :=
  let v := beamValue s p b f
  let u := v.getD (s.rd (SEQ_P_LAST_WORD p))
  let s1 := if v.isNone then underrun p 0 (!b.under) s else s.wr (SEQ_P_LAST_WORD p) u
  updPort p (fun x => { x with samples := x.samples ++ [(b.n, b.n % beamLanes s p, u)], beam := some { b with next := b.next + sampleQ s p, n := b.n + 1, under := b.under || v.isNone } }) s1

/-- The samples of port p that enter before `t` quanta, at most `k` of them; the line ends where the phase leaves its half cycle. -/
def drawRun (p t : Nat) : Nat → State → State
  | 0, s => s
  | k + 1, s =>
    match (s.port p).beam with
    | none => s
    | some b =>
      if !beamDraws s p then endLine p s
      else if t ≤ b.next then s
      else
        let f := fracAt s (s.fld (SEQ_P_CTL_TB p)) b.next / 2 ^ 24
        if 2 ^ 31 ≤ sweepPos b.rev f then endLine p s else drawRun p t k (drawSample p f b s)

/-- Port p is brought up to the present: the words of its stream and the samples of its line that have fallen due (R112, R132). -/
def settlePort (p : Nat) (s : State) : State :=
  let t := 4 * s.now
  let s1 := advance p t s
  match (s1.port p).beam with
  | some b => drawRun p t ((t - b.next) / 2 + 2) s1
  | none => s1

/-- Every port is brought up to the present. -/
def settlePorts (s : State) : State := [0, 1, 2, 3].foldl (fun t p => settlePort p t) s

/-- A port's line ends where it does not draw any more (R129). -/
def beamCheck (p : Nat) (s : State) : State := if (s.port p).beam.isSome && !beamDraws s p then endLine p s else s

/-! ### Pins at a port -/

/-- A pin of timebase n finds its target bound to another timebase (R74, R95). -/
def bindMiss (n : Nat) (s : State) : State := s.bump (PHS_TB_BIND_MISS_CNT n)

/-- Do the arrays of a port stay parked from a latch on (R159)? -/
def parkHolds (x : Port) : Bool :=
  match x.parkDue with
  | some (park, _) => park
  | none => x.parkHold

/-- Is an array tripped, and not let go by a latch (R163)? -/
def arrTripped (s : State) (p a : Nat) : Bool := bit (s.fld (SEQ_F_STAT_TRIP p)) a && !bit (s.port p).tripDue a

/-- What stops a BLOCK_LOAD or MIRROR_RESET pin before it reaches the port (R74, R95, R128, R159, R163, R169, R173, R174): the counter
that advances, or none where nothing does. -/
def portGate (s : State) (n p a : Nat) : Option (Option Nat) :=
  if s.fld (SEQ_P_CTL_TB p) != n || (s.fld (PHS_TB_SRC_TYPE n) == 5 && !s.flag (SEQ_P_CTL_MODE p)) then some (some (PHS_TB_BIND_MISS_CNT n))
  else if s.flag (SEQ_F_CTL_CLONE_EN p) then some (some (SEQ_F_CLONE_IGN_CNT p))
  else if !s.flag (SEQ_P_CTL_EN p) || s.flag (SEQ_P_CTL_MODE p) then some none
  else if !s.flag (SEQ_F_STAT_ACTIVE p) then some (some (SEQ_F_LINK_DROP_CNT p))
  else if parkHolds (s.port p) then some (some (SEQ_F_PARK_DROP_CNT p))
  else if arrTripped s p a then some (some (SEQ_F_TRIP_DROP_CNT p))
  else none

/-- Apply a gate. -/
def gated (g : Option (Option Nat)) (s : State) (go : State → State) : State :=
  match g with
  | some (some r) => s.bump r
  | some none => s
  | none => go s

/-- The load that a BLOCK_LOAD pin opens (R105, R107, R144). -/
def loadOf (s : State) (p a mask plane : Nat) : Option Load :=
  let base : Load := { arr := a, mask := mask, plane := plane, set := none, fill := none }
  if pArrays s p ≤ a then none
  else if plane = 0xC0 then some { base with fill := some false }
  else if plane = 0xC1 then some { base with fill := some true }
  else if 64 ≤ plane || pComps s p ≤ bits plane 4 2 then none
  else if s.flag (SEQ_P_SET_STAT_SHOWING p) then some { base with set := some (s.fld (SEQ_P_SET_STAT_SHOWN p)) }
  else some { base with fill := some false }

/-- A load is dropped (R105, R115). -/
def dropLoad (p a plane : Nat) (full : Bool) (s : State) : State :=
  seqFrameEvent p 6 svERROR (plane + a * 256 + b2n full * 1024) (s.bump (SEQ_P_LOAD_DROP_CNT p))

/-- A BLOCK_LOAD pin placed at `placed` quanta reaches its port: its first word is ready 6 ns later, and enters at the next row boundary where
the link is free (R115, R142, R153). -/
def blockLoad (p a mask plane placed : Nat) (s0 : State) : State :=
  let s := advance p placed s0
  match loadOf s p a mask plane with
  | none => dropLoad p a plane false s
  | some l0 =>
    let l := { l0 with ready := placed + 24 }
    if mask = 0 then s
    else match (s.port p).cur with
      | none => updPort p (fun x => { x with cur := some { l with next := loadStart s p l.ready } }) s
      | some _ =>
        if (s.port p).queue.length < 4 then updPort p (fun x => { x with queue := x.queue ++ [{ l with queued := true }] }) s
        else dropLoad p a plane true s

/-- The notice of a firing pin has been served (R111). -/
def forgetNotice (n : Nat) (d : Placed) (s : State) : State :=
  updPort (d.pin.target % 4) (fun x => { x with notices := match x.notices.findIdx? (fun m => m.tb == n && m.bank == d.bank && m.index == d.index) with
    | some i => x.notices.eraseIdx i
    | none => x.notices }) s

/-- The notice of the BLOCK_LOAD pin that has just left the dispatched ones, whether or not it took effect. -/
def forgetFired (n : Nat) (s s1 : State) : State :=
  match nextPlaced s n with
  | some d => if d.pin.action = 1 && !d.posted && !(s1.tb n).dispatched.contains d then forgetNotice n d s1 else s1
  | none => s1

/-- BLOCK_LOAD (R142): the next pin of timebase n fires. -/
def execBlockLoad (n : Fin 4) (s : State) : Out :=
  .next (match fire n 1 s with
    | (none, s1) => forgetFired n s s1
    | (some d, s1) =>
      let p := d.pin.target % 4
      let a := bits d.pin.target 2 2
      let s2 := forgetFired n s s1
      gated (portGate s2 n p a) s2 (blockLoad p a (bits d.pin.arg 0 16) (bits d.pin.arg 16 8) d.placed))

/-- Time passes until the row of a position has begun, and what falls due until then enters. -/
def passToPos (p pos : Nat) (s : State) : State :=
  let s1 := passTime (rowTime s p (pos / 10) / 4 + 1 - s.now) s
  advance p (4 * s1.now) s1

/-- LOAD_QUEUED_START (R115): time passes until the load that waited begins; the link has become free. -/
def execLoadQueuedStart (p : Fin 4) (s0 : State) : Out :=
  if !s0.clocked then .next s0 else
  let s := advance p (4 * s0.now) s0
  match (s.port p).cur, openFrom s p with
  | some l, some o => .next (if l.queued && l.sent = 0 then passToPos p (loadPos s p o l) s else s)
  | _, _ => .next s

/-- The position after the last word of a load, with the RESET and CMD words that fall due during it (R152, R154). -/
def loadEnd (s : State) (p o : Nat) (l : Load) : Nat :=
  let n := loadPos s p o l
  (s.port p).due.foldl (fun e w => if decide (n ≤ duePos s p o w.dueAt) && decide (duePos s p o w.dueAt < e) then e + 1 else e) (n + loadTotal s p l - l.sent)

/-- LOAD_STREAM_DONE (R619): time passes until the last word of the load in progress has entered, and the link is free. -/
def execLoadStreamDone (p : Fin 4) (s0 : State) : Out :=
  if !s0.clocked then .next s0 else
  let s := advance p (4 * s0.now) s0
  match (s.port p).cur, openFrom s p with
  | some l, some o => .next (passToPos p (loadEnd s p o l - 1) s)
  | _, _ => .next s

/-- A reset of an array of a port, as a pin placed at `placed` quanta asks for it: its word falls due 6 ns later (R73, R154). -/
def mirrorReset (p a kind mask placed : Nat) (s : State) : State := putDue p (.reset a kind mask placed (placed + 24) false) s

/-- MIRROR_RESET (R154, R156): the next pin of timebase n fires. -/
def execMirrorReset (n : Fin 4) (s : State) : Out :=
  .next (match fire n 2 s with
    | (none, s1) => s1
    | (some d, s1) =>
      let p := d.pin.target % 4
      let a := bits d.pin.target 2 2
      let kind := bits d.pin.arg 16 4
      gated (portGate s1 n p a) s1 (fun t =>
        if 4 ≤ kind then t.bump (SEQ_P_LOAD_DROP_CNT p) else mirrorReset p a kind (bits d.pin.arg 0 16) d.placed t))

/-! ### Plane sets (R106 to R109) -/

/-- A set is retired (R106, R108, R369). -/
def retireSet (p k : Nat) (skipped : Bool) (s : State) : State :=
  let s1 := s.setFld ⟨SEQ_P_SET_READY p, k, 1⟩ 0
  let s2 := updPort p (fun x => { x with ready := x.ready.filter (fun r => r.1 != k) }) s1
  dropHolder (.set p k) (seqEvent p 3 svINFO (k + 4 * b2n skipped) s2)

/-- Mark set k ready (R106, R107, R373). -/
def markReady (p k : Nat) (s : State) : State :=
  if bit (s.rdN (SEQ_P_SET_READY p)) k || s.flag (SEQ_F_CTL_CLONE_EN p) then s
  else match takeLocked (.set p k) (s.rdN (SEQ_P_SET_BASE p k)) (setBytes s p) false s with
    | .ok s1 => updPort p (fun x => { x with ready := x.ready ++ [(k, 4 * s1.now)] }) (s1.setFld ⟨SEQ_P_SET_READY p, k, 1⟩ 1)
    | .error va => refRefused blkSEQ p va (dropHolder (.set p k) s)

/-- SET_READY_WRITE (R107): bits in ascending order. -/
def execSetReadyWrite (p : Fin 4) (v : BitVec 32) (s : State) : Out :=
  if !s.clocked then .next s else
  .next ([0, 1, 2, 3].foldl (fun t k => if bit v.toNat k then markReady p k t else t) s)

/-- The set on screen changes, or stays and is repeated (R106). -/
def flipSet (p placed : Nat) (s : State) : State :=
  let shown := s.fld (SEQ_P_SET_STAT_SHOWN p)
  let showing := s.flag (SEQ_P_SET_STAT_SHOWING p)
  let cand := (s.port p).ready.filter (fun r => decide (r.2 < placed) && !(showing && r.1 == shown))
  match cand.getLast? with
  | some (k, _) =>
    let t0 := guardHolder (.set p k) ((s.setFld (SEQ_P_SET_STAT_SHOWN p) k).setFld (SEQ_P_SET_STAT_SHOWING p) 1)
    let t1 := if showing then retireSet p shown false t0 else t0
    cand.dropLast.foldl (fun t r => retireSet p r.1 true t) t1
  | none =>
    if showing then
      let t := s.bump (SEQ_P_SET_REPEAT_CNT p)
      seqEvent p 2 svWARNING (shown + t.rdN (SEQ_P_SET_REPEAT_CNT p) * 256) t
    else s

/-- A latch begins an output frame of a port: its limited events may be written again (R116, R150), and what waits for a latch is let through
(R159, R163). -/
def beginFrame (p placed : Nat) (s : State) : State :=
  updPort p (fun x => { x with lastLatch := some placed, frameEv := [], parkDue := (x.parkPend.map (fun b => (b, placed))).orElse (fun _ => x.parkDue), parkPend := none, tripDue := x.tripDue ||| x.clearPend, clearPend := 0 }) s

/-- FRAME_NS and FRAME_RANGE (R109). -/
def noteFrame (p placed : Nat) (s : State) : State :=
  match (s.port p).lastLatch with
  | some l =>
    let ns := min ((placed - l) / 4) 0xFFFFFFFF
    let s1 := s.wrN (SEQ_P_FRAME_NS p) ns
    if ns < 2083333 || 41708334 < ns then seqEvent p 7 svWARNING ns s1 else s1
  | none => s

/-- What the sequencer does at a VB_LATCH of port p placed at `placed` quanta (R106, R109, R116, R130). The frames of a port's clones are its own
(DEDUCED, log entry 113). -/
def seqLatch (p placed : Nat) (s0 : State) : State :=
  let s := (p :: clonesOf s0 p).foldl (fun t c => beginFrame c placed t) (noteFrame p placed (settlePort p s0))
  let s1 := s.setFld (SEQ_P_BEAM_LINE_LINE p) 0
  if s.flag (SEQ_P_CTL_EN p) then flipSet p placed s1 else s1

/-! ### Plane fetch (R111, R382) -/

/-- A memory deadline is missed (R382, R400). -/
def deadlineMiss (k : Nat) (s : State) : State :=
  let s1 := s.bump (MEM_SRC_LATE_CNT k)
  if msPassed (kget (fun _ => none) s.memc.missAt k) s.now then
    emit blkMEM 3 svWARNING 0xA0300000 (k + s1.rdN (MEM_SRC_LATE_CNT k) * 2 ^ 32)
      { s1 with memc := { s1.memc with missAt := kset (fun _ => none) s1.memc.missAt k (some s.now) } }
  else s1

/-- Insert a notice by placed time (R111). -/
def insNotice (x : Notice) : List Notice → List Notice
  | [] => [x]
  | y :: t => if y.placed ≤ x.placed then y :: insNotice x t else x :: y :: t

/-- SEQ receives a fetch notice (R111). -/
def fetchNotice (p : Nat) (x : Notice) (s : State) : State := updPort p (fun y => { y with notices := insNotice x y.notices }) s

/-- Buffer b of a port. -/
def Port.buf (x : Port) (b : Nat) : PlaneBuf := if b = 0 then x.buf0 else x.buf1
def Port.setBuf (x : Port) (b : Nat) (v : PlaneBuf) : Port := if b = 0 then { x with buf0 := v } else { x with buf1 := v }
def Port.lineBuf (x : Port) (b : Nat) : LineBuf := if b = 0 then x.line0 else x.line1
def Port.setLine (x : Port) (b : Nat) (v : LineBuf) : Port := if b = 0 then { x with line0 := v } else { x with line1 := v }

/-- Is a VB_LATCH of port p pending, placed at or before `q` quanta (R111)? -/
def latchBefore (s : State) (p q : Nat) : Bool :=
  let n := s.fld (SEQ_P_CTL_TB p)
  let t := s.tb n
  let isLatch := fun x : Pin => x.action == 8 && x.target % 4 == p
  t.dispatched.any (fun d => isLatch d.pin && decide (d.placed ≤ q)) ||
    t.readAhead.any (fun e => isLatch e.2.2 && pinDueIn e.2.2 (cycleAt s n (pinAhead s n e.1 e.2.1 e.2.2.frac)) &&
      decide (placedAt s n (pinAhead s n e.1 e.2.1 e.2.2.frac) ≤ (q : Int)))

/-- Will the pin of a notice open a load: is its bank still to fire it, and does no gate of the port drop it (R52, R79, R159, R163)? -/
def noticeLive (s : State) (p : Nat) (x : Notice) : Bool :=
  let t := s.tb x.tb
  let out := t.dispatched.any (fun d => !d.posted && d.bank == x.bank && d.index == x.index)
  let held := (s.flag (PHS_TB_STAT_ACTIVE x.tb) && s.fld (PHS_TB_STAT_ACTIVE_BANK x.tb) == x.bank) || (t.arm.map (fun a => a.bank == x.bank && a.validAt.isSome)).getD false
  s.tbOn x.tb && s.fld (SEQ_P_CTL_TB p) == x.tb && s.fld (PHS_TB_SRC_TYPE x.tb) != 5 && s.flag (SEQ_P_CTL_EN p) && !s.flag (SEQ_P_CTL_MODE p) &&
    !s.flag (SEQ_F_CTL_CLONE_EN p) && !parkHolds (s.port p) && !arrTripped s p x.arr &&
    (out || (held && decide (4 * s.now ≤ x.placed) && !(s.flag (PHS_TB_STAT_STOP_PEND x.tb) && decide (4 * (s.now + toBoundary s x.tb) ≤ x.placed))))

/-- The announced loads of set planes that are still to come, by placed time (R105, R111). -/
def pendingLoads (s : State) (p : Nat) : List Notice := (s.port p).notices.filter (fun x => decide (x.plane < 64) && noticeLive s p x)

/-- The plane that an announced load reads: of the set on screen. -/
def noticePlane (s : State) (p : Nat) (x : Notice) : Nat × Nat × Nat := (s.fld (SEQ_P_SET_STAT_SHOWN p), x.arr, x.plane)

/-- Does a buffer hold, or fetch, every block that an announced load names? -/
def bufServes (s : State) (p : Nat) (x : Notice) (b : PlaneBuf) : Bool :=
  decide (b.plane = some (noticePlane s p x)) && (maskBlocks x.mask).all (fun k => b.blocks.contains k)

/-- Does a load in progress or waiting read a buffer? -/
def bufBusy (x : Port) (b : PlaneBuf) : Bool :=
  (x.cur.toList ++ x.queue).any (fun l => l.kept.isNone && l.set.isSome && decide (b.plane = l.set.map (fun k => (k, l.arr, l.plane))))

/-- The buffer into which the plane of an announced load is fetched: the one that holds some of its blocks, or one that no load in progress,
waiting or announced earlier needs (R111), the first where both are free (DESIGN CHOICE, log entry 113). -/
def bufFor (s : State) (p : Nat) (before : List Notice) (x : Notice) : Option Nat :=
  let pt := s.port p
  match [0, 1].find? (fun b => decide ((pt.buf b).plane = some (noticePlane s p x))) with
  | some b => some b
  | none => [0, 1].find? (fun b => !bufBusy pt (pt.buf b) && !before.any (fun y => decide ((pt.buf b).plane = some (noticePlane s p y))))

/-- The fetch of a plane begins (R111): the blocks that the mask names, in ascending order, after those that the buffer has of it. -/
def startFetch (p b : Nat) (x : Notice) (s : State) : State :=
  let id := noticePlane s p x
  let bf := (s.port p).buf b
  let old : PlaneBuf := if bf.plane = some id then bf else { plane := some id }
  updPort p (fun y => y.setBuf b { old with fetching := some x.placed, blocks := old.blocks ++ (maskBlocks x.mask).filter (fun k => !old.blocks.contains k) }) s

/-- The lines of the frame on screen that come next (R130, R131). -/
def nextLines (s : State) (p : Nat) : List (Nat × Nat) :=
  if !s.flag (SEQ_P_SET_STAT_SHOWING p) then []
  else ((List.range 2).map (fun k => s.fld (SEQ_P_BEAM_LINE_LINE p) + k)).filter (fun l => decide (l < s.fld (SEQ_P_BEAM_GEOM_LINES p))) |>.map (fun l => (s.fld (SEQ_P_SET_STAT_SHOWN p), l))

/-- A beam port fetches the next line that no line buffer holds, into one that holds neither a line to come nor the one being drawn (R133; DESIGN
CHOICE, log entry 113). -/
def startLine (p : Nat) (s : State) : State :=
  let x := s.port p
  let held := fun l : Nat × Nat => decide (x.line0.line = some l) || decide (x.line1.line = some l)
  let drawn : Option (Nat × Nat) := x.beam.bind (fun b => b.set.map (fun k => (k, b.line)))
  match (nextLines s p).find? (fun l => !held l) with
  | none => s
  | some l =>
    match [0, 1].find? (fun b => !(nextLines s p).any (fun m => decide ((x.lineBuf b).line = some m)) && !(drawn.isSome && decide ((x.lineBuf b).line = drawn))) with
    | some b => updPort p (fun y => y.setLine b { line := some l }) s
    | none => s

/-- PLANE_FETCH_START (R111, R133): the earliest announced load that the store does not serve has its plane fetched, unless a latch comes before
it; a beam port fetches its next line. -/
def execPlaneFetchStart (p : Fin 4) (s0 : State) : Out :=
  if !s0.clocked then .next s0 else
  let s := settlePort p s0
  .next (
    if !s.flag (SEQ_P_CTL_EN p) then s
    else if s.flag (SEQ_P_CTL_MODE p) then startLine p s
    else if !s.flag (SEQ_P_SET_STAT_SHOWING p) then s
    else
      let ns := pendingLoads s p
      match ns.find? (fun x => !((bufServes s p x (s.port p).buf0) || bufServes s p x (s.port p).buf1)) with
      | none => s
      | some x =>
        if latchBefore s p x.placed then s
        else match bufFor s p (ns.takeWhile (fun y => decide (y ≠ x))) x with
          | some b => startFetch p b x s
          | none => s)

/-- The next `cnt` words of the plane that buffer b is fetching arrive (R111, R112, R382). -/
def planeArrives (p b cnt : Nat) (s : State) : State :=
  let bf := (s.port p).buf b
  match bf.plane, bf.fetching with
  | some (set, a, plane), some dl =>
    let w := blkW s p
    let all := bf.blocks.length * w
    let ix := fun g : Nat => (bf.blocks[g / w]?.getD 0) * w + g % w
    let m := min cnt (all - bf.got)
    let ws := (List.range m).foldl (fun z i => kset (fun _ => 0#64) z (ix (bf.got + i)) (BitVec.ofNat 64 (leNat (sysRead s (planeAddr s p set a plane + 8 * ix (bf.got + i)) 8)))) bf.words
    let from_ := planeAddr s p set a plane + 8 * ix bf.got
    if !sysServed s from_ (8 * m) then s else
    let s1 := updPort p (fun y => y.setBuf b { bf with words := ws, got := bf.got + m, fetching := if bf.got + m = all then none else some dl }) (sysTouch from_ (8 * m) p s)
    if dl < 4 * s1.now then deadlineMiss p s1 else s1
  | _, _ => s

/-- The next `cnt` columns of the line in line buffer b arrive (R130, R133). -/
def lineArrives (p b cnt : Nat) (s : State) : State :=
  let lb := (s.port p).lineBuf b
  match lb.line with
  | some (set, l) =>
    let m := min cnt (s.fld (SEQ_P_BEAM_GEOM_COLS p) - lb.got)
    let at_ := fun c : Nat => s.rdN (SEQ_P_SET_BASE p set) + l * s.rdN (SEQ_P_BEAM_STRIDE p) + 8 * c
    let ws := (List.range m).foldl (fun z i => kset (fun _ => 0#64) z (lb.got + i) (BitVec.ofNat 64 (leNat (sysRead s (at_ (lb.got + i)) 8)))) lb.words
    if !sysServed s (at_ lb.got) (8 * m) then s
    else updPort p (fun y => y.setLine b { lb with words := ws, got := lb.got + m }) (sysTouch (at_ lb.got) (8 * m) p s)
  | none => s

/-- PLANE_FETCH_DATA (R111, R112, R133, R382): the next `cnt` words of what buffer b is fetching arrive. -/
def execPlaneFetchData (p : Fin 4) (b : Fin 2) (dt cnt : Nat) (s0 : State) : Out :=
  if !s0.clocked then .next (passTime dt s0) else
  let s := settlePort p (passTime dt s0)
  .next (if s.flag (SEQ_P_CTL_MODE p) then lineArrives p b cnt s else planeArrives p b cnt s)

/-- The first instant, in quanta, at which R113 permits a block of array a that waits for a further PARK. -/
def furtherAt (s : State) (p a : Nat) : Option Nat :=
  ((maskBlocks ((s.port p).arr a).parkAgain).map (fun b =>
    match kget (fun _ => (none : Option Nat)) ((s.port p).arr a).lastReset b with
    | some u => u + 4 * (s.rdN (SEQ_P_MIN_DWELL p) % 65536)
    | none => 0)).foldl (fun m t => some (min (m.getD t) t)) none

/-! ### Forward idle (R171) -/

/-- When the next load, reset or CMD of a port falls due, in quanta: in progress, waiting, of a pin dispatched or read ahead, or a further PARK. -/
def ownWordDue (s : State) (p : Nat) : Option Nat :=
  let n := s.fld (SEQ_P_CTL_TB p)
  let t := s.tb n
  let x := s.port p
  let is := fun y : Pin => (y.action == 1 || y.action == 2) && y.target % 4 == p && bit y.flags 0
  let pins := (t.dispatched.filter (fun d => is d.pin)).map (fun d => d.placed + 24) ++
    (t.readAhead.filter (fun e => is e.2.2)).map (fun e => (placedAt s n (pinAhead s n e.1 e.2.1 e.2.2.frac) + 24).toNat)
  ((if x.cur.isSome then [4 * s.now] else []) ++ x.due.map (fun w => w.dueAt) ++ pins ++ [0, 1, 2].filterMap (fun a => furtherAt s p a)).foldl (fun m q => some (min (m.getD q) q)) none

/-- When a port's next word falls due; a clone sends its source's words too (R174). -/
def nextWordDue (s : State) (p : Nat) : Option Nat :=
  let own := ownWordDue s p
  if s.flag (SEQ_F_CTL_CLONE_EN p) then
    match own, ownWordDue s (s.fld (SEQ_F_CTL_CLONE_SRC p)) with
    | some a, some b => some (min a b)
    | none, b => b
    | a, none => a
  else own

/-- May a facet port's forward lanes go idle: is its next word due more than IDLE_LEAD away (R171)? -/
def mayIdle (s : State) (p : Nat) : Bool :=
  match nextWordDue s p with
  | some q => decide (4 * (s.now + s.rdN (SEQ_F_IDLE_LEAD p) % 2 ^ 20) < q)
  | none => true

/-- The EIDLE words of a facet port take a row (R171, R483). -/
def takeRow (p : Nat) (s : State) : State := updPort p (fun x => { x with nextPos := 10 * (max (rowCyc s p (4 * s.now)) (ceilDiv x.nextPos 10) + 1) }) s

/-! ### Latency tolerance (R126) -/

/-- Is every word of an announced load in the store? -/
def inStore (s : State) (p : Nat) (x : Notice) : Bool :=
  [(s.port p).buf0, (s.port p).buf1].any (fun b => decide (b.plane = some (noticePlane s p x)) &&
    (maskBlocks x.mask).all (fun k => (b.word (blkW s p) k (blkW s p - 1)).isSome))

/-- When the sweeps that are to come at a beam port are placed, in quanta: of BEAM_SWEEP pins dispatched or read ahead. -/
def sweepsDue (s : State) (p : Nat) : List Nat :=
  let n := s.fld (SEQ_P_CTL_TB p)
  let t := s.tb n
  let is := fun x : Pin => x.action == 10 && x.target % 4 == p && bit x.flags 0 && (!bit x.arg 0 || s.flag (SEQ_P_BEAM_CTL_BIDIR p))
  (t.dispatched.filter (fun d => is d.pin)).map (fun d => d.placed) ++
    (t.readAhead.filter (fun e => is e.2.2)).map (fun e => (placedAt s n (pinAhead s n e.1 e.2.1 e.2.2.frac)).toNat)

/-- When the first load whose data is not wholly in the store is to begin (R126): of a beam port, the first sweep, where its next two lines are
not both in its line buffers (DESIGN CHOICE, log entry 113). -/
def firstMissing (s : State) (p : Nat) : Option Nat :=
  let least := fun l : List Nat => match l with
    | [] => none
    | x :: t => some (t.foldl min x)
  if s.flag (SEQ_P_CTL_MODE p) then
    let full := fun l : Nat × Nat => [(s.port p).line0, (s.port p).line1].any (fun b => decide (b.line = some l) && decide (s.fld (SEQ_P_BEAM_GEOM_COLS p) ≤ b.got))
    if (nextLines s p).all full then none else least (sweepsDue s p)
  else least (((pendingLoads s p).filter (fun x => !inStore s p x)).map (fun x => x.placed))

/-- A port's latency tolerance (R126). -/
def portTol (s : State) (p : Nat) : Nat :=
  if !s.flag (SEQ_P_CTL_EN p) then 0xFFFFFFFF
  else match firstMissing s p with
    | some q => min (s.rdN (SEQ_P_TOL_CAP p)) (q / 4 - s.now - s.rdN (SEQ_P_FETCH_NS p))
    | none => 0xFFFFFFFF

/-- The least tolerance of every port and timebase, as MEM_TOL_MIN reads (R385, R394). -/
def tolMin (s : State) : Nat := [0, 1, 2, 3].foldl (fun m k => min m (min (portTol s k) (s.rdN (PHS_TB_TOL k)))) 0xFFFFFFFF

/-! ### Port enable (R128, R129, R167, R172, R175) -/

/-- Arrays of the enabled plane-mode ports other than p (R172). -/
def otherArrays (s : State) (p : Nat) : Nat :=
  (([0, 1, 2, 3].filter (fun k => k != p && s.flag (SEQ_P_CTL_EN k) && !s.flag (SEQ_P_CTL_MODE k))).map (pArrays s)).sum

/-- The first capability that fails the checks of R167: array, CAP index and VALUE. -/
def capFault (s : State) (p : Nat) : Option (Nat × Nat × Nat) :=
  let pt := s.port p
  let v := fun a i => (kget (fun _ => 0#32) (pt.arr a).doneCaps i).toNat
  if !pt.capsDone then some (0, 0, 0)
  else if v 0 0 % 65536 != 1 then some (0, 0, v 0 0)
  else if v 0 0 / 65536 < pArrays s p then some (0, 0, v 0 0)
  else
    match (List.range (v 0 0 / 65536)).find? (fun a => v a 1 != pCols s p + pRows s p * 65536) with
    | some a => some (a, 1, v a 1)
    | none => none

def capMismatch (p : Nat) (f : Nat × Nat × Nat) (s : State) : State :=
  seqEvent p 0x12 svERROR (f.1 + f.2.1 * 4 + f.2.2 * 2 ^ 32) (s.setFld (SEQ_F_STAT_CAP_MISMATCH p) 1)

/-- Is a port's geometry in range (R103, R135)? -/
def geomOk (s : State) (p : Nat) : Bool :=
  let c := s.fld (SEQ_P_GEOM_COLS_256 p)
  let r := s.fld (SEQ_P_GEOM_ROWS_16 p)
  decide (4 ≤ c) && decide (c ≤ 16) && decide (36 ≤ r) && decide (r ≤ 144)

/-- SEQ_PORT_ENABLE (R135, R129, R167, R172, R175). A port whose capabilities fail says so whether or not another condition refuses EN too. -/
def execSeqPortEnable (p : Fin 4) (s : State) : Out :=
  if !s.clocked then .next s else
  let src := s.fld (SEQ_F_CTL_CLONE_SRC p)
  let clone := s.flag (SEQ_F_CTL_CLONE_EN p)
  let badClone := clone && (src == p || s.flag (SEQ_F_CTL_CLONE_EN src) || s.flag (SEQ_P_CTL_MODE src) || s.rdN (SEQ_P_GEOM src) != s.rdN (SEQ_P_GEOM p) ||
    pArrays s src != pArrays s p || s.fld (SEQ_P_CTL_TB src) != s.fld (SEQ_P_CTL_TB p))
  let s1 := if badClone then s.setFld (SEQ_F_STAT_CMD_STATUS p) stPRECOND else s
  .next (
    if s.flag (SEQ_P_CTL_EN p) then s
    else if s.flag (SEQ_P_CTL_MODE p) then
      (if geomOk s p && !badClone && s.fld (PHS_TB_SRC_TYPE (s.fld (SEQ_P_CTL_TB p))) == 5 then s1.setFld (SEQ_P_CTL_EN p) 1 else s1)
    else match capFault s p with
      | some f => capMismatch p f s1
      | none =>
        if badClone || !geomOk s p || 4 < otherArrays s p + pArrays s p then s1
        else (s1.setFld (SEQ_F_STAT_CAP_MISMATCH p) 0).setFld (SEQ_P_CTL_EN p) 1)

/-- A load in flight keeps what it reads as the buffers are emptied (R128). -/
def keepBuf (x : Port) : Option Load :=
  x.cur.map (fun l => match l.set with
    | some k => { l with kept := some (([x.buf0, x.buf1].find? (fun b => decide (b.plane = some (k, l.arr, l.plane)))).getD {}) }
    | none => l)

/-- Clearing EN (R128): queued loads go, every set is retired, the buffers are empty; a load in flight finishes. -/
def portOff (p : Nat) (s0 : State) : State :=
  let s := settlePort p s0
  let shown := s.fld (SEQ_P_SET_STAT_SHOWN p)
  let showing := s.flag (SEQ_P_SET_STAT_SHOWING p)
  let s1 := [0, 1, 2, 3].foldl (fun t k => if bit (s.rdN (SEQ_P_SET_READY p)) k then retireSet p k (!(showing && k == shown)) t else t) s
  let s2 := updPort p (fun x => { x with cur := keepBuf x, queue := [], ready := [], buf0 := {}, buf1 := {}, line0 := {}, line1 := {} }) s1
  beamCheck p ((s2.setFld (SEQ_P_SET_STAT_SHOWING p) 0).setFld (SEQ_P_CTL_EN p) 0)

/-- SEQ_PORT_DISABLE (R128). -/
def execSeqPortDisable (p : Fin 4) (s : State) : Out :=
  if !s.clocked then .next s else
  .next (if s.flag (SEQ_P_CTL_EN p) then portOff p s else s)

/-! ### Beam sweeps (R129, R131) -/

/-- A line begins: its first sample enters 6 ns after the placed time (R73). -/
def beginLine (p n : Nat) (rev : Bool) (placed : Nat) (s : State) : State :=
  let line := s.fld (SEQ_P_BEAM_LINE_LINE p)
  let set := if s.flag (SEQ_P_SET_STAT_SHOWING p) then some (s.fld (SEQ_P_SET_STAT_SHOWN p)) else none
  let s1 := retrail n (updPort p (fun x => { x with beam := some { rev := rev, set := set, line := line, next := placed + 24 } }) s)
  ((s1.setFld (SEQ_P_BEAM_LINE_LINE p) (line + 1)).setFld (SEQ_P_BEAM_LINE_DIR p) (b2n rev)).setFld (SEQ_P_BEAM_LINE_ACTIVE p) 1

/-- BEAM_SWEEP (R95, R129, R131, R169): the next pin of timebase n fires. -/
def execBeamSweep (n : Fin 4) (s : State) : Out :=
  .next (match fire n 10 s with
    | (none, s1) => s1
    | (some d, s1) =>
      let p := d.pin.target % 4
      let rev := bit d.pin.arg 0
      if s1.fld (SEQ_P_CTL_TB p) != n.val || (s1.fld (PHS_TB_SRC_TYPE n) == 5 && !s1.flag (SEQ_P_CTL_MODE p)) then bindMiss n s1
      else if !beamDraws s1 p then s1
      else if !s1.flag (SEQ_F_STAT_ACTIVE p) then s1.bump (SEQ_F_LINK_DROP_CNT p)
      else
        let s2 := settlePort p s1
        if (rev && !s2.flag (SEQ_P_BEAM_CTL_BIDIR p)) || s2.fld (SEQ_P_BEAM_GEOM_LINES p) ≤ s2.fld (SEQ_P_BEAM_LINE_LINE p) then s2
        else beginLine p n rev d.placed s2)

/-! ### Parking at a latch (R159) -/

/-- A port's PARK or UNPARK cannot be taken (R159). -/
def parkRefused (s : State) (p : Nat) : Bool :=
  !s.tbOn (s.fld (SEQ_P_CTL_TB p)) || !s.flag (SEQ_P_CTL_EN p) || s.flag (SEQ_P_CTL_MODE p)

/-- PARK and UNPARK wait for the next latch; while one waits, another is answered BUSY (R159, R177). -/
def parkCmd (p : Nat) (park : Bool) (s : State) : State :=
  if parkRefused s p then s.setFld (SEQ_F_STAT_CMD_STATUS p) stPRECOND
  else if (s.port p).parkPend.isSome || (s.port p).parkDue.isSome then s.setFld (SEQ_F_STAT_CMD_STATUS p) stBUSY
  else updPort p (fun x => { x with parkPend := some park }) ((s.setFld (SEQ_F_STAT_CMD_STATUS p) stOK).setFld (SEQ_F_STAT_PARK_PEND p) 1)

/-- CMD_PARK (R159). -/
def execCmdPark (p : Fin 4) (s : State) : Out :=
  if !s.clocked then .next s else
  .next (parkCmd p true s)

/-- CMD_UNPARK (R159). -/
def execCmdUnpark (p : Fin 4) (s : State) : Out :=
  if !s.clocked then .next s else
  .next (parkCmd p false s)

/-- Are all blocks of every array of a port parked? Then PARKED sets and PARK_DONE is written (R159). -/
def parkedCheck (p : Nat) (s : State) : State :=
  let as := List.range (pArrays s p)
  if (s.port p).parkHold && !s.flag (SEQ_F_STAT_PARKED p) && as.all (fun a => s.fld (SEQ_F_A_BSTATE_PARKED p a) == 0xFFFF) then
    seqEvent p 0x1B svINFO (blockMask as) (s.setFld (SEQ_F_STAT_PARKED p) 1)
  else s

/-- An array of a port is parked at a latch placed at `placed` quanta: the blocks that R113 removes wait for a further PARK (R159). -/
def parkArray (p placed a : Nat) (s : State) : State :=
  let again := dwellBlocks s p a 0xFFFF placed
  mirrorReset p a 1 0xFFFF placed (updArr p a (fun r => { r with parkAgain := again }) s)

/-- PARK_AT_LATCH (R159): a VB_LATCH of the port has let a PARK through. -/
def execParkAtLatch (p : Fin 4) (s : State) : Out :=
  if !s.clocked then .next s else
  match (s.port p).parkDue with
  | some (true, placed) =>
    let s1 := updPort p (fun x => { x with parkDue := none, parkHold := true }) (s.setFld (SEQ_F_STAT_PARK_PEND p) 0)
    .next (parkedCheck p ((List.range (pArrays s p)).foldl (fun t a => parkArray p placed a t) s1))
  | _ => .next s

/-- UNPARK_AT_LATCH (R159): a VB_LATCH of the port has let an UNPARK through. -/
def execUnparkAtLatch (p : Fin 4) (s : State) : Out :=
  if !s.clocked then .next s else
  match (s.port p).parkDue with
  | some (false, _) =>
    .next (updPort p (fun x => { x with parkDue := none, parkHold := false, arr0 := { x.arr0 with parkAgain := 0 }, arr1 := { x.arr1 with parkAgain := 0 }, arr2 := { x.arr2 with parkAgain := 0 } })
      ((s.setFld (SEQ_F_STAT_PARK_PEND p) 0).setFld (SEQ_F_STAT_PARKED p) 0))
  | _ => .next s

/-- FURTHER_PARK (R159): time passes to the first instant that R113 permits, and the blocks of array a that may be reset then are parked. -/
def execFurtherPark (p : Fin 4) (a : Fin 3) (s : State) : Out :=
  if !s.clocked then .next s else
  match furtherAt s p a with
  | none => .next s
  | some q =>
    let s1 := passTime (ceilDiv q 4 - s.now) s
    let t := max q (4 * s.now)
    let again := ((s1.port p).arr a).parkAgain
    let m := again - dwellBlocks s1 p a again t
    .next (if !(s1.port p).parkHold then s1 else mirrorReset p a 1 m t (updArr p a (fun r => { r with parkAgain := again - m }) s1))

/-! ### The back channel (R141, R149, R150, R157, R160) -/

/-- Does a word of the back channel reach the port: is the link up, and the port in plane mode (R165, R173)? -/
def hears (s : State) (p : Nat) : Bool := s.clocked && linkCarries s p

/-- STATUS_WORD (R160). -/
def execStatusWord (p : Fin 4) (a : Fin 3) (parked floating : BitVec 16) (flags : BitVec 8) (s : State) : Out :=
  if !hears s p then .next s else
  let old := ((s.port p).arr a).flags
  let s1 := updArr p a (fun r => { r with flags := flags.toNat })
    ((s.setFld (SEQ_F_A_BSTATE_PARKED p a) parked.toNat).setFld (SEQ_F_A_BSTATE_FLOATING p a) floating.toNat)
  let rose := (List.range 8).any (fun i => bit flags.toNat i && !bit old i)
  .next (parkedCheck p (if rose then seqEvent p 0x17 svCRITICAL (a + flags.toNat * 4) s1 else s1))

/-- A load failed or went unacknowledged: the frame is tainted (R151). -/
def taint (p : Nat) (s : State) : State := updPort p (fun x => { x with taints := if x.taints.contains x.lastLatch then x.taints else x.taints ++ [x.lastLatch] }) s

/-- ACK (R149, R150). -/
def execAck (p : Fin 4) (a : Fin 3) (blk : Fin 16) (lseq : BitVec 16) (result : Fin 8) (group : BitVec 8) (s0 : State) : Out :=
  if !hears s0 p then .next s0 else
  let s := advance p (4 * s0.now) s0
  match (s.port p).await.find? (fun x => x.arr == a.val && x.lseq == lseq.toNat) with
  | none => .next (s.bump (SEQ_F_BAD_WORD_CNT p))
  | some x =>
    let s1 := updPort p (fun y => { y with await := y.await.filter (fun z => z != x) }) (s.setFld ⟨SEQ_F_A_LSEQ p a, 16, 16⟩ lseq.toNat)
    .next (
      if result.val = 1 then
        let c := (taint p s1).bump (SEQ_F_A_CRC_ERR_CNT p a)
        seqFrameEvent p 0x13 svWARNING (pack [(0, 2, a), (2, 4, blk), (6, 8, x.plane), (14, 8, group.toNat), (22, 32, c.rdN (SEQ_F_A_CRC_ERR_CNT p a))]) c
      else if 2 ≤ result.val && result.val ≤ 4 then
        seqFrameEvent p 0x14 svERROR (pack [(0, 2, a), (2, 4, blk), (6, 8, x.plane), (14, 3, result)]) ((taint p s1).bump (SEQ_F_A_NAK_CNT p a))
      else s1)

/-- ACK_TO as it acts, in ns (R177). -/
def ackTo (s : State) (p : Nat) : Nat := 4000 * max 1 (s.fld (SEQ_F_CTL_ACK_TO p))

/-- The load of a port whose ACK_TO ends first: of those whose last word has left. -/
def nextTimeout (x : Port) : Option (AwaitAck × Nat) :=
  x.await.foldl (fun m a => match a.sentAt, m with
    | some t, some (_, u) => if t < u then some (a, t) else m
    | some t, none => some (a, t)
    | none, _ => m) none

/-- ACK_TIMEOUT (R150): time passes to the end of ACK_TO of the load whose last word left first. -/
def execAckTimeout (p : Fin 4) (s0 : State) : Out :=
  if !s0.clocked then .next s0 else
  let s := advance p (4 * s0.now) s0
  match nextTimeout (s.port p) with
  | none => .next s
  | some (x, t) =>
    let s1 := passTime (ceilDiv t 4 + ackTo s p - s.now) s
    .next (seqFrameEvent p 0x15 svERROR (pack [(0, 2, x.arr), (2, 4, x.blk), (6, 16, x.lseq)])
      ((taint p (updPort p (fun y => { y with await := y.await.filter (fun z => z != x) }) s1)).bump (SEQ_F_A_ACK_MISS_CNT p x.arr)))

/-- RESET_NAK (R157). -/
def execResetNak (p : Fin 4) (a : Fin 3) (rseq : BitVec 8) (blocks : BitVec 16) (reason : Fin 16) (s : State) : Out :=
  if !hears s p then .next s else
  .next (seqFrameEvent p 0x16 svERROR (pack [(0, 2, a), (2, 16, blocks.toNat), (18, 4, reason), (22, 8, rseq.toNat)])
    (s.bumpBy (SEQ_F_A_RESET_NAK_CNT p a) (popBlocks blocks.toNat)))

/-- BACK_WORD_DISCARD (R141). -/
def execBackWordDiscard (p : Fin 4) (s : State) : Out :=
  if !hears s p then .next s else
  .next (s.bump (SEQ_F_BAD_WORD_CNT p))

/-! ### Capability exchange (R165 to R170) -/

/-- Does the exchange have every CAP word (R165)? -/
def capsComplete (x : Port) : Bool :=
  let n := (kget (fun _ => 0#32) x.arr0.caps 0).toNat / 65536
  bit x.arr0.capsSeen 0 && decide (1 ≤ n) && decide (n ≤ 3) && (List.range n).all (fun a => (x.arr a).capsSeen / 2 % 64 == 63)

/-- A capability exchange begins (R165, R170). -/
def startCaps (p : Nat) (s : State) : State :=
  updPort p (fun x => { x with capsBusy := true, arr0 := { x.arr0 with capsSeen := 0 }, arr1 := { x.arr1 with capsSeen := 0 }, arr2 := { x.arr2 with capsSeen := 0 }, echoes := [], echoSent := [] }) s

/-- Send the eight ECHO commands of step 2 (R165). -/
def sendEchoes (p : Nat) (s : State) : State := (List.range 8).foldl (fun t k => sendCmd p 1 0 k t) s

/-- CAP_WORD (R165, R166). -/
def execCapWord (p : Fin 4) (a : Fin 3) (index : Fin 7) (value : BitVec 32) (s : State) : Out :=
  if !hears s p then .next s else
  let was := capsComplete (s.port p)
  let s1 := updArr p a (fun r => { r with caps := kset (fun _ => 0#32) r.caps index value, capsSeen := if bit r.capsSeen index then r.capsSeen else r.capsSeen + 2 ^ index.val }) s
  .next (if (s.port p).capsBusy && !was && capsComplete (s1.port p) then sendEchoes p s1 else s1)

/-- ECHO_WORD (R165): the reply to ECHO `arg` arrives. -/
def execEchoWord (p : Fin 4) (arg : BitVec 40) (dt : Nat) (s0 : State) : Out :=
  if !hears s0 p then .next (passTime dt s0) else
  let s1 := passTime dt s0
  let s := advance p (4 * s1.now) s1
  match (s.port p).echoSent.find? (fun e => e.1 == arg.toNat) with
  | none => .next s
  | some e => .next (updPort p (fun x => { x with echoSent := x.echoSent.filter (fun z => z != e), echoes := x.echoes ++ [4 * s.now - e.2] }) s)

/-- CMD_RECAP (R170, R177). -/
def execCmdRecap (p : Fin 4) (s : State) : Out :=
  if !s.clocked then .next s else
  .next (
    if s.flag (SEQ_P_CTL_EN p) || !s.flag (SEQ_F_STAT_ACTIVE p) || s.flag (SEQ_P_CTL_MODE p) then s.setFld (SEQ_F_STAT_CMD_STATUS p) stPRECOND
    else if (s.port p).capsBusy then s.setFld (SEQ_F_STAT_CMD_STATUS p) stBUSY
    else startCaps p (s.setFld (SEQ_F_STAT_CMD_STATUS p) stOK))

/-- Half of a CAP value: low (0) or high (1). -/
def capHalf (x : Port) (a i h : Nat) : Nat := bits (kget (fun _ => 0#32) (x.arr a).caps i).toNat (16 * h) 16

/-- The sum of the forwarding delays before array a, in quanta (R165). -/
def hopSum (x : Port) (a : Nat) : Nat := ((List.range a).map (fun k => capHalf x k 3 1)).sum

/-- The registers that one array's values fill (R167, R176), and the beginning of its reports (R162). -/
def fillArray (p a : Nat) (x : Port) (s : State) : State :=
  let v := fun i => (kget (fun _ => 0#32) (x.arr a).caps i).toNat
  let s1 := ((((s.wrN (SEQ_F_A_GEOM p a) (v 1)).wrN (SEQ_F_A_TIME p a) (v 2)).wrN (SEQ_F_A_LAT p a) (v 3)).wrN (SEQ_F_A_PARKT p a) (v 4)).wrN (SEQ_F_A_TLIM p a) (v 5)
  updArr p a (fun r => { r with doneCaps := r.caps, tlimRep := v 5, parkAgain := 0, late := 0, tempAt := (List.range 4).foldl (fun m k => kset (fun _ => 0) m k s.now) [] }) s1

/-- The first value of an exchange that differs from the earlier one's: array, CAP index and VALUE (R170). -/
def capChange (x : Port) (n : Nat) : Option (Nat × Nat × Nat) :=
  ((List.range n).flatMap (fun a => (List.range 7).map (fun i => (a, i)))).findSome? (fun k =>
    let v := kget (fun _ => 0#32) (x.arr k.1).caps k.2
    if v = kget (fun _ => 0#32) (x.arr k.1).doneCaps k.2 then none else some (k.1, k.2, v.toNat))

/-- FACET_CAPS_DONE (R165, R167, R170): the eight echoes are back, and the port fills its registers. -/
def execFacetCapsDone (p : Fin 4) (s : State) : Out :=
  if !hears s p then .next s else
  let x := s.port p
  let n := capHalf x 0 0 1
  if !x.capsBusy || !capsComplete x || x.echoes.length < 8 then .next s
  else
    let as := List.range n
    let lat := s.rdN (LNK_L_LAT (10 * p))
    let ser := lat % 65536
    let mean := (rndDiv ((x.echoes.sum : Nat) : Int) (x.echoes.length : Nat)).toNat
    let flight := (mean - ser - lat / 65536 - 4 * capHalf x 0 6 1) / 2
    let far := as.foldl (fun m a => max m (hopSum x a + 4 * capHalf x a 3 0)) 0
    let rst := ceilDiv (24 + ser + flight + far) 40 * 10
    let s1 := as.foldl (fun t a => fillArray p a x t) s
    let s2 := (((s1.wrN (SEQ_P_RST_LAT p) rst).wrN (SEQ_F_FLIGHT p) flight).wrN (SEQ_P_SETTLE p) (as.foldl (fun m a => max m (capHalf x a 2 0)) 0)).wrN
      (SEQ_P_MIN_DWELL p) (as.foldl (fun m a => max m (capHalf x a 2 1)) 0)
    let s3 := (showBlkTime p s2).setFld (SEQ_F_STAT_FOUND p) n
    let s4 := updPort p (fun y => { y with capsBusy := false, capsDone := true, echoes := [], echoSent := [] }) s3
    let s5 := as.foldl (fun t a => sendCmd p 2 a (4 * rst - 24 - ser - flight - hopSum x a) t) s4
    let s6 := seqEvent p 0x10 svINFO (fwdRate s p + n * 65536) s5
    .next (match if x.capsDone then capChange x n else none with
      | none => s6
      | some f => capMismatch p f (if s.flag (SEQ_P_CTL_EN p) then portOff p s6 else s6))

/-- TLIM_WRITE (R164): each limit is stored no higher than the array reported it. -/
def execTlimWrite (p : Fin 4) (a : Fin 3) (v : BitVec 32) (s : State) : Out :=
  if !s.clocked then .next s else
  let rep := ((s.port p).arr a).tlimRep
  let lim := fun k : Nat => if sext (bits rep (16 * k) 16) 16 < sext (bits v.toNat (16 * k) 16) 16 then bits rep (16 * k) 16 else bits v.toNat (16 * k) 16
  .next (s.wrN (SEQ_F_A_TLIM p a) (lim 0 + lim 1 * 65536))

/-- TEMP_INT is written, and sent to the arrays (R168, R177). -/
def tempIntWrite (p v : Nat) (s : State) : State :=
  let s1 := s.setFld (SEQ_F_CTL_TEMP_INT p) v
  if s.flag (SEQ_F_STAT_ACTIVE p) then (List.range (s.fld (SEQ_F_STAT_FOUND p))).foldl (fun t a => sendCmd p 3 a (max 1 v) t) s1 else s1

/-- TEMP_INT_WRITE (R168, R177). -/
def execTempIntWrite (p : Fin 4) (v : BitVec 8) (s : State) : Out :=
  if !s.clocked then .next s else
  .next (tempIntWrite p v.toNat s)

/-- CLONE_WRITE (R175): only while both ports are disabled. -/
def execCloneWrite (p : Fin 4) (en : Bool) (src : Fin 4) (s : State) : Out :=
  if !s.clocked then .next s else
  .next (if s.flag (SEQ_P_CTL_EN p) || s.flag (SEQ_P_CTL_EN src) then s
    else (s.setFld (SEQ_F_CTL_CLONE_EN p) (b2n en)).setFld (SEQ_F_CTL_CLONE_SRC p) src)

/-- CMD_CLEAR_TRIP (R163, R177): refused while a reading of a tripped array stands at or above WARN. -/
def execCmdClearTrip (p : Fin 4) (s : State) : Out :=
  if !s.clocked then .next s else
  let trip := s.fld (SEQ_F_STAT_TRIP p)
  let hot := (List.range 3).any (fun a => bit trip a && (List.range 4).any (fun k =>
    bit ((s.port p).arr a).reported k && decide (sext (s.fld (SEQ_F_A_TLIM_WARN p a)) 16 ≤ sext (kget (fun _ => 0) ((s.port p).arr a).tempVal k) 16)))
  .next (if hot then s.setFld (SEQ_F_STAT_CMD_STATUS p) stPRECOND
    else if (s.port p).clearPend != 0 then s.setFld (SEQ_F_STAT_CMD_STATUS p) stBUSY
    else updPort p (fun x => { x with clearPend := trip }) (s.setFld (SEQ_F_STAT_CMD_STATUS p) stOK))

end Sys2Proof.Machine
end

