-- ==== Sys2Proof/Machine/Ldr.lean ====
section
/-! DEFINITION. Machine/Ldr.lean: strings, shunts, photodiode windows, the colour loop, fades, light-off, derating and diagnosis (R222 to
R262). -/

namespace Sys2Proof.Machine

/-! ### Places and parameters (R262) -/

def bankLoc (b : Nat) : Nat := 0x80400000 + b * 0x10000
def powerSlice : Nat := 0xA0400000

def ldrEvent (code sev loc arg : Nat) (s : State) : State := emit blkLDR code sev loc arg s

def scaleParam (n : Nat) : AParam :=
  { val := LDR_S_SCALE n, lo := LDR_S_SCALE_LO n, hi := LDR_S_SCALE_HI n, adp := LDR_S_SCALE_ADP n, block := blkLDR, loc := strLoc n, w := 16, signed := false }

def hystParam (n : Nat) : AParam :=
  { val := LDR_S_HYST n, lo := LDR_S_HYST_LO n, hi := LDR_S_HYST_HI n, adp := LDR_S_HYST_ADP n, block := blkLDR, loc := strLoc n, w := 16, signed := false }

def updStr (n : Nat) (f : StringRec → StringRec) (s : State) : State := s.setStr n (f (s.str n))
def updGrp (g : Nat) (f : GroupRec → GroupRec) (s : State) : State := s.setGrp g (f (s.grp g))

def strMode (s : State) (n : Nat) : Nat := s.fld (LDR_S_CTL_MODE n)
def strDark (s : State) (n : Nat) : Bool := s.flag (LDR_S_STAT_DARK n)
def strClosed (s : State) (n : Nat) : Bool := s.flag (LDR_S_STAT_SHUNT n)
def strTb (s : State) (n : Nat) : Nat := s.fld (LDR_S_CTL_TB n)
def allStrings : List Nat := List.range 24

/-- The first edge of the 5 ns LDR clock at or after a time in quanta (R231); its edges lie at multiples of 5 ns (DESIGN CHOICE, log entry
114). -/
def ldrEdge (q : Nat) : Nat := ceilDiv q 20 * 20

/-! ### On-time and the reference (R228, R254) -/

/-- Is it on-time: is the shunt open, with a reference above 0 (R254)? -/
def litOn (s : State) (n : Nat) : Bool := !strClosed s n && (s.str n).iref != 0

/-- Count the on-time, and the high-side time within it, up to a time in quanta (R254): done before anything it depends on changes. -/
def markOn (n at_ : Nat) (s : State) : State :=
  updStr n (fun r =>
    let d := if litOn s n then at_ - r.markAt else 0
    { r with onTime := r.onTime + d, hsTime := r.hsTime + (if r.hs then d else 0), markAt := max r.markAt at_ }) s

/-- The reference before its clamp (R228). -/
def irefRaw (t : Taken) (k : Nat) : Nat :=
  let a := t.lvl[k]?.getD 0
  if a = 0 || t.v = 0 then 0
  else if a ≤ t.ith then a
  else (2 * (t.ith * 2 ^ 47 + (a - t.ith) * t.scale * t.v * t.d) + 2 ^ 47) / 2 ^ 48

/-- Does a string's converter regulate: in PLANE or FREE mode, not held dark, and its outputs driven and powered (R226, R249, R508, R586)? -/
def converting (s : State) (n : Nat) : Bool := strMode s n != 0 && !strDark s n && s.driving && !(s.bank (n / 6)).vgdLow

/-! ### What is due at a string (R226, R231, R233) -/

/-- Is an action a gate's? -/
def StrAct.isGate : StrAct → Bool
  | .hs _ => true
  | .ls _ => true
  | _ => false

/-- Is an action a level's? -/
def StrAct.isLevel : StrAct → Bool
  | .level _ => true
  | _ => false

/-- Insert in order of time, after those of the same time. -/
def insAct (x : StrDue) : List StrDue → List StrDue
  | [] => [x]
  | y :: t => if x.at_ < y.at_ then x :: y :: t else y :: insAct x t

def addDue (n : Nat) (x : StrDue) (s : State) : State := updStr n (fun r => { r with due := insAct x r.due }) s

/-- Gates off at a time, what was due of them dropped, and no reference in force (R226, R249). The next period is no period of before. -/
def gatesOffAt (n at_ : Nat) (s : State) : State :=
  updStr n (fun r => { r with hs := false, ls := false, hsAt := if r.hs then at_ else r.hsAt, lsAt := if r.ls then at_ else r.lsAt, due := r.due.filter (fun d => !d.act.isGate), iref := 0, stepFrom := none, lastOn := none, refChanged := false }) (markOn n at_ s)

/-- The high side turns on (R226, R227): a switching period ends, and after 256 of them their mean is due. -/
def hsTurnsOn (at_ : Nat) (r : StringRec) : StringRec :=
  let r1 := { r with hs := true, hsAt := at_, lastOn := some at_, refChanged := false, overCnt := if r.overThis then r.overCnt else 0, overThis := false }
  match r.lastOn with
  | none => r1
  | some u =>
    let use := if r.refChanged then r.perUse else r.perUse + 1
    let sum := if r.refChanged then r.perSum else r.perSum + (at_ - u)
    if r.perCnt + 1 < 256 then { r1 with perCnt := r.perCnt + 1, perUse := use, perSum := sum }
    else { r1 with perCnt := 0, perUse := 0, perSum := 0, meanDue := some (use, sum) }

/-- A gate turns on or off (R226). -/
def gateAct (n at_ : Nat) (high on : Bool) (s : State) : State :=
  updStr n (fun r =>
    if high then (if on then hsTurnsOn at_ r else { r with hs := false, hsAt := at_ }) else { r with ls := on, lsAt := at_ }) (markOn n at_ s)

/-- The least time in quanta at which the high side may turn on again (R226): MIN_OFF after it turned off, DT_LH after the low side did, and
250 ns after it last turned on. -/
def hsEarliest (s : State) (n lsOff hsOff : Nat) : Nat :=
  max (max (hsOff + 5 * s.fld (LDR_S_TMIN_MIN_OFF n)) (lsOff + s.fld (LDR_S_SW_DT_LH n))) (((s.str n).lastOn.map (fun u => u + 1000)).getD 0)

/-- A converter that stands still starts with its high side, as soon as R226 lets it. -/
def kick (n at_ : Nat) (s : State) : State :=
  let r := s.str n
  if r.hs || r.ls || r.due.any (fun d => d.act.isGate) then s
  else
    let t := hsEarliest s n r.lsAt r.hsAt
    if t ≤ at_ then gateAct n at_ true true s else addDue n { at_ := t, act := .hs true } s

/-- A reference reduced by IMAX sets CLAMPED, and CLAMP_CNT once per update point (R228). -/
def clampMark (n : Nat) (s : State) : State :=
  let s1 := updStr n (fun r => { r with clamped := true }) s
  if s.flag (LDR_S_STAT_CLAMPED n) then s1 else (s1.setFld (LDR_S_STAT_CLAMPED n) 1).bump (LDR_S_CLAMP_CNT n)

/-- Put the reference of the level in force into effect at a time (R226, R228, R232): a change starts a step; with none both gates are off. -/
def setIrefAt (n at_ : Nat) (s : State) : State :=
  let r := s.str n
  let raw := irefRaw r.taken r.lvl
  let i := if converting s n then min raw r.taken.imax else 0
  let s1 := if r.taken.imax < raw && strMode s n != 0 then clampMark n s else s
  if i = r.iref then s1
  else if i = 0 then calBreak 4 at_ (fun p => strMode s n != 0 && s.fld (LDR_S_CTL_SPORT n) == p) (gatesOffAt n at_ s1)
  else calBreak 6 at_ (fun k => k == n) <| kick n at_ (updStr n (fun x => { x with iref := i, stepFrom := some at_, refChanged := true }) (markOn n at_ s1))

/-- The same, now. -/
def setIref (n : Nat) (s : State) : State := setIrefAt n (4 * s.now) s

/-! ### The shunt (R233) -/

/-- Mark the photodiode windows that a shunt open up to a time, or from then on, meets (R240). -/
def markLit (at_ : Nat) (closing : Bool) (s : State) : State :=
  [0, 1, 2, 3, 4, 5, 6, 7].foldl (fun t i =>
    match (t.pd i).win with
    | some w => if !closing || decide (w.openAt < at_) then t.setPd i { t.pd i with win := some { w with lit := true } } else t
    | none => t) s

/-- Move a string's shunt; the land's edge falls at `at_` quanta (R233). A closing ends a lit interval: IMEAS takes its mean current, a
measured value (free, log entry 4). While VGD is low the power die keeps the shunt closed (R586). -/
def moveShunt (n : Nat) (closed : Bool) (at_ : Nat) (s : State) : State :=
  if strClosed s n = closed || (!closed && (s.bank (n / 6)).vgdLow) then s
  else
    let s0 := markOn n at_ s
    let s1 := { s0.setFld (LDR_S_STAT_SHUNT n) (b2n closed) with shdEdges := s.shdEdges ++ [⟨n, closed, at_⟩] }
    if closed then
      let f := s1.takeFree
      markLit at_ true (f.2.wrN (LDR_S_IMEAS n) (f.1.toNat % 2 ^ 20))
    else calBreak 5 at_ (fun _ => strMode s n != 0) (calBreak 1 at_ (fun i => i == n) (markLit at_ false (updStr n (fun r => { r with litAt := at_ }) s1)))

/-- The latch that began the present frame of a string's SPORT (R232). -/
def sportFrame (s : State) (n : Nat) : Option Nat := (s.port (s.fld (LDR_S_CTL_SPORT n))).lastLatch

/-- A step still unfinished when the shunt opens is late (R232): reported once per frame of SPORT. -/
def stepLate (n at_ : Nat) (s : State) : State :=
  match (s.str n).stepFrom with
  | none => s
  | some t =>
    let f := sportFrame s n
    let s1 := s.bump (LDR_S_STEP_LATE_CNT n)
    if (s.str n).lateFrames.contains f then s1
    else ldrEvent 8 svWARNING (strLoc n) (min ((at_ - t) / 4) 65535) (updStr n (fun r => { r with lateFrames := (r.lateFrames ++ [f]).drop (r.lateFrames.length - 3) }) s1)

/-- A shunt edge reaches its land (R233, R249, R251). -/
def shuntAct (n at_ : Nat) (closed free : Bool) (s : State) : State :=
  if strMode s n = 0 then s
  else if strDark s n && (free || !closed) then s.bump (LDR_S_SAFE_IGN_CNT n)
  else if closed then moveShunt n true at_ s
  else if !strClosed s n || !s.driving then s
  else moveShunt n false at_ (stepLate n at_ s)

/-- The strings of a mask from a first string on. -/
def maskStrings (first cnt mask : Nat) : List Nat := ((List.range cnt).filter (fun i => bit mask i)).map (fun i => first + i)

/-- Does a pin's effect pass through a STALE instance (R564, R92)? Timebase n, action, target and argument. -/
def pinStale (s : State) (n action target arg : Nat) : Bool :=
  let src := s.fld (PHS_TB_SRC_SEL n)
  let shut := [0, 1, 2, 3].any (fun w => s.fld (PHS_CW_CTL_TB w) == n && s.flag (PHS_CW_CTL_SHUT_EN w) && calStale s 8 (8 + s.fld (PHS_CW_CTL_SHUT_SEL w)))
  let glk := shut || (match s.fld (PHS_TB_SRC_TYPE n) with
    | 1 => calStale s 8 (src % 4) || (s.rdN (PHS_TB_SUBDIV n) != 0 && calStale s 8 (4 + src % 4))
    | 5 => decide (src < 16) && calStale s 8 (src % 4)
    | _ => false)
  glk || (if action = 5 then (maskStrings 0 24 (arg % 2 ^ 24)).any (fun x => calStale s 1 x)
    else if action = 6 then calStale s 2 (target % 8) || calStale s 5 (target % 8 * 6 + bits arg 24 3) else false)

/-- The time-stamp of a pin that is generated on die (R92, R235, R256), where STAMP_ALL is set: it has no index and no bank, so these are free
(log entry 4). -/
def stampDie (n action arg placed : Nat) (s : State) : State :=
  if !s.flag (PHS_TB_CTL_STAMP_ALL n) then s
  else
    let f := s.takeFree
    let d : Int := ((placed : Int) - ((4 * s.now : Nat) : Int)) * (s.incEff n : Int)
    stampPin n { pin := { action := action }, index := f.1.toNat % 65536, bank := f.1.toNat / 65536 % 2, placed := placed, late := false, due := 0, stale := pinStale s n action 0 arg } (countAfter s n (cyclesTo s n (d.fdiv 4))) f.2

/-- A probe is over (R255, R256). -/
def endProbe (n : Nat) (s : State) : State := (updStr n (fun r => { r with probeAt := none, probeRun := none, probeTried := 0, probeGap := 0 }) s).setFld (LDR_S_DIAG_PROBE_PEND n) 0

/-- One due action takes place; with the final pin of a probe it is over. A probe's level shows in LVL_IDX unless a later pin's stands there. -/
def dueAct (n : Nat) (d : StrDue) (s0 : State) : State :=
  let s := match d.probe with
    | some p => stampDie (strTb s0 n) (match d.act with | .level _ => (if n < 16 then 3 else 4) | _ => 5) (2 ^ n) p s0
    | none => s0
  let t := match d.act with
    | .level k =>
      if d.probe.isSome && strDark s n then s
      else setIrefAt n d.at_ (updStr n (fun r => { r with lvl := k }) (if d.probe.isSome && !(s0.str n).due.any (fun x => x.probe.isNone && x.act.isLevel) then s.setFld (LDR_S_STAT_LVL_IDX n) k else s))
    | .shunt c f => shuntAct n d.at_ c f s
    | .hs on => gateAct n d.at_ true on s
    | .ls on => gateAct n d.at_ false on s
  if d.probe.isSome && d.probe == (s0.str n).probeRun then endProbe n t else t

/-- The actions that are due by now take place, oldest first. -/
def runDue (n : Nat) : Nat → State → State
  | 0, s => s
  | k + 1, s =>
    match (s.str n).due with
    | [] => s
    | d :: t => if 4 * s.now < d.at_ then s else runDue n k (dueAct n d (updStr n (fun r => { r with due := t }) s))

/-- A string stands as it does now: everything due has taken place. A level may start a converter, so each action counts twice. -/
def settleStr (n : Nat) (s : State) : State := runDue n (2 * (s.str n).due.length) s

/-- Every string stands as it does now. -/
def settleStrings (s : State) : State := allStrings.foldl (fun t n => settleStr n t) s

/-- The shunt of a string closes and its gates turn off now, whatever is due (R509, R586, R589). -/
def stringSafe (n : Nat) (s0 : State) : State :=
  let s := settleStr n s0
  gatesOffAt n (4 * s.now) (moveShunt n true (4 * s.now) s)

/-! ### Light-off (R249 to R251) -/

/-- SCALE_ADP.OVR follows darkness and derating (R251, R253). -/
def refreshOvr (n : Nat) (s : State) : State := setOvr (LDR_S_SCALE_ADP n) (strDark s n || s.flag (LDR_S_STAT_DERATED n)) s

/-- Causes, as bits of STAT.CAUSE (R258). -/
def cINTLK : Nat := 1
def cOC : Nat := 2
def cOPEN : Nat := 4
def cTHERM : Nat := 8
def cFTRIP : Nat := 16

/-- Does a string have a cause? -/
def hasCause (s : State) (n c : Nat) : Bool := s.fld (LDR_S_STAT_CAUSE n) / c % 2 == 1

/-- The shunt closes and the gates turn off as a string is held dark (R249). -/
def goDark (n : Nat) (s : State) : State :=
  refreshOvr n (updStr n (fun r => { r with overCnt := 0, overThis := false })
    (gatesOffAt n (4 * s.now) (moveShunt n true (4 * s.now) (s.setFld (LDR_S_STAT_DARK n) 1))))

/-- A cause sets for a string: it is held dark (R249). -/
def darken (n c : Nat) (s0 : State) : State :=
  let s := settleStr n s0
  if hasCause s n c then s
  else goDark n (s.setFld (LDR_S_STAT_CAUSE n) (s.fld (LDR_S_STAT_CAUSE n) + c))

/-- Hold a string dark under a shutdown class, with no cause of its own (R249, R545). -/
def shutdownDark (n : Nat) (s : State) : State := goDark n (settleStr n s)

/-- A cause clears for a string; with its last cause the string works again, dark until its next opening, its converter restarting at the
reference of its level (R252). Latched shutdown overrides (R249). -/
def clearCause (n c : Nat) (s0 : State) : State :=
  let s := settleStr n s0
  if !hasCause s n c then s
  else
    let v := s.fld (LDR_S_STAT_CAUSE n) - c
    let s1 := s.setFld (LDR_S_STAT_CAUSE n) v
    if v = 0 && !s.flag HKP_STAT_LATCHED then refreshOvr n (setIref n (updStr n (fun r => { r with waitPeriod := true }) (s1.setFld (LDR_S_STAT_DARK n) 0))) else s1

/-- Interlock input i reads low (R249, R250): INTLK sets on every string. -/
def interlockOpen (i : Nat) (s : State) : State :=
  let lv := s.fld LDR_INTLK_STAT_LEVEL
  let la := s.fld LDR_INTLK_STAT_LATCHED
  if !bit lv i && bit la i then s
  else
    let lv' := if bit lv i then lv - 2 ^ i else lv
    let s1 := (s.setFld LDR_INTLK_STAT_LEVEL lv').setFld LDR_INTLK_STAT_LATCHED (if bit la i then la else la + 2 ^ i)
    ldrEvent 1 svSAFETY (0x604A0000 + i * 0x800) (15 - lv') (allStrings.foldl (fun t n => darken n cINTLK t) s1)

/-- The inputs are always active (R250): one that reads low, as each does from reset until it is found healthy, has set INTLK. -/
def senseInterlocks (s : State) : State :=
  if !s.mainOn then s
  else [0, 1, 2, 3].foldl (fun t i => if bit (t.fld LDR_INTLK_STAT_LEVEL) i then t else interlockOpen i t) s

/-- The light drive stands as it does now. -/
def settleLight (s : State) : State := settleStrings (senseInterlocks s)

/-! ### Modes (R223, R225) -/

/-- MODE becomes OFF: the shunt closes, then the gates turn off (R223). -/
def stringOff (n : Nat) (s0 : State) : State :=
  let s := settleStr n s0
  let s1 := gatesOffAt n (4 * s.now) (moveShunt n true (4 * s.now) s)
  ((updStr n (fun r => { r with overCnt := 0, overThis := false, due := [], evald := none, probeRun := none, probeAt := none }) (s1.setFld (LDR_S_CTL_MODE n) 0)).setFld (LDR_S_STAT_TB_OFF n) 0 |>.setFld (LDR_S_DIAG_PROBE_PEND n) 0).setFld (LDR_S_STAT_CMD_STATUS n) stOK

/-- STRING_MODE_OFF (R223). -/
def execStringModeOff (n : Fin 24) (s : State) : Out :=
  if !s.clocked then .next s else
  .next (stringOff n (senseInterlocks s))

/-- Do the electrical settings refuse a mode (R223)? -/
def modeRefused (s : State) (n : Nat) : Bool :=
  let rs := s.rdN (LDR_S_RSNS n) % 2 ^ 20
  let imax := s.rdN (LDR_S_IMAX n) % 2 ^ 20
  let ilim := s.rdN (LDR_S_ILIM n) % 2 ^ 20
  decide (rs < 500) || imax == 0 || decide (ilim < imax) || decide (2400000000 < ilim * rs)

/-- REP as it acts (R258). -/
def freeRepOf (s : State) (n : Nat) : Nat := if s.fld (LDR_S_FREE_REP n) = 0 then 16 else s.fld (LDR_S_FREE_REP n)

/-- Do the free-mode settings refuse FREE (R235)? -/
def freeRefused (s : State) (n : Nat) : Bool :=
  let b := s.fld (LDR_S_FREE_BITS n)
  decide (b < 6) || decide (12 < b) || decide (2 ^ 56 < 500 * freeRepOf s n * 2 ^ b * s.incBase (strTb s n))

/-- A string starts from OFF in a mode: zero current, shunt closed, level 0 (R223). -/
def startMode (n m : Nat) (s : State) : State :=
  let s1 := (((s.setFld (LDR_S_CTL_MODE n) m).setFld (LDR_S_STAT_LVL_IDX n) 0).setFld (LDR_S_STAT_CMD_STATUS n) stOK).setFld (LDR_S_STAT_TB_OFF n) (b2n (!s.tbOn (strTb s n)))
  setIref n (updStr n (fun r => { r with lvl := 0, waitPeriod := true, freeSlot := none, freeBits := s.fld (LDR_S_FREE_BITS n), freeRep := freeRepOf s n }) s1)

/-- A write of MODE (R223). One that names the mode in which the string is changes nothing. -/
def stringMode (n m : Nat) (s0 : State) : State :=
  let s := settleStr n s0
  if strMode s n = m then s.setFld (LDR_S_STAT_CMD_STATUS n) stOK
  else if strMode s n != 0 || modeRefused s n || (m = 2 && freeRefused s n) then s.setFld (LDR_S_STAT_CMD_STATUS n) stPRECOND
  else startMode n m s

/-- STRING_MODE_PLANE (R223). -/
def execStringModePlane (n : Fin 24) (s : State) : Out :=
  if !s.clocked then .next s else
  .next (stringMode n 1 (senseInterlocks s))

/-- STRING_MODE_FREE (R223, R235). -/
def execStringModeFree (n : Fin 24) (s : State) : Out :=
  if !s.clocked then .next s else
  .next (stringMode n 2 (senseInterlocks s))

/-- The timebase of a string stops or is OFF (R225): in PLANE or FREE mode its shunt closes, and its reference becomes that of level 0. What
pins had asked for and has not happened yet does not happen; a probe that runs ends (DESIGN CHOICE, log entry 114). -/
def stringTbOff (n : Nat) (s0 : State) : State :=
  let s := settleStr n s0
  if strMode s n = 0 then s
  else
    let s1 := updStr n (fun r => { r with lvl := 0, evald := none, due := r.due.filter (fun d => d.act.isGate), probeRun := none, probeAt := if r.probeRun.isSome then none else r.probeAt }) (moveShunt n true (4 * s.now) s)
    let s2 := if (s.str n).probeRun.isSome then s1.setFld (LDR_S_DIAG_PROBE_PEND n) 0 else s1
    setIref n ((s2.setFld (LDR_S_STAT_LVL_IDX n) 0).setFld (LDR_S_STAT_TB_OFF n) 1)

/-- The timebase of a string runs again (R225). -/
def stringTbOn (n : Nat) (s : State) : State :=
  updStr n (fun r => { r with waitPeriod := true, freeSlot := none }) (s.setFld (LDR_S_STAT_TB_OFF n) 0)

/-! ### The band controller (R226, R227, R232, R249) -/

/-- The thresholds, as 12-bit codes of 120 mV / 4,096 of sense voltage (R226): I_ref − HYST/2, not below 0, and I_ref + HYST/2, each rounded to
the nearest step for RSNS, halves upward, and held to 12 bits (log entry 114). -/
def bandCodes (s : State) (n : Nat) : Nat × Nat :=
  let r := s.rdN (LDR_S_RSNS n) % 2 ^ 20
  let h := s.rdN (LDR_S_HYST n) % 65536
  let i := 2 * (s.str n).iref
  let code := fun x : Nat => min ((2 * (x * r) + 1171875) / (2 * 1171875)) 4095
  (code (i - h), code (i + h))

/-- A step that was unfinished ends now: STEP_MAX holds the longest (R232). -/
def endStep (n : Nat) (s : State) : State :=
  match (s.str n).stepFrom with
  | some t => (updStr n (fun r => { r with stepFrom := none }) s).wrN (LDR_S_STEP_MAX n) (max (s.rdN (LDR_S_STEP_MAX n)) (min ((4 * s.now - t) / 4) 65535))
  | none => s

/-- The high side is to turn off, at the earliest MIN_ON after it turned on, and the low side to turn on DT_HL later and MIN_OFF after it
turned off (R226). -/
def turnDown (n : Nat) (s : State) : State :=
  let r := s.str n
  let off := max (4 * s.now) (r.hsAt + 5 * s.fld (LDR_S_TMIN_MIN_ON n))
  let on := max (off + s.fld (LDR_S_SW_DT_HL n)) (r.lsAt + 5 * s.fld (LDR_S_TMIN_MIN_OFF n))
  settleStr n (addDue n { at_ := on, act := .ls true } (addDue n { at_ := off, act := .hs false } s))

/-- The low side is to turn off, at the earliest MIN_ON after it turned on, and the high side to turn on as soon as it may (R226). -/
def turnUp (n : Nat) (s : State) : State :=
  let r := s.str n
  let off := max (4 * s.now) (r.lsAt + 5 * s.fld (LDR_S_TMIN_MIN_ON n))
  settleStr n (addDue n { at_ := max off (hsEarliest s n off r.hsAt), act := .hs true } (addDue n { at_ := off, act := .ls false } s))

/-- BAND_THRESHOLD (R226, R232): after dt ns the sensed current reads `code`, in steps of 120 mV / 4,096: within the band it ends a step, at its
upper threshold it turns the high side off, at its lower one the low side. -/
def execBandThreshold (n : Fin 24) (dt : Nat) (code : BitVec 12) (s0 : State) : Out :=
  if !s0.clocked then .next (passTime dt s0) else
  let s := settleStr n (senseInterlocks (passTime dt s0))
  let r := s.str n
  let c := bandCodes s n
  let s1 := if decide (c.1 ≤ code.toNat) && decide (code.toNat ≤ c.2) then endStep n s else s
  .next (if r.iref = 0 || r.due.any (fun d => d.act.isGate) then (if r.iref = 0 then s else s1)
    else if r.hs && decide (c.2 ≤ code.toNat) then turnDown n s1
    else if r.ls && decide (code.toNat ≤ c.1) then turnUp n s1
    else s1)

/-- HYST_ADAPT (R227): after every 256 switching periods, by the mean of those in which the reference stood. -/
def execHystAdapt (n : Fin 24) (s0 : State) : Out :=
  if !s0.clocked then .next s0 else
  let s := settleStr n s0
  .next (match (s.str n).meanDue with
    | none => s
    | some (use, sum) =>
      let s1 := updStr n (fun r => { r with meanDue := none }) s
      let h := s.rdN (LDR_S_HYST n) % 65536
      let d := max 1 (h / 64)
      -- the mean frequency in 10 kHz units is use × 400,000 / sum, sum in quanta
      let f := use * 400000 * 100
      let target := s.fld (LDR_S_SW_FSW n) * sum
      if use = 0 then s1
      else if target * 103 < f then adaptStep (hystParam n) ((h + d : Nat) : Int) s1
      else if f < target * 97 then adaptStep (hystParam n) ((h : Int) - d) s1 else s1)

/-- STRING_OVERCURRENT (R249): the current reads `i`, in units of 50 µA. Above 1.25 × ILIM, or above ILIM in OC_N consecutive periods, OC sets;
below that count the high side is off for the rest of the period. -/
def execStringOvercurrent (n : Fin 24) (i : BitVec 22) (s0 : State) : Out :=
  if !s0.clocked then .next s0 else
  let s := settleStr n (senseInterlocks s0)
  let r := s.str n
  let ilim := s.rdN (LDR_S_ILIM n) % 2 ^ 20
  if strMode s n = 0 || strDark s n || decide (i.toNat ≤ ilim) then .next s
  else
    let cnt := if r.overThis then r.overCnt else r.overCnt + 1
    if decide (5 * ilim < 4 * i.toNat) || decide (max 1 (s.fld (LDR_S_PROT_OC_N n)) ≤ cnt) then
      .next (ldrEvent 2 svSAFETY (strLoc n) ilim (darken n cOC s))
    else
      let s1 := updStr n (fun x => { x with overCnt := cnt, overThis := true }) s
      if r.hs then
        let s2 := gateAct n (4 * s.now) true false (updStr n (fun x => { x with due := x.due.filter (fun d => !d.act.isGate) }) s1)
        .next (settleStr n (addDue n { at_ := max (4 * s.now + s.fld (LDR_S_SW_DT_HL n)) (r.lsAt + 5 * s.fld (LDR_S_TMIN_MIN_OFF n)), act := .ls true } s2))
      else .next s1

/-- STRING_OPEN (R249): time passes until the high side has stayed on for OPEN_NS with the shunt open. -/
def execStringOpen (n : Fin 24) (s0 : State) : Out :=
  if !s0.clocked then .next s0 else
  let s := settleStr n (senseInterlocks s0)
  let r := s.str n
  let end_ := max r.hsAt r.litAt + 4 * s.fld (LDR_S_PROT_OPEN_NS n)
  if !r.hs || !litOn s n then .next s
  else
    let t := settleStr n (passTime (ceilDiv (end_ - 4 * s.now) 4) s)
    let x := t.str n
    if !x.hs || x.hsAt != r.hsAt || !litOn t n || x.litAt != r.litAt then .next t
    else .next (ldrEvent 3 svSAFETY (strLoc n) (t.fld (LDR_S_PROT_OPEN_NS n)) (darken n cOPEN (updStr n (fun y => { y with openSeen := true }) t)))

/-! ### Level and shunt pins (R231 to R233, R251, R256) -/

/-- A requested probe counts as dropped (R256). -/
def probeMiss (n : Nat) (s : State) : State :=
  let s1 := (endProbe n s).bump (LDR_S_PROBE_MISS_CNT n)
  ldrEvent 10 svWARNING (strLoc n) (s1.rdN (LDR_S_PROBE_MISS_CNT n)) s1

/-- A bank pin touches a string inside a placed probe (R256): the probe ends, its shunt edge still to come is the closing one, with the pin's
own (DESIGN CHOICE, log entry 114), and its level is not restored. -/
def cutProbe (x : Nat) (d : Placed) (s : State) : State :=
  match (s.str x).probeRun with
  | none => s
  | some e =>
    if d.posted || decide (e < d.placed) then s
    else
      let s1 := updStr x (fun r => { r with due := r.due.filter (fun y => y.probe.isNone) }) s
      probeMiss x (addDue x { at_ := d.placed + 40, act := .shunt true false } s1)

/-- Strings in a mask that are bound to timebase n. -/
def boundHere (s : State) (n : Nat) (xs : List Nat) : List Nat := xs.filter (fun x => strTb s x == n)

/-- Does a timebase's source make it a SCANNER timebase (R95)? -/
def isScanner (s : State) (n : Nat) : Bool := s.fld (PHS_TB_SRC_TYPE n) == 5

/-- A pin of timebase n that names a string bound elsewhere (R74), or on a SCANNER timebase one in plane mode (R95), counts once. -/
def missOnce (n : Nat) (xs : List Nat) (s : State) : State :=
  if xs.any (fun x => strTb s x != n || (isScanner s n && strMode s x == 1)) then bindMiss n s else s

/-- The strings that a pin reaches (R74, R95). -/
def pinReaches (s : State) (n : Nat) (xs : List Nat) : List Nat := (boundHere s n xs).filter (fun x => !(isScanner s n && strMode s x == 1))

/-- One string's part of a LEVEL pin: its index, and its reference from the first LDR edge at or after 10 ns (R231). -/
def level1 (x k : Nat) (d : Placed) (s : State) : State :=
  if strMode s x != 1 then s.bump (LDR_S_MODE_IGN_CNT x)
  else addDue x { at_ := ldrEdge (d.placed + 40), act := .level k } ((cutProbe x d s).setFld (LDR_S_STAT_LVL_IDX x) k)

/-- LEVEL pins (R231): the strings of a mask from `first` on. -/
def levelPin (n first cnt : Nat) (d : Placed) (s0 : State) : State :=
  let s := settleLight s0
  let xs := maskStrings first cnt d.pin.target
  settleStrings ((pinReaches s n xs).foldl (fun t x => level1 x (bits d.pin.arg (4 * (x - first)) 4) d t) (missOnce n xs s))

/-- LEVEL_LO (R231): the next pin of timebase n sets levels of strings 0 to 15. -/
def execLevelLo (n : Fin 4) (s : State) : Out :=
  .next (match fire n 3 s with
    | (some d, s1) => levelPin n 0 16 d s1
    | (none, s1) => s1)

/-- LEVEL_HI (R231): the next pin of timebase n sets levels of strings 16 to 23. -/
def execLevelHi (n : Fin 4) (s : State) : Out :=
  .next (match fire n 4 s with
    | (some d, s1) => levelPin n 16 8 d s1
    | (none, s1) => s1)

/-- One string's part of a SHUNT pin: its edge comes 10.00 ns after the placed time (R231, R233). -/
def shunt1 (x : Nat) (closed : Bool) (d : Placed) (s : State) : State :=
  if strMode s x != 1 then s.bump (LDR_S_MODE_IGN_CNT x)
  else addDue x { at_ := d.placed + 40, act := .shunt closed false } (cutProbe x d s)

/-- SHUNT (R233): the next pin of timebase n opens or closes shunts. -/
def execShunt (n : Fin 4) (s : State) : Out :=
  .next (match fire n 5 s with
    | (some d, s1) =>
      let s2 := settleLight s1
      let xs := maskStrings 0 24 d.pin.arg
      settleStrings ((pinReaches s2 n xs).foldl (fun t x => shunt1 x (bit d.pin.arg (24 + x)) d t) (missOnce n xs s2))
    | (none, s1) => s1)

/-! ### Fades (R247, R248) -/

/-- The level a fade gives at a show time, and whether it has come to its end (R247). -/
def fadeV (f : Fade) (t : Nat) : Nat × Bool :=
  let den := f.ms * 1000000
  if den = 0 || f.start + den ≤ t then (f.v1, true)
  else if t ≤ f.start then (f.v0, false)
  else
    let u := t - f.start
    let diff : Int := (f.v1 : Int) - (f.v0 : Int)
    let num : Int := if f.curve then diff * ((3 * u * u * den - 2 * u * u * u : Nat) : Int) else diff * (u : Int)
    let d : Int := if f.curve then ((den * den * den : Nat) : Int) else (den : Int)
    (((f.v0 : Int) + rndDiv num d).toNat, false)

/-- V of a group at a show time: from its fade, as last applied where a fade was cancelled, or as written (R228, R247, R248). -/
def groupV (s : State) (g t : Nat) : Nat :=
  match (s.grp g).fade with
  | some f => (fadeV f t).1
  | none => if (s.grp g).vHold then (s.grp g).vApp else (s.grp g).vCur

/-- FADE_GO (R247, R248). -/
def execFadeGo (g : Fin 8) (curve : Bool) (s : State) : Out :=
  if !s.clocked then .next s else
  let v1 := min (s.rdN (LDR_G_FADE_V1 g) % 2 ^ 17) 0x10000
  .next ((updGrp g (fun r => { r with fade := some { v0 := r.vApp, v1 := v1, ms := s.rdN (LDR_G_FADE_MS g), curve := curve, start := s.showTime }, vHold := false })
    (s.setFld (LDR_G_FADE_STAT_ACTIVE g) 1)).setFld (LDR_G_FADE_STAT_CMD_STATUS g) stOK)

/-- FADE_CANCEL (R248): V keeps the value last applied, and at a point evaluated already takes what that evaluation gave. -/
def execFadeCancel (g : Fin 8) (s : State) : Out :=
  if !s.clocked then .next s else
  .next (if (s.grp g).fade.isSome then
    ((updGrp g (fun r => { r with fade := none, vHold := true }) s).setFld (LDR_G_FADE_STAT_ACTIVE g) 0).setFld (LDR_G_FADE_STAT_CMD_STATUS g) stOK
  else s.setFld (LDR_G_FADE_STAT_CMD_STATUS g) stNOTHING)

/-- GROUP_V_WRITE (R248). -/
def execGroupVWrite (g : Fin 8) (v : BitVec 32) (s : State) : Out :=
  if !s.clocked then .next s else
  let x := v.toNat % 2 ^ 17
  .next ((updGrp g (fun r => { r with fade := none, vHold := false, vCur := min x 0x10000 }) (s.wrN (LDR_G_V g) x)).setFld (LDR_G_FADE_STAT_ACTIVE g) 0)

/-! ### Derating (R253) -/

/-- The six strings of a bank. -/
def bankStrings (b : Nat) : List Nat := (List.range 6).map (fun k => 6 * b + k)

/-- D of a bank changes: DERATED, OVR and DERATE follow (R253). -/
def setD (b d : Nat) (s : State) : State :=
  let was := s.rdN (LDR_BANK_D b) % 2 ^ 17
  if d = was then s
  else
    let s1 := s.wrN (LDR_BANK_D b) d
    let s2 := (bankStrings b).foldl (fun t n => refreshOvr n (t.setFld (LDR_S_STAT_DERATED n) (b2n (decide (d < 0x10000))))) s1
    if d < 0x10000 && was = 0x10000 then ldrEvent 6 svWARNING (bankLoc b) (d + ofInt ((s.bank b).temp.getD 0) 8 * 2 ^ 24) s2
    else s2

/-- The factor that a bank's next update point brings: the lowest fall not yet taken, or D as it stands (R253). -/
def bankD (s : State) (b : Nat) : Nat := (s.bank b).falls.foldl (fun m f => min m f.1) (s.rdN (LDR_BANK_D b) % 2 ^ 17)

/-- The target factor at a temperature (R253). -/
def derateTarget (s : State) (b : Nat) (t : Int) : Nat :=
  let a : Int := (s.fld (LDR_BANK_TLIM_T_START b) : Nat)
  let f : Int := (s.fld (LDR_BANK_TLIM_T_FULL b) : Nat)
  let dm := min (s.rdN (LDR_BANK_DMIN b) % 2 ^ 17) 0x10000
  if t < a then 0x10000
  else if f ≤ t then dm
  else ((0x10000 : Int) - rndDiv (((0x10000 - dm : Nat) : Int) * (t - a)) (f - a)).toNat

/-- A bank is tripped: THERM sets on its strings (R249). -/
def thermTrip (b : Nat) (invalid : Bool) (t : Int) (s : State) : State :=
  let new := (bankStrings b).any (fun n => !hasCause s n cTHERM)
  let s1 := (bankStrings b).foldl (fun u n => darken n cTHERM u) s
  if new then ldrEvent 4 svSAFETY (bankLoc b) (ofInt t 8 + b2n invalid * 256) s1 else s1

/-- A bank's derating at a housekeeping round (R253): `t` is the temperature of its source, none where the source is invalid. A fall waits for
update points, or 50 ms; a rise goes by at most 1/1,024 a round. -/
def derateRound (b : Nat) (t : Option Int) (s : State) : State :=
  if s.fld ⟨LDR_BANK_TSRC b, 0, 5⟩ = 31 then setD b 0x10000 (s.setBank b { s.bank b with falls := [], temp := none })
  else match t with
    | none => thermTrip b true 0 (s.setBank b { s.bank b with temp := none })
    | some x =>
      let target := derateTarget s b x
      let d := s.rdN (LDR_BANK_D b) % 2 ^ 17
      let s1 :=
        if target < bankD s b then s.setBank b { s.bank b with temp := some x, falls := (s.bank b).falls ++ [(target, s.now)] }
        else
          let up := if d < target then min target (d + 64) else d
          setD b up (s.setBank b { s.bank b with temp := some x, falls := (s.bank b).falls.map (fun f => (max f.1 (min target up), f.2)) })
      if (s.fld (LDR_BANK_TLIM_T_TRIP b) : Nat) ≤ x then thermTrip b false x s1 else s1

/-- A string takes a lower D at once, unless its timebase is OFF (R225, R253). -/
def forceD (n d : Nat) (s : State) : State :=
  if s.flag (LDR_S_STAT_TB_OFF n) || decide ((s.str n).taken.d ≤ d) then s
  else setIref n (updStr n (fun r => { r with taken := { r.taken with d := d } }) (settleStr n s))

/-- DERATE_FALL_TIMEOUT (R253): time passes to 50 ms after the round that required the oldest fall, which takes effect where no update point
brought it. -/
def execDerateFallTimeout (b : Fin 4) (s0 : State) : Out :=
  if !s0.clocked then .next s0 else
  .next (match (s0.bank b).falls with
    | [] => s0
    | f :: rest =>
      let s := passTime (f.2 + 50000000 - s0.now) s0
      (bankStrings b).foldl (fun t n => forceD n f.1 t) (setD b (min f.1 (s.rdN (LDR_BANK_D b) % 2 ^ 17)) (s.setBank b { s.bank b with falls := rest })))

/-! ### Update points (R228, R229, R232) -/

/-- The values that string n will take at an update point of show time t (R229). -/
def evalTaken (s : State) (n t : Nat) : Taken :=
  { lvl := (List.range 16).map (fun k => s.rdN (LDR_S_LVL n k) % 2 ^ 20), ith := s.rdN (LDR_S_ITH n) % 2 ^ 20, imax := s.rdN (LDR_S_IMAX n) % 2 ^ 20, scale := s.rdN (LDR_S_SCALE n) % 2 ^ 16, v := if s.flag (LDR_S_CTL_GRP_EN n) then groupV s (s.fld (LDR_S_CTL_GROUP n)) t else 0x10000, d := bankD s (n / 6) }

/-- String n takes at a time in quanta what was evaluated for this update point (R229); a fall of D takes effect with it (R253), and an LED
string's THERM cause is released below T_START (R249). -/
def applyUpdate (n at_ : Nat) (s0 : State) : State :=
  let s := settleStr n s0
  let b := n / 6
  let t0 := (s.str n).evald.getD (evalTaken s n (showAtQ s at_))
  let t := { t0 with d := min t0.d (bankD s b) }
  let s1 := if (s.bank b).falls.isEmpty then s else setD b (bankD s b) s
  let s2 := setIrefAt n at_ ((updStr n (fun r => { r with taken := t, evald := none }) s1).setFld (LDR_S_STAT_CLAMPED n) 0)
  let s3 := if s.flag (LDR_S_CTL_GRP_EN n) then updGrp (s.fld (LDR_S_CTL_GROUP n)) (fun g => { g with vApp := t.v }) s2 else s2
  let cool := match (s.bank b).temp with
    | some x => decide (x < (s.fld (LDR_BANK_TLIM_T_START b) : Nat))
    | none => false
  if s.flag (LDR_S_CTL_KIND n) && cool then clearCause n cTHERM s3 else s3

/-- The strings whose update points are a port's latches (R229): PLANE strings whose timebase runs. -/
def latchStrings (s : State) (p : Nat) : List Nat :=
  allStrings.filter (fun n => strMode s n == 1 && s.fld (LDR_S_CTL_SPORT n) == p && s.tbOn (strTb s n))

/-- The groups whose PORT a port is (R259). -/
def groupsOf (s : State) (p : Nat) : List Nat := (List.range 8).filter (fun g => s.fld (LDR_G_CTL_PORT g) == p)

/-! ### The colour loop (R242 to R246) -/

/-- The members of a group (R242). -/
def members (s : State) (g : Nat) : List Nat :=
  allStrings.filter (fun n => s.flag (LDR_S_CTL_GRP_EN n) && s.fld (LDR_S_CTL_GROUP n) == g)

/-- The latches that began the present frames, port by port. -/
def latchesNow (s : State) : List (Option Nat) := [0, 1, 2, 3].map (fun p => (s.port p).lastLatch)

/-- Did a failure of facet words taint the frame of the group's PORT in which a window opened (R151)? -/
def frameTaint (s : State) (g : Nat) (fs : List (Option Nat)) : Bool :=
  let p := s.fld (LDR_G_CTL_PORT g)
  (s.port p).taints.contains (fs[p]?.getD none)

/-- Was a step of a member late in the frame of its SPORT in which a window opened (R232)? -/
def frameLate (s : State) (g : Nat) (fs : List (Option Nat)) : Bool :=
  (members s g).any (fun n => (s.str n).lateFrames.contains (fs[s.fld (LDR_S_CTL_SPORT n)]?.getD none))

/-- The usable readings of a kind in the frame that a latch placed at `at_` quanta ends (R239, R243): their windows closed at least 4 µs
before it. -/
def usable (s : State) (g kind at_ : Nat) : List Reading :=
  let p := s.fld (LDR_G_CTL_PORT g)
  (s.grp g).readings.filter (fun r => r.usable && r.kind == kind && decide (r.closed + 16000 ≤ at_) && r.frames[p]?.getD none == (s.port p).lastLatch &&
    !frameTaint s g r.frames && !frameLate s g r.frames)

/-- The window-length-weighted mean of an input's readings, rounded to binary32, or 0 (R243). -/
def meanOf (rs : List Reading) (c : Nat) : Nat :=
  let xs := rs.filter (fun r => r.input == c)
  if xs.isEmpty then 0
  else
    let terms := xs.map (fun r => (fratio r.cur, r.len))
    if terms.any (fun t => t.1.isNone) then qNaN
    else
      let den := terms.foldl (fun d t => max d (t.1.getD (0, 1)).2) 1
      let num : Int := (terms.map (fun t => (t.1.getD (0, 1)).1 * ((den / (t.1.getD (0, 1)).2 * t.2 : Nat) : Int))).sum
      fofRatio num (den * (terms.map (fun t => t.2)).sum)

/-- Row j of the matrix times the readings, in binary32, inputs ascending (R243). -/
def tristim (s : State) (rs : List Reading) (j : Nat) : Nat :=
  (List.range 8).foldl (fun acc c => (fadd acc (fmul (s.rdN (LDR_CL_M j c)) (meanOf rs c)).v).v) 0

/-- One ratio's mean and deviation follow a sample (R245): kind 1 is M, 2 is L. -/
def ratioStep (g k : Nat) (y yk : Nat) (s : State) : State :=
  let r := (fdiv yk y).v
  let gr := s.grp g
  let seen := if k = 1 then gr.seenM else gr.seenL
  let reg := if k = 1 then LDR_G_RATIO_M g else LDR_G_RATIO_L g
  let dev := if k = 1 then LDR_G_RATIO_M_DEV g else LDR_G_RATIO_L_DEV g
  let ref := s.rdN (if k = 1 then LDR_G_RATIO_REF_M g else LDR_G_RATIO_REF_L g)
  let old := s.rdN reg
  let avg := if seen then (fadd old (fmul (fsub r old).v 0x3D800000).v).v else r
  let hist := ((if k = 1 then gr.ratioM else gr.ratioL) ++ [r])
  let last := hist.drop (hist.length - 16)
  let sum := last.foldl (fun a x => (fadd a (fabs (fsub x avg).v)).v) 0
  let d := (fdiv (fdiv sum (fround false last.length 1 0).v).v avg).v
  let out := match fratio avg, fratio ref with
    | some a, some b =>
      decide ((b.1.natAbs * a.2 * s.fld (LDR_G_TOL_RATIO_TOL g) : Nat) < ((a.1 * b.2 - b.1 * a.2).natAbs * 65536 : Nat))
    | _, _ => false
  let armed := if k = 1 then !gr.driftM else !gr.driftL
  let s1 := (s.wrN reg avg).wrN dev d
  let s2 := s1.setGrp g (if k = 1 then { gr with ratioM := last, seenM := true, driftM := out } else { gr with ratioL := last, seenL := true, driftL := out })
  if out && armed then ldrEvent 11 svWARNING powerSlice (g + (k - 1) * 8 + avg * 2 ^ 32) s2 else s2

/-- Chromaticity is checked against its reference (R246). -/
def chromaStep (g : Nat) (s : State) : State :=
  let ref := s.rdN (LDR_G_XY_REF g)
  if ref = 0 then s
  else
    let x := s.rdN (LDR_G_X g)
    let sum := (fadd (fadd x (s.rdN (LDR_G_Y g))).v (s.rdN (LDR_G_Z g))).v
    let cx := (fdiv x sum).v
    let cy := (fdiv (s.rdN (LDR_G_Y g)) sum).v
    let off := fun c rf : Nat => match fratio c with
      | some a => decide (s.fld (LDR_G_TOL_CHROMA_TOL g) * a.2 < (a.1 * 65536 - (rf * a.2 : Nat)).natAbs)
      | none => false
    let q := fun c : Nat => match fratio c with
      | some a => clampN (rndDiv (a.1 * 65536) a.2).toNat 0 65535
      | none => 0
    let out := off cx (ref % 65536) || off cy (ref / 65536)
    let s1 := updGrp g (fun r => { r with chromaX := out }) s
    if out && !(s.grp g).chromaX then ldrEvent 12 svWARNING powerSlice (g + q cx * 2 ^ 16 + q cy * 2 ^ 32) s1 else s1

/-- A loop step is skipped (R244). -/
def loopSkip (g : Nat) (s : State) : State := s.bump (LDR_G_SKIP_CNT g)

/-- One member's scale steps by rel = num/den (R244), unless its timebase is OFF (R225). -/
def scaleStep (num : Int) (den : Nat) (n : Nat) (s : State) : State :=
  if s.flag (LDR_S_STAT_TB_OFF n) || (0 < num && (s.str n).clamped) then s
  else
    let sc := s.rdN (LDR_S_SCALE n) % 65536
    adaptStep (scaleParam n) (rndDiv ((sc : Int) * ((den : Int) + num)) den) s

/-- The relative step of group g, as a fraction (R244): KL/65,536 × (YREF − Yn)/Yn, held to ±STEP_MAX/65,536. Where Y is 0 or one of the values is
no number the rule states none: a free one within those bounds (log entry 4). -/
def loopRel (g vF : Nat) (s : State) : (Int × Nat) × State :=
  let lim : Int := (s.rdN (LDR_G_STEP_MAX g) % 65536 : Nat)
  let free := fun t : State => let f := t.takeFree; ((((f.1.toNat % (2 * lim.toNat + 1) : Nat) : Int) - lim, 65536), f.2)
  match fratio (s.rdN (LDR_G_Y g)), fratio (s.rdN (LDR_G_YREF g)) with
  | some a, some b =>
    if a.1 = 0 then free s
    else
      let sgn : Int := if a.1 < 0 then -1 else 1
      let num : Int := sgn * ((s.rdN (LDR_G_KL g) % 65536 : Nat) * (b.1 * (vF * a.2 : Nat) - a.1 * (65536 * b.2 : Nat)))
      let den : Int := sgn * ((65536 : Int) * (a.1 * (65536 * b.2 : Nat)))
      if lim * den < num * 65536 then ((lim, 65536), s)
      else if num * 65536 < -(lim * den) then ((-lim, 65536), s)
      else ((num, den.toNat), s)
  | _, _ => free s

/-- The loop of group g for the frame that a latch of its PORT, placed at `at_` quanta, ends (R243 to R246). -/
def loopStep (g at_ : Nat) (s0 : State) : State :=
  let h := usable s0 g 0 at_
  let ms := members s0 g
  let vF := (s0.grp g).vFrame
  let s := if h.isEmpty then s0 else
    ((s0.wrN (LDR_G_X g) (tristim s0 h 0)).wrN (LDR_G_Y g) (tristim s0 h 1)).wrN (LDR_G_Z g) (tristim s0 h 2)
  let y := s.rdN (LDR_G_Y g)
  let ym := usable s g 1 at_
  let yl := usable s g 2 at_
  let s1 := if h.isEmpty || ym.isEmpty || yl.isEmpty then s
    else ratioStep g 2 y (tristim s yl 1) (ratioStep g 1 y (tristim s ym 1) s)
  let s2 := if h.isEmpty then s1 else chromaStep g s1
  let low := match fratio y, fratio (s.rdN (LDR_G_YMIN g)) with
    | some a, some b => decide (a.1 * (b.2 * 65536 : Nat) ≤ b.1 * (vF * a.2 : Nat))
    | _, _ => false
  if !s.flag (LDR_G_CTL_LOOP_EN g) || h.isEmpty then loopSkip g s2
  else if ms.any (fun n => s.flag (LDR_S_SCALE_ADP_OVR n)) then (loopSkip g s2).bump (LDR_G_OVR_SKIP_CNT g)
  else if vF = 0 || low then
    let s3 := updGrp g (fun r => { r with noLight := true }) ((loopSkip g s2).bump (LDR_G_NO_LIGHT_CNT g))
    if (s.grp g).noLight then s3 else ldrEvent 13 svNOTICE powerSlice (g + s3.rdN (LDR_G_NO_LIGHT_CNT g) * 2 ^ 32) s3
  else
    let r := loopRel g vF s2
    ms.foldl (fun t n => scaleStep r.1.1 r.1.2 n t) (updGrp g (fun x => { x with noLight := false }) r.2)

/-- A module that does not hold takes a group's mirrored values in place of its own loop and fade (R513). -/
def takeLight (g : Nat) (s : State) : State :=
  match (s.grp g).mir with
  | none => s
  | some l =>
    let s1 := updGrp g (fun r => { r with mir := none, vCur := l.v, vHold := false, fade := l.fade }) (s.setFld (LDR_G_FADE_STAT_ACTIVE g) (b2n l.fade.isSome))
    l.strings.foldl (fun t x => setD (x.1 / 6) x.2.2 (t.wrN (LDR_S_SCALE x.1) x.2.1)) s1

/-- A LIGHT record of group g (R511): V, the fade and its members' SCALE and D. -/
def mirrorLight (g : Nat) (s : State) : State :=
  let r := s.grp g
  let f := r.fade.getD ⟨0, 0, 0, false, 0⟩
  let w0 := groupV s g s.showTime + f.v1 * 2 ^ 17 + b2n r.fade.isSome * 2 ^ 34 + b2n f.curve * 2 ^ 35
  mirror 4 g ([w0, f.start, f.ms + f.v0 * 2 ^ 32].map (BitVec.ofNat 64) ++
    (members s g).map (fun n => BitVec.ofNat 64 (n + s.rdN (LDR_S_SCALE n) % 2 ^ 16 * 2 ^ 8 + s.rdN (LDR_BANK_D (n / 6)) % 2 ^ 17 * 2 ^ 24))) s

/-- The groups of a port send LIGHT records at its update point (R512). -/
def mirrorLights (p : Nat) (s : State) : State := (groupsOf s p).foldl (fun t g => mirrorLight g t) s

/-- A group is evaluated for the coming point of its PORT, placed at `at_` quanta and of show time t (R229, R244, R247). -/
def evalGroup (at_ t g : Nat) (s : State) : State :=
  let s1 := updGrp g (fun r => { r with readings := [] }) (if s.driving then loopStep g at_ s else takeLight g s)
  updGrp g (fun r => { r with vEval := some (groupV s1 g t, r.fade.filter (fun f => (fadeV f t).2)) }) s1

/-- What is evaluated for the coming latch of port p, placed at `at_` quanta (R229, R244, R247). -/
def evalPort (p at_ : Nat) (s0 : State) : State :=
  let s := settleLight s0
  let t := showAtQ s at_
  let s1 := (groupsOf s p).foldl (fun u g => evalGroup at_ t g u) s
  updPort p (fun x => { x with evalDone := true }) ((latchStrings s1 p).foldl (fun u n => updStr n (fun r => { r with evald := some (evalTaken s1 n t) }) u) s1)

/-- A point of a group's PORT (R247, R244): V evaluated for it takes effect, a fade that it ends is done, and the members' clamp marks begin a
new frame. -/
def groupPoint (g : Nat) (s : State) : State :=
  let r := s.grp g
  match r.vEval with
  | none => s
  | some (v, done) =>
    let s1 := updGrp g (fun x => { x with vEval := none, vApp := v, vFrame := v }) s
    let s2 := if done.isSome && done == r.fade then
        ldrEvent 14 svINFO powerSlice (g + v * 256) ((updGrp g (fun x => { x with fade := none, vCur := v, vHold := false }) s1).setFld (LDR_G_FADE_STAT_ACTIVE g) 0)
      else s1
    (members s2 g).foldl (fun t n => updStr n (fun x => { x with clamped := t.flag (LDR_S_STAT_CLAMPED n) }) t) s2

/-- What the light drive does at a VB_LATCH of port p placed at `at_` quanta (R229, R232, R242, R247). What was not evaluated ahead is evaluated
now. -/
def ldrLatch (p at_ : Nat) (s0 : State) : State :=
  let s := if (s0.port p).evalDone then settleLight s0 else evalPort p at_ s0
  let s1 := (latchStrings s p).foldl (fun t n => applyUpdate n at_ t) s
  let s2 := (groupsOf s p).foldl (fun t g => groupPoint g t) (updPort p (fun x => { x with evalDone := false }) s1)
  [0, 1, 2, 3, 4, 5, 6, 7].foldl (fun t i =>
    match (t.pd i).win with
    | some w => if at_ ≤ w.openAt then t.setPd i { t.pd i with win := some { w with frames := w.frames.set p (some at_) } } else t
    | none => t) s2

/-- The predicted placed time, in quanta, of the next VB_LATCH of a port, among the pins dispatched and read ahead (R229). -/
def latchDue (s : State) (p : Nat) : Option Nat :=
  let n := s.fld (SEQ_P_CTL_TB p)
  let t := s.tb n
  let mine := fun x : Pin => x.action == 8 && x.target % 4 == p
  let ahead := t.readAhead.filterMap (fun e =>
    let d := pinAhead s n e.1 e.2.1 e.2.2.frac
    if mine e.2.2 && pinDueIn e.2.2 (cycleAt s n d) then some (placedAt s n d).toNat else none)
  ((t.dispatched.filter (fun d => mine d.pin)).map (fun d => d.placed) ++ ahead).foldl (fun m x => match m with
    | none => some x
    | some y => some (min x y)) none

/-! ### Free mode (R234, R235) -/

/-- The low b bits of j reversed. -/
def bitrev : Nat → Nat → Nat
  | 0, _ => 0
  | b + 1, j => j % 2 * 2 ^ b + bitrev b (j / 2)

/-- Is slot j lit (R234)? -/
def slotLit (b n j : Nat) : Bool := decide (bitrev b j < n)

/-- How many slots a cycle has. -/
def freeSlots (r : StringRec) : Nat := r.freeRep * 2 ^ r.freeBits

/-- Where part k of cycles cut into n parts, counted over all cycles, begins (R234, R268): in units of 2⁻⁵⁶ cycle, with the count of wraps above. -/
def partPhase (n k : Nat) : Nat := k / n * 2 ^ 56 + k % n * 2 ^ 32 / n * 2 ^ 24

/-- The part in which a phase lies: the last that begins at or before it. -/
def partAt (n ph : Nat) : Nat := ph / 2 ^ 56 * n + (ceilDiv ((ph % 2 ^ 56 / 2 ^ 24 + 1) * n) (2 ^ 32) - 1)

/-- The placed time, in quanta, of a part's start on timebase tb (R82, R83). -/
def partPlaced (s : State) (tb n k : Nat) : Nat := (placedAt s tb ((partPhase n k : Int) - (totalPhase s tb : Int))).toNat

/-- Time passes to a placed time of timebase tb, unless a cycle boundary comes first (CYCLE_BOUNDARY). -/
def passTb (tb at_ : Nat) (s : State) : Option State :=
  let dt := at_ / 4 - s.now
  if decide (0 < dt) && decide (toBoundary s tb ≤ dt) then none else some (passTime dt s)

/-- The first slot that a string has not acted on and that did not begin more than a nanosecond ago. -/
def nextSlot (s : State) (n : Nat) : Nat :=
  let r := s.str n
  let ph := totalPhase s (strTb s n)
  let inc := s.incEff (strTb s n)
  max ((r.freeSlot.map (fun k => k + 1)).getD 0) (if ph < inc then 0 else partAt (freeSlots r) (ph - inc) + 1)

/-- The slot with which the next period begins. -/
def nextPeriod (s : State) (n : Nat) : Nat := let w := 2 ^ (s.str n).freeBits; ceilDiv (nextSlot s n) w * w

/-- The next slot of the period in progress that is lit where the slot before is not, or the reverse. -/
def nextEdge (s : State) (n : Nat) : Option Nat :=
  let r := s.str n
  let w := 2 ^ r.freeBits
  let lit := fun k : Nat => slotLit r.freeBits r.freeDuty (k % w)
  (((List.range w).map (fun i => nextSlot s n + i)).find? (fun k => k % w == 0 || lit k != lit (k - 1))).filter (fun k => k % w != 0)

/-- The placed time, in quanta, of a slot's start (R82, R83, R235). -/
def slotPlaced (s : State) (n k : Nat) : Nat :=
  partPlaced s (strTb s n) (freeSlots (s.str n)) k

/-- A free-mode edge is issued as a pin placed at `at_` quanta (R235), where it changes the shunt's state. -/
def freeEdge (n : Nat) (lit : Bool) (at_ : Nat) (s : State) : State :=
  if (s.str n).waitPeriod then s
  else addDue n { at_ := at_ + 40, act := .shunt (!lit) true } (stampDie (strTb s n) 5 (2 ^ n) at_ s)

/-- Time passes to a FREE string's next slot start, unless a cycle boundary comes first. -/
def passToSlot (n at_ : Nat) (s : State) : Option State := (passTb (strTb s n) at_ s).map (settleStr n)

/-- FREE_PERIOD_START (R229, R234, R235): time passes to the start of the string's next period. -/
def execFreePeriodStart (n : Fin 24) (s0 : State) : Out :=
  if !s0.clocked then .next s0 else
  let s := settleLight s0
  let k := nextPeriod s n
  let at_ := slotPlaced s n k
  .next (if strMode s n != 2 || !s.tbOn (strTb s n) then s
    else match passToSlot n at_ s with
      | none => s
      | some s1 =>
        let b := (s1.str n).freeBits
        let duty := min (s1.fld (LDR_S_FREE_DUTY n)) (2 ^ b)
        let lvl := s1.fld (LDR_S_FREE_LVL n)
        let s2 := updStr n (fun r => { r with waitPeriod := false, freeDuty := duty, freeSlot := some k, lvl := lvl }) (s1.setFld (LDR_S_STAT_LVL_IDX n) lvl)
        let s3 := applyUpdate n at_ s2
        settleStr n (if slotLit b duty 0 = strClosed s3 n then freeEdge n (slotLit b duty 0) at_ s3 else s3))

/-- FREE_SHUNT_EDGE (R235): time passes to the next edge of the string's pattern within its period. -/
def execFreeShuntEdge (n : Fin 24) (s0 : State) : Out :=
  if !s0.clocked then .next s0 else
  let s := settleLight s0
  .next (if strMode s n != 2 || !s.tbOn (strTb s n) || (s.str n).waitPeriod then s
    else match nextEdge s n with
      | none => s
      | some k =>
        let at_ := slotPlaced s n k
        match passToSlot n at_ s with
        | none => s
        | some s1 =>
          let r := s1.str n
          settleStr n (freeEdge n (slotLit r.freeBits r.freeDuty (k % 2 ^ r.freeBits)) at_ (updStr n (fun x => { x with freeSlot := some k }) s1)))

/-- UPDATE_POINT_EVALUATION (R229, R244, R247): time passes to 4 µs before the predicted placed time of the next latch of port p, or before the
next period of FREE string n. A point is evaluated once. -/
def execUpdatePointEvaluation (pt : UpdPoint) (s0 : State) : Out :=
  if !s0.clocked then .next s0 else
  match pt with
  | .port p =>
    .next (match latchDue s0 p with
      | none => s0
      | some at_ => if (s0.port p).evalDone then s0 else evalPort p at_ (passTime (at_ / 4 - 4000 - s0.now) s0))
  | .string n =>
    let at_ := slotPlaced s0 n (nextPeriod s0 n)
    .next (if strMode s0 n = 2 && s0.tbOn (strTb s0 n) && (s0.str n).evald.isNone then
        let s := settleLight (passTime (at_ / 4 - 4000 - s0.now) s0)
        updStr n (fun r => { r with evald := some (evalTaken s n (showAtQ s at_)) }) s
      else s0)

/-! ### Photodiode windows (R237 to R241) -/

/-- The timebase that photodiode input i is bound to (R238). -/
def pdTb (s : State) (i : Nat) : Nat := bits (s.rdN LDR_PD_TB) (2 * i) 2

/-- PD_WINDOW (R237): a pin of timebase n placed at `placed` quanta opens its input 10.00 ns later; `stale` is the state of its time-stamp's
STALE flag. -/
def pdWindow (n placed target arg : Nat) (stale : Bool) (s0 : State) : State :=
  let s := settleLight s0
  let i := target % 8
  if pdTb s i != n || isScanner s n then bindMiss n s
  else if (s.pd i).win.isSome then s.bump (PHS_TB_CONFLICT_CNT n)
  else
    let at_ := placed + 40
    let range := bits arg 24 3
    let settle := match (s.pd i).lastClose with
      | some c => decide (at_ < c.1 + 4000) && c.2 != range
      | none => false
    (calBreak 2 at_ (fun k => k == i) s).setPd i { s.pd i with win := some { openAt := at_, openShow := showAtQ s at_, len := bits arg 0 24, range := range, tag := bits arg 32 8, settle := settle, stale := stale, holdover := stampFlags s n % 2 == 1, lit := allStrings.any (fun x => strMode s x != 0 && !strClosed s x), frames := latchesNow s, codes := [] } }

/-- When segment k of a window ends, in quanta: 500 ns each, the last at the window's end (R237). -/
def segmentEnd (w : PdWin) (k : Nat) : Nat := w.openAt + min (2000 * (k + 1)) (4 * w.len)

/-- Have all segments of a window been read (R237)? -/
def segmentsRead (w : PdWin) : Bool := decide (w.len ≤ 500 * w.codes.length)

/-- PD_SEGMENT_DONE (R237): time passes to the end of the open window's next segment, which reads `code`. -/
def execPdSegmentDone (i : Fin 8) (code : BitVec 18) (s0 : State) : Out :=
  if !s0.clocked then .next s0 else
  .next (match (s0.pd i).win with
    | some w =>
      if segmentsRead w then s0
      else
        let s := settleLight (passTime (ceilDiv (segmentEnd w w.codes.length - 4 * s0.now) 4) s0)
        s.setPd i { s.pd i with win := (s.pd i).win.map (fun x => { x with codes := x.codes ++ [code.toNat] }) }
    | none => s0)

/-- The current of a reading (R239): the exact value, rounded once to binary32. -/
def pdCurrent (sum range len trim dark : Nat) (isDark : Bool) : Nat :=
  match fratio trim, fratio dark with
  | some t, some d =>
    -- Σc × 2.5 mA × 500 ns / 2^18 / 4^k over len ns: (Σc × 1.25) / (2^18 × 4^k × len) A, times TRIM
    let den := 2 ^ 18 * 4 ^ range * len * 1000
    if isDark then fofRatio ((sum * 1250 : Nat) * t.1) (den * t.2)
    else fofRatio ((sum * 1250 : Nat) * t.1 * (d.2 : Nat) - d.1 * ((den * t.2 : Nat) : Int)) (den * t.2 * d.2)
  | _, _ => qNaN

/-- A reading goes to the ring, or is lost (R241, R93). -/
def putReading (bs : List Byte) (s : State) : State :=
  let size := s.rdN LDR_PD_RING_SIZE
  if !ringSizeOk size then s
  else
    let head := s.rdN LDR_PD_RING_HEAD
    let lose := fun t : State =>
      let u := t.bump LDR_PD_LOST_CNT
      if u.rdN LDR_PD_LOST_CNT % 1024 = 1 then ldrEvent 15 svNOTICE powerSlice (u.rdN LDR_PD_LOST_CNT) u else u
    if (head + size - s.rdN LDR_PD_RING_TAIL % size) % size = size - 1 then lose s
    else
      let r := sysStore blkLDR 0 (s.rdN LDR_PD_RING_BASE + 16 * head) bs s
      if r.2 then r.1.wrN LDR_PD_RING_HEAD ((head + 1) % size) else lose r.1

/-- The window of input i closes, all its segments read (R239 to R242). A gain range that does not exist, or a length of 0, gives no reading that
the rule states: a free value (log entry 4). -/
def closeWindow (i : Nat) (w : PdWin) (s : State) : State :=
  let g := w.tag % 8
  let kind := bits w.tag 3 2
  let badTag := bits w.tag 5 3 != 0
  let unused := decide (6 ≤ w.range) || badTag
  let beyond := w.codes.any (fun c => c == 262143)
  let open_ := decide (6 ≤ w.range) || w.len == 0
  let free := s.takeFree
  let s1 := if open_ then free.2 else s
  let cur := if open_ then free.1.toNat % 2 ^ 32
    else pdCurrent w.codes.sum w.range w.len (s.rdN (LDR_PD_TRIM i w.range)) (s.rdN (LDR_PD_DARK i w.range)) (kind == 3)
  let taint := frameTaint s g w.frames
  let late := frameLate s g w.frames
  let rej := kind == 3 && w.lit
  let closed := w.openAt + 4 * w.len
  let s2 := s1.setPd i { win := none, lastClose := some (closed, w.range) }
  let s3 := if beyond then s2.bump (LDR_PD_OVL_CNT i) else s2
  let s4 := s3.bumpBy (LDR_PD_BAD_WIN_CNT i) (b2n w.settle + b2n unused)
  let s5 := if rej then s4.bump (LDR_PD_DARK_REJ_CNT i) else if kind == 3 then s4.wrN (LDR_PD_LAST_DARK i) cur else s4
  let flags := pack [(0, 1, b2n taint), (1, 1, b2n late), (2, 1, b2n beyond), (3, 1, b2n w.settle), (4, 1, b2n rej), (5, 1, b2n w.stale), (6, 1, b2n w.holdover), (7, 1, b2n unused)]
  let s6 := putReading (leBytes 8 w.openShow ++ leBytes 4 cur ++ leBytes 1 (i + w.range * 8) ++ leBytes 1 w.tag ++ leBytes 1 flags ++ leBytes 1 0) s5
  if kind = 3 || badTag then s6
  else updGrp g (fun r => { r with readings := r.readings ++ [{ input := i, kind := kind, cur := cur, len := w.len, closed := closed, frames := w.frames, usable := !(beyond || w.settle || unused) }] }) s6

/-- PD_WINDOW_CLOSE (R237, R239): time passes to the end of the window, whose segments have all been read. -/
def execPdWindowClose (i : Fin 8) (s0 : State) : Out :=
  if !s0.clocked then .next s0 else
  .next (match (s0.pd i).win with
    | none => s0
    | some w0 =>
      if !segmentsRead w0 then s0
      else
        let s := settleLight (passTime (ceilDiv (w0.openAt + 4 * w0.len - 4 * s0.now) 4) s0)
        match (s.pd i).win with
        | some w => closeWindow i w s
        | none => s)

/-! ### Interlocks and clearing (R249, R250, R252) -/

/-- INTERLOCK_OPEN (R39, R249, R250): input i is low for `w` quanta. A low shorter than two PWM cycles is rejected; with the PWM clock stopped
one of 2 ns or more always passes, and a shorter one may (a free choice, log entry 4). -/
def execInterlockOpen (i : Fin 4) (w : Nat) (s0 : State) : Out :=
  if !s0.mainOn then .next s0 else
  let s := settleLight s0
  if s.clocked then .next (if 10 ≤ w then interlockOpen i s else s)
  else if 8 ≤ w then .next (interlockOpen i s)
  else
    let f := s.takeBit
    .next (if f.1 && decide (0 < w) then interlockOpen i f.2 else f.2)

/-- INTERLOCK_HEALTHY (R250, R585): input i is high again, as it can be read while bank 0 is UP. -/
def execInterlockHealthy (i : Fin 4) (s0 : State) : Out :=
  if !s0.mainOn then .next s0 else
  let s := settleLight s0
  let lv := s.fld LDR_INTLK_STAT_LEVEL
  .next (if s.bankUp 0 then s.setFld LDR_INTLK_STAT_LEVEL (if bit lv i then lv else lv + 2 ^ i.val) else s)

/-- Does the condition of a named cause persist for a string (R252)? -/
def causePersists (s : State) (n c : Nat) : Bool :=
  if c = cINTLK then s.fld LDR_INTLK_STAT_LEVEL != 15
  else if c = cTHERM then
    match (s.bank (n / 6)).temp with
    | some t => decide ((s.fld (LDR_BANK_TLIM_T_TRIP (n / 6)) : Nat) ≤ t) && s.fld ⟨LDR_BANK_TSRC (n / 6), 0, 5⟩ != 31
    | none => s.fld ⟨LDR_BANK_TSRC (n / 6), 0, 5⟩ != 31
  else if c = cFTRIP then s.fld (SEQ_F_STAT_TRIP (s.fld (LDR_S_CTL_SPORT n))) != 0
  else false

/-- SAFE_CLR (R252): the causes named, for the strings named; INTLK for all strings at once. -/
def execSafeClr (v : BitVec 32) (s0 : State) : Out :=
  if !s0.clocked then .next s0 else
  let s := settleLight s0
  let named := maskStrings 0 24 v.toNat
  let causes := [cINTLK, cOC, cOPEN, cTHERM, cFTRIP].filter (fun c => bits v.toNat 24 5 / c % 2 == 1)
  let who := fun c : Nat => if c = cINTLK then allStrings else named
  let persists := causes.any (fun c => (who c).any (fun n => hasCause s n c && causePersists s n c))
  .next (
    if persists then s.setFld LDR_SAFE_STAT_CMD_STATUS stPRECOND
    else
      let s1 := causes.foldl (fun t c => (who c).foldl (fun u n => clearCause n c u) t) s
      let s2 := if causes.contains cINTLK then s1.setFld LDR_INTLK_STAT_LATCHED 0 else s1
      ldrEvent 7 svINFO powerSlice (v.toNat % 2 ^ 29) (s2.setFld LDR_SAFE_STAT_CMD_STATUS stOK))

/-! ### Diagnosis (R254 to R256) -/

/-- A probe is requested for a string (R255); one that waits or runs already goes on. -/
def probeRequest (n : Nat) (s : State) : State :=
  if strMode s n != 1 || strDark s n then s.bump (LDR_S_PROBE_MISS_CNT n)
  else if (s.str n).probeAt.isSome then s
  else (updStr n (fun r => { r with probeAt := some s.now, probeTried := 0, probeGap := 0, probeRun := none }) s).setFld (LDR_S_DIAG_PROBE_PEND n) 1

/-- The state that a window's end gives (R254), with the estimate V_EST. -/
def diagState (s : State) (n v : Nat) : Nat :=
  let vs := s.fld (LDR_S_VTH_V_SHORT n)
  let vl := s.fld (LDR_S_VTH_V_LOW n)
  if (s.str n).openSeen then 2
  else if hasCause s n cOC || hasCause s n cOPEN then s.fld (LDR_S_DIAG_STATE n)
  else if (s.str n).onTime < 16000 then 0
  else if vs != 0 && v < vs then 3
  else if vl != 0 && v < vl then 4
  else 1

/-- DIAG_WINDOW_END (R254): time passes to the end of the string's next 64 ms window, counted from reset. V_EST is the mean high-side duty over
the on-time times VIN, rounded down to 10 mV (DESIGN CHOICE, log entry 114). -/
def execDiagWindowEnd (n : Fin 24) (s0 : State) : Out :=
  if !s0.clocked then .next s0 else
  let k := max ((s0.str n).diagLast + 1) (ceilDiv (s0.now - s0.power.relAt) 64000000)
  let s1 := settleLight (passTime (s0.power.relAt + 64000000 * k - s0.now) s0)
  let s := markOn n (4 * s1.now) s1
  let r := s.str n
  let v := if r.onTime = 0 then 0 else min (r.hsTime * s.vin10 / r.onTime) 65535
  let old := s.fld (LDR_S_DIAG_STATE n)
  let st := diagState s n v
  let s2 := (updStr n (fun x => { x with onTime := 0, hsTime := 0, openSeen := false, diagLast := k }) s).setFld (LDR_S_DIAG_STATE n) st
  let s3 := if r.onTime < 16000 then s2 else s2.setFld (LDR_S_DIAG_V_EST n) v
  let sev := if st = 1 then svINFO else if st = 0 then svNOTICE else if st = 4 then svWARNING else svERROR
  let s4 := emitIf (st != old) blkLDR 9 sev (strLoc n) (st + old * 8 + s3.fld (LDR_S_DIAG_V_EST n) * 65536) s3
  .next (if st = 0 && s.flag (LDR_S_DIAG_PROBE_EN n) && strMode s n = 1 then probeRequest n s4 else s4)

/-- PROBE_REQ (R255). -/
def execProbeReq (mask : BitVec 24) (s : State) : Out :=
  if !s.clocked then .next s else
  .next ((maskStrings 0 24 mask.toNat).foldl (fun t n => probeRequest n t) (settleLight s))

/-- The gaps of a timebase as listed, each with its length, as fractions (R88, R256). -/
def listedGaps (s : State) (n : Nat) : List (Nat × Nat) :=
  if s.flag (PHS_TB_BLIND_CNT_ALL n) then [(0, 2 ^ 32)]
  else (List.range (s.rdN (PHS_TB_BLIND_CNT n) % 128)).map (fun k =>
    let v := s.rdN (PHS_TB_BLIND n k)
    (v % 2 ^ 32, (v / 2 ^ 32 + 2 ^ 32 - v % 2 ^ 32) % 2 ^ 32))

/-- The next gap for a string's probe (R256): its start, in 2⁻⁵⁶ cycle with the count of wraps above, and its length; the first that begins at
least 64 µs after the request, and after the gap tried last. -/
def probeGapNext (s : State) (x at_ : Nat) : Option (Nat × Nat) :=
  let n := strTb s x
  let ph := totalPhase s n
  let from_ := max (ph + 1 - s.incEff n) ((((ph : Int) + ((at_ : Int) + 64000 - (s.now : Int)) * (s.incEff n : Int))).toNat)
  let start := max from_ ((s.str x).probeGap + b2n ((s.str x).probeTried != 0))
  let w := start / 2 ^ 56
  ([w, w + 1].flatMap (fun c => (listedGaps s n).map (fun g => (c * 2 ^ 56 + g.1 * 2 ^ 24, g.2 * 2 ^ 24)))).foldl (fun m g =>
    if g.1 < start then m else match m with
      | none => some g
      | some b => if g.1 < b.1 then some g else m) none

/-- Does a pin of the active bank, as far as it is read ahead, touch a string between two placed times (R256)? -/
def touchedIn (s : State) (x from_ to_ : Nat) : Bool :=
  let n := strTb s x
  let hit := fun (p : Pin) (at_ : Int) => bit (touched p) x && decide ((from_ : Int) ≤ at_) && decide (at_ ≤ (to_ : Int))
  (s.tb n).dispatched.any (fun d => !d.posted && hit d.pin d.placed) || (s.tb n).readAhead.any (fun e =>
    let d := pinAhead s n e.1 e.2.1 e.2.2.frac
    pinDueIn e.2.2 (cycleAt s n d) && hit e.2.2 (placedAt s n d))

/-- PROBE_START (R256): time passes to the start of the next gap for a requested probe. Where the gap meets the conditions the probe is placed,
1 µs into it; where not it counts as tried. A cycle boundary that comes first is passed first (CYCLE_BOUNDARY). -/
def execProbeStart (n : Fin 24) (s0 : State) : Out :=
  if !s0.clocked then .next s0 else
  let s := settleLight s0
  let tb := strTb s n
  .next (match (s.str n).probeAt with
    | none => s
    | some req =>
      if (s.str n).probeRun.isSome || !s.driving || strMode s n != 1 || !s.tbOn tb || decide (4 ≤ (s.str n).probeTried) then s
      else match probeGapNext s n req with
        | none => s
        | some g =>
          let gap := (placedAt s tb ((g.1 : Int) - (totalPhase s tb : Int))).toNat
          let dt := gap / 4 - s.now
          if decide (0 < dt) && decide (toBoundary s tb ≤ dt) then s
          else
            let t := settleLight (passTime dt s)
            let gapEnd := (placedAt t tb (((g.1 + g.2 : Nat) : Int) - (totalPhase t tb : Int))).toNat
            let p := gap + 4000
            let open_ := p + 4 * (t.rdN (LDR_S_PROBE_WAIT n) % 65536)
            let last := open_ + 16000 + 40
            if decide (gapEnd < last + 4000) || touchedIn t n p last then updStr n (fun r => { r with probeTried := r.probeTried + 1, probeGap := g.1 }) t
            else if strDark t n then (endProbe n t).bump (LDR_S_SAFE_IGN_CNT n)
            else
              let k := t.fld (LDR_S_STAT_LVL_IDX n)
              let acts := [(p, ldrEdge (p + 40), StrAct.level (t.fld (LDR_S_DIAG_PROBE_LVL n))), (open_, open_ + 40, .shunt false false), (open_ + 16000, open_ + 16040, .shunt true false), (last, ldrEdge (last + 40), .level k)]
              settleStr n (acts.foldl (fun u a => addDue n { at_ := a.2.1, act := a.2.2, probe := some a.1 } u) (updStr n (fun r => { r with probeRun := some last }) t)))

/-- PROBE_MISS (R256): the timebase has no gap, or none of four met the conditions. -/
def execProbeMiss (n : Fin 24) (s0 : State) : Out :=
  if !s0.clocked then .next s0 else
  let s := settleLight s0
  let tb := strTb s n
  .next (if (s.str n).probeAt.isSome && (s.str n).probeRun.isNone && (decide (4 ≤ (s.str n).probeTried) || (listedGaps s tb).isEmpty) then probeMiss n s else s)

end Sys2Proof.Machine
end

