-- ==== Sys2Proof/Machine/Lnk.lean ====
section
/-! DEFINITION. Machine/Lnk.lean: serial lanes and links: stages, training, lock, electrical idle, lane checks and eye scans (R465 to
R496). The words of the lane layer that arrive are commands. -/

namespace Sys2Proof.Machine

/-! ### Lanes and links (R465, R466) -/

def updLane (n : Nat) (f : LaneRec → LaneRec) (s : State) : State := s.setLane n (f (s.lane n))
def updLink (k : Nat) (f : LinkRec → LinkRec) (s : State) : State := s.setLink k (f (s.link k))

/-- The location word of a lane (R465). -/
def laneLoc (n : Nat) : Nat := 0x60200000 + n / 4 * 0x10000 + n % 4 * 0x800

/-- The link of a lane, and the first lane and the lanes of a link (R465). -/
def linkOf (n : Nat) : Nat := if n < 40 then n / 10 else 4 + (n - 40) / 2
def firstLane (k : Nat) : Nat := if k < 4 then 10 * k else 40 + 2 * (k - 4)
def lanesOf (k : Nat) : List Nat := (List.range (if k < 4 then 10 else 2)).map (fun i => firstLane k + i)

/-- The lanes that a link receives on outside TEST (R465). -/
def rxLanes (k : Nat) : List Nat := if k < 4 then [10 * k] else lanesOf k

/-- Was a link brought up transmit-only, for a beam port (R481)? -/
def beamLink (s : State) (k : Nat) : Bool := decide (k < 4) && (s.link k).beam

/-- The lanes that a link transmits on (R481). -/
def txLanes (s : State) (k : Nat) : List Nat := if beamLink s k then (lanesOf k).take (beamLanes s k) else lanesOf k

def linkStage (s : State) (k : Nat) : Nat := s.fld (LNK_K_STAT_STAGE k)

/-- The rate code of a link (R466). -/
def linkRate (s : State) (k : Nat) : Nat := if k < 4 then s.fld (LNK_K_CTL_RATE k) else s.rdN LNK_PALIS_RATE % 8

/-- A rate code in units of 0.1 Gbaud (R466). -/
def rate10 (c : Nat) : Nat :=
  match c with
  | 0 => 80 | 1 => 100 | 2 => 125 | 3 => 160 | 4 => 200 | 5 => 250 | 6 => 280 | _ => 320

/-- Link event and lane event (R496). -/
def linkEvent (k code sev arg : Nat) (s : State) : State := emit blkLNK code sev (laneLoc (firstLane k)) (k + arg * 16) s
def laneEvent (n code sev arg : Nat) (s : State) : State := emit blkLNK code sev (laneLoc n) arg s

/-- Equaliser parameter k of lane n (R482). -/
def eqParam (n k : Nat) : AParam :=
  { val := LNK_L_EQ n k, lo := LNK_L_EQ_LO n k, hi := LNK_L_EQ_HI n k, adp := LNK_L_EQ_ADP n k, block := blkLNK, loc := laneLoc n,
    w := if k = 0 then 5 else 6, signed := k != 0 }

/-! ### Eye scans (R489, R490) -/

/-- A scan ends (R489). -/
def endScan (n st cnt : Nat) (s : State) : State :=
  let s1 := ((updLane n (fun x => { x with scan := none }) s).setFld (LNK_L_SCAN_BUSY n) 0).setFld (LNK_L_SCAN_STATUS n) st
  laneEvent n 5 svINFO (st + s.fld (LNK_L_SCAN_DISTURBED n) * 256 + cnt % 2 ^ 48 * 65536) (s1.wrN (LNK_L_SCAN_ERR n) cnt)

/-- A scan that runs is aborted; the count so far is a measured value (free, log entry 4). -/
def abortScan (n : Nat) (s : State) : State :=
  if (s.lane n).scan.isSome then
    let f := s.takeFree
    endScan n stABORTED (f.1.toNat % (((s.lane n).scan.getD (0, 1)).2 + 1)) f.2
  else s

/-- A scan in progress is disturbed (R490). -/
def disturb (n : Nat) (s : State) : State := if (s.lane n).scan.isSome then s.setFld (LNK_L_SCAN_DISTURBED n) 1 else s

/-- The bits of a scan (R489, R492): values of LOG2 outside 16 to 40 act as the nearer end. -/
def scanBits (s : State) (n : Nat) : Nat := 2 ^ clampN (s.fld (LNK_L_SCAN_LOG2 n)) 16 40

/-- By how much a lane receives more slowly than its link's rate: the back channel of a facet link (R466), outside the near-end loop. -/
def rxDiv (s : State) (n : Nat) : Nat := if n < 40 && !(linkStage s (linkOf n) == 7 && s.flag (LNK_L_CFG_LOOP n)) then 4 else 1

/-- SCAN_GO (R489). -/
def scanGo (n : Nat) (s : State) : State :=
  if !s.flag (LNK_L_STAT_RX_PWR n) then s.setFld (LNK_L_SCAN_STATUS n) stPRECOND
  else if (s.lane n).scan.isSome then s.setFld (LNK_L_SCAN_STATUS n) stBUSY
  else
    (updLane n (fun x => { x with scan := some (s.now, scanBits s n) }) (((s.setFld (LNK_L_SCAN_BUSY n) 1).setFld (LNK_L_SCAN_DISTURBED n) 0).setFld (LNK_L_SCAN_STATUS n) stOK)).wrN (LNK_L_SCAN_ERR n) 0

/-- SCAN_GO (R489). -/
def execScanGo (n : Fin 48) (s : State) : Out :=
  if !s.clocked then .next s else
  .next (scanGo n s)

/-- SCAN_STOP (R489). -/
def scanStop (n : Nat) (s : State) : State :=
  if (s.lane n).scan.isSome then abortScan n (s.setFld (LNK_L_STAT_CMD_STATUS n) stOK) else s.setFld (LNK_L_STAT_CMD_STATUS n) stNOTHING

/-- SCAN_STOP (R489). -/
def execScanStop (n : Fin 48) (s : State) : Out :=
  if !s.clocked then .next s else
  .next (scanStop n s)

/-- SCAN_DONE (R489): time passes until every bit has been compared; `cnt` mismatches were found. -/
def execScanDone (n : Fin 48) (cnt : BitVec 64) (s : State) : Out :=
  if !s.mainOn then .next s else
  match (s.lane n).scan with
  | none => .next s
  | some (t, b) => .next (endScan n stOK (min cnt.toNat b) (passTime (t + ceilDiv (b * 10 * rxDiv s n) (rate10 (linkRate s (linkOf n))) - s.now) s))

/-! ### The checker (R488) -/

/-- The bits that a lane's checker has met since it began to lock, at the rate of what it receives. -/
def chkMet (s : State) (n : Nat) : Nat := (s.now - (s.lane n).chkFrom) * rate10 (linkRate s (linkOf n)) / (10 * rxDiv s n)

/-- Does a lane's checker run? -/
def chkRuns (s : State) (n : Nat) : Bool :=
  linkStage s (linkOf n) == 7 && s.flag (LNK_L_GEN_CHK_EN n) && s.fld (LNK_L_GEN_PAT n) != 0 && s.fld (LNK_L_GEN_PAT n) != 7

/-- INJ_RATE's exponent, if it injects (R488). -/
def injLog (s : State) (n : Nat) : Option Nat :=
  let r := s.fld (LNK_L_GEN_INJ_RATE n)
  if r = 0 then none else some (clampN r 10 40)

/-- The checker's counts are brought up to now (R488): behind its lock it counts every bit; in the near-end loop the errors are the bits that
INJ_RATE inverts, and otherwise what the partner's pattern gives (free). -/
def settleChk (n : Nat) (s : State) : State :=
  if !chkRuns s n || chkMet s n < (s.lane n).chkLock then s
  else
    let bits := chkMet s n - (s.lane n).chkLock
    let seen := (s.lane n).chkSeen
    let own := s.flag (LNK_L_CFG_LOOP n) && s.flag (LNK_L_CFG_TX_INV n) == s.flag (LNK_L_CFG_RX_INV n)
    let f := s.takeFree
    let errs := if !own then f.1.toNat % (bits - seen + 1) else match injLog s n with
      | some k => bits / 2 ^ k - seen / 2 ^ k
      | none => 0
    let s1 := updLane n (fun x => { x with chkSeen := bits }) (if own then s else f.2)
    ((s1.wrN (LNK_L_CHK_BITS n) (s1.rdN (LNK_L_CHK_BITS n) + (bits - seen))).bumpBy (LNK_L_CHK_ERR n) errs).setFld (LNK_L_STAT_CHK_SYNC n) 1

/-- The checker begins to lock: a PRBS within 64 bits, another pattern by position (R488). -/
def chkStart (n : Nat) (s : State) : State :=
  let f := s.takeFree
  let lock := if decide (1 ≤ s.fld (LNK_L_GEN_PAT n)) && decide (s.fld (LNK_L_GEN_PAT n) ≤ 4) then f.1.toNat % 65 else 0
  updLane n (fun x => { x with chkFrom := s.now, chkSeen := 0, chkLock := lock }) (f.2.setFld (LNK_L_STAT_CHK_SYNC n) 0)

/-- A write of CFG or GEN of a lane (R488): what was checked until now is settled, and another pattern or a checker switched on begins to lock. -/
def genWrite (n : Nat) (put : State → State) (s : State) : State :=
  let t := put (settleChk n s)
  if t.rdN (LNK_L_GEN n) % 16 != s.rdN (LNK_L_GEN n) % 16 || t.rdN (LNK_L_CFG n) != s.rdN (LNK_L_CFG n) then chkStart n t else t

/-! ### Readiness (R475) -/

/-- A receiver of a link in TRAIN becomes ready once it has been quiet for 100 µs (R475). -/
def noteReady (n : Nat) (s : State) : State :=
  if linkStage s (linkOf n) = 2 && s.flag (LNK_L_STAT_RX_PWR n) && decide ((s.lane n).quietFrom + 100000 ≤ s.now) then s.setFld (LNK_L_STAT_RX_READY n) 1 else s

/-- A receiver is disturbed in TRAIN: its quiet time starts again. -/
def unquiet (n : Nat) (s : State) : State := updLane n (fun x => { x with quietFrom := s.now }) (noteReady n s)

/-- A lane's registers are brought up to now. -/
def settleLane (n : Nat) (s : State) : State := settleChk n (noteReady n s)

/-! ### Changes of stage (R472) -/

/-- The facet port of a link loses it (R169): loads and resets in flight are lost. -/
def facetDown (p : Nat) (s : State) : State :=
  let s1 := updPort p (fun x => { x with cur := none, queue := [], due := [], await := [], capsBusy := false, echoes := [], echoSent := [] }) (s.setFld (SEQ_F_STAT_ACTIVE p) 0)
  seqEvent p 0x11 svERROR (s.rdN (SEQ_F_LINK_DROP_CNT p)) s1

/-- Every lane of a link that transmits, and the link, show electrical idle or its end (R492, R494). -/
def showTxIdle (k : Nat) (idle : Bool) (s : State) : State :=
  let t := txLanes s k
  (lanesOf k).foldl (fun z n => z.setFld (LNK_L_STAT_TX_IDLE n) (b2n (idle || !t.contains n))) (s.setFld (LNK_K_STAT_TX_IDLE k) (b2n idle))

/-- Power up a receiver: where its boundary stands is free (R487). -/
def powerRx (n : Nat) (s : State) : State :=
  if s.flag (LNK_L_STAT_RX_PWR n) then s
  else
    let f := s.takeFree
    updLane n (fun x => { x with boundary := f.1.toNat % 66 }) (f.2.setFld (LNK_L_STAT_RX_PWR n) 1)

/-- A receiver powers down. -/
def unpowerRx (n : Nat) (s : State) : State :=
  ((((s.setFld (LNK_L_STAT_RX_PWR n) 0).setFld (LNK_L_STAT_SIGNAL n) 0).setFld (LNK_L_STAT_BLOCK_LOCK n) 0).setFld (LNK_L_STAT_CHK_SYNC n) 0)

/-- What the lanes knew of the last bring-up is forgotten. -/
def clearLanes (k : Nat) (s : State) : State :=
  (lanesOf k).foldl (fun z n => updLane n (fun x => { x with alignLast := none, agree := 0, pDesk := false, resp := 0 })
    (((z.setFld (LNK_L_STAT_DESKEWED n) 0).setFld (LNK_L_STAT_RX_READY n) 0).setFld (LNK_L_STAT_P_RX_READY n) 0)) s

/-- A link changes stage (R472): scans of its lanes abort, its lanes power up or down, LNK_STAT follows; a facet port loses a link that
leaves ACTIVE (R169). -/
def setStage (k st : Nat) (s0 : State) : State :=
  let was := linkStage s0 k
  let s := (lanesOf k).foldl (fun z n => settleLane n (abortScan n z)) (if k < 4 then settlePort k s0 else s0)
  let s1 := updLink k (fun x => { x with stageAt := s.now, idleFrom := none, eidleAt := none, picotAt := none, picotEnd := none })
    ((s.setFld (LNK_K_STAT_STAGE k) st).setFld (LNK_K_STAT_RX_IDLE k) 0)
  let s2 := (s1.setFld ⟨LNK_STAT, k, 1⟩ (b2n (decide (st = 5)))).setFld ⟨LNK_STAT, 8 + k, 1⟩ (b2n (decide (st = 6)))
  let s3 := showTxIdle k (st = 0 || st = 6) s2
  let s4 := if st = 0 || st = 6 then (lanesOf k).foldl (fun z n => unpowerRx n z) s3
    else if st = 7 then (lanesOf k).foldl (fun z n => chkStart n (powerRx n z)) s3
    else if st = 2 then (rxLanes k).foldl (fun z n => updLane n (fun x => { x with quietFrom := s.now }) z) s3
    else if beamLink s k then s3 else (rxLanes k).foldl (fun z n => powerRx n z) s3
  let s5 := if st = 0 || st = 1 || st = 6 || st = 7 then clearLanes k s4 else s4
  if was = 5 && st != 5 && k < 4 && s.flag (SEQ_F_STAT_ACTIVE k) then facetDown k s5
  else if was = 4 && st != 5 && k < 4 then updPort k (fun x => { x with due := [], capsBusy := false, echoes := [], echoSent := [] }) s5
  else s5

/-- DETECT, with its first poll at a time (R472, R478). -/
def enterDetect (k pollAt : Nat) (s : State) : State := updLink k (fun x => { x with pollAt := pollAt }) (setStage k 1 s)

/-- A stage failure (R478): where RETRY reaches RETRY_LIM the link goes DOWN, and both events are written. -/
def stageFail (k cause : Nat) (s : State) : State :=
  let st := linkStage s k
  let retry := min (s.fld (LNK_K_STAT_RETRY k) + 1) 255
  let lim := s.fld (LNK_K_CTL_RETRY_LIM k)
  let s1 := (((s.setFld (LNK_K_STAT_RETRY k) retry).setFld (LNK_K_STAT_CAUSE k) cause).setFld (LNK_K_STAT_FAIL_STAGE k) st).bump (LNK_K_FAIL_CNT k)
  let s2 := linkEvent k 1 svWARNING (st + cause * 16 + retry * 4096) s1
  if lim != 0 && lim ≤ retry then linkEvent k 2 svERROR (s2.rdN (LNK_K_FAIL_CNT k) * 16) (setStage k 6 s2)
  else enterDetect k (s.now + 10000000) s2

/-- An ACTIVE link is lost (R479). -/
def linkLost (k cause : Nat) (s : State) : State :=
  let s1 := (s.setFld (LNK_K_STAT_CAUSE k) cause).bump (LNK_K_LOST_CNT k)
  enterDetect k (s.now + 10000000) (linkEvent k 3 svERROR (cause * 16 + s1.rdN (LNK_K_LOST_CNT k) * 2 ^ 28) s1)

/-- LOS on a lane that a link receives (R469, R478, R479, R484). -/
def losOn (n : Nat) (s : State) : State :=
  let k := linkOf n
  let st := linkStage s k
  if beamLink s k || !(rxLanes k).contains n then s
  else if st = 2 || st = 3 || st = 4 then stageFail k 2 s
  else if st = 5 && !s.flag (LNK_K_STAT_RX_IDLE k) then linkLost k 2 s
  else s

/-- LINK_ENABLE (R472, R479, R481): a write of 1 to EN. -/
def linkEnable (k : Nat) (s0 : State) : State :=
  if s0.flag (LNK_K_CTL_EN k) then s0
  else
    let s := (s0.setFld (LNK_K_CTL_EN k) 1).setFld (LNK_K_STAT_RETRY k) 0
    let s1 := updLink k (fun x => { x with beam := decide (k < 4) && s.flag (SEQ_P_CTL_MODE k) && !s.flag (LNK_K_CTL_TEST k) }) s
    if s.flag (LNK_K_CTL_TEST k) then setStage k 7 s1
    else if beamLink s1 k then setStage k 3 s1
    else enterDetect k s.now s1

/-- LINK_ENABLE (R472). -/
def execLinkEnable (k : Fin 8) (s : State) : Out :=
  if !s.clocked then .next s else
  .next (linkEnable k s)

/-- A write of 0 to EN (R472). -/
def linkDisable (k : Nat) (s : State) : State := if s.flag (LNK_K_CTL_EN k) then setStage k 0 (s.setFld (LNK_K_CTL_EN k) 0) else s

/-- LINK_DISABLE (R472). -/
def execLinkDisable (k : Fin 8) (s : State) : Out :=
  if !s.clocked then .next s else
  .next (linkDisable k s)

/-- A write of 1 to CMD.RETRY (R479). -/
def linkRetry (k : Nat) (s : State) : State :=
  if linkStage s k != 6 then s.setFld (LNK_K_STAT_CMD_STATUS k) stPRECOND
  else enterDetect k s.now ((s.setFld (LNK_K_STAT_CMD_STATUS k) stOK).setFld (LNK_K_STAT_RETRY k) 0)

/-- LINK_RETRY (R479). -/
def execLinkRetry (k : Fin 8) (s : State) : Out :=
  if !s.clocked then .next s else
  .next (linkRetry k s)

/-- DETECT_POLL (R472, R474): time passes to the poll, and then as long as it listens: 100 µs, or with MANUAL_LOCK until the next poll, or `dt`
where before that a TS word is `heard` on every lane received, which must have block lock; `rate` is the TS word's RATE. -/
def execDetectPoll (k : Fin 8) (dt : Nat) (heard : Bool) (rate : Fin 8) (s0 : State) : Out :=
  if !s0.mainOn || linkStage s0 k != 1 then .next s0
  else
    let start := max s0.now (s0.link k).pollAt
    let lim := if s0.flag (LNK_K_CTL_MANUAL_LOCK k) then 10000000 else 100000
    let ok := heard && (rxLanes k).all (fun n => s0.flag (LNK_L_STAT_BLOCK_LOCK n))
    let s := passTime (start + (if ok then min dt lim else lim) - s0.now) s0
    let next := fun z : State => updLink k (fun x => { x with pollAt := start + 10000000 }) z
    if !ok then .next (next s)
    else
      let s1 := (rxLanes k).foldl (fun z n => z.setFld (LNK_L_STAT_SIGNAL n) 1) s
      if rate.val = linkRate s k then .next (setStage k 2 (s1.setFld (LNK_K_STAT_RATE_MIS k) 0))
      else .next (next (s1.setFld (LNK_K_STAT_RATE_MIS k) 1))

/-- The time limit of a stage, in nanoseconds (R472). -/
def stageLimit (st : Nat) : Nat := if st = 2 then 4000000 else if st = 3 then 1000000 else 2000000

/-- Has the time limit of a link's stage passed (R472)? At the limit itself a completion still wins (R480). -/
def stageOver (s : State) (k : Nat) : Bool := decide ((s.link k).stageAt + stageLimit (linkStage s k) < s.now)

/-- TRAIN completes where this end's receivers are ready, with block lock, and the partner has reported RX_READY for every lane this end transmits
(R472, R475). -/
def trainDone (s : State) (k : Nat) : Bool :=
  linkStage s k == 2 && !stageOver s k && (txLanes s k).all (fun n => s.flag (LNK_L_STAT_P_RX_READY n)) &&
    (rxLanes k).all (fun n => s.flag (LNK_L_STAT_BLOCK_LOCK n) && s.flag (LNK_L_STAT_RX_READY n))

/-- When the receivers of a link in TRAIN are all ready, if nothing disturbs them. -/
def trainReadyAt (s : State) (k : Nat) : Nat :=
  (rxLanes k).foldl (fun m n => if s.flag (LNK_L_STAT_RX_READY n) then m else max m ((s.lane n).quietFrom + 100000)) s.now

/-- The link enters LOCK if TRAIN completes. -/
def trainGo (k : Nat) (s0 : State) : State :=
  let s := (rxLanes k).foldl (fun z n => noteReady n z) s0
  if trainDone s k then setStage k 3 s else s

/-- TRAIN_COMPLETE (R472, R475): time passes until this end's receivers are ready. -/
def execTrainComplete (k : Fin 8) (s : State) : Out :=
  if !s.mainOn || linkStage s k != 2 then .next s
  else if (s.link k).stageAt + stageLimit 2 < trainReadyAt s k then .next s
  else .next (trainGo k (passTime (trainReadyAt s k - s.now) s))

/-- The word time of a rate code times n words, in quanta, rounded up (R466). -/
def wordsQ (c n : Nat) : Nat := ceilDiv (n * 2640) (rate10 c)

/-- LNK_Ln_LAT at the end of LOCK (R471): a facet back channel runs at a quarter of the rate. -/
def latencies (k : Nat) (s : State) : State :=
  let c := linkRate s k
  (lanesOf k).foldl (fun z n =>
    let rx := if (rxLanes k).contains n && !beamLink s k then wordsQ c ((if k < 4 then 4 else 1) * (7 + s.fld (LNK_L_STAT_SKEW n))) + 4 else 0
    z.wrN (LNK_L_LAT n) (wordsQ c 5 + 4 + rx * 65536)) s

/-- The user's exchange begins with CAPS (R165, R477, R498), and the port's rows are counted from then (R139, R497). -/
def beginCaps (k : Nat) (s : State) : State :=
  if k < 4 then
    let c := rate10 (linkRate s k) * 100
    startCaps k (updPort k (fun x => { x with rowFrom := 4 * s.now, nextPos := 0, due := [], sent := [] }) (showBlkTime k (s.wrN (SEQ_F_RATE k) (c + c / 4 * 65536))))
  else (s.setFld (CAS_P_STAT_CAPS_OK (k - 4)) 0).setPalis (k - 4) { s.palisPort (k - 4) with agreed := false, heard := none, peerHolds := false, capsSent := 0, rowFrom := 4 * s.now, nextPos := 0, sent := [] }

/-- LOCK completes where this end is deskewed and the partner has reported the same (R472, R476). -/
def lockDone (s : State) (k : Nat) : Bool :=
  linkStage s k == 3 && !beamLink s k && !stageOver s k && (rxLanes k).all (fun n => s.flag (LNK_L_STAT_DESKEWED n)) &&
    (txLanes s k).all (fun n => (s.lane n).pDesk)

/-- The link enters CAPS if LOCK completes. -/
def lockGo (k : Nat) (s : State) : State := if lockDone s k then beginCaps k (latencies k (setStage k 4 s)) else s

/-- LOCK_COMPLETE (R472, R476). -/
def execLockComplete (k : Fin 8) (s : State) : Out := if !s.mainOn then .next s else .next (lockGo k s)

/-- A link enters ACTIVE (R472, R479, R496). -/
def enterActive (k : Nat) (s : State) : State :=
  let s1 := setStage k 5 (s.setFld (LNK_K_STAT_RETRY k) 0)
  linkEvent k 4 svINFO (linkRate s k) (if k < 4 then s1.setFld (SEQ_F_STAT_ACTIVE k) 1 else s1)

/-- A Palis CAPS stage whose modes disagree fails with TIMEOUT: MISMATCH sets, and MODE_MISMATCH is written once per run of failures (R498). -/
def modesDisagree (p : Nat) (s : State) : State :=
  let x := s.palisPort p
  match x.heard with
  | some (mode, ver) =>
    if x.agreed then s
    else emitIf (!x.misRun) blkCAS 5 svERROR (0x602D0000 + p * 0x800) (p + mode * 65536 + ver * 2 ^ 32)
      ((s.setFld (CAS_P_STAT_MISMATCH p) 1).setPalis p { x with misRun := true })
  | none => s

/-- LOSS_OF_SIGNAL (R469): a powered receiver's signal has read below threshold for 1 µs. -/
def execLossOfSignal (n : Fin 48) (s : State) : Out :=
  if !s.mainOn then .next s else
  if !s.flag (LNK_L_STAT_RX_PWR n) then .next s else .next (losOn n (s.setFld (LNK_L_STAT_SIGNAL n) 0))

/-- BLOCK_LOCK (R469). -/
def execBlockLock (n : Fin 48) (s : State) : Out :=
  if !s.mainOn then .next s else
  .next (if s.flag (LNK_L_STAT_RX_PWR n) then (s.setFld (LNK_L_STAT_SIGNAL n) 1).setFld (LNK_L_STAT_BLOCK_LOCK n) 1 else s)

/-- Invalid headers are counted and reported (R469, R485). -/
def hdrErrors (n errs : Nat) (s0 : State) : State :=
  let s := if errs = 0 then s0 else unquiet n s0
  let s1 := s.bumpBy (LNK_L_HDR_ERR n) errs
  if errs != 0 && msPassed (s.lane n).hdrAt s.now then
    laneEvent n 6 svNOTICE (s1.rdN (LNK_L_HDR_ERR n)) (updLane n (fun x => { x with hdrAt := some s.now }) s1)
  else s1

/-- BLOCK_LOCK_LOST (R469, R487): `errs` of the last 64 words had invalid headers; 16 lose block lock. A receiver without lock moves its
boundary for each, unless MANUAL_LOCK is set. -/
def execBlockLockLost (n : Fin 48) (dt : Nat) (errs : Fin 65) (s0 : State) : Out :=
  if !s0.mainOn then .next (passTime dt s0) else
  let s := passTime dt s0
  if !s.flag (LNK_L_STAT_RX_PWR n) then .next s
  else
    let s1 := hdrErrors n errs s
    if s.flag (LNK_L_STAT_BLOCK_LOCK n) then
      .next (if 16 ≤ errs.val then losOn n (abortScan n (s1.setFld (LNK_L_STAT_BLOCK_LOCK n) 0)) else s1)
    else if s.flag (LNK_K_CTL_MANUAL_LOCK (linkOf n)) then .next s1
    else .next (updLane n (fun x => { x with boundary := (x.boundary + errs.val) % 66 }) s1)

/-! ### Training words (R473, R475) -/

/-- Do taps satisfy the limits of R475? -/
def tapsOk (pre main post : Nat) : Bool :=
  decide (pre ≤ 15) && decide (24 ≤ main) && decide (main ≤ 63) && decide (post ≤ 31) && decide (pre + main + post ≤ 63) && decide (pre + post + 12 ≤ main)

/-- The taps of a lane: PRE, MAIN, POST. -/
def taps (s : State) (n : Nat) : Nat × Nat × Nat := (s.fld (LNK_L_TXEQ_PRE n), s.fld (LNK_L_TXEQ_MAIN n), s.fld (LNK_L_TXEQ_POST n))

def putTaps (n : Nat) (t : Nat × Nat × Nat) (s : State) : State :=
  ((s.setFld (LNK_L_TXEQ_PRE n) t.1).setFld (LNK_L_TXEQ_MAIN n) t.2.1).setFld (LNK_L_TXEQ_POST n) t.2.2

/-- A request on tap i (0 PRE, 1 MAIN, 2 POST) of lane n: at most one change a tap every 2 µs (R475). -/
def tapRequest (n i req : Nat) (s : State) : State :=
  let answer := fun (v : Nat) (z : State) => updLane n (fun x => { x with resp := x.resp - bits x.resp (2 * i) 2 * 2 ^ (2 * i) + v * 2 ^ (2 * i) }) z
  let early := match kget (fun _ => none) (s.lane n).tapAt i with
    | some t => decide (s.now < t + 2000)
    | none => false
  let t := taps s n
  let moved := fun (f : Nat → Nat) => if i = 0 then (f t.1, t.2.1, t.2.2) else if i = 1 then (t.1, f t.2.1, t.2.2) else (t.1, t.2.1, f t.2.2)
  let cur := if i = 0 then t.1 else if i = 1 then t.2.1 else t.2.2
  if req = 0 || early || s.flag (LNK_L_TXEQ_FIX n) then answer 0 s
  else
    let stamp := fun z : State => updLane n (fun x => { x with tapAt := kset (fun _ => none) x.tapAt i (some s.now) }) z
    if req = 3 then answer 1 (stamp (putTaps n (4, 48, 8) s))
    else
      let u := if req = 1 then moved (fun v => v + 1) else moved (fun v => v - 1)
      if (req = 2 && cur = 0) || !tapsOk u.1 u.2.1 u.2.2 then answer (if req = 1 then 3 else 2) s
      else answer 1 (stamp (putTaps n u s))

/-- TS_WORD (R473, R475, R478, R479): a TS word arrives on lane `n`: its STAGE, LANE, RX_READY and REQ. -/
def execTsWord (n : Fin 48) (dt : Nat) (stage : Fin 8) (lane : Fin 16) (ready : Bool) (req : BitVec 6) (s0 : State) : Out :=
  if !s0.mainOn then .next (passTime dt s0) else
  let s := passTime dt s0
  let k := linkOf n
  let st := linkStage s k
  let m := firstLane k + lane.val
  if !s.flag (LNK_L_STAT_RX_PWR n) || beamLink s k || !(rxLanes k).contains n.val then .next s
  else if st = 5 then .next (linkLost k 3 s)
  else if (st = 2 || st = 3 || st = 4) && stage.val = 1 && decide ((s.link k).stageAt + 20000 < s.now) then .next (stageFail k 3 s)
  else if !(lanesOf k).contains m || st = 0 || st = 4 || st = 6 || st = 7 then .next s
  else
    let s1 := if stage.val = 2 || stage.val = 3 then (if st = 2 then s.setFld (LNK_L_STAT_P_RX_READY m) (b2n (ready || decide (stage.val = 3))) else s) else s
    let s2 := if stage.val = 3 && st = 3 then updLane m (fun x => { x with pDesk := ready }) s1 else s1
    .next ([0, 1, 2].foldl (fun z i => tapRequest m i (bits req.toNat (2 * i) 2) z) s2)

/-- ALIGN_WORD (R476, R479, R484): an ALIGN row's word arrives on lane `n` with its count, `skew` words after the link's first lane. -/
def execAlignWord (n : Fin 48) (dt : Nat) (count : BitVec 16) (skew : Nat) (s0 : State) : Out :=
  if !s0.mainOn then .next (passTime dt s0) else
  let s := passTime dt s0
  let k := linkOf n
  let st := linkStage s k
  let x := s.lane n
  let agrees := match x.alignLast with
    | some c => decide ((c + 1) % 65536 = count.toNat) && decide (skew = s.fld (LNK_L_STAT_SKEW n))
    | none => false
  let note := fun z : State => updLane n (fun y => { y with alignLast := some count.toNat, agree := if agrees then y.agree + 1 else 0 }) z
  if !s.flag (LNK_L_STAT_RX_PWR n) || beamLink s k || !(rxLanes k).contains n.val then .next s
  else if st = 3 then
    if 15 < skew then .next (stageFail k 4 s)
    else
      let s1 := note (s.setFld (LNK_L_STAT_SKEW n) skew)
      .next (if agrees then s1.setFld (LNK_L_STAT_DESKEWED n) 1 else s1)
  else if st = 5 then
    if !s.flag (LNK_K_STAT_RX_IDLE k) then .next (linkLost k 3 s)
    else if !agrees then .next (linkLost k 2 s)
    else
      let s1 := note (s.setFld (LNK_L_STAT_SIGNAL n) 1)
      let all := (rxLanes k).all (fun m => decide ((s1.lane m).alignLast = some count.toNat))
      .next (if all then updLink k (fun y => { y with eidleAt := none }) (s1.setFld (LNK_K_STAT_RX_IDLE k) 0) else s1)
  else .next (if st = 4 then note s else s)

/-! ### Electrical idle (R483, R484) -/

/-- EIDLE_WORD (R484). -/
def execEidleWord (k : Fin 8) (dt : Nat) (s0 : State) : Out :=
  if !s0.mainOn then .next (passTime dt s0) else
  let s := passTime dt s0
  .next (if linkStage s k = 5 && !beamLink s k then updLink k (fun x => { x with eidleAt := some s.now }) (s.setFld (LNK_K_STAT_RX_IDLE k) 1) else s)

/-- IDLE_LOS_WINDOW_END (R484): time passes to 64 µs + PICOT_NS + 1 µs after the EIDLE, and its picot has not come. -/
def execIdleLosWindowEnd (k : Fin 8) (s : State) : Out :=
  if !s.mainOn || linkStage s k != 5 then .next s
  else match (s.link k).eidleAt with
  | some t => .next (linkLost k 2 (passTime (t + 65000 + s.rdN (LNK_K_PICOT_NS k) - s.now) s))
  | none => .next s

/-- EIDLE_ENTER (R171, R483): the user asks for electrical idle; 64 words must have followed the last picot. -/
def execEidleEnter (k : Fin 8) (dt : Nat) (s0 : State) : Out :=
  if !s0.mainOn then .next (passTime dt s0) else
  let s1 := passTime dt s0
  let s := if k.val < 4 then settlePort k s1 else s1
  let x := s.link k
  let ready := match x.picotEnd with
    | some t => decide (4 * t + wordsQ (linkRate s k) 64 ≤ 4 * s.now)
    | none => true
  if linkStage s k = 5 && x.idleFrom.isNone && x.picotAt.isNone && ready && (decide (4 ≤ k.val) || (s.flag (SEQ_F_CTL_IDLE_EN k) && !beamLink s k && mayIdle s k)) then
    .next (showTxIdle k true (updLink k (fun y => { y with idleFrom := some s.now }) (if k.val < 4 then takeRow k s else s)))
  else .next s

/-- When an idle stretch ends: on a facet port as its next word comes within IDLE_LEAD or idle is switched off (R171), on a Palis link as its user
has a word to send, `dt` from now, and after 64 µs at the latest (R483). -/
def idleEnd (s : State) (k dt : Nat) : Option Nat :=
  (s.link k).idleFrom.map (fun t =>
    min (t + 64000)
      (if 4 ≤ k then s.now + dt
       else if !s.flag (SEQ_F_CTL_IDLE_EN k) then s.now
       else match nextWordDue s k with
         | some q => q / 4 - s.rdN (SEQ_F_IDLE_LEAD k) % 2 ^ 20
         | none => t + 64000))

/-- PICOT_START (R171, R483): time passes to the end of the idle stretch. -/
def execPicotStart (k : Fin 8) (dt : Nat) (s0 : State) : Out :=
  if !s0.mainOn || linkStage s0 k != 5 then .next s0
  else match idleEnd s0 k dt with
    | some t =>
      let s := passTime (t - s0.now) s0
      .next (showTxIdle k false (updLink k (fun x => { x with idleFrom := none, picotAt := some s.now }) s))
    | none => .next s0

/-- PICOT_DONE (R483): time passes by the picot exit time. -/
def execPicotDone (k : Fin 8) (s0 : State) : Out :=
  if !s0.mainOn then .next s0 else
  match (s0.link k).picotAt with
  | some t =>
    let s := passTime (t + s0.rdN (LNK_K_PICOT_NS k) - s0.now) s0
    .next (updLink k (fun x => { x with picotAt := none, picotEnd := some s.now, alignTx := (x.alignTx + 1) % 65536 }) s)
  | none => .next s0

/-- The picot exit time follows PICOT_LEN and the rate (R483, R493). -/
def showPicot (k : Nat) (s : State) : State :=
  s.wrN (LNK_K_PICOT_NS k) (400 + ceilDiv ((max 64 (s.fld (LNK_K_PICOT_PICOT_LEN k)) + 1) * 660) (rate10 (linkRate s k)))

/-- BEAM_LOCK_DONE (R481): time passes to the end of the 1 ms. -/
def execBeamLockDone (k : Fin 8) (s : State) : Out :=
  if !s.mainOn || linkStage s k != 3 || !beamLink s k then .next s
  else .next (enterActive k (latencies k (passTime ((s.link k).stageAt + 1000000 - s.now) s)))

/-! ### Checking a lane (R485 to R488) -/

/-- LSTAT_WORD (R485). -/
def execLstatWord (k : Fin 4) (lane : Fin 16) (cnt : BitVec 32) (s : State) : Out :=
  if !s.mainOn then .next s else
  .next (if linkStage s k = 5 && !beamLink s k && decide (lane.val < 10) then s.wrN (LNK_L_REM_ERR (10 * k + lane)) cnt.toNat else s)

/-- A write of 1 to CMD.SLIP (R487). -/
def slip (n : Nat) (s : State) : State :=
  if !s.flag (LNK_L_STAT_RX_PWR n) || !s.flag (LNK_K_CTL_MANUAL_LOCK (linkOf n)) then s.setFld (LNK_L_STAT_CMD_STATUS n) stPRECOND
  else updLane n (fun x => { x with boundary := (x.boundary + 1) % 66 }) (s.setFld (LNK_L_STAT_CMD_STATUS n) stOK)

/-- SLIP (R487). -/
def execSlip (n : Fin 48) (s : State) : Out :=
  if !s.clocked then .next s else
  .next (slip n s)

/-- A write of 1 to CMD.INJ (R486): the next data word is inverted in one line bit; a second INJ before that does nothing. -/
def injectError (n : Nat) (s : State) : State := (updLane n (fun x => { x with inj := true }) s).setFld (LNK_L_STAT_CMD_STATUS n) stOK

/-- INJ (R486). -/
def execInj (n : Fin 48) (s : State) : Out :=
  if !s.clocked then .next s else
  .next (injectError n s)

/-- A write of 1 to CMD.CHK_CLR (R488): bits and errors clear, and the lock restarts. -/
def chkClear (n : Nat) (s : State) : State :=
  chkStart n (((s.wrN (LNK_L_CHK_BITS n) 0).wrN (LNK_L_CHK_ERR n) 0).setFld (LNK_L_STAT_CMD_STATUS n) stOK)

/-- CHK_CLR (R488). -/
def execChkClr (n : Fin 48) (s : State) : Out :=
  if !s.clocked then .next s else
  .next (chkClear n s)

/-- When parameter k of a receiver next steps: 1 µs in TRAIN and 10 µs in ACTIVE after its last step in the stage, or after the entry to it (R482). -/
def eqDue (s : State) (n k : Nat) : Nat :=
  let x := s.link (linkOf n)
  max x.stageAt ((kget (fun _ => none) (s.lane n).eqAt k).getD 0) + (if linkStage s (linkOf n) = 2 then 1000 else 10000)

/-- EQ_ADAPT_STEP (R482, R490): time passes to the next step of parameter k, for which the error slicer asks for a value. A step larger than one
unit disturbs a receiver in TRAIN (R475). -/
def execEqAdaptStep (n : Fin 48) (k : Fin 5) (want : Int) (s0 : State) : Out :=
  let st := linkStage s0 (linkOf n)
  if !s0.mainOn || !s0.flag (LNK_L_STAT_RX_PWR n) || !s0.flag (LNK_L_STAT_BLOCK_LOCK n) || !(st = 2 || st = 5) then .next s0
  else
    let s := updLane n (fun x => { x with eqAt := kset (fun _ => none) x.eqAt k (some (max s0.now (eqDue s0 n k))) }) (passTime (eqDue s0 n k - s0.now) s0)
    let p := eqParam n k
    let s1 := adaptStep p want s
    let moved := (aval s1 p p.val - aval s p p.val).natAbs
    .next (if moved = 0 then s1 else disturb n (if 1 < moved then unquiet n s1 else s1))

/-- A software write of an equaliser value (R482, R490). -/
def eqWrite (n k v : Nat) (s : State) : State := disturb n (adaptValue (eqParam n k) v s)

/-- A write of TXEQ (R475): one that breaks a limit or a constraint is ignored. -/
def txeqWrite (n v : Nat) (s : State) : State :=
  if tapsOk (bits v 0 4) (bits v 4 6) (bits v 10 5) then s.wrN (LNK_L_TXEQ n) (v % 65536) else s

/-- TXEQ_WRITE (R475). -/
def execTxeqWrite (n : Fin 48) (v : BitVec 32) (s : State) : Out :=
  if !s.clocked then .next s else
  .next (txeqWrite n v.toNat s)

/-! ### Register writes (R467, R494) -/

/-- A write of LNK_Lk_CTL (R467, R472, R494). -/
def linkCtl (k v : Nat) (s : State) : State :=
  let en := s.flag (LNK_K_CTL_EN k)
  let s1 := (s.setFld (LNK_K_CTL_MANUAL_LOCK k) (bits v 2 1)).setFld (LNK_K_CTL_RETRY_LIM k) (bits v 8 8)
  let s2 := if en then s1 else s1.setFld (LNK_K_CTL_TEST k) (bits v 1 1)
  let s3 := if k < 4 && linkStage s k = 0 then showPicot k (s2.setFld (LNK_K_CTL_RATE k) (bits v 4 3)) else s2
  if bit v 0 then linkEnable k s3 else linkDisable k s3

/-- A write of LNK_PALIS_RATE (R467). -/
def palisRateWrite (v : Nat) (s : State) : State :=
  if [4, 5, 6, 7].all (fun k => linkStage s k == 0) then
    [4, 5, 6, 7].foldl (fun z k => showPicot k (z.setFld (LNK_K_CTL_RATE k) (v % 8))) (s.wrN LNK_PALIS_RATE (v % 8))
  else s

/-- A write of a lane's CMD (R492). -/
def laneCmd (n v : Nat) (s : State) : State :=
  let on := fun (i : Nat) (f : State → State) (z : State) => if bit v i then f z else z
  on 4 (scanStop n) (on 3 (scanGo n) (on 2 (chkClear n) (on 1 (injectError n) (on 0 (slip n) s))))

/-- A change of SCAN's point while software writes it keeps the read-only bits (R492). -/
def scanWrite (n v : Nat) (s : State) : State :=
  ((s.setFld (LNK_L_SCAN_H n) (bits v 0 6)).setFld (LNK_L_SCAN_V n) (bits v 8 7)).setFld (LNK_L_SCAN_LOG2 n) (bits v 16 6)

end Sys2Proof.Machine
end

