-- ==== Sys2Proof/Machine/Cas.lean ====
section
/-! DEFINITION. Machine/Cas.lean: Palis: ports, packets, the tree, show time, rings and subscriptions (R497 to R504, R521 to R540). The
packets that arrive are commands. -/

namespace Sys2Proof.Machine

def updPalis (p : Nat) (f : PalisPort → PalisPort) (s : State) : State := s.setPalis p (f (s.palisPort p))
def updTree (f : CasTree → CasTree) (s : State) : State := { s with tree := f s.tree }
def updTwin (f : TwinRec → TwinRec) (s : State) : State := { s with twin := f s.twin }

/-- A CAS event (R543). -/
def casEvent (p code sev arg : Nat) (s : State) : State := emit blkCAS code sev (0x602D0000 + p * 0x800) arg s

/-! ### Ports (R497, R521) -/

/-- The mode of a port: 0 OFF, 1 TREE, 2 TWIN; TWIN acts as OFF on ports 0 to 2 (R497). -/
def portMode (s : State) (p : Nat) : Nat :=
  let m := s.fld (CAS_P_CTL_MODE p)
  if m = 1 || (m = 2 && p = 3) then m else 0

def portActive (s : State) (p : Nat) : Bool := linkStage s (4 + p) == 5
def treePort (s : State) (p : Nat) : Bool := portMode s p == 1 && portActive s p
def isMaster (s : State) : Bool := s.flag CAS_CTL_MASTER

/-- Is the module in latched shutdown (R539, R545)? -/
def isHot (s : State) : Bool := s.flag HKP_STAT_LATCHED

/-- The upstream port, if the unit has one (R521). -/
def upstream (s : State) : Option Nat := if s.flag CAS_STAT_ATTACHED && !isMaster s then some (s.fld CAS_STAT_UP) else none

def isBlocked (s : State) (p : Nat) : Bool := bit (s.fld CAS_STAT_BLOCKED) p

/-- ROLE of a port (R521, R542): 0 none, 1 upstream, 2 downstream, 3 BLOCKED. -/
def portRole (s : State) (p : Nat) : Nat :=
  if portMode s p != 1 then 0
  else if isBlocked s p then 3
  else if upstream s = some p then 1
  else if portActive s p && s.flag CAS_STAT_ATTACHED then 2
  else 0

/-- The downstream ports. -/
def downPorts (s : State) : List Nat := [0, 1, 2, 3].filter (fun p => portRole s p == 2)

/-- The unit's own address (R504). -/
def ownAddr (s : State) : Nat := if isMaster s then 0 else s.rdN CAS_ADDR % 2 ^ 14

/-- Is an address reserved (R504)? -/
def addrReserved (a : Nat) : Bool := decide (0x2710 < a) && a != 0x3FFE && a != 0x3FFF

/-! ### Sending (R503, R525, R526) -/

/-- Transmit and receive latencies of a port's first lane, in quanta (R471). -/
def txLat (s : State) (p : Nat) : Nat := s.rdN (LNK_L_LAT (40 + 2 * p)) % 65536
def rxLat (s : State) (p : Nat) : Nat := s.rdN (LNK_L_LAT (40 + 2 * p)) / 65536 % 65536

/-- Show time in quanta, `d` quanta from now, modulo 2⁶⁶. -/
def showQ (s : State) (d : Int) : Nat := (((s.showAcc / 2 ^ 30 : Nat) : Int) + d).toNat % 2 ^ 66

/-- The arrival time of a packet handed over now, in quanta of show time (R503). -/
def arrivalQ (s : State) (p : Nat) : Nat := showQ s (-(rxLat s p : Int))

/-- The phase of a timebase `d` quanta from now (R13). -/
def phaseAt (s : State) (n : Nat) (d : Int) : Nat :=
  (((((s.tb n).acc * 4 : Nat) : Int) + (s.incEff n : Int) * d) / ((2 ^ 26 : Nat) : Int)).toNat % 2 ^ 64

/-- The phases of a beacon sent at T_S, `d` quanta from now (R526): the master's own, or those of the last beacon extrapolated. -/
def beaconPhases (s : State) (tS : Nat) (d : Int) : List (Nat × Nat × Nat) :=
  if isMaster s then
    ([0, 1, 2, 3].filter (fun n => bit (s.fld CAS_CTL_TB_SEND) n)).map (fun n => (n, phaseAt s n d, s.incEff n))
  else match s.tree.beacon with
    | none => []
    | some b => b.phases.map (fun x => (x.1, ((x.2.1 : Int) + ((x.2.2 : Int) * ((tS : Int) - (b.tS : Int))).fdiv ((2 ^ 24 : Nat) : Int) : Int).toNat % 2 ^ 64, x.2.2))

/-- The records that wait at a time, as many whole ones as fit into the room of one packet, and the others (R511). -/
def takeRecords (at_ : Nat) : Nat → List (Nat × List Word) → List Word × List (Nat × List Word)
  | _, [] => ([], [])
  | room, r :: t => if at_ < r.1 || room < r.2.length then ([], r :: t) else
      let x := takeRecords at_ (room - r.2.length) t
      (r.2 ++ x.1, x.2)

/-- The words of an item as it is sent, `d` quanta from now at the land (R503, R515, R526). -/
def sentPacket (s : State) (d : Int) (i : CasOut) : CasPkt :=
  let tS := showQ s d / 4
  let w := BitVec.ofNat 64
  match i with
  | .packet p => p
  | .records => { kind := 11, flags := 0, dest := 0x3FFF, src := ownAddr s, hops := 255, data := (takeRecords (((4 * s.now : Nat) : Int) + d).toNat 1024 s.twin.mirOut).1 }
  | .beacon seq hold =>
    let ph := beaconPhases s tS d
    let mask := (ph.map (fun x => 2 ^ x.1)).sum
    { kind := 0, flags := b2n hold, dest := 0x3FFF, src := ownAddr s, hops := 255,
      data := [w tS, w (seq + s.rdN CAS_HOPS % 256 * 2 ^ 16 + mask * 2 ^ 24 + s.rdN CAS_ERR % 2 ^ 32 * 2 ^ 32)] ++ ph.flatMap (fun x => [w x.2.1, w x.2.2]) }
  | .delayReq => { kind := 1, flags := 0, dest := 0x3FFF, src := ownAddr s, hops := 255, data := [w tS] }
  | .delayResp t1 t2 => { kind := 2, flags := 0, dest := 0x3FFF, src := ownAddr s, hops := 255, data := [t1, t2, w tS] }
  | .heartbeat seq flags mir =>
    { kind := 10, flags := 0, dest := 0x3FFF, src := ownAddr s, hops := 255,
      data := [w tS, w (seq + flags * 2 ^ 32), w mir] ++ [0, 1, 2, 3].map (fun n => w (phaseAt s n d)) }

/-- Bytes of an item in a FIFO: the PKT word, the data words and the CRC word (R500, R525). -/
def itemBytes (s : State) (i : CasOut) : Nat := 8 * ((sentPacket s 0 i).data.length + 2)

/-- The start of word cycle c of a port's stream, and the first cycle that starts at or after a time (quanta, R497). -/
def cycTime (s : State) (p c : Nat) : Nat := (s.palisPort p).rowFrom + wordsQ (linkRate s (4 + p)) c
def cycAfter (s : State) (p t : Nat) : Nat := ceilDiv ((t - (s.palisPort p).rowFrom) * rate10 (linkRate s (4 + p))) 2640

/-- The position of a word that a free transmitter sends at a time or later: it goes on in the row it is in, or begins a row (R497). -/
def posAfter (s : State) (p t : Nat) : Nat :=
  let n := (s.palisPort p).nextPos
  if t ≤ cycTime s p (n / 2) then n else max n (2 * cycAfter s p t)

/-- The words of a packet on the line: its PKT word, its data words, and its CRC word where it is whole (R500). -/
def pktCount (k : CasPkt) : Nat := k.data.length + (if k.len.isSome then 1 else 2)

/-- A packet enters the serialiser at a position: an INJ of a lane inverts one line bit of its next data word (R486). -/
def sendPkt (p pos : Nat) (k : CasPkt) (s : State) : State :=
  let hits := [0, 1].filterMap (fun i =>
    let n := 40 + 2 * p + i
    if (s.lane n).inj then ((List.range (pktCount k - 1)).map (fun j => j + 1)).find? (fun j => (pos + j) % 2 == i) else none)
  let s1 := [0, 1].foldl (fun t i => if hits.any (fun j => (pos + j) % 2 == i) then updLane (40 + 2 * p + i) (fun x => { x with inj := false }) t else t) s
  updPalis p (fun x => { x with nextPos := pos + pktCount k, sent := x.sent ++ [⟨pos, k, hits⟩] }) s1

/-- What waits at a port: its FIFO, and on the twin port the mirror records (R511, R525). -/
def waiting (s : State) (p : Nat) : List CasQ :=
  (s.palisPort p).fifo ++ (if p = 3 then (match s.twin.mirOut with
    | [] => []
    | r :: _ => [⟨r.1, 2, .records⟩]) else [])

/-- The next item that a free transmitter takes, and its position (R525). After electrical idle nothing is sent before the picot has ended (R483). -/
def nextItem (s : State) (p : Nat) : Option (Nat × CasQ) :=
  match waiting s p with
  | [] => none
  | a :: t =>
    let from_ := max (4 * ((s.link (4 + p)).picotEnd.getD 0)) (t.foldl (fun m x => min m x.at_) a.at_)
    let pos := posAfter s p from_
    let ready := (a :: t).filter (fun x => decide (x.at_ ≤ cycTime s p (pos / 2)))
    let best := ready.foldl (fun (m : Option CasQ) x => match m with
      | none => some x
      | some y => if x.prio < y.prio then some x else some y) none
    best.map (fun x => (pos, x))

/-- The transmitter of port p works off what waits, up to now (R525). -/
def drainPort (p : Nat) : Nat → State → State
  | 0, s => s
  | k + 1, s =>
    let x := s.palisPort p
    let l := s.link (4 + p)
    if !portActive s p then (if p = 3 then updTwin (fun t => { t with mirOut := [] }) else id) (s.setPalis p { x with fifo := [] })
    else if l.idleFrom.isSome || l.picotAt.isSome then s
    else match nextItem s p with
      | none => s
      | some (pos, e) =>
        let start := cycTime s p (pos / 2)
        if 4 * s.now < start then s
        else
          let pkt := sentPacket s ((start : Int) - (4 * s.now : Nat) + (if e.item = .records then 0 else (txLat s p : Int))) e.item
          let s1 := if e.item = .records then updTwin (fun t => { t with mirOut := (takeRecords start 1024 t.mirOut).2 }) s
            else updPalis p (fun y => { y with fifo := y.fifo.erase e }) s
          drainPort p k (sendPkt p pos pkt s1)

/-- As many steps as can be needed to work off what waits at a port. -/
def drain1 (p : Nat) (s : State) : State := drainPort p ((s.palisPort p).fifo.length + s.twin.mirOut.length + 1) s

/-- PKT_DROP at most once a millisecond (R525). -/
def pktDrop (p : Nat) (s : State) : State :=
  let s1 := s.bump (CAS_P_DROP_CNT p)
  if msPassed (s.palisPort p).dropAt s.now then
    casEvent p 7 svWARNING (p + s1.rdN (CAS_P_DROP_CNT p) * 2 ^ 32) (updPalis p (fun x => { x with dropAt := some s.now }) s1)
  else s1

/-- Put an item into a port's FIFO of 16 KiB: one that does not fit whole is dropped (R525). -/
def sendOn (p prio at_ : Nat) (i : CasOut) (s0 : State) : State :=
  let s := drain1 p s0
  let used := ((s.palisPort p).fifo.map (fun e => itemBytes s e.item)).sum
  if !portActive s p then s
  else if 16384 < used + itemBytes s i then pktDrop p s
  else
    drain1 p (updPalis p (fun x => { x with fifo := x.fifo ++ [⟨at_, prio, i⟩] }) s)

/-- Send a beacon on every downstream port, and of a holding twin on the twin port (R526). -/
def sendBeacons (hold : Bool) (s : State) : State :=
  let twin := if portMode s 3 == 2 && s.flag CAS_TW_CTL_EN && s.driving then [3] else []
  let seq := s.tree.seq
  (downPorts s ++ twin).foldl (fun t p => sendOn p 1 (4 * t.now) (.beacon seq hold) t) (updTree (fun t => { t with seq := (seq + 1) % 65536 }) s)

/-! ### Receiving (R499, R502, R523) -/

/-- A word or packet is discarded: BAD_CNT, and PKT_BAD at most once a millisecond for a packet (R499, R502). -/
def pktBad (p : Nat) (event : Bool) (s : State) : State :=
  let s1 := s.bump (CAS_P_BAD_CNT p)
  if event && msPassed (s.palisPort p).badAt s.now then
    casEvent p 6 svNOTICE (p + s1.rdN (CAS_P_BAD_CNT p) * 2 ^ 32) (updPalis p (fun x => { x with badAt := some s.now }) s1)
  else s1

/-- LEN of a PKT word, and its body (R500). -/
def pktLen (w : Word) : Nat := bits w.toNat 44 11
def pktBody (w : Word) : Nat := w.toNat / 256

/-- The CRC word of a PKT word's body and its data words: HOPS counts as 0 (R501). -/
def pktCrc (body : Nat) (data : List Word) : Word :=
  BitVec.ofNat 64 (crc32 (leBytes 7 (body - bits body 47 8 * 2 ^ 47) ++ data.flatMap (fun x => leBytes 8 x.toNat)))

/-- The PKT word of a packet (R500). -/
def pktWord (k : CasPkt) : LWord :=
  ctlWord 0x78 (pack [(0, 4, k.kind), (4, 4, k.flags), (8, 14, k.dest), (22, 14, k.src), (36, 11, k.len.getD k.data.length), (47, 8, k.hops)])

/-- The words of a packet on the line (R500, R501): one passed on keeps its CRC word, and one cut short has none. -/
def pktWords (k : CasPkt) : List LWord :=
  pktWord k :: (k.data ++ (if k.len.isSome then [] else [k.crc.getD (pktCrc ((pktWord k).w.toNat / 256) k.data)])).map (fun x => { ctl := false, w := x })

/-- What the opening word of a packet of a kind is found to be: 0 its PKT word, 1 a word that no Palis link carries (R499), 2 a PKT word that is
discarded (R502, R503), 3 another word: of the lane layer, IDLE, or of another kind of packet. -/
def headFault (kind : Nat) (w : Word) : Nat :=
  let ty := w.toNat % 256
  if ty != 0x78 then (if [0x1E, 0x4B, 0x5A, 0x66, 0x69].contains ty then 3 else 1)
  else if 12 ≤ bits w.toNat 8 4 || (bits w.toNat 8 4 == kind && (decide (1024 < pktLen w) || bit w.toNat 63)) then 2
  else if bits w.toNat 8 4 != kind then 3
  else 0

/-- Is a packet cut short by a control word after the words `ws`, or is its CRC wrong (R502)? -/
def tailBad (w : Word) (ws : List Word) : Bool :=
  decide (ws.length ≤ pktLen w) || ws.getD (pktLen w) 0#64 != pktCrc (pktBody w) (ws.take (pktLen w))

/-- A packet of one hop: it is taken where the link is ACTIVE, or CAPS for a CAPS packet, and nothing is wrong with it (R499, R502). `f` is
given its FLAGS and its data words. -/
def oneHop (p stage kind : Nat) (w : Word) (ws : List Word) (f : Nat → List Word → State → State) (s : State) : State :=
  if portMode s p = 0 || linkStage s (4 + p) != stage then s
  else match headFault kind w with
    | 0 => if tailBad w ws then pktBad p true s else f (bits w.toNat 12 4) (ws.take (pktLen w)) s
    | 1 => pktBad p false s
    | 2 => pktBad p true s
    | _ => s

/-- The packet that a PKT word and the words after it spell (R500): one that is passed on keeps its CRC word (R501). -/
def pktOf (w : Word) (ws : List Word) : CasPkt :=
  { kind := bits w.toNat 8 4, flags := bits w.toNat 12 4, dest := bits w.toNat 16 14, src := bits w.toNat 30 14, hops := bits w.toNat 55 8, data := ws.take (pktLen w), len := if ws.length ≤ pktLen w then some (pktLen w) else none, crc := ws[pktLen w]? }

/-- Forward a packet to ports (R523): cut-through 28 FAB cycles (17.5 ns) after it is handed over (R38); one with no hops left is dropped. -/
def forward (ports : List Nat) (pkt : CasPkt) (s : State) : State :=
  if ports.isEmpty then s
  else if pkt.hops = 0 then s.bump CAS_HOP_DROP_CNT
  else ports.foldl (fun t p => sendOn p 3 (4 * t.now + 70) (.packet { pkt with hops := pkt.hops - 1 }) t) s

/-- The master turns a packet down every downstream port, with HOPS set to 255 (R524). -/
def turn (pkt : CasPkt) (s : State) : State :=
  if pkt.hops = 0 then s.bump CAS_HOP_DROP_CNT
  else (downPorts s).foldl (fun t p => sendOn p 3 (4 * t.now + 70) (.packet { pkt with hops := 255 }) t) s

/-- A packet of the tree arrives (R523): `fwd` passes it on, and `take` takes it locally where nothing is wrong with it and the module is
not hot (R502, R539). On a TWIN port, and in a role that its kind does not have, it is dropped and counted. -/
def treePacket (p kind : Nat) (up down : Bool) (w : Word) (ws : List Word) (fwd take : CasPkt → State → State) (s : State) : State :=
  let r := portRole s p
  if portMode s p = 0 || !portActive s p || r = 3 then s
  else match headFault kind w with
    | 0 =>
      if portMode s p = 2 || r = 0 || (r = 1 && !up) || (r = 2 && !down) then pktBad p false s
      else
        let s1 := fwd (pktOf w ws) s
        if tailBad w ws then pktBad p true s1 else if isHot s then s1 else take (pktOf w ws) s1
    | 1 => pktBad p false s
    | 2 => pktBad p true s
    | _ => s

/-! ### Rings (R533 to R537) -/

/-- A byte ring: its number in RING_ERR, base, size, and the registers of HEAD and TAIL. -/
structure RingRegs where
  id : Nat
  base : Nat
  size : Nat
  head : Nat
  tail : Nat
deriving DecidableEq, Repr

def rxRing : RingRegs := ⟨0, CAS_RX_BASE, CAS_RX_SIZE, CAS_RX_HEAD, CAS_RX_TAIL⟩
def txRing : RingRegs := ⟨1, CAS_TX_BASE, CAS_TX_SIZE, CAS_TX_HEAD, CAS_TX_TAIL⟩
def subRing (k : Nat) : RingRegs := ⟨16 + k, CAS_SUB_BASE k, CAS_SUB_SIZE k, CAS_SUB_HEAD k, CAS_SUB_TAIL k⟩

/-- The ring of a subscription: its own byte ring, or the stream ring of its axis, whose entries are 16 bytes (R536). -/
def ringOfId (s : State) (id : Nat) : RingRegs :=
  if id = 0 then rxRing else if id = 1 then txRing
  else if s.flag (CAS_SUB_CTL_FOLLOW (id - 16)) then
    let a := s.fld (CAS_SUB_CTL_AXIS (id - 16))
    ⟨id, CTL_A_STREAM_BASE a, CTL_A_STREAM_SIZE a, CTL_A_STREAM_HEAD a, CTL_A_STREAM_TAIL a⟩
  else subRing (id - 16)

/-- What CAS keeps of a ring. -/
def ringRec (s : State) (id : Nat) : CasRing := if id = 0 then s.tree.rx else if id = 1 then s.tree.tx else (s.sub (id - 16)).ring

def updRing (id : Nat) (f : CasRing → CasRing) (s : State) : State :=
  if id = 0 then updTree (fun t => { t with rx := f t.rx }) s
  else if id = 1 then updTree (fun t => { t with tx := f t.tx }) s
  else s.setSub (id - 16) { s.sub (id - 16) with ring := f (s.sub (id - 16)).ring }

/-- A ring's size as it acts (R533): a power of two from 64 KiB to 256 MiB, else none. -/
def byteSize (n : Nat) : Nat := if (List.range 13).any (fun k => n == 2 ^ (k + 16)) then n else 0

/-- RING_ERR: a fault of a ring resolved as failed stops it (R537). -/
def ringFail (id : Nat) (s : State) : State :=
  casEvent 0 0xA svERROR id (updRing id (fun r => { r with stall := none, stopped := true }) s)

/-- Write the bytes of a record 8 at a time; the rest where a write faults (agent 9, R368, R537). -/
def writeRing (id va : Nat) : Nat → List Byte → State → State × Option (List Byte)
  | 0, _, s => (s, none)
  | k + 1, bs, s =>
    if bs.isEmpty then (s, none)
    else match xlate s (sysAsid s) 0 va akWRITE with
      | .ok t => writeRing id (va + 8) k (bs.drop 8) (storeAt t (bs.take 8) (keepXlat (sysAsid s) va s))
      | .bad c l h =>
        (faultOn { agent := 9, unit := id, asid := sysAsid s, va := va, kind := akWRITE, cause := c, level := l, hostLeaf := h,
                   held := c != fcHOST_ERR, data := bs } s, if c == fcHOST_ERR then some [] else some bs)

/-- Write bytes at an offset of a ring, after which HEAD stands at `next`: done, stalled behind a held write, or stopped (R537). -/
def putRing (r : RingRegs) (off : Nat) (bs : List Byte) (next : Nat) (s : State) : State :=
  let w := writeRing r.id (s.rdN r.base + off) (bs.length / 8 + 1) bs s
  match w.2 with
  | none => w.1.wrN r.head next
  | some [] => ringFail r.id w.1
  | some _ => updRing r.id (fun x => { x with stall := some next }) w.1

/-- Put a record into a byte ring (R533): where it would wrap, a pad record fills the ring up to its end. The answer is none where it
does not fit, or the ring is stalled or stopped, or there is none. -/
def ringRecord (r : RingRegs) (pad bs : List Byte) (s : State) : Option State :=
  let size := byteSize (s.rdN r.size)
  let k := ringRec s r.id
  let head := s.rdN r.head
  let tail := s.rdN r.tail
  if size = 0 || k.stopped || k.stall.isSome then none
  else
    let used := (head + size - tail % size) % size
    let toEnd := size - head
    if bs.length ≤ toEnd then
      if used + bs.length < size then some (putRing r head bs ((head + bs.length) % size) s) else none
    else if used + toEnd + bs.length < size then some (putRing r 0 bs (bs.length % size) (putRing r head (pad.take toEnd) 0 s))
    else none

/-- A packet taken locally goes to the RX ring (R533). -/
def takeRx (p : Nat) (pkt : CasPkt) (s : State) : State :=
  let hdr := fun k : Nat => leBytes 8 s.showTime ++ leBytes 1 p ++ leBytes 1 k ++ leBytes 2 pkt.data.length ++ leBytes 2 pkt.src ++ leBytes 2 pkt.dest
  if s.rdN CAS_RX_SIZE = 0 then s
  else match ringRecord rxRing (hdr 0xFF) (hdr pkt.kind ++ pkt.data.flatMap (fun w => leBytes 8 w.toNat)) s with
    | some t => updRing 0 (fun r => { r with losing := false }) t
    | none =>
      let s1 := s.bump CAS_RX_LOST_CNT
      if s.tree.rx.losing then s1
      else casEvent p 9 svNOTICE (s1.rdN CAS_RX_LOST_CNT) (updRing 0 (fun r => { r with losing := true }) s1)

/-- A subscription loses something: GAP_CNT and SUB_GAP (R535). -/
def subGap (k : Nat) (s : State) : State :=
  let s1 := s.bump (CAS_SUB_GAP_CNT k)
  casEvent 0 8 svNOTICE (k + s1.rdN (CAS_SUB_GAP_CNT k) * 2 ^ 32) s1

/-- A CONTENT fragment for subscription k (R535): after a gap, fragments are discarded until one opens a block. -/
def takeContent (k : Nat) (pkt : CasPkt) (s : State) : State :=
  let w0 := (pkt.data.headD 0#64).toNat
  let seq := bits w0 16 32
  let x := s.sub k
  let first := bit pkt.flags 0
  let gap := match x.last with
    | some l => seq != (l + 1) % 2 ^ 32
    | none => false
  let s1 := s.setSub k { x with last := some seq, skipping := (x.skipping || gap || x.last.isNone) && !first }
  let s2 := if gap then subGap k s1 else s1
  if (s2.sub k).skipping then s2
  else
    let body := (pkt.data.drop 1).flatMap (fun w => leBytes 8 w.toNat)
    let rec_ := leBytes 4 seq ++ leBytes 2 body.length ++ leBytes 2 pkt.flags ++ body
    match ringRecord (subRing k) (leBytes 4 0 ++ leBytes 2 0 ++ leBytes 2 0) rec_ s2 with
    | some t => t
    | none => subGap k (s2.setSub k { s2.sub k with skipping := true })

/-- One FOLLOW record for the stream ring of an axis (R536): one that would overrun TAIL is dropped. -/
def followRecord (k : Nat) (t x : Word) (s : State) : State :=
  let r := ringOfId s (16 + k)
  let size := s.rdN r.size
  let head := s.rdN r.head
  let z := (s.sub k).ring
  let lost := s.bump (CAS_SUB_GAP_CNT k)
  if !ringSizeOk size || z.stopped || z.stall.isSome || (head + 1) % size == s.rdN r.tail % size then lost
  else putRing r (16 * head) (leBytes 8 t.toNat ++ leBytes 8 x.toNat) ((head + 1) % size) s

/-- Pairs of words. -/
def wordPairs : List Word → List (Word × Word)
  | a :: b :: t => (a, b) :: wordPairs t
  | _ => []

/-- The subscriptions that take a stream (R535, R536). -/
def subsOf (s : State) (follow : Bool) (stream : Nat) : List Nat :=
  (List.range 16).filter (fun k => s.flag (CAS_SUB_CTL_EN k) && s.flag (CAS_SUB_CTL_FOLLOW k) == follow && s.fld (CAS_SUB_CTL_STREAM k) == stream)

/-- A held ring access is resolved (R367, R537): its rest is written and HEAD moves on, or the ring stops. -/
def resolveCas (id va : Nat) (data : List Byte) (fail : Bool) (s : State) : State :=
  let r := ringOfId s id
  match (ringRec s id).stall with
  | none => s
  | some next =>
    let s1 := updRing id (fun x => { x with stall := none }) s
    if fail then ringFail id s1
    else if id = 1 then s1
    else
      let w := writeRing id va (data.length / 8 + 1) data s1
      match w.2 with
      | none => w.1.wrN r.head next
      | some [] => ringFail id w.1
      | some _ => updRing id (fun x => { x with stall := some next }) w.1

/-- A write of a ring's BASE: a stopped ring works again (R537). -/
def ringBase (id : Nat) (s : State) : State := updRing id (fun r => { r with stopped := false }) s

/-! ### Beacons and show time (R521, R526 to R529) -/

/-- The show-time loop (R528), of the form of R63: SLEW_PPM acts between 1 and 50. -/
def slewShow (theta : Int) (s : State) : State :=
  let lim : Int := (clampN (s.fld CAS_TIME_SLEW_PPM) 1 50 * 4295 : Nat)
  let i := clampI (s.tree.integ + (theta * (s.fld CAS_TIME_KI : Nat)).fdiv 256) (-lim) lim
  (updTree (fun t => { t with integ := i }) s).wrN CAS_RATE (ofInt (clampI (theta * (s.fld CAS_TIME_KP : Nat) + i) (-lim) lim) 32)

/-- A beacon disciplines show time (R528); ERR grows by |θ| and 1 ns. -/
def discipline (p tS err : Nat) (s : State) : State :=
  let d := sext (s.rdN (CAS_P_DELAY p)) 24
  let theta := wrapI ((4 * tS : Nat) + d - (arrivalQ s p : Int)) ((2 ^ 66 : Nat) : Int)
  let s1 := (s.wrN CAS_OFFSET (ofInt theta 32)).wrN CAS_ERR (min (err + theta.natAbs + 4) 0xFFFFFFFF)
  let s2 := updTree (fun t => { t with mayStep := false }) s1
  if s.tree.mayStep && decide (4 * s.rdN CAS_STEP_NS < theta.natAbs) then
    casEvent p 4 svWARNING (ofInt (rndDiv theta 4) 64)
      ({ s2 with showAcc := (((s2.showAcc : Int) + theta * ((2 ^ 30 : Nat) : Int)) % ((2 ^ 96 : Nat) : Int)).toNat }.setFld CAS_STAT_STEPPED 1)
  else slewShow theta s2

/-- The phases of a beacon: timebase, phase, increment (R503). -/
def phaseList (mask : Nat) (ws : List Word) : List (Nat × Nat × Nat) :=
  List.zipWith (fun n x => (n, x.1.toNat, x.2.toNat % 2 ^ 48)) ([0, 1, 2, 3].filter (fun n => bit mask n)) (wordPairs ws)

/-- The phases go to the timebases whose source is BEACON on the port, as of T_R - D (R529). -/
def handPhases (p : Nat) (ph : List (Nat × Nat × Nat)) (s : State) : State :=
  let lag := sext (s.rdN (CAS_P_DELAY p)) 24 + (rxLat s p : Int)
  [0, 1, 2, 3].foldl (fun t n =>
    if hearsSource t n && t.fld (PHS_TB_SRC_TYPE n) == 4 && t.fld (PHS_TB_SRC_SEL n) == p then
      match ph.find? (fun x => x.1 == t.fld (PHS_TB_SRC_MTB n)) with
      | some x => beaconSample n x.2.1 lag t
      | none => t
    else t) s

/-- A valid beacon on the upstream port, or on the twin port of a standby without one (R526, R528, R529). -/
def acceptBeacon (p : Nat) (flags : Nat) (data : List Word) (s : State) : State :=
  let w0 := (data.headD 0#64).toNat
  let w1 := (data.getD 1 0#64).toNat
  let ph := phaseList (bits w1 24 4) (data.drop 2)
  let s1 := handPhases p ph (discipline p w0 (bits w1 32 32) s)
  updTree (fun t => { t with beacon := some ⟨w0, bits w1 32 32, bits w1 16 8, ph⟩, beaconAt := s.now }) (s1.setFld CAS_STAT_HOLDOVER (flags % 2))

/-- A port is BLOCKED, and LOOP is written once (R521). -/
def blockPort (p : Nat) (s : State) : State :=
  if isBlocked s p then s else casEvent p 3 svWARNING p (s.setFld ⟨CAS_STAT, 8 + p, 1⟩ 1)

/-- BEACON (R521, R522, R526 to R529): after dt ns a beacon is handed over on port p, as its PKT word and the words after it. -/
def execBeacon (p : Fin 4) (dt : Nat) (w : BitVec 64) (ws : List (BitVec 64)) (s0 : State) : Out :=
  if !s0.mainOn then .next (passTime dt s0) else
  .next (oneHop p 5 0 w ws (fun flags data s =>
    let w1 := (data.getD 1 0#64).toNat
    let hops := min (bits w1 16 8 + 1) 255
    let valid := data.length == 2 + 2 * ([0, 1, 2, 3].filter (fun n => bit (bits w1 24 4) n)).length
    let up := upstream s
    let attach := up.isNone && !isMaster s && (!s.flag CAS_CTL_UP_FIX || s.fld CAS_CTL_UP_PORT == p.val)
    if !valid then pktBad p true s
    else if portMode s p = 2 then
      if s.flag CAS_TW_CTL_EN && s.fld CAS_TW_STAT_STATE == 2 && up.isNone then acceptBeacon p flags data s
      else handPhases p (phaseList (bits w1 24 4) (data.drop 2)) s
    else if isBlocked s p then s
    else if attach || up = some p.val then
      let back := attach || s.flag CAS_STAT_UP_LOST
      let s1 := (((s.setFld CAS_STAT_ATTACHED 1).setFld CAS_STAT_UP p).setFld CAS_STAT_UP_LOST 0).wrN CAS_HOPS hops
      let s2 := if attach then updTree (fun t => { t with presAt := none }) s1 else s1
      let s3 := emitIf back blkCAS 1 svINFO (0x602D0000 + p * 0x800) (p + hops * 256) s2
      sendBeacons (bit flags 0) (acceptBeacon p flags data s3)
    else blockPort p s) (passTime dt s0))

/-- Nanoseconds until show time stands at a time or beyond it, on the present rate (R12, R528). -/
def untilShow (s : State) (t : Nat) : Nat := ceilDiv (t * 2 ^ 32 - s.showAcc) ((2 : Int) ^ 32 + sext (s.rdN CAS_RATE) 32).toNat

/-- BEACON_SEND (R522, R526): time passes until show time crosses a multiple of 64,000 ns, at the master or at a unit that has lost its upstream. -/
def execBeaconSend (s0 : State) : Out :=
  if !s0.mainOn || !(isMaster s0 || s0.flag CAS_STAT_UP_LOST) then .next s0
  else
    let s := passTime (if s0.showTime / 64000 = s0.tree.lastMult then untilShow s0 ((s0.tree.lastMult + 1) * 64000) else 0) s0
    .next (sendBeacons (!isMaster s) (updTree (fun t => { t with lastMult := s.showTime / 64000 }) s))

/-- UPSTREAM_LOST (R522): the upstream link has left ACTIVE, or time passes until 16 beacon intervals have gone by without a beacon. -/
def execUpstreamLost (s0 : State) : Out :=
  if !s0.mainOn then .next s0 else
  match upstream s0 with
  | none => .next s0
  | some p =>
    if s0.flag CAS_STAT_UP_LOST then .next s0
    else
      let s := passTime (if portActive s0 p then s0.tree.beaconAt + 1024000 - s0.now else 0) s0
      .next (casEvent p 2 svWARNING p (updTree (fun t => { t with lastMult := s.showTime / 64000 }) (s.setFld CAS_STAT_UP_LOST 1)))

/-- A write of 1 to CMD.REROOT (R522, R528). -/
def reroot (s : State) : State :=
  let s1 := ((s.setFld CAS_STAT_BLOCKED 0).setFld CAS_STAT_UP_LOST 0).setFld CAS_STAT_CMD_STATUS stOK
  let s2 := if isMaster s then s1 else ((s1.setFld CAS_STAT_ATTACHED 0).setFld CAS_STAT_UP 0).wrN CAS_HOPS 255
  updTree (fun t => { t with mayStep := true, beacon := none }) (s2.setFld CAS_STAT_STEPPED 0)

/-- REROOT (R522). -/
def execReroot (s : State) : Out :=
  if !s.clocked then .next s else
  .next (reroot s)

/-- A write of CAS_CTL (R521, R542): a unit that becomes the master has no upstream port. -/
def casCtl (v : Nat) (s : State) : State :=
  let s1 := s.wrN CAS_CTL (v % 256 + bits v 16 16 * 65536)
  if bit v 0 && !isMaster s then
    updTree (fun t => { t with lastMult := s.showTime / 64000 }) ((((s1.setFld CAS_STAT_ATTACHED 1).setFld CAS_STAT_UP 0).setFld CAS_STAT_UP_LOST 0).wrN CAS_HOPS 0)
  else if !bit v 0 && isMaster s then (s1.setFld CAS_STAT_ATTACHED 0).wrN CAS_HOPS 255
  else s1

/-- A write of a port's CTL (R497): MODE changes only while the link is OFF. -/
def casPortCtl (p v : Nat) (s : State) : State := if linkStage s (4 + p) = 0 then s.setFld (CAS_P_CTL_MODE p) v else s

/-! ### Delay (R527) -/

/-- DELAY_REQ_SEND (R527): time passes to 1 ms after the last. -/
def execDelayReqSend (p : Fin 4) (s0 : State) : Out :=
  if !s0.mainOn || portMode s0 p = 0 || !portActive s0 p || isHot s0 then .next s0
  else
    let s := passTime (match (s0.palisPort p).reqAt with
      | some t => t + 1000000 - s0.now
      | none => 0) s0
    .next (sendOn p 1 (4 * s.now) .delayReq (updPalis p (fun x => { x with reqAt := some s.now }) s))

/-- DELAY_REQ (R527). -/
def execDelayReq (p : Fin 4) (dt : Nat) (w : BitVec 64) (ws : List (BitVec 64)) (s0 : State) : Out :=
  if !s0.mainOn then .next (passTime dt s0) else
  .next (oneHop p 5 1 w ws (fun _ data s =>
    if isBlocked s p then s
    else sendOn p 1 (4 * s.now) (.delayResp (data.headD 0#64) (BitVec.ofNat 64 (arrivalQ s p / 4))) s) (passTime dt s0))

/-- DELAY_RESP (R527): DELAY holds the mean of the last 16 values. -/
def execDelayResp (p : Fin 4) (dt : Nat) (w : BitVec 64) (ws : List (BitVec 64)) (s0 : State) : Out :=
  if !s0.mainOn then .next (passTime dt s0) else
  .next (oneHop p 5 2 w ws (fun _ data s =>
    if isBlocked s p then s
    else
      let t := fun k : Nat => (4 * (data.getD k 0#64).toNat : Nat)
      let round := wrapI ((arrivalQ s p : Int) - (t 0 : Int)) ((2 ^ 66 : Nat) : Int) - wrapI ((t 2 : Int) - (t 1 : Int)) ((2 ^ 66 : Nat) : Int)
      let d := rndDiv round 2 + sext (s.rdN (CAS_P_ASYM p)) 16
      let l := ((s.palisPort p).delays ++ [d]).drop ((s.palisPort p).delays.length + 1 - 16)
      (updPalis p (fun x => { x with delays := l }) s).wrN (CAS_P_DELAY p) (ofInt (rndDiv l.sum l.length) 24)) (passTime dt s0))

/-! ### Packets of the tree (R523, R524, R530, R535, R536) -/

/-- Where a packet from port p goes on: from upstream to every downstream port, from downstream to the upstream port. -/
def onwards (s : State) (p : Nat) : List Nat :=
  if portRole s p = 1 then downPorts s else if portRole s p = 2 then (upstream s).toList else []

/-- JOIN (R530): a unit forwards it upstream, the master takes it. -/
def execJoin (p : Fin 4) (dt : Nat) (w : BitVec 64) (ws : List (BitVec 64)) (s0 : State) : Out :=
  if !s0.mainOn then .next (passTime dt s0) else
  .next (treePacket p 3 false true w ws (fun pkt s => forward (onwards s p) pkt s) (fun pkt s => if isMaster s then takeRx p pkt s else s) (passTime dt s0))

/-- ROSTER (R530). -/
def execRoster (p : Fin 4) (dt : Nat) (w : BitVec 64) (ws : List (BitVec 64)) (s0 : State) : Out :=
  if !s0.mainOn then .next (passTime dt s0) else
  .next (treePacket p 4 true false w ws (fun pkt s => forward (onwards s p) pkt s) (takeRx p) (passTime dt s0))

/-- PRESENCE (R530). -/
def execPresence (p : Fin 4) (dt : Nat) (w : BitVec 64) (ws : List (BitVec 64)) (s0 : State) : Out :=
  if !s0.mainOn then .next (passTime dt s0) else
  .next (treePacket p 5 false true w ws (fun pkt s => forward (onwards s p) pkt s) (fun pkt s => if isMaster s then takeRx p pkt s else s) (passTime dt s0))

/-- PRESENCE_SEND (R530): time passes to PRES_MS after the last; the first is sent as the unit has attached. -/
def execPresenceSend (s0 : State) : Out :=
  if !s0.mainOn then .next s0 else
  match upstream s0 with
  | none => .next s0
  | some p =>
      let s := passTime (match s0.tree.presAt with
        | some t => t + max 1 (s0.fld CAS_CTL_PRES_MS) * 1000000 - s0.now
        | none => 0) s0
      let w1 := ownAddr s + s.rdN CAS_HOPS % 256 * 2 ^ 14 + b2n (s.flag CAS_TW_CTL_EN) * 2 ^ 22 + b2n (s.fld CAS_TW_STAT_STATE == 2) * 2 ^ 23 + b2n (isHot s) * 2 ^ 24
      let pkt : CasPkt := { kind := 5, flags := 0, dest := 0, src := ownAddr s, hops := 255, data := [s.rd CAS_UID, BitVec.ofNat 64 w1] }
      .next (sendOn p 4 (4 * s.now) (.packet pkt) (updTree (fun t => { t with presAt := some s.now }) s))

/-- Where a CONTENT, FOLLOW or MSG packet goes: the master turns what comes from downstream for others. -/
def passOn (p : Nat) (pkt : CasPkt) (s : State) : State :=
  if isMaster s && portRole s p = 2 then (if pkt.dest = 0 then s else turn pkt s) else forward (onwards s p) pkt s

/-- CONTENT (R535). -/
def execContent (p : Fin 4) (dt : Nat) (w : BitVec 64) (ws : List (BitVec 64)) (s0 : State) : Out :=
  if !s0.mainOn then .next (passTime dt s0) else
  .next (treePacket p 6 true true w ws (passOn p)
    (fun pkt s => if portRole s p = 1 then (subsOf s false (bits (pkt.data.headD 0#64).toNat 0 16)).foldl (fun t k => takeContent k pkt t) s else s) (passTime dt s0))

/-- MSG (R523): one addressed to a unit it reaches from downstream is consumed there. -/
def execMsg (p : Fin 4) (dt : Nat) (w : BitVec 64) (ws : List (BitVec 64)) (s0 : State) : Out :=
  if !s0.mainOn then .next (passTime dt s0) else
  .next (treePacket p 7 true true w ws
    (fun pkt s => if portRole s p = 2 && pkt.dest == ownAddr s then s else passOn p pkt s)
    (fun pkt s => if pkt.dest = ownAddr s || (portRole s p = 1 && pkt.dest == 0x3FFF) || isMaster s then takeRx p pkt s else s) (passTime dt s0))

/-- FOLLOW (R536). -/
def execFollow (p : Fin 4) (dt : Nat) (w : BitVec 64) (ws : List (BitVec 64)) (s0 : State) : Out :=
  if !s0.mainOn then .next (passTime dt s0) else
  .next (treePacket p 8 true true w ws (passOn p)
    (fun pkt s => if portRole s p = 1 then
        (subsOf s true (bits (pkt.data.headD 0#64).toNat 0 16)).foldl (fun t k => (wordPairs (pkt.data.drop 1)).foldl (fun u x => followRecord k x.1 x.2 u) t) s
      else s) (passTime dt s0))

/-! ### The TX ring (R534) -/

/-- Is a TX record bad: its KIND, DEST or LEN, or a port that is OFF (R534)? -/
def txBad (s : State) (kind dest len ports : Nat) : Bool :=
  !([3, 6, 7, 8].contains kind || (kind == 4 && isMaster s)) || addrReserved dest || decide (1024 < len) ||
    [0, 1, 2, 3].any (fun p => bit ports p && portMode s p == 0)

/-- TX_RING_SEND (R534): the record at HEAD is sent, or skipped where it is bad; a pad record ends a lap. -/
def execTxRingSend (s0 : State) : Out :=
  if !s0.clocked then .next s0 else
  let s := if isHot s0 || s0.rdN CAS_TX_HEAD = s0.rdN CAS_TX_TAIL then s0 else sysTouch (s0.rdN CAS_TX_BASE + s0.rdN CAS_TX_HEAD) 16 28 s0
  let size := byteSize (s.rdN CAS_TX_SIZE)
  let head := s.rdN CAS_TX_HEAD
  let r := s.tree.tx
  if isHot s || size = 0 || r.stopped || r.stall.isSome || head % size = s.rdN CAS_TX_TAIL % size then .next s
  else
    let va := s.rdN CAS_TX_BASE + head
    let stop := fun (a c l : Nat) (h : Bool) =>
      let s1 := faultOn { agent := 9, unit := 1, asid := sysAsid s, va := a, kind := akREAD, cause := c, level := l, hostLeaf := h,
                          held := c != fcHOST_ERR, data := [] } s
      if c == fcHOST_ERR then ringFail 1 s1 else updRing 1 (fun x => { x with stall := some head }) s1
    match xlate s (sysAsid s) 0 va akREAD with
    | .bad c l h => .next (stop va c l h)
    | .ok t =>
      let hdr := loadAt s t 16
      let b := fun (o n : Nat) => leNat ((hdr.drop o).take n)
      let kind := b 0 1
      let len := b 2 2
      let dest := b 4 2
      let ports := b 6 1 % 16
      let done := fun z : State => z.wrN CAS_TX_HEAD ((head + 16 + 8 * len) % size)
      if kind = 0xFF then .next (s.wrN CAS_TX_HEAD 0)
      else if txBad s kind dest len ports then .next (done (s.bump CAS_TX_BAD_CNT))
      else
        let pages := (List.range (len * 8 / 4096 + 2)).map (fun k => min (va + 4096 * k) (va + 16 + 8 * len - 1))
        match pages.find? (fun a => match xlate s (sysAsid s) 0 a akREAD with
          | .ok _ => false
          | .bad _ _ _ => true) with
        | some a => match xlate s (sysAsid s) 0 a akREAD with
          | .bad c l h => .next (stop a c l h)
          | .ok _ => .next s
        | none =>
          let pkt : CasPkt := { kind := kind, flags := b 1 1 % 16, dest := dest, src := ownAddr s, hops := 255, data := (List.range len).map (fun k => BitVec.ofNat 64 (leNat (sysRead s (va + 16 + 8 * k) 8))) }
          let dests := if ports = 0 then (if isMaster s then downPorts s else (upstream s).toList) else [0, 1, 2, 3].filter (fun p => bit ports p)
          .next (done (dests.foldl (fun z p => sendOn p 4 (4 * z.now) (.packet pkt) z) (sysTouch (va + 16) (8 * len) 28 s)))

/-! ### CAPS (R477, R498, R538) -/

/-- The CAPS packet that a port sends now (R498, R503). -/
def capsPkt (s : State) (p : Nat) : CasPkt :=
  { kind := 9, flags := 0, dest := 0x3FFF, src := ownAddr s, hops := 255, data := [BitVec.ofNat 64 (pack [(0, 16, 2), (16, 2, portMode s p), (18, 1, b2n (isMaster s)), (19, 1, s.fld CAS_TW_CTL_TWIN_ID), (20, 1, s.fld CAS_TW_CTL_EN), (21, 1, b2n (s.flag CAS_TW_CTL_EN && s.driving))]), s.rd CAS_UID, BitVec.ofNat 64 (ownAddr s + s.rdN CAS_HOPS % 256 * 2 ^ 14)] }

/-- The CAPS packets of a port up to now have been sent: one every 100 µs from the entry to CAPS until the partner's has come (R498). -/
def capsSend (p : Nat) (s : State) : State :=
  let x := s.palisPort p
  let at_ := (s.link (4 + p)).stageAt
  if linkStage s (4 + p) != 4 || portMode s p = 0 || x.heard.isSome then s
  else
    let n := (s.now - at_) / 100000 + 1
    updPalis p (fun y => { y with capsSent := n })
      ((List.range (n - x.capsSent)).foldl (fun t i => sendPkt p (posAfter t p (4 * (at_ + (x.capsSent + i) * 100000))) (capsPkt t p) t) s)

/-- The user of a link reports its exchange complete: it enters ACTIVE; a Palis link only where the modes agree (R477, R498). -/
def capsComplete1 (k : Nat) (s : State) : State :=
  if linkStage s k != 4 then s
  else if k < 4 then (if (s.port k).capsBusy then s else enterActive k s)
  else if (s.palisPort (k - 4)).agreed then enterActive k s
  else s

end Sys2Proof.Machine
end

