-- ==== Sys2Proof/Machine/MmuCmd.lean ====
section
/-! DEFINITION. Machine/MmuCmd.lean: the MMU's commands on mappings, table memory and contexts (R359 to R362). -/

namespace Sys2Proof.Machine

/-! ### Tables -/

/-- The table of level `lvl` on the path of an address, if the tables reach it (R357). -/
def findTable (s : State) (asid va : Nat) : Nat → Option Nat
  | 0 => some (ctxLo s asid / 4096 * 4096)
  | l + 1 =>
    match findTable s asid va l with
    | none => none
    | some t =>
      let e := readNat s.dram (t + 8 * vaIndex l va) 8
      if bit e 0 && !bit e 1 then some (e / 256 * 256) else none

/-- The valid leaf of a page size at an address: the address of its entry and the entry. -/
def rawLeaf (s : State) (asid va : Nat) (large : Bool) : Option (Nat × Nat) :=
  match findTable s asid va (if large then 2 else 3) with
  | none => none
  | some t =>
    let ea := t + 8 * vaIndex (if large then 2 else 3) va
    let e := readNat s.dram ea 8
    if bit e 0 && bit e 1 then some (ea, e) else none

/-- Is the mapping at an address of the other size (R360)? -/
def otherSize (s : State) (asid va : Nat) (large : Bool) : Bool :=
  if large then
    match findTable s asid va 3 with
    | some t => (List.range 32).any (fun i => bit (readNat s.dram (t + 8 * i) 8) 0)
    | none => false
  else (rawLeaf s asid va true).isSome

/-- The pieces of table memory that are free for a table of `size` bytes (R359). -/
def freePieces (s : State) (size : Nat) : List Nat :=
  (s.mmu.tblPages.flatMap (fun p => (List.range (65536 / size)).map (fun i => p * 65536 + i * size))).filter
    (fun a => s.mmu.tables.all (fun t => decide (a + size ≤ t.1) || decide (t.1 + t.2 ≤ a)))

/-- MMU_TBL_FREE shows the free table memory in 256-byte units (R398). -/
def showTblFree (s : State) : State :=
  s.wrN MMU_TBL_FREE (s.mmu.tblPages.length * 256 - (s.mmu.tables.map (fun t => t.2 / 256)).sum)

/-- Zero a range of device memory. -/
def zeroDev (a n : Nat) (s : State) : State :=
  { s with dram := s.dram.filter (fun c => decide (c.1 < a) || decide (a + n ≤ c.1)) }

/-- Take a piece of table memory, cleared; which piece is free (log entry 4). -/
def allocTable (size : Nat) (s : State) : Option (Nat × State) :=
  let ps := freePieces s size
  match ps[Config.tablePick s.freeCtr % ps.length]? with
  | none => none
  | some a => some (a, showTblFree { zeroDev a size s with freeCtr := s.freeCtr + 1, mmu := { s.mmu with tables := s.mmu.tables ++ [(a, size)] } })

/-- Free a piece of table memory, clearing it. -/
def freeTable (a : Nat) (s : State) : State :=
  match s.mmu.tables.find? (fun t => t.1 == a) with
  | none => s
  | some t => showTblFree { zeroDev a t.2 s with mmu := { s.mmu with tables := s.mmu.tables.filter (fun x => x.1 != a) } }

/-- The table of a level on the path of an address, made where it is missing; none if table memory runs out. -/
def ensureTable (asid va : Nat) : Nat → State → Option (Nat × State)
  | 0, s => some (ctxLo s asid / 4096 * 4096, s)
  | l + 1, s =>
    match ensureTable asid va l s with
    | none => none
    | some (t, s1) =>
      let ea := t + 8 * vaIndex l va
      let e := readNat s1.dram ea 8
      if bit e 0 && !bit e 1 then some (e / 256 * 256, s1)
      else match allocTable (if l = 2 then 256 else 4096) s1 with
        | none => none
        | some (a, s2) => some (a, storeDev ea (leBytes 8 (a + 1)) s2)

/-- The tables below a table of a level, that table included. -/
def tablesUnder (s : State) : Nat → Nat → Nat → List Nat
  | 0, _, t => [t]
  | n + 1, lvl, t =>
    t :: (List.range (if lvl = 3 then 0 else 512)).flatMap (fun i =>
      let e := readNat s.dram (t + 8 * i) 8
      if bit e 0 && !bit e 1 then tablesUnder s n (lvl + 1) (e / 256 * 256) else [])

/-- Is a leaf with a nonzero PINCNT in any table of a context? -/
def anyPinned (s : State) (asid : Nat) : Bool :=
  (tablesUnder s 3 0 (ctxLo s asid / 4096 * 4096)).any (fun t => (List.range 512).any (fun i =>
    let e := readNat s.dram (t + 8 * i) 8
    (decide (i < 32) || s.mmu.tables.any (fun x => x.1 == t && x.2 == 4096)) && bit e 0 && bit e 1 && bits e 8 8 != 0))

/-- Cached translations of a context are dropped (R359, R362). -/
def dropAtc (asid : Nat) (s : State) : State := { s with mmu := { s.mmu with atc := s.mmu.atc.filter (fun e => e.asid != asid) } }

/-- Is any 64 KiB page of a page at an address referenced (R370)? -/
def pageRef (s : State) (asid va : Nat) (large : Bool) : Bool :=
  (List.range (if large then 32 else 1)).any (fun i => referencedPage s asid (va / 65536 + i))

/-! ### Page commands (R360, R361) -/

def cmdAsid (s : State) : Nat := s.rdN MMU_CMD_ASID % 65536
def cmdLen (s : State) : Nat := s.rdN MMU_CMD_LEN % 2 ^ 17
def cmdLarge (s : State) : Bool := s.flag MMU_CMD_FLAGS_LARGE
def cmdSize (s : State) : Nat := if cmdLarge s then 2097152 else 65536
def cmdVa (s : State) (i : Nat) : Nat := s.rdN MMU_CMD_VA + i * cmdSize s
def cmdPa (s : State) (i : Nat) : Nat := s.rdN MMU_CMD_PA + i * cmdSize s

/-- Is the length of a command bad (R360)? -/
def badLen (s : State) : Bool := cmdLen s == 0 || decide (65536 < cmdLen s)

/-- Is the virtual range of a command bad (R360)? -/
def badVaRange (s : State) : Bool :=
  s.rdN MMU_CMD_VA % cmdSize s != 0 || decide (0xFFFFF8000000 < cmdVa s (cmdLen s))

/-- Is the physical range of a MAP bad (R360)? -/
def badPaRange (s : State) : Bool :=
  s.rdN MMU_CMD_PA % cmdSize s != 0 || (!s.flag MMU_CMD_FLAGS_HOST && decide (2 ^ 32 < cmdPa s (cmdLen s)))

/-- Is the physical page of a TABLE command bad (R360)? -/
def badTablePage (s : State) : Bool := cmdLen s != 1 || s.rdN MMU_CMD_PA % 65536 != 0 || decide (2 ^ 32 ≤ s.rdN MMU_CMD_PA)

/-- A command ends with a status and a count of pages (R361). Where it changed entries, STATUS waits for the requests translated under
them: MMU_COMMAND_COMPLETE writes it. -/
def endCommand (done st : Nat) (changed : Bool) (s : State) : State :=
  let s1 := s.wrN MMU_CMD_DONE done
  if changed then { s1.setFld MMU_CMD_STAT_BUSY 1 with mmu := { s1.mmu with cmdPend := some st } }
  else s1.setFld MMU_CMD_STAT_STATUS st

/-- A command written while another runs is ignored (R360). -/
def unlessBusy (s : State) (f : State → State) : State :=
  if s.flag MMU_CMD_STAT_BUSY then s.setFld MMU_CMD_STAT_STATUS stBUSY else f s

/-- Work page by page in ascending order; the first page that fails stops the command with the page's status (R361). -/
def pageLoop (f : Nat → State → Nat × State) : Nat → Nat → State → Nat × Nat × State
  | 0, i, s => (i, stOK, s)
  | n + 1, i, s =>
    let r := f i s
    if r.1 = stOK then pageLoop f n (i + 1) r.2 else (i, r.1, s)

/-- A page command: its checks as a whole, then page by page (R360, R361). -/
def pageCommand (bad : Bool) (f : Nat → State → Nat × State) (s0 : State) : State :=
  unlessBusy s0 (fun s =>
    if bad then endCommand 0 stBADDESC false s
    else if !ctxValid s (cmdAsid s) then endCommand 0 stPRECOND false s
    else
      let r := pageLoop f (cmdLen s) 0 s
      endCommand r.1 r.2.1 (r.1 != 0) (dropAtc (cmdAsid s) r.2.2))

/-- W, X and HOST as bits of a leaf. -/
def cmdBits (s : State) : Nat :=
  4 * s.fld MMU_CMD_FLAGS_W + 8 * s.fld MMU_CMD_FLAGS_X + 16 * s.fld MMU_CMD_FLAGS_HOST

/-- MAP of one page (R360). -/
def mapPage (i : Nat) (s : State) : Nat × State :=
  let asid := cmdAsid s
  let va := cmdVa s i
  let large := cmdLarge s
  let held := match rawLeaf s asid va large with
    | some (_, e) => bits e 8 8 != 0 || pageRef s asid va large
    | none => false
  if held || otherSize s asid va large then (stBUSY, s)
  else match ensureTable asid va (if large then 2 else 3) s with
    | none => (stPRECOND, s)
    | some (t, s1) =>
      let s2 := if large then (match findTable s1 asid va 3 with
        | some l3 => freeTable l3 s1
        | none => s1) else s1
      (stOK, storeDev (t + 8 * vaIndex (if large then 2 else 3) va)
        (leBytes 8 (3 + cmdBits s + cmdPa s i / 65536 * 65536)) s2)

/-- UNMAP of one page (R360). -/
def unmapPage (i : Nat) (s : State) : Nat × State :=
  let asid := cmdAsid s
  let va := cmdVa s i
  let large := cmdLarge s
  if otherSize s asid va large then (stPRECOND, s)
  else match rawLeaf s asid va large with
    | none => (stOK, s)
    | some (ea, e) =>
      if bits e 8 8 != 0 || pageRef s asid va large then (stBUSY, s) else (stOK, storeDev ea (leBytes 8 0) s)

/-- PROTECT, PIN or UNPIN of one page: what it makes of the leaf's entry, or the status it fails with (R360). -/
def leafPage (g : Nat → Except Nat Nat) (i : Nat) (s : State) : Nat × State :=
  let asid := cmdAsid s
  let va := cmdVa s i
  let large := cmdLarge s
  if otherSize s asid va large then (stPRECOND, s)
  else match rawLeaf s asid va large with
    | none => (stPRECOND, s)
    | some (ea, e) =>
      match g e with
      | .error st => (st, s)
      | .ok e2 => (stOK, storeDev ea (leBytes 8 e2) s)

/-- PROTECT of one page (R360). -/
def protectPage (i : Nat) (s : State) : Nat × State :=
  leafPage (fun e => .ok (e - 4 * bits e 2 2 + 4 * s.fld MMU_CMD_FLAGS_W + 8 * s.fld MMU_CMD_FLAGS_X)) i s

/-- PIN of one page (R360). -/
def pinPage (i : Nat) (s : State) : Nat × State :=
  leafPage (fun e => if bit e 4 then .error stBADDESC else if bits e 8 8 = 255 then .error stPRECOND else .ok (e + 256)) i s

/-- UNPIN of one page (R360). -/
def unpinPage (i : Nat) (s : State) : Nat × State :=
  leafPage (fun e => if bits e 8 8 = 0 then .error stPRECOND
    else if pageRef s (cmdAsid s) (cmdVa s i) (cmdLarge s) then .error stBUSY else .ok (e - 256)) i s

/-- MAP (R360). -/
def execMap (s : State) : Out :=
  if !s.clocked then .next s else
  .next (pageCommand (badLen s || badVaRange s || badPaRange s) mapPage s)

/-- UNMAP (R360). -/
def execUnmap (s : State) : Out :=
  if !s.clocked then .next s else
  .next (pageCommand (badLen s || badVaRange s) unmapPage s)

/-- PROTECT (R360). -/
def execProtect (s : State) : Out :=
  if !s.clocked then .next s else
  .next (pageCommand (badLen s || badVaRange s) protectPage s)

/-- PIN (R360). -/
def execPin (s : State) : Out :=
  if !s.clocked then .next s else
  .next (pageCommand (badLen s || badVaRange s) pinPage s)

/-- UNPIN (R360). -/
def execUnpin (s : State) : Out :=
  if !s.clocked then .next s else
  .next (pageCommand (badLen s || badVaRange s) unpinPage s)

/-! ### Table memory and contexts -/

/-- TABLE_ADD (R359, R360). -/
def execTableAdd (s0 : State) : Out :=
  if !s0.clocked then .next s0 else
  .next (unlessBusy s0 (fun s =>
    let pg := s.rdN MMU_CMD_PA / 65536
    if badLen s || badTablePage s then endCommand 0 stBADDESC false s
    else if referencedPhys s pg || guardedPage s pg then endCommand 0 stBUSY false s
    else endCommand 1 stOK true (showTblFree { s with mmu := { s.mmu with tblPages := s.mmu.tblPages ++ [pg] } })))

/-- TABLE_REMOVE (R359, R360). -/
def execTableRemove (s0 : State) : Out :=
  if !s0.clocked then .next s0 else
  .next (unlessBusy s0 (fun s =>
    let pg := s.rdN MMU_CMD_PA / 65536
    if badLen s || badTablePage s then endCommand 0 stBADDESC false s
    else if !s.mmu.tblPages.contains pg then endCommand 0 stPRECOND false s
    else if s.mmu.tables.any (fun t => t.1 / 65536 == pg) then endCommand 0 stBUSY false s
    else endCommand 1 stOK true (showTblFree { s with mmu := { s.mmu with tblPages := s.mmu.tblPages.filter (fun p => p != pg) } })))

/-- CTX_CREATE (R356, R360). -/
def execCtxCreate (s0 : State) : Out :=
  if !s0.clocked then .next s0 else
  .next (unlessBusy s0 (fun s =>
    let asid := cmdAsid s
    if badLen s then endCommand 0 stBADDESC false s
    else if ctxValid s asid then endCommand 0 stBUSY false s
    else match allocTable 4096 s with
      | none => endCommand 0 stPRECOND false s
      | some (root, s1) =>
        let lo := root + 1 + 2 * s.fld MMU_CMD_FLAGS_HOST_OK + 4 * s.fld MMU_CMD_FLAGS_PRI
        let hi := s.rdN MMU_CMD_PA % 2 ^ 20 + 2 ^ 20 * s.fld MMU_CMD_FLAGS_PASID_EN
        endCommand 1 stOK true (storeDev (ctxBase s + 16 * asid) (leBytes 8 lo ++ leBytes 8 hi) s1)))

/-- Is any page that a context maps referenced (R370)? -/
def ctxReferenced (s : State) (asid : Nat) : Bool :=
  asid == sysAsid s && s.mmu.holders.any (fun h => h.vpages.any (fun vp => (rawLeaf s asid (vp * 65536) true).isSome || (rawLeaf s asid (vp * 65536) false).isSome))

/-- CTX_DESTROY (R360). -/
def execCtxDestroy (s0 : State) : Out :=
  if !s0.clocked then .next s0 else
  .next (unlessBusy s0 (fun s =>
    let asid := cmdAsid s
    if badLen s then endCommand 0 stBADDESC false s
    else if !ctxValid s asid then endCommand 0 stPRECOND false s
    else if anyPinned s asid || ctxReferenced s asid then endCommand 0 stBUSY false s
    else
      let s1 := (tablesUnder s 3 0 (ctxLo s asid / 4096 * 4096)).foldl (fun t a => freeTable a t) s
      endCommand 1 stOK true (dropAtc asid (storeDev (ctxBase s + 16 * asid) (leBytes 8 (ctxLo s asid / 2 * 2)) s1))))

/-- MMU_COMMAND_COMPLETE (R361). -/
def execMmuCommandComplete (s : State) : Out :=
  if !s.clocked then .next s else
  .next (match s.mmu.cmdPend with
    | some st => { (s.setFld MMU_CMD_STAT_BUSY 0).setFld MMU_CMD_STAT_STATUS st with mmu := { s.mmu with cmdPend := none } }
    | none => s)

/-! ### The host's translation service and page requests (R362, R363) -/

/-- ATS_INVALIDATE (R362): the host invalidates a context's pages from `page` on. -/
def execAtsInvalidate (asid : BitVec 16) (page : BitVec 52) (count : Nat) (s : State) : Out :=
  if !s.clocked then .next s else
  let drop := fun e : AtcEntry => e.asid == asid.toNat && decide (page.toNat ≤ e.page) && decide (e.page < page.toNat + count)
  .next { s with mmu := { s.mmu with atc := s.mmu.atc.filter (fun e => !drop e) }, hostMsgs := s.hostMsgs ++ [.invalidateCompletion asid.toNat page.toNat] }

/-- Send waiting page requests while there is room (R363). -/
def sendWaiting (s : State) : State :=
  if s.mmu.priStop || !s.mmu.priEn then s
  else
    let room := 256 - s.mmu.priOut.length
    let go := (s.mmu.priWait.take room).map (fun r => { r with sentAt := s.now })
    showHeld { s with mmu := { s.mmu with priOut := s.mmu.priOut ++ go, priWait := s.mmu.priWait.drop room }, hostMsgs := s.hostMsgs ++ go.map (fun r => .pageRequest r.asid r.page) }

/-- PRI_ENABLE (R363). -/
def execPriEnable (s : State) : Out :=
  if !s.clocked then .next s else
  .next (sendWaiting { s with mmu := { s.mmu with priEn := true, priStop := false } })

end Sys2Proof.Machine
end

