-- ==== Sys2Proof/Machine/Mem.lean ====
section
/-! DEFINITION. Machine/Mem.lean: the DRAM controller: host access through BAR2, scrubbing, refresh, self-refresh, channels and training
(R372, R375 to R393, R409, R618). Requests are performed when their command is; how long they wait is not
modelled (log entry 5). -/

namespace Sys2Proof.Machine

/-! ### BAR2 (R372, R409) -/

/-- Store the bytes of a host write one by one, dropping those in guarded pages: the state and the address of the first byte dropped. -/
def bar2Store (guard : Nat → Bool) : Nat → List Byte → State → Option Nat → State × Option Nat
  | _, [], s, d => (s, d)
  | a, b :: t, s, d =>
    if guard (a / 65536) then bar2Store guard (a + 1) t s (some (d.getD a))
    else bar2Store guard (a + 1) t { s with dram := kset unwritten s.dram a b } d

/-- In RECOVERY, BAR2's first 16 MiB are the pillows' shared memories, in order, and the rest is unsupported (R599). -/
def inRecovery (s : State) : Bool := s.fld DBG_BOOT_STAT_STATE == 3

/-- A host write through BAR2 is performed (R372). -/
def bar2Put (a : Nat) (bs : List Byte) (s0 : State) : State :=
  let s := activate a s0
  let r := bar2Store (guardedPage s) a bs s none
  match r.2 with
  | none => { r.1 with memc := clearBursts a bs.length r.1.memc }
  | some d =>
    let s1 := (r.1.bump MMU_GUARD_DROP_CNT).wrN MMU_GUARD_ADDR d
    if msPassed s.mmu.guardDropAt s.now then
      emitAll [mmuEvent s 3 svWARNING d] { s1 with mmu := { s1.mmu with guardDropAt := some s.now } }
    else s1

/-- A host read through BAR2 is performed and completed (R376, R377). -/
def bar2Get (a len finding : Nat) (s0 : State) : State :=
  let s := eccFind a finding 16 (activate a s0)
  { s with hostMsgs := s.hostMsgs ++ [.bar2Data a (readMem s.dram a len) (readsBad s ⟨false, a⟩ len)] }

/-- The host's accesses that wait are performed in arrival order, as far as their channels serve requests (R380, R389). -/
def drainBar2 : List Bar2Req → State → State
  | [], s => { s with memc := { s.memc with bar2Wait := [] } }
  | .write a bs :: t, s =>
    if devServed s a bs.length then drainBar2 t (bar2Put a bs s) else { s with memc := { s.memc with bar2Wait := .write a bs :: t } }
  | .read a len x :: t, s =>
    if devServed s a len then drainBar2 t (bar2Get a len x s) else { s with memc := { s.memc with bar2Wait := .read a len x :: t } }

/-- An access of the host reaches the controller: it takes its turn behind those that wait (R380, R389). -/
def bar2Arrive (r : Bar2Req) (s : State) : State := drainBar2 (s.memc.bar2Wait ++ [r]) (memArrive s)

/-- BAR2_WRITE (R372, R409, R545, R594, R599). -/
def execBar2Write (off : BitVec 32) (bs : List (BitVec 8)) (s0 : State) : Out :=
  let a := off.toNat
  .next (
    if !s0.clocked then s0
    else if inRecovery s0 then
      (if 2 ^ 24 < a + bs.length then { s0 with hostMsgs := s0.hostMsgs ++ [.unsupportedRequest a] }
      else { s0 with pilMem := writeMem s0.pilMem a bs })
    else if 2 ^ 32 < a + bs.length then { s0 with hostMsgs := s0.hostMsgs ++ [.unsupportedRequest a] }
    else bar2Arrive (.write a bs) s0)

/-- BAR2_READ (R376, R377, R409, R545, R594, R599): `finding` is what the check of the burst found. -/
def execBar2Read (off : BitVec 32) (len : Nat) (finding : Fin 5) (s0 : State) : Out :=
  let a := off.toNat
  .next (
    if !s0.clocked then { s0 with hostMsgs := s0.hostMsgs ++ [.bar2Data a (List.replicate len 0xFF#8) false] }
    else if inRecovery s0 then
      (if 2 ^ 24 < a + len then { s0 with hostMsgs := s0.hostMsgs ++ [.unsupportedRequest a] }
      else { s0 with hostMsgs := s0.hostMsgs ++ [.bar2Data a (readMem s0.pilMem a len) false] })
    else if 2 ^ 32 < a + len then { s0 with hostMsgs := s0.hostMsgs ++ [.unsupportedRequest a] }
    else bar2Arrive (.read a len finding) s0)

/-! ### Scrubbing and refresh -/

/-- A scrub pass in nanoseconds: the period of MEM_SCRUB_PERIOD, at least 10 minutes (R394). -/
def scrubPeriod (s : State) : Nat := max 10 (s.rdN MEM_SCRUB_PERIOD % 65536) * 60000000000

/-- The time at which the burst that scrubbing has reached is due, one pass reading all 2 ^ 26 of them (R378). -/
def scrubDue (s : State) : Nat := s.memc.passStart + s.rdN MEM_SCRUB_POS / 64 * scrubPeriod s / 2 ^ 26

/-- SCRUB_READ (R378): as its time comes the next burst is read, and a corrected one written back. Scrubbing pauses while memory sleeps. -/
def execScrubRead (finding : Fin 5) (s0 : State) : Out :=
  if !s0.clocked || !s0.flag MEM_CTL_SCRUB_EN || s0.fld MEM_STAT_SR_STATE = 2 || s0.fld MEM_STAT_SR_STATE = 3 || !devServed s0 (s0.rdN MEM_SCRUB_POS) 64 then .next s0 else
  let s := passTime (scrubDue s0 - s0.now) s0
  .next (
      let pos := s.rdN MEM_SCRUB_POS
      let behind := decide (2 * scrubPeriod s < s.now - s.memc.passStart)
      let s1 := eccFind pos finding 30 s
      let s2 := if behind && !s.flag MEM_STAT_SCRUB_BEHIND then
        emit blkMEM 6 svWARNING sliceLoc (pos % 2 ^ 32) (s1.setFld MEM_STAT_SCRUB_BEHIND 1) else s1
      let nxt := (pos + 64) % 2 ^ 32
      let s3 := s2.wrN MEM_SCRUB_POS nxt
      if nxt = 0 then
        let s4 := if behind then s3 else s3.setFld MEM_STAT_SCRUB_BEHIND 0
        { s4 with memc := { s4.memc with passStart := s.now } }
      else s3)

/-- The time between the refreshes of a die's rows, halved while it reports 85 °C or more (R383). -/
def refreshEvery (hot : Bool) : Nat := if hot then 122 else 244

/-- REFRESH (R383): as its time comes, the next row of a die, its training row included. A die asleep refreshes itself. -/
def execRefresh (c : Fin 16) (die : Fin 2) (s0 : State) : Out :=
  let x := s0.chan c
  if !s0.clocked || s0.fld MEM_STAT_SR_STATE = 2 then .next s0
  else if die = 0 then
    let s := passTime (x.refreshAt0 + refreshEvery x.hot0 - s0.now) s0
    .next (updChan c (fun y => { y with refreshRow0 := (y.refreshRow0 + 1) % (16 * 8193), refreshAt0 := x.refreshAt0 + refreshEvery x.hot0 }) s)
  else
    let s := passTime (x.refreshAt1 + refreshEvery x.hot1 - s0.now) s0
    .next (updChan c (fun y => { y with refreshRow1 := (y.refreshRow1 + 1) % (16 * 8193), refreshAt1 := x.refreshAt1 + refreshEvery x.hot1 }) s)

/-- NEIGHBOUR_REFRESH (R384). -/
def execNeighbourRefresh (c : Fin 16) (s : State) : Out :=
  if !s.clocked then .next s else
  .next (match (s.chan c).nbQueue with
    | [] => s
    | _ :: t => (updChan c (fun x => { x with nbQueue := t }) s).bump (MEM_C_NB_CNT c))

/-- DRAM_TEMP_REPORT (R383). -/
def execDramTempReport (c : Fin 16) (die : Fin 2) (t : BitVec 8) (s : State) : Out :=
  if !s.clocked then .next s else
  let hot := decide (85 ≤ sext t.toNat 8)
  let was := if die = 0 then (s.chan c).hot0 else (s.chan c).hot1
  let s1 := s.setFld ⟨MEM_C_TEMP c, 8 * die, 8⟩ t.toNat
  let s2 := updChan c (fun x => if die = 0 then { x with hot0 := hot } else { x with hot1 := hot }) s1
  .next (emitIf (hot && !was) blkMEM 5 svWARNING (0xC0000000 + (2 * c + die + 1) * 0x800000) t.toNat s2)

/-! ### Self-refresh (R385 to R388, R618) -/

/-- MEM_SR_IDLE as an adaptive parameter (R388, R400). -/
def srIdle : AParam :=
  { val := MEM_SR_IDLE, lo := MEM_SR_IDLE_LO, hi := MEM_SR_IDLE_HI, adp := MEM_SR_IDLE_ADP, block := blkMEM, loc := sliceLoc, w := 32,
    signed := false }

/-- Is the least tolerance more than the exit time and 500 ns (R385)? -/
def tolAmple (s : State) : Bool := decide (s.rdN MEM_SR_EXIT + 500 < tolMin s)

/-- The conditions of self-refresh (R385). -/
def srConditions (s : State) : Bool :=
  let idle := max (s.rdN MEM_SR_IDLE) (s.rdN MEM_SR_IDLE_LO)
  idle != 0xFFFFFFFF && decide (s.memc.lastReq + idle ≤ s.now) && tolAmple s &&
    (List.range 16).all (fun c => s.flag (MEM_C_STAT_ONLINE c) && !s.flag (MEM_C_STAT_TRN_BUSY c) && (s.chan c).nbQueue.isEmpty)

/-- SR_ENTRY_START (R385, R386): time passes until the memory has been idle long enough; an entry begins if the conditions then hold. -/
def execSrEntryStart (s0 : State) : Out :=
  let idle := max (s0.rdN MEM_SR_IDLE) (s0.rdN MEM_SR_IDLE_LO)
  if !s0.clocked || s0.fld MEM_STAT_SR_STATE != 0 || idle = 0xFFFFFFFF then .next s0 else
  let s := passTime (s0.memc.lastReq + idle - s0.now) s0
  .next (if s.fld MEM_STAT_SR_STATE = 0 && srConditions s then
      { s.setFld MEM_STAT_SR_STATE 1 with memc := { s.memc with srEnterAt := s.now } }
    else s)

/-- SR_COMMAND (R386): 10 ns after entry began, unless a condition has ceased. -/
def execSrCommand (s0 : State) : Out :=
  if !s0.clocked || s0.fld MEM_STAT_SR_STATE != 1 then .next s0 else
  let s := passTime (s0.memc.srEnterAt + 10 - s0.now) s0
  .next (
    if !srConditions s then srCancel s
    else
      let s1 := (s.setFld MEM_STAT_SR_STATE 2).bump MEM_SR_CNT
      { s1 with memc := { s1.memc with srCmdAt := s.now } })

/-- SR_EXIT_START (R386, R387): with a request waiting, exit starts as the minimum residency has passed; else time passes, the residency at
least, and exit starts if the tolerance has become small. -/
def execSrExitStart (dt : Nat) (s0 : State) : Out :=
  if !s0.clocked then .next (passTime dt s0) else
  let req := s0.memc.waiting
  let left := s0.memc.srCmdAt + s0.rdN MEM_SR_RES - s0.now
  if s0.fld MEM_STAT_SR_STATE != 2 then .next (let s := passTime dt s0; if s.fld MEM_STAT_SR_STATE = 1 && !srConditions s then srCancel s else s) else
  let s := passTime (if req then left else max left dt) s0
  .next (
    if req || !tolAmple s then
      let s1 := (s.setFld MEM_STAT_SR_STATE 3).bump (if req then MEM_SR_WAKE_REQ_CNT else MEM_SR_WAKE_TOL_CNT)
      let ns := s.memc.asleepNs + (s.now - s.memc.srCmdAt)
      { s1.wrN MEM_SR_TIME (ns / 1000) with memc := { s1.memc with srExitAt := s.now, srByReq := req, asleepNs := ns } }
    else s)

/-- SR_EXIT_DONE (R386, R388): the exit time after exit began, the memory is awake; an exit started by a request adapts SR_IDLE. -/
def execSrExitDone (s0 : State) : Out :=
  if !s0.clocked || s0.fld MEM_STAT_SR_STATE != 3 then .next s0 else
  let s := passTime (s0.memc.srExitAt + s0.rdN MEM_SR_EXIT - s0.now) s0
  let s1 := { s.setFld MEM_STAT_SR_STATE 0 with memc := { s.memc with waiting := false } }
  let r := s.now - s.memc.srCmdAt
  let v := s.rdN MEM_SR_IDLE
  .next (
    if s.memc.srByReq && r < 4800 then adaptStep srIdle (max (2 * v) (v + 100) : Nat) s1
    else if s.memc.srByReq && 76800 < r then adaptStep srIdle (v - v / 4 : Nat) s1
    else s1)

/-- What keep-awake does beside the write of the bound (R618). -/
def keepAwake (s : State) : State := if s.fld MEM_STAT_SR_STATE = 1 then srCancel s else s

/-- KEEP_AWAKE (R45, R618). -/
def execKeepAwake (s : State) : Out :=
  if !s.clocked then .next s else
  .next (keepAwake (boundsCheck srIdle (s.wrN MEM_SR_IDLE_LO 0xFFFFFFFF)))

/-! ### Channels (R389, R393) -/

/-- Does a port or a bank stand against taking a channel off line (R389)? -/
def lightNeedsMemory (s : State) : Bool :=
  [0, 1, 2, 3].any (fun n => s.flag (SEQ_P_CTL_EN n) || s.flag (PHS_TB_STAT_ACTIVE n) || s.flag (PHS_TB_STAT_ARM_PEND n))

/-- A channel's ONLINE bit is written (R389). -/
def channelOnline (c : Nat) (on : Bool) (s : State) : State :=
  if !on && lightNeedsMemory s then s.setFld (MEM_C_STAT_CMD_STATUS c) stPRECOND
  else
    let s1 := (((s.setFld (MEM_C_CTL_ONLINE c) (b2n on)).setFld (MEM_C_STAT_ONLINE c) (b2n on)).setFld ⟨MEM_STAT, 16 + c, 1⟩ (b2n on)).setFld
      (MEM_C_STAT_CMD_STATUS c) stOK
    if on then
      let s2 := updChan c (fun x => { x with rows := x.rows.filter (fun e => decide (8192 * 512 ≤ e.1)) }) s1
      drainBar2 s2.memc.bar2Wait s2
    else s1

/-- CHANNEL_ONLINE_WRITE (R389). -/
def execChannelOnlineWrite (c : Fin 16) (on : Bool) (s : State) : Out :=
  if !s.clocked then .next s else
  .next (channelOnline c on s)

/-- A write of a delay or Vref register (R393): in effect at once while the channel is off line, else at its next live step. -/
def delayWrite (c reg : Nat) (v : Word) (s : State) : State :=
  let s1 := s.wr reg v
  if s.flag (MEM_C_STAT_ONLINE c) then updChan c (fun x => { x with delayPend := x.delayPend ++ [(reg, v)] }) s1
  else updChan c (fun x => { x with delayEff := kset resetOf x.delayEff reg v }) s1

/-- The delay register that an index names: pins 0 to 35, then VREF, then CA_DLY; and the bits it holds (R396). -/
def delayReg (c k : Nat) : Nat × Nat :=
  if k < 36 then (MEM_C_DLY c k, 0x7F7F) else if k = 36 then (MEM_C_VREF c, 0x3F3F) else (MEM_C_CA_DLY c, 0x7F)

/-- MEM_DELAY_WRITE (R393). -/
def execMemDelayWrite (c : Fin 16) (k : Fin 38) (v : BitVec 32) (s : State) : Out :=
  if !s.clocked then .next s else
  .next (delayWrite c (delayReg c k).1 (BitVec.ofNat 64 (v.toNat &&& (delayReg c k).2)) s)

/-! ### Training (R390 to R392) -/

/-- The longest live step (R394). -/
def liveMax (s : State) : Nat := clampN (s.rdN MEM_TRN_LIVE_MAX % 2 ^ 14) 200 10000

def trnFirst (s : State) (c : Nat) : Nat := s.rdN (MEM_C_TRN_ADDR c) % 2 ^ 23
def trnCount (s : State) (c : Nat) : Nat := s.rdN (MEM_C_TRN_COUNT c) % 2 ^ 24

/-- Does a run of bursts lie within the die, and for a live step in training rows (R390, R392)? -/
def trnRangeOk (s : State) (c : Nat) (live : Bool) : Bool :=
  decide (trnFirst s c + trnCount s c ≤ 8193 * 512) && (!live || decide (8192 * 512 ≤ trnFirst s c))

/-- A write of GO (R390 to R392). -/
def trnGo (c op : Nat) (live : Bool) (s : State) : State :=
  let st := MEM_C_STAT_TRN_STATUS c
  if s.flag (MEM_C_STAT_TRN_BUSY c) then s.setFld st stBUSY
  else if op = 3 || trnCount s c = 0 || !trnRangeOk s c live then s.setFld st stBADDESC
  else if s.flag (MEM_C_STAT_ONLINE c) != live then s.setFld st stPRECOND
  else if live && decide (liveMax s < trnCount s c * 10) then s.setFld st stBADDESC
  else updChan c (fun x => { x with train := some { op := op, live := live, startedAt := s.now, cancelled := false } })
    ((s.setFld (MEM_C_STAT_TRN_BUSY c) 1).wrN (MEM_C_TRN_DONE c) 0)

/-- TRN_WRITE (R390). -/
def execTrnWrite (c : Fin 16) (live : Bool) (s : State) : Out :=
  if !s.clocked then .next s else
  .next (trnGo c 0 live s)

/-- TRN_READ (R390). -/
def execTrnRead (c : Fin 16) (live : Bool) (s : State) : Out :=
  if !s.clocked then .next s else
  .next (trnGo c 1 live s)

/-- TRN_WRITE_READ (R390). -/
def execTrnWriteRead (c : Fin 16) (live : Bool) (s : State) : Out :=
  if !s.clocked then .next s else
  .next (trnGo c 2 live s)

/-- A write of CANCEL (R390). -/
def trnCancel (c : Nat) (s : State) : State :=
  match (s.chan c).train with
  | none => s.setFld (MEM_C_STAT_TRN_STATUS c) stNOTHING
  | some t => updChan c (fun x => { x with train := some { t with cancelled := true } }) s

/-- TRN_CANCEL (R390). -/
def execTrnCancel (c : Fin 16) (s : State) : Out :=
  if !s.clocked then .next s else
  .next (trnCancel c s)

/-- A write of CLR_ERR (R397). -/
def trnClrErr (c : Nat) (s : State) : State := (List.range 36).foldl (fun t k => t.wrN (MEM_C_ERR c k) 0) s

/-- TRN_CLR_ERR (R397). -/
def execTrnClrErr (c : Fin 16) (s : State) : Out :=
  if !s.clocked then .next s else
  .next (trnClrErr c s)

/-- The user pattern (R396): 576 bits. -/
def userPattern (s : State) (c : Nat) : Nat := ((List.range 9).map (fun u => s.rdN (MEM_C_TRN_USER c u) * 2 ^ (64 * u))).sum

/-- Rotate the 36 pins of each of the 16 beats by r (R397). -/
def rotPins (r v : Nat) : Nat :=
  ((List.range 16).map (fun b => let x := bits v (36 * b) 36; (x * 2 ^ (r % 36) % 2 ^ 36 + x / 2 ^ (36 - r % 36)) * 2 ^ (36 * b))).sum

/-- The pattern of burst i of an operation (R390, R397). The manual does not give the sequences of kinds 0 to 4: they are free values
(log entry 4). -/
def trnPattern (s : State) (c i : Nat) : Nat :=
  let kind := s.fld (MEM_C_TRN_PAT_KIND c)
  let base := if kind = 5 then userPattern s c
    else (Config.trainPattern (if kind < 5 then kind else 0) (max 1 (s.rdN (MEM_C_TRN_SEED c))) i).toNat
  let p := rotPins (i * s.fld (MEM_C_TRN_PAT_ROT c)) base
  if s.flag (MEM_C_TRN_PAT_INV_ALT c) && i % 2 = 1 then 2 ^ 576 - 1 - p else p

/-- Write burst i: a row of the address map loses its content, so that its bytes become free values (R391). -/
def trnWrite1 (c i : Nat) (s : State) : State :=
  let k := trnFirst s c + i
  let s1 := updChan c (fun x => { x with rows := kset (fun _ => none) x.rows k (some (BitVec.ofNat 576 (trnPattern s c i))) }) s
  if 8192 * 512 ≤ k then s1
  else
    { s1 with dram := writeMem s1.dram (paOf c (bits k 8 1) (bits k 4 4) (bits k 0 4) (k / 512)) ((List.range 64).map (fun j => Config.freeByte (s.freeCtr + j))), freeCtr := s1.freeCtr + 64 }

/-- One pin's differences in a burst: how many, and the first beat. -/
def pinDiff (d k : Nat) : Nat × Nat :=
  let bs := (List.range 16).filter (fun b => bit d (36 * b + k))
  (bs.length, bs.headD 0)

/-- Note the differences of a burst in ERRk (R390). -/
def noteDiff (c d : Nat) (s : State) : State :=
  (List.range 36).foldl (fun t k =>
    let p := pinDiff d k
    if p.1 = 0 then t
    else
      let t1 := t.setFld (MEM_C_ERR_COUNT c k) (min 65535 (t.fld (MEM_C_ERR_COUNT c k) + p.1))
      if t.flag (MEM_C_ERR_SEEN c k) then t1 else (t1.setFld (MEM_C_ERR_FIRST_BEAT c k) p.2).setFld (MEM_C_ERR_SEEN c k) 1) s

/-- Read burst i and compare: the bits that the pins got wrong are in `noise`; a burst never written so holds a free value. -/
def trnRead1 (c i noise : Nat) (s : State) : State :=
  match kget (fun _ => none) (s.chan c).rows (trnFirst s c + i) with
  | some v => noteDiff c ((v.toNat ^^^ trnPattern s c i) ^^^ noise % 2 ^ 576) s
  | none => noteDiff c (((Config.trainPattern 6 s.freeCtr i).toNat ^^^ trnPattern s c i) ^^^ noise % 2 ^ 576) { s with freeCtr := s.freeCtr + 1 }

/-- An operation ends (R390, R392). -/
def trnEnd (c st done : Nat) (s : State) : State :=
  emit blkMEM 4 svINFO (chanLoc c) (st + done * 256)
    (updChan c (fun x => { x with train := none })
      (((s.setFld (MEM_C_STAT_TRN_BUSY c) 0).setFld (MEM_C_STAT_TRN_STATUS c) st).wrN (MEM_C_TRN_DONE c) done))

/-- The held delays take effect (R393). -/
def takeDelays (c : Nat) (s : State) : State :=
  updChan c (fun x => { x with delayEff := x.delayPend.foldl (fun m e => kset resetOf m e.1 e.2) x.delayEff, delayPend := [] }) s

/-- Run the bursts of an operation: `noise` holds, for each burst read, the bits that the pins got wrong. -/
def trnRun (c op n : Nat) (noise : List Nat) (s : State) : State :=
  let w := if op = 1 then s else (List.range n).foldl (fun t i => trnWrite1 c i t) s
  if op = 0 then w else (List.range n).foldl (fun t i => trnRead1 c i (noise.getD i 0) t) w

/-- TRAIN_DONE (R390 to R393): the operation runs and ends; a cancelled one after `done` bursts. A live step runs only with the memory
awake and the tolerances ample. -/
def execTrainDone (c : Fin 16) (dt : Nat) (done : Nat) (noise : List Nat) (s0 : State) : Out :=
  if !s0.clocked then .next (passTime dt s0) else
  let s := passTime dt s0
  .next (match (s.chan c).train with
    | none => s
    | some t =>
      let n := if t.cancelled then min done (trnCount s c) else trnCount s c
      if t.live && !t.cancelled && (s.fld MEM_STAT_SR_STATE != 0 || decide (tolMin s ≤ liveMax s + 500)) then s
      else
        let s1 := if t.live && n != 0 then takeDelays c s else s
        trnEnd c (if t.cancelled then stABORTED else stOK) n (trnRun c t.op n noise s1))

/-- TRAIN_LIVE_TIMEOUT (R392). -/
def execTrainLiveTimeout (c : Fin 16) (dt : Nat) (s0 : State) : Out :=
  if !s0.clocked then .next (passTime dt s0) else
  let s := passTime dt s0
  .next (match (s.chan c).train with
    | none => s
    | some t => if t.live && decide (t.startedAt + 1000000 ≤ s.now) then trnEnd c stTIMEOUT 0 s else s)

end Sys2Proof.Machine
end

