-- ==== Sys2Proof/Machine/Pixel.lean ====
section
/-! DEFINITION. Machine/Pixel.lean: the arithmetic of the pixel path: decoding, transfer functions, filters, warp, blend and colour (R183 to R197).
Results are exact rationals until they are brought to the bits that the manual gives them; a result that is no whole number is rounded to one of its
two neighbours, which of them being a free value (log entries 4 and 116). -/

namespace Sys2Proof.Machine

/-! ### Rounding -/

/-- 1.0 in the pipe's linear light (R186). -/
def full20 : Nat := 0xFFFFF

/-- A result as a whole number, 0 where it is negative: exact where it is one, else a neighbour (log entry 116). -/
def roundFree (st : Nat) (q : Rat) : Nat := if q ≤ 0 then 0 else if q.den = 1 then q.num.toNat else q.floor.toNat + b2n (Config.pixUp st q)

/-- A result as 20-bit linear light, clamped (R186). -/
def to20 (st : Nat) (q : Rat) : Nat := min full20 (roundFree st q)

/-- A rational limited to 0 to 1. -/
def unit (q : Rat) : Rat := if q < 0 then 0 else if 1 < q then 1 else q

/-- The greatest number below 2^k above `acc` of which a condition that holds downwards is true. -/
def greatest (ok : Nat → Bool) : Nat → Nat → Nat
  | 0, acc => acc
  | k + 1, acc => if ok (acc + 2 ^ k) then greatest ok k (acc + 2 ^ k) else greatest ok k acc

/-- The n, at most `top`, for which g n is x^(p/q), g rising: exact where there is one, else a neighbour (log entry 116). -/
def rootFree (st top : Nat) (g : Nat → Rat) (x : Rat) (p q : Nat) : Nat :=
  let n := greatest (fun n => decide (n ≤ top) && (decide (g n ≤ 0) || decide (g n ^ q ≤ x ^ p))) 20 0
  if g n ^ q = x ^ p then n else min top (n + b2n (Config.pixUp st x))

/-! ### Samples (R181, R183) -/

/-- A binary16 number as linear light: negative values and NaN are 0, values above 1.0 are 1.0 (R181). -/
def halfLight (v : Nat) : Rat :=
  let e := bits v 10 5
  let m := bits v 0 10
  if bit v 15 then 0
  else if e = 31 then (if m = 0 then 1 else 0)
  else unit (if e = 0 then (m : Rat) / 16777216 else ((1024 + m : Nat) : Rat) * 2 ^ e / 33554432)

/-- A number of halves brought to the nearest whole number; a tie is free. -/
def nearest (st : Nat) (q : Rat) : Nat :=
  let f := q.floor.toNat
  let d := q - (f : Rat)
  if 2 * d < 1 then f else if 1 < 2 * d then f + 1 else f + b2n (Config.pixUp st q)

/-- An alpha sample as 16 bits, by DEPTH (R183). -/
def alpha16 (depth a : Nat) : Nat :=
  match depth with
  | 0 => a * 257
  | 1 => a * 21845
  | 2 => let q := a / 16; q * 16 + q / 256
  | 3 => a
  | _ => nearest 0 (halfLight a * 65535)

/-- The value that a container holds (R181): a 10-bit or 12-bit value stands in the most significant of 16 bits. -/
def codeValue (depth v : Nat) : Nat :=
  match depth with
  | 1 => v / 64
  | 2 => v / 16
  | _ => v

/-- The bits of a sample, by DEPTH. -/
def depthBits (depth : Nat) : Nat := match depth with
  | 0 => 8
  | 1 => 10
  | 2 => 12
  | _ => 16

/-! ### Encoded values (R184, R185) -/

/-- The weights of red and blue in luma, by YMAT: BT.601, BT.709, BT.2020 (R185; the standards' values, PRESUMED, log entry 116). -/
def lumaWeights (ymat : Nat) : Rat × Rat :=
  match ymat with
  | 0 => (299 / 1000, 114 / 1000)
  | 1 => (2126 / 10000, 722 / 10000)
  | _ => (2627 / 10000, 593 / 10000)

/-- A channel of R′G′B′ from the codes of Y′, Cb and Cr, clamped to 0 to 1 (R184, R185). -/
def rgbOfYcc (ymat range n : Nat) (y cb cr : Rat) (c : Nat) : Rat :=
  let u : Rat := 2 ^ (n - 8)
  let top : Rat := 2 ^ n - 1
  let mid : Rat := 2 ^ (n - 1)
  let y1 := if range = 0 then (y - 16 * u) / (219 * u) else y / top
  let b1 := if range = 0 then (cb - mid) / (224 * u) else (cb - mid) / top
  let r1 := if range = 0 then (cr - mid) / (224 * u) else (cr - mid) / top
  let k := lumaWeights ymat
  let r := y1 + 2 * (1 - k.1) * r1
  let b := y1 + 2 * (1 - k.2) * b1
  unit (match c with
    | 0 => r
    | 1 => (y1 - k.1 * r - k.2 * b) / (1 - k.1 - k.2)
    | _ => b)

/-- The input transfer function: 20-bit linear light of an encoded value (R185). The constants of IEC 61966-2-1 are the standard's (PRESUMED, log
entry 116). -/
def tfDecode (tf peak : Nat) (x : Rat) : Nat :=
  let lin := fun n : Nat => (n : Rat) / full20
  match tf with
  | 0 => to20 1 (x * full20)
  | 1 => if x ≤ 4045 / 100000 then to20 1 (x * 100 / 1292 * full20) else rootFree 1 full20 lin ((x + 55 / 1000) / (1055 / 1000)) 12 5
  | 2 => rootFree 1 full20 lin x 12 5
  | 3 => to20 1 (unit (Config.pq x / (if peak = 0 then 1000 else peak : Nat)) * full20)
  | 4 => if x ≤ 1 / 2 then to20 1 (x * x / 3 * full20) else to20 1 (Config.hlg x * full20)
  | 5 => rootFree 1 full20 lin x 11 5
  | _ => rootFree 1 full20 lin x 13 5

/-- The shaper: a 20-bit linear value encoded to 16 bits (R196). -/
def tfEncode (tf peak v : Nat) : Nat :=
  let x : Rat := (v : Rat) / full20
  let enc := fun n : Nat => (n : Rat) / 65535
  let to16 := fun q : Rat => min 65535 (roundFree 2 q)
  match tf with
  | 0 => to16 (x * 65535)
  | 1 => if x ≤ 31308 / 10000000 then to16 (x * 1292 / 100 * 65535) else rootFree 2 65535 (fun n => (enc n + 55 / 1000) / (1055 / 1000)) x 5 12
  | 2 => rootFree 2 65535 enc x 5 12
  | 3 => to16 (Config.pqInv (x * (if peak = 0 then 1000 else peak : Nat)) * 65535)
  | 4 => if x ≤ 1 / 12 then rootFree 2 65535 enc (3 * x) 1 2 else to16 (Config.hlgInv x * 65535)
  | 5 => rootFree 2 65535 enc x 5 11
  | _ => rootFree 2 65535 enc x 5 13

/-- The conversion of primaries of a linear pixel, clamped (R185, R186): PRIM 0 leaves it as it is. -/
def primaries (prim : Nat) (px : Nat → Nat) (c : Nat) : Nat :=
  if prim = 0 then px c else to20 3 (([0, 1, 2].map (fun j => Config.primCoef prim c j * (px j : Rat))).sum)

/-- The box average of up to HDEC samples (R184). -/
def boxAverage (dec : Nat) (xs : List Rat) : Rat := if xs.length = dec then xs.sum / dec else Config.lastBox dec xs

/-! ### The scalers (R188) -/

/-- The position in a source of S samples of the centre of sample d of D, in samples from the centre of sample 0 (DEDUCED, log entry 116). -/
def scalePos (src dst d : Nat) : Rat := ((2 * d + 1) * src : Nat) / ((2 * dst : Nat) : Rat) - 1 / 2

/-- The phase of a position: its fraction in 64ths, a neighbour where it is none. -/
def phaseOf (f : Rat) : Nat := roundFree 4 (f * 64)

/-- The taps of a filter at a position: the source samples with their weights (R188). FILTER: 0 nearest, 1 bilinear, 2 polyphase. -/
def scaleTaps (filter : Nat) (horiz : Bool) (pos : Rat) : List (Int × Rat) :=
  let b := pos.floor
  let f := pos - (b : Rat)
  match filter with
  | 0 => [(if 2 * f < 1 then b else if 1 < 2 * f then b + 1 else b + (b2n (Config.pixUp 5 pos) : Nat), 1)]
  | 1 => let ph : Rat := phaseOf f; [(b, 1 - ph / 64), (b + 1, ph / 64)].filter (fun t => t.2 != 0)
  | _ => if horiz then (List.range 8).map (fun k => (b - 3 + (k : Nat), Config.tap true (phaseOf f) k))
    else (List.range 4).map (fun k => (b - 1 + (k : Nat), Config.tap false (phaseOf f) k))

/-- A filter in one direction over samples 0 to n − 1. -/
def scaleLine (filter : Nat) (horiz : Bool) (n dst d : Nat) (v : Nat → Rat) : Rat :=
  ((scaleTaps filter horiz (scalePos n dst d)).map (fun t => t.2 * (if 0 ≤ t.1 ∧ t.1 < (n : Int) then v t.1.toNat else Config.edge n t.1 v))).sum

/-- The source samples that destination sample d may read: the first and the last, within the source (R188, R192). -/
def scaleReach (filter : Nat) (horiz : Bool) (n dst d : Nat) : Nat × Nat :=
  let b := (scalePos n dst d).floor
  let lo := if filter = 2 then (if horiz then b - 3 else b - 1) else b
  let hi := if filter = 2 then (if horiz then b + 4 else b + 2) else b + 1
  ((clampI lo 0 ((n : Int) - 1)).toNat, (clampI hi 0 ((n : Int) - 1)).toNat)

/-! ### Warp (R193, R194) -/

/-- A coordinate of a mesh vertex in 1/256 pixel: X (0) or Y (1). -/
def meshVertex (mesh : List Byte) (u v k : Nat) : Int := sext (leNat ((mesh.drop ((v * 65 + u) * 8 + 4 * k)).take 4)) 32

/-- The source position of an output pixel's centre in the composed frame, in pixels: X (0) or Y (1), with a channel's CONV (R193). -/
def warpPos (mesh : List Byte) (conv w h x y k : Nat) : Rat :=
  let sx : Rat := ((2 * x + 1) * 64 : Nat) / ((2 * w : Nat) : Rat)
  let sy : Rat := ((2 * y + 1) * 36 : Nat) / ((2 * h : Nat) : Rat)
  let u := min 63 sx.floor.toNat
  let v := min 35 sy.floor.toNat
  let fu := sx - (u : Rat)
  let fv := sy - (v : Rat)
  let m := fun i j => (meshVertex mesh (u + i) (v + j) k : Rat)
  (((1 - fu) * m 0 0 + fu * m 1 0) * (1 - fv) + ((1 - fu) * m 0 1 + fu * m 1 1) * fv + (sext (bits conv (16 * k) 16) 16 : Rat)) / 256

/-- Is a position's line outside the window of 64 lines about output line y (R194)? -/
def outOfWindow (y : Nat) (py : Rat) : Bool := decide (py.floor < (y : Int) - 64) || decide ((y : Int) + 64 < py.floor)

/-- The weights of the cubic (Catmull-Rom) filter at a fraction (R193). -/
def cubicWeights (t : Rat) : List Rat :=
  [(2 * t ^ 2 - t ^ 3 - t) / 2, (3 * t ^ 3 - 5 * t ^ 2 + 2) / 2, (4 * t ^ 2 - 3 * t ^ 3 + t) / 2, (t ^ 3 - t ^ 2) / 2]

/-- The taps about a position, whose pixels have their centres at halves: bilinear (0) or cubic (1). -/
def warpTaps (filter : Nat) (pos : Rat) : List (Int × Rat) :=
  let t := pos - 1 / 2
  let f := t - (t.floor : Rat)
  if filter = 0 then [(t.floor, 1 - f), (t.floor + 1, f)] else [t.floor - 1, t.floor, t.floor + 1, t.floor + 2].zip (cubicWeights f)

/-- The warp's sample at a position for output line y (R193, R194): a line outside the window is moved to the nearest inside it, and what lies
outside the composed frame reads 0. -/
def warpSample (frame : Nat → Nat → Nat) (filter w h y : Nat) (px py0 : Rat) : Nat :=
  let py := if outOfWindow y py0 then ((clampI py0.floor ((y : Int) - 64) ((y : Int) + 64) : Int) : Rat) + 1 / 2 else py0
  if px < 0 ∨ (w : Rat) ≤ px ∨ py < 0 ∨ (h : Rat) ≤ py then 0
  else
    let at_ := fun (i j0 : Int) =>
      let j := clampI j0 ((y : Int) - 64) ((y : Int) + 64)
      if 0 ≤ i ∧ i < (w : Int) ∧ 0 ≤ j ∧ j < (h : Int) then (frame i.toNat j.toNat : Rat) else 0
    to20 6 (((warpTaps filter py).map (fun b => b.2 * ((warpTaps filter px).map (fun a => if a.2 = 0 ∨ b.2 = 0 then 0 else a.2 * at_ a.1 b.1)).sum)).sum)

/-! ### Edge blend (R195) -/

/-- The ramp function: s, or 3s² − 2s³. -/
def rampF (curve : Nat) (s : Rat) : Rat := if curve = 0 then s else 3 * s ^ 2 - 2 * s ^ 3

/-- The blended value of a pixel: ramps as distance from the edge and width. The weight has 16 bits, 65,535 standing for 1 as for alpha (DEDUCED, log
entry 116), and a pixel inside no ramp passes as it is. -/
def blendPixel (curve : Nat) (ramps : List (Nat × Nat)) (v : Nat) : Nat :=
  let inside := ramps.filter (fun r => decide (r.1 < r.2))
  if inside.isEmpty then v
  else
    let w := inside.foldl (fun (a : Rat) r => a * rampF curve (((2 * r.1 + 1 : Nat) : Rat) / ((2 * r.2 : Nat) : Rat))) 1
    min full20 (nearest 7 ((v * roundFree 7 (w * 65535) : Nat) / (65535 : Rat)))

/-! ### Colour (R196, R197) -/

/-- A row of the matrix over a pixel, clamped: the coefficients have 15 fraction bits. -/
def matRow (co : List Int) (px : Nat → Nat) : Nat :=
  to20 8 (((([0, 1, 2].map (fun j => co.getD j 0 * ((px j : Nat) : Int))).sum : Int) : Rat) / 32768)

/-- A channel of entry (r, g, b) of the 3D table (R197). -/
def lutEntry (lut : List Byte) (r g b k : Nat) : Nat := leNat ((lut.drop (((b * 33 + g) * 33 + r) * 8 + 2 * k)).take 2)

/-- Tetrahedral interpolation of a channel at 16-bit coordinates (R196): from the grid point below, the axes are followed in the order of their
fractions, the greatest first. -/
def lutTetra (lut : List Byte) (e : Nat → Nat) (k : Nat) : Rat :=
  let pos := fun c => ((e c * 32 : Nat) : Rat) / 65535
  let g := fun c => min 32 (pos c).floor.toNat
  let f := fun c => pos c - (g c : Rat)
  let v := fun (on : List Nat) => (lutEntry lut (g 0 + b2n (on.contains 0)) (g 1 + b2n (on.contains 1)) (g 2 + b2n (on.contains 2)) k : Rat)
  let ord := if f 1 ≤ f 0 then (if f 2 ≤ f 1 then [0, 1, 2] else if f 2 ≤ f 0 then [0, 2, 1] else [2, 0, 1])
    else (if f 2 ≤ f 0 then [1, 0, 2] else if f 2 ≤ f 1 then [1, 2, 0] else [2, 1, 0])
  let st := fun (a : Rat) (i : Nat) => if f (ord.getD i 0) = 0 then a else a + f (ord.getD i 0) * (v (ord.take (i + 1)) - v (ord.take i))
  st (st (st (v []) 0) 1) 2

/-- A value that is a whole number, or is left free between its neighbours. -/
def between (q : Rat) : Rat :=
  if q.den = 1 then q
  else
    let x := Config.pixLoose q
    if x < (q.floor : Rat) then (q.floor : Rat) else if (q.floor : Rat) + 1 < x then (q.floor : Rat) + 1 else x

/-- The shaper, the 3D table and the shaper's inverse (R196). -/
def lutPixel (lut : List Byte) (shaper peak : Nat) (px : Nat → Nat) (k : Nat) : Nat :=
  tfDecode shaper peak (between (lutTetra lut (fun c => tfEncode shaper peak (px c)) k) / 65535)

end Sys2Proof.Machine
end

