-- ==== Sys2Proof/Machine/Pix.lean ====
section
/-! DEFINITION. Machine/Pix.lean: layers, commits, takes, renders and tables of the output pipes (R179 to R221). -/

namespace Sys2Proof.Machine

/-! ### Shared pieces -/

/-- A PIX event of a pipe's tile: 0 composition, 1 warp, 2 colour and slicer (R221). -/
def pixEvent (p tile code sev arg : Nat) (s : State) : State := emit blkPIX code sev (0x60110000 + p * 0x10000 + tile * 0x800) arg s

def updPipe (p : Nat) (f : PipeRec → PipeRec) (s : State) : State := s.setPipe p (f (s.pipe p))
def PipeRec.layer (x : PipeRec) (l : Nat) : LayerRec := kget (fun _ => {}) x.layers l
def updLayer (p l : Nat) (f : LayerRec → LayerRec) (s : State) : State :=
  updPipe p (fun x => { x with layers := kset (fun _ => {}) x.layers l (f (x.layer l)) }) s

/-- The layers of a pipe. -/
def layerIds : List Nat := [0, 1, 2, 3, 4, 5, 6, 7]

/-- The twin of a field: its value in effect (R202). -/
def eff (f : Fld) : Fld := { f with reg := f.reg + 0x800 }

/-- The SH registers of a layer, in the order of R218. -/
def layerRegs (p l : Nat) : List Nat :=
  [PIX_P_L_CTL p l, PIX_P_L_FMT p l, PIX_P_L_ADDR0 p l, PIX_P_L_ADDR1 p l, PIX_P_L_ADDR2 p l, PIX_P_L_PITCH0 p l, PIX_P_L_PITCH12 p l,
   PIX_P_L_SRC p l, PIX_P_L_CROP_XY p l, PIX_P_L_CROP_WH p l, PIX_P_L_DST_XY p l, PIX_P_L_DST_WH p l, PIX_P_L_ALPHA p l,
   PIX_P_L_FENCE_ADDR p l, PIX_P_L_FENCE_VAL p l]

/-- The SH registers of a pipe (R216). -/
def pipeRegs (p : Nat) : List Nat :=
  [PIX_P_CTL p, PIX_P_SIZE p, PIX_P_ORDER p, PIX_P_BG_RG p, PIX_P_BG_B p, PIX_P_PEAK p, PIX_P_SLICE p, PIX_P_WARP p, PIX_P_COLOUR p,
   PIX_P_BLEND_CTL p, PIX_P_BLEND_LR p, PIX_P_BLEND_TB p] ++ layerIds.map (PIX_P_ROUTE p) ++ [0, 1, 2].map (PIX_P_CONV p) ++
    (List.range 9).map (PIX_P_MAT p)

/-- A layer's shadow state, and its state in effect. -/
def shadowLayer (s : State) (p l : Nat) : List Word := (layerRegs p l).map s.rd
def effLayer (s : State) (p l : Nat) : List Word := (layerRegs p l).map (fun r => s.rd (r + 0x800))

/-- Bits of register i of a layer state. -/
def lw (ls : List Word) (i lo w : Nat) : Nat := bits (ls.getD i 0#64).toNat lo w
def lyEN (ls : List Word) : Bool := bit (lw ls 0 0 1) 0
def lyGROUP (ls : List Word) : Nat := lw ls 0 4 2
def lyWAIT (ls : List Word) : Bool := bit (lw ls 0 6 1) 0
def lyKIND (ls : List Word) : Nat := lw ls 1 0 2
def lyDEPTH (ls : List Word) : Nat := lw ls 1 2 3
def lySAMP (ls : List Word) : Nat := lw ls 1 5 2
def lyHDEC (ls : List Word) : Nat := 2 ^ lw ls 0 9 2
def lyVDEC (ls : List Word) : Nat := 2 ^ lw ls 0 11 2
def lyCropX (ls : List Word) : Nat := lw ls 8 0 14
def lyCropY (ls : List Word) : Nat := lw ls 8 16 14
def lyCropW (ls : List Word) : Nat := lw ls 9 0 14
def lyCropH (ls : List Word) : Nat := lw ls 9 16 14
def lyDstW (ls : List Word) : Nat := lw ls 11 0 14
def lyDstH (ls : List Word) : Nat := lw ls 11 16 14
def lyADDR0 (ls : List Word) : Nat := (ls.getD 2 0#64).toNat
def lyAddrs (ls : List Word) : List Word := [ls.getD 2 0#64, ls.getD 3 0#64, ls.getD 4 0#64]

/-- Bytes of a sample of a planar format, or of a pixel (R181). -/
def sampleBytes (ls : List Word) : Nat :=
  match lyKIND ls with
  | 0 => if lyDEPTH ls = 0 then 3 else if lyDEPTH ls = 1 then 4 else 6
  | 1 => if lyDEPTH ls ≤ 1 then 4 else 8
  | _ => if lyDEPTH ls = 0 then 1 else 2

/-- The planes of a format: for each its number, the bytes of a pixel in it, and by what its columns and lines are divided (R181, R182). -/
def lyPlanes (ls : List Word) : List (Nat × Nat × Nat × Nat) :=
  let sb := sampleBytes ls
  let h := if lySAMP ls = 0 then 1 else 2
  let v := if lySAMP ls = 2 then 2 else 1
  match lyKIND ls with
  | 2 => [(0, sb, 1, 1), (1, 2 * sb, h, v)]
  | 3 => [(0, sb, 1, 1), (1, sb, h, v), (2, sb, h, v)]
  | _ => [(0, sb, 1, 1)]

def lyAddr (ls : List Word) (n : Nat) : Nat := (ls.getD (2 + n) 0#64).toNat
def lyPitch (ls : List Word) (n : Nat) : Nat := if n = 0 then lw ls 5 0 20 else lw ls 6 0 20

/-- The address of a pixel of a plane (R182). -/
def pixelAddr (ls : List Word) (n sb x y : Nat) : Nat := lyAddr ls n + y * lyPitch ls n + x * sb

/-- The byte ranges that a layer's buffer covers (R369): its cropped lines at full pitch, chroma lines by whole division. -/
def lyRanges (ls : List Word) : List (Nat × Nat) :=
  (lyPlanes ls).map (fun (n, _, _, v) =>
    let y0 := lyCropY ls / v
    let y1 := (lyCropY ls + lyCropH ls - 1) / v
    (lyAddr ls n + y0 * lyPitch ls n, (y1 + 1 - y0) * lyPitch ls n))

/-- Does a layer need a scaler (R187)? -/
def needsScaler (ls : List Word) : Bool :=
  !((decide (lyKIND ls ≤ 1) || lySAMP ls == 0) && lyHDEC ls == 1 && lyVDEC ls == 1 && lyDstW ls == lyCropW ls && lyDstH ls == lyCropH ls)

/-! ### Checks (R205) -/

/-- FORMAT fails (R181, R185, R219). -/
def badFormat (ls : List Word) : Bool :=
  let planar := decide (2 ≤ lyKIND ls)
  decide (4 < lyDEPTH ls) || lySAMP ls == 3 || (planar && lyDEPTH ls == 4) || (!planar && lySAMP ls != 0) || lw ls 1 8 3 == 7 ||
    lw ls 1 11 2 == 3 || lw ls 1 14 2 == 3 || (lyDEPTH ls == 4 && lw ls 1 8 3 != 0) || lw ls 0 1 2 == 3

/-- ALIGN fails (R182). -/
def badAlign (ls : List Word) : Bool :=
  (lyPlanes ls).any (fun (n, sb, h, _) => lyAddr ls n % 256 != 0 || lyPitch ls n % 256 != 0 ||
    decide (lyPitch ls n < ceilDiv (lw ls 7 0 14) h * sb))

/-- CROP fails (R182). -/
def badCrop (ls : List Word) : Bool :=
  decide (lw ls 7 0 14 < lyCropX ls + lyCropW ls) || decide (lw ls 7 16 14 < lyCropY ls + lyCropH ls) ||
    (decide (2 ≤ lyKIND ls) && decide (1 ≤ lySAMP ls) && (lyCropX ls % 2 != 0 || lyCropW ls % 2 != 0)) ||
    (decide (2 ≤ lyKIND ls) && lySAMP ls == 2 && (lyCropY ls % 2 != 0 || lyCropH ls % 2 != 0))

/-- SCALE fails (R188, R219): so it does for a crop rectangle without a column or a line, whose ratio is no number to 16. -/
def badScale (ls : List Word) : Bool :=
  let out := fun dst crop => dst == 0 || decide (4 * dst < crop) || decide (16 * crop < dst)
  lw ls 0 7 2 == 3 || out (lyDstW ls) (ceilDiv (lyCropW ls) (lyHDEC ls)) || out (lyDstH ls) (ceilDiv (lyCropH ls) (lyVDEC ls))

/-- LINEBUF fails (R189). -/
def badLine (ls : List Word) : Bool := needsScaler ls && decide (8192 < ceilDiv (lyCropW ls) (lyHDEC ls))

/-- The first check that a layer fails: its number and status. -/
def layerCheck (ls : List Word) : Option (Nat × Nat) :=
  if !lyEN ls then none
  else if badFormat ls then some (4, stBADDESC)
  else if badAlign ls then some (5, stBADDESC)
  else if badCrop ls then some (6, stBADDESC)
  else if badScale ls then some (7, stBADDESC)
  else if badLine ls then some (8, stLINEBUF)
  else none

/-- The layers in order from the bottom, by ORDER (R191). -/
def orderOf (prog : Bool) (ord : Nat) : List Nat := if prog then layerIds.map (fun k => bits ord (3 * k) 3) else layerIds

/-- The destinations (port, array, component, source) of route words that are enabled. -/
def routesOf (ws : List Word) : List (Nat × Nat × Nat × Nat) :=
  (ws.filter (fun w => bit w.toNat 0)).map (fun w => (bits w.toNat 3 2, bits w.toNat 5 2, bits w.toNat 7 2, bits w.toNat 1 2))

def shadowRoutes (s : State) (p : Nat) : List (Nat × Nat × Nat × Nat) := routesOf (layerIds.map (fun r => s.rd (PIX_P_ROUTE p r)))
def effRoutes (s : State) (p : Nat) : List (Nat × Nat × Nat × Nat) := routesOf (layerIds.map (fun r => s.rd (PIX_P_ROUTE p r + 0x800)))

/-- Does a list hold an element twice? -/
def hasDup {α : Type} [DecidableEq α] : List α → Bool
  | [] => false
  | x :: t => decide (x ∈ t) || hasDup t

/-- ROUTE fails (R180, R195, R201, R205). A beam route's ARRAY is ignored and its COMP is one of the sample word's four positions; ramps count while
BLEND_CTL.EN is 1 (log entry 116). -/
def badRoute (s : State) (p : Nat) : Bool :=
  let rs := shadowRoutes s p
  let size := s.rdN (PIX_P_SIZE p)
  let w := bits size 0 13
  let h := bits size 16 13
  let lr := s.rdN (PIX_P_BLEND_LR p)
  let tb := s.rdN (PIX_P_BLEND_TB p)
  let ramps := fun v m => decide (1024 < bits v 0 11) || decide (1024 < bits v 16 11) || decide (m < bits v 0 11 + bits v 16 11)
  let beam := s.flag (PIX_P_SLICE_BEAM p)
  rs.any (fun (q, a, c, _) => !beam && (decide (pArrays s q ≤ a) || decide (pComps s q ≤ c))) ||
  hasDup (rs.map (fun (q, a, c, _) => (q, if beam then 0 else a, c))) ||
  (s.flag (PIX_P_CTL_EN p) && [0, 1, 2, 3].any (fun o => o != p && s.flag (eff (PIX_P_CTL_EN o)) && (effRoutes s o).any (fun (q, _, _, _) => rs.any (fun r => r.1 == q)))) ||
  rs.any (fun (q, _, _, _) => if beam then w != s.fld (SEQ_P_BEAM_GEOM_COLS q) || h != s.fld (SEQ_P_BEAM_GEOM_LINES q) else w != pCols s q || h != pRows s q) ||
  (s.flag (PIX_P_BLEND_CTL_EN p) && (ramps lr w || ramps tb h))

/-- Is a table's bank loaded, or its load still running (R205, R207)? -/
def bankKnown (s : State) (p kind b : Nat) : Bool :=
  bit (s.fld (PIX_P_TBL_STAT_LOADED p)) (2 * kind + b) ||
    ((if kind = 0 then (s.pipe p).meshLoad else (s.pipe p).lutLoad).any (fun x => x.1 == b))

/-- TABLE fails (R198, R205). -/
def badTable (s : State) (p : Nat) : Bool :=
  (s.flag (PIX_P_WARP_EN p) && !bankKnown s p 0 (s.fld (PIX_P_WARP_MESH_BANK p))) ||
  (s.flag (PIX_P_COLOUR_LUT_EN p) && (!bankKnown s p 1 (s.fld (PIX_P_COLOUR_LUT_BANK p)) || s.fld (PIX_P_COLOUR_SHAPER p) == 7))

/-! ### Scalers (R187, R220) -/

/-- The byte of scaler k in the map registers. -/
def scalerFld (k : Nat) : Fld := ⟨if k < 8 then PIX_SCALER_MAP0 else PIX_SCALER_MAP1, 8 * (k % 8), 8⟩
def scalerIds : List Nat := List.range 16

/-- The scaler that a layer holds. -/
def scalerOf (s : State) (p l : Nat) : Option Nat := scalerIds.find? (fun k => s.fld (scalerFld k) == 128 + 8 * p + l)

/-- Free scalers. -/
def freeScalers (s : State) : List Nat := scalerIds.filter (fun k => !bit (s.fld (scalerFld k)) 7)

/-- PIX_SCALER_FREE and a layer's SCALED and SCALER show the allocation. -/
def showScaler (p l : Nat) (s : State) : State :=
  let s1 := s.wrN PIX_SCALER_FREE (freeScalers s).length
  match scalerOf s p l with
  | some k => (s1.setFld (PIX_P_L_STAT_SCALED p l) 1).setFld (PIX_P_L_STAT_SCALER p l) k
  | none => (s1.setFld (PIX_P_L_STAT_SCALED p l) 0).setFld (PIX_P_L_STAT_SCALER p l) 0

/-- Give a layer's scaler back. -/
def freeScaler (p l : Nat) (s : State) : State :=
  match scalerOf s p l with
  | some k => showScaler p l (s.setFld (scalerFld k) 0)
  | none => s

/-- Take the lowest free scaler for a layer that holds none. -/
def takeScaler (p l : Nat) (s : State) : State :=
  if (scalerOf s p l).isSome then s
  else match freeScalers s with
    | k :: _ => showScaler p l (s.setFld (scalerFld k) (128 + 8 * p + l))
    | [] => s

/-- Does a layer under a state need a scaler? -/
def wantsScaler (ls : List Word) : Bool := lyEN ls && needsScaler ls

/-- Allocate for the states that a take gives a pipe's layers: scalers no longer needed return first, then the layers without one take the lowest
free, from layer 0 up. A layer for which none is free, which only a held layer or a carried state can bring about, is composed without one shown
(DESIGN CHOICE, log entry 116). -/
def allocScalers (p : Nat) (st : Nat → List Word) (s : State) : State :=
  layerIds.foldl (fun t l => if wantsScaler (st l) then takeScaler p l t else t) (layerIds.foldl (fun t l => if wantsScaler (st l) then t else freeScaler p l t) s)

/-- Would a commit's layers need more scalers than are free once it has returned those it no longer needs (R187)? -/
def scalersShort (s : State) (p : Nat) : Bool :=
  let need := fun l => wantsScaler (shadowLayer s p l)
  let freed := layerIds.filter (fun l => !need l && (scalerOf s p l).isSome)
  let wanted := layerIds.filter (fun l => need l && (scalerOf s p l).isNone)
  decide ((freeScalers s).length + freed.length < wanted.length)

/-- The first check that a commit fails: check, status, and layer (R205). -/
def commitCheck (s : State) (p : Nat) : Option (Nat × Nat × Option Nat) :=
  if s.flag (PIX_P_CTL_ORDER_PROG p) && hasDup (orderOf true (s.rdN (PIX_P_ORDER p))) then some (1, stBADDESC, none)
  else if badRoute s p then some (2, stBADDESC, none)
  else if badTable s p then some (3, stBADDESC, none)
  else match layerIds.findSome? (fun l => (layerCheck (shadowLayer s p l)).map (fun r => (r.1, r.2, some l))) with
    | some f => some f
    | none => if scalersShort s p then some (9, stBUSY, none) else none

/-! ### Buffers (R214, R369) -/

/-- The name of a holder of one of a buffer's planes. -/
def bufHolder (p : Nat) (b : LayerBuf) (n : Nat) : HolderId := .layer p b.layer n b.gen

/-- Release a buffer's references. -/
def dropBuf (p : Nat) (b : LayerBuf) (s : State) : State :=
  (List.range b.ranges.length).foldl (fun t n => dropHolder (bufHolder p b n) t) s

/-- Reference a layer state's buffer, if no reference of the same lines stands for it. -/
def refLayer (p l : Nat) (ls : List Word) (s : State) : State :=
  let x := s.pipe p
  if !lyEN ls || x.bufs.any (fun b => b.layer == l && b.addr0 == lyADDR0 ls && decide (b.ranges = lyRanges ls)) then s
  else
    let b : LayerBuf := { gen := x.genNext, layer := l, addr0 := lyADDR0 ls, ranges := lyRanges ls, taken := false }
    let s1 := s.setPipe p { x with bufs := x.bufs ++ [b], genNext := x.genNext + 1 }
    (List.range b.ranges.length).foldl (fun t n => let r := b.ranges.getD n (0, 0); takeRef (bufHolder p b n) r.1 r.2 t) s1

/-- Reference every buffer of the shadow state: at a GO, and at a write that joins a pending commit (R203, R214). -/
def refShadow (p : Nat) (s : State) : State := layerIds.foldl (fun t l => refLayer p l (shadowLayer s p l) t) s

/-- Release the buffers not taken that no carried state of the pipe names. -/
def dropPending (p : Nat) (s : State) : State :=
  let x := s.pipe p
  let keep := fun b : LayerBuf => b.taken || layerIds.any (fun l => (x.layer l).carried.any (fun ls => l == b.layer && decide (b.ranges = lyRanges ls)))
  (x.bufs.filter (fun b => !keep b)).foldl (fun t b => dropBuf p b t) (s.setPipe p { x with bufs := x.bufs.filter keep })

/-- A taken layer state's buffer is guarded (R369). -/
def takeBuf (p l : Nat) (ls : List Word) (s : State) : State :=
  let x := s.pipe p
  let mine := fun b : LayerBuf => b.layer == l && decide (b.ranges = lyRanges ls)
  let s1 := s.setPipe p { x with bufs := x.bufs.map (fun b => if mine b then { b with taken := true } else b) }
  (x.bufs.filter mine).foldl (fun t b => (List.range b.ranges.length).foldl (fun u n => guardHolder (bufHolder p b n) u) t) s1

/-- The end of a render that read these layer states: taken buffers that no layer read are released, with LAYER_RETIRE unless their ADDR0
is still read (R214). -/
def retireBufs (p : Nat) (read : List (List Word)) (s : State) : State :=
  let x := s.pipe p
  let used := fun b : LayerBuf => !b.taken || read.any (fun ls => decide (b.ranges = lyRanges ls) && b.addr0 == lyADDR0 ls)
  let gone := x.bufs.filter (fun b => !used b)
  gone.foldl (fun t b =>
    let t1 := dropBuf p b t
    if read.any (fun ls => b.addr0 == lyADDR0 ls) then t1
    else pixEvent p 0 7 svINFO (b.layer + b.addr0 / 256 % 2 ^ 48 * 256) t1) (s.setPipe p { x with bufs := x.bufs.filter used })

/-! ### Commits (R203, R208) -/

/-- GO written 1: a commit is pending, and its buffers are referenced (R203, R214). -/
def commitGo (p : Nat) (s : State) : State := refShadow p (s.setFld (PIX_P_COMMIT_GO p) 1)

/-- COMMIT_GO (R203). -/
def execCommitGo (p : Fin 4) (s : State) : Out :=
  if !s.clocked then .next s else
  .next (commitGo p s)

/-- The fence reads of a pipe's pending commit are forgotten. -/
def dropFences (p : Nat) (s : State) : State :=
  layerIds.foldl (fun t l => updLayer p l (fun x => { x with fences := x.fences.filter (fun f => !f.go) }) t) s

/-- CANCEL written 1 (R208). -/
def commitCancel (p : Nat) (s : State) : State :=
  if s.flag (PIX_P_COMMIT_GO p) then
    dropPending p ((dropFences p s).setFld (PIX_P_COMMIT_GO p) 0 |>.setFld (PIX_P_COMMIT_STATUS_CMD_STATUS p) stOK)
  else s.setFld (PIX_P_COMMIT_STATUS_CMD_STATUS p) stNOTHING

/-- COMMIT_CANCEL (R208). -/
def execCommitCancel (p : Fin 4) (s : State) : Out :=
  if !s.clocked then .next s else
  .next (commitCancel p s)

/-- The state that a layer would take at a latch: the commit's where one is taken (`go`), else what is carried (R210). -/
def candidate (s : State) (p l : Nat) (go : Bool) : Option (List Word) :=
  if go then some (shadowLayer s p l) else ((s.pipe p).layer l).carried

/-- Was a state's fence read for the latch that is coming, which is placed at `at_` quanta (R209)? -/
def fenceRead (s : State) (p l : Nat) (go : Bool) (ls : List Word) (at_ : Nat) : Bool :=
  ((s.pipe p).layer l).fences.any (fun f => f.go == go && f.addr == lw ls 13 0 64 && decide (at_ ≤ f.issued + 16000))

/-- The fence of a state is read, if the state waits for one and this latch's read is not out (R209). The value is read as the read is issued. -/
def issueFence (p l : Nat) (go : Bool) (at_ : Nat) (s : State) : State :=
  match (if go && !s.flag (PIX_P_COMMIT_GO p) then none else candidate s p l go) with
  | none => s
  | some ls =>
    if !lyWAIT ls || fenceRead s p l go ls at_ then s
    else
      let a := lw ls 13 0 64
      let r := sysLoad blkPIX p a 8 s
      updLayer p l (fun x => { x with fences := x.fences.filter (fun f => f.go != go) ++ [{ go := go, addr := a, issued := 4 * s.now, value := r.2.map leNat }] }) r.1

/-- FENCE_READ (R209): 4 µs before the predicted placed time of the port's next latch, or at once where that is less than 4 µs ahead, the fences of the
layer's states that wait are read. -/
def execFenceRead (p : Fin 4) (l : Fin 8) (s0 : State) : Out :=
  if !s0.clocked then .next s0 else
  .next (match latchDue s0 p with
    | none => s0
    | some at_ =>
      let s := passTime (ceilDiv at_ 4 - 4000 - s0.now) s0
      issueFence p l false at_ (issueFence p l true at_ s))

/-- FENCE_READ_RETURN (R209). -/
def execFenceReadReturn (p : Fin 4) (l : Fin 8) (dt : Nat) (s0 : State) : Out :=
  if !s0.clocked then .next (passTime dt s0) else
  let s := passTime dt s0
  .next (updLayer p l (fun x => { x with fences := x.fences.map (fun f => if f.back.isNone then { f with back := some (4 * s.now) } else f) }) s)

/-- Is a layer ready to take a state at a latch (R209)? -/
def layerReady (s : State) (p l placed : Nat) (go : Bool) (ls : List Word) : Bool :=
  !lyWAIT ls || decide (lyAddrs ls = lyAddrs (effLayer s p l)) ||
    ((s.pipe p).layer l).fences.any (fun f => f.go == go && f.addr == lw ls 13 0 64 && decide (placed ≤ f.issued + 16000) &&
      f.back.any (fun b => decide (b < placed)) && f.value.any (fun v => decide (lw ls 14 0 64 ≤ v)))

/-! ### Tables (R198) -/

/-- A write of TBL_CMD with LOAD (R198). -/
def tableLoad (p kind b : Nat) (s : State) : State :=
  let st := fun v t => State.setFld t (PIX_P_TBL_STAT_CMD_STATUS p) v
  let inEffect := if kind = 0 then s.fld (eff (PIX_P_WARP_MESH_BANK p)) else s.fld (eff (PIX_P_COLOUR_LUT_BANK p))
  let busy := if kind = 0 then PIX_P_TBL_STAT_MESH_BUSY p else PIX_P_TBL_STAT_LUT_BUSY p
  if b = inEffect then st stNOTPERM s
  else if s.flag busy then st stBUSY s
  else
    let a := s.rdN (PIX_P_TBL_ADDR p)
    updPipe p (fun x => if kind = 0 then { x with meshLoad := some (b, a) } else { x with lutLoad := some (b, a) }) (st stOK (s.setFld busy 1))

/-- TABLE_LOAD (R198). -/
def execTableLoad (p : Fin 4) (kind : Fin 2) (b : Fin 2) (s : State) : Out :=
  if !s.clocked then .next s else
  .next (tableLoad p kind b s)

/-- Read n bytes of a table in the system's context (agent 7, R368): none where a read faults, whose record is then written. -/
def tableRead (unit va n : Nat) (s : State) : State × Option (List Byte) :=
  match (List.range n).find? (fun i => match xlate s (sysAsid s) 0 (va + i) akREAD with
    | .ok _ => false
    | .bad _ _ _ => true) with
  | none => (s, some (sysRead s va n))
  | some i =>
    match xlate s (sysAsid s) 0 (va + i) akREAD with
    | .ok _ => (s, none)
    | .bad c l h => (faultOn { agent := 7, unit := unit, asid := sysAsid s, va := va + i, kind := akREAD, cause := c, level := l, hostLeaf := h, held := false, data := [] } s, none)

/-- TABLE_LOAD_DONE (R198, R217). -/
def execTableLoadDone (p : Fin 4) (kind : Fin 2) (dt : Nat) (s0 : State) : Out :=
  if !s0.clocked then .next (passTime dt s0) else
  let s := passTime dt s0
  let mesh := kind = 0
  .next (match if mesh then (s.pipe p).meshLoad else (s.pipe p).lutLoad with
    | none => s
    | some (b, a) =>
      let n := if mesh then 19240 else 287496
      if !sysServed s a n then s else
      let r := tableRead p a n (sysTouch a n (12 + p.val) s)
      let s1 := r.1.setFld (if mesh then PIX_P_TBL_STAT_MESH_BUSY p else PIX_P_TBL_STAT_LUT_BUSY p) 0
      let ld : Fld := ⟨PIX_P_TBL_STAT p, 2 + 2 * kind + b, 1⟩
      let s2 := updPipe p (fun x => if mesh then { x with meshLoad := none } else { x with lutLoad := none }) s1
      match r.2 with
      | none => (s2.setFld ld 0).setFld (PIX_P_TBL_STAT_CMD_STATUS p) stFAULT
      | some bs =>
        updPipe p (fun x => if mesh then (if b = 0 then { x with mesh0 := bs } else { x with mesh1 := bs })
          else (if b = 0 then { x with lut0 := bs } else { x with lut1 := bs })) (s2.setFld ld 1))

/-! ### The take (R204 to R212) -/

/-- Is a late layer's previous buffer valid (R211), as noted at the latch? -/
def prevValid (s : State) (p l : Nat) : Bool := ((s.pipe p).layer l).prevOk

/-- At a latch, each layer's state in effect and whether its buffer is valid become its previous state (R211, R368). -/
def notePrev (p : Nat) (s : State) : State :=
  layerIds.foldl (fun t l => updLayer p l (fun x => { x with prev := effLayer s p l, prevOk := s.flag (eff (PIX_P_L_CTL_EN p l)) && !s.flag (PIX_P_L_STAT_TRANSPARENT p l) && !s.flag (PIX_P_L_STAT_FAULTED p l) && !x.bad }) t) s

/-- A commit is rejected (R206). -/
def rejectCommit (p check status : Nat) (l : Option Nat) (s : State) : State :=
  let f := pack [(0, 8, status), (8, 3, l.getD 0), (11, 1, b2n l.isSome), (12, 4, check)]
  let old := s.rdN (PIX_P_COMMIT_STATUS p)
  let s1 := ((s.wrN (PIX_P_COMMIT_STATUS p) (f + old / 65536 * 65536)).setFld (PIX_P_COMMIT_GO p) 0).bump (PIX_P_REJECT_CNT p)
  pixEvent p 0 2 svERROR (f + s.rdN (PIX_P_FRAME_CNT p) % 2 ^ 32 * 2 ^ 32) (dropPending p (dropFences p s1))

/-- Which selected banks are still loading (R207): bit 0 the mesh, bit 1 the 3D table. -/
def loadingBanks (s : State) (p : Nat) : Nat :=
  b2n (s.flag (PIX_P_WARP_EN p) && (s.pipe p).meshLoad.any (fun x => x.1 == s.fld (PIX_P_WARP_MESH_BANK p))) +
    2 * b2n (s.flag (PIX_P_COLOUR_LUT_EN p) && (s.pipe p).lutLoad.any (fun x => x.1 == s.fld (PIX_P_COLOUR_LUT_BANK p)))

/-- The layers that are late at a latch, and those held with them: late alone, or members of a group with a late member (R210, R212). -/
def lateLayers (s : State) (p placed : Nat) (go : Bool) : List Nat :=
  layerIds.filter (fun l => (candidate s p l go).any (fun ls => !layerReady s p l placed go ls))

def heldLayers (s : State) (p placed : Nat) (go : Bool) : List Nat :=
  let late := lateLayers s p placed go
  let grp := fun l => s.fld (eff (PIX_P_L_CTL_GROUP p l))
  layerIds.filter (fun l => (candidate s p l go).isSome && (late.contains l || (grp l != 0 && late.any (fun m => grp m == grp l))))

/-- A layer's state at a take: held layers keep theirs. -/
def takenState (s : State) (p placed : Nat) (go : Bool) (l : Nat) : List Word :=
  if (heldLayers s p placed go).contains l then effLayer s p l else (candidate s p l go).getD (effLayer s p l)

/-- A held layer at a latch (R210 to R212): it repeats, transparent where its previous buffer is not valid, and a state that differs from the one in
effect is carried. A late member of a group is told by GROUP_HELD, not LAYER_LATE (DEDUCED, log entry 116). -/
def holdLayer (p placed : Nat) (go : Bool) (l : Nat) (s0 s : State) : State :=
  let clear := !prevValid s0 p l
  let new := (candidate s0 p l go).filter (fun ls => decide (ls ≠ effLayer s0 p l))
  let s1 := (updLayer p l (fun x => { x with carried := new }) s).setFld (PIX_P_L_STAT_HELD p l) (b2n new.isSome)
  let s2 := s1.setFld (PIX_P_L_STAT_TRANSPARENT p l) (b2n clear)
  if (lateLayers s0 p placed go).contains l then
    let s3 := s2.bump (PIX_P_L_LATE_CNT p l)
    if s0.fld (eff (PIX_P_L_CTL_GROUP p l)) != 0 then s3 else pixEvent p 0 4 svWARNING (l + 8 * b2n clear + s3.rdN (PIX_P_L_LATE_CNT p l) * 2 ^ 32) s3
  else s2

/-- A layer takes its new state (R204, R214). -/
def applyLayer (p l : Nat) (ls : List Word) (s : State) : State :=
  let s1 := ((layerRegs p l).zip ls).foldl (fun t e => t.wr (e.1 + 0x800) e.2) s
  let moved := decide (lyAddrs ls ≠ lyAddrs (effLayer s p l))
  let s2 := ((s1.setFld (PIX_P_L_STAT_SHOWN p l) (b2n (lyEN ls))).setFld (PIX_P_L_STAT_HELD p l) 0).setFld (PIX_P_L_STAT_TRANSPARENT p l) 0
  takeBuf p l ls (updLayer p l (fun x => { x with carried := none, bad := x.bad && !moved }) s2)

/-- The groups held at a latch (R212). -/
def holdGroups (p placed : Nat) (go : Bool) (s0 s : State) : State :=
  let late := lateLayers s0 p placed go
  [1, 2, 3].foldl (fun t g =>
    let ms := late.filter (fun l => s0.fld (eff (PIX_P_L_CTL_GROUP p l)) == g)
    if ms.isEmpty then t
    else pixEvent p 0 5 svWARNING (g + 4 * (ms.map (fun l => 2 ^ l)).sum) (t.bump (PIX_P_GROUP_HOLD_CNT p))) s

/-- Layers take their states or are held, with the scalers allocated (R204, R210): at every latch, those of a commit taken there or those carried. -/
def applyLayers (p placed : Nat) (go : Bool) (s : State) : State :=
  let held := heldLayers s p placed go
  let s1 := layerIds.foldl (fun t l =>
    if held.contains l then holdLayer p placed go l s t
    else match candidate s p l go with
      | some ls => applyLayer p l ls t
      | none => t.setFld (PIX_P_L_STAT_TRANSPARENT p l) 0) s
  allocScalers p (takenState s p placed go) (holdGroups p placed go s s1)

/-- The identity of the commit taken (R511, R541). -/
def takeFid (p : Nat) (s : State) : State :=
  let s1 := s.wr (CAS_TW_FID_TAKEN p) (s.rd (CAS_TW_FID p))
  if bit (s.fld CAS_TW_CTL_PIPES) p then mirror 1 p [s.rd (CAS_TW_FID p), s.rd (PIX_P_FLIP_TIME p)] s1 else s1

/-- A commit that passed its checks is taken at a latch (R204, R210). -/
def takeCommit (p placed : Nat) (s : State) : State :=
  let s1 := takeFid p ((pipeRegs p).foldl (fun t r => t.wr (r + 0x800) (s.rd r)) (applyLayers p placed true s))
  let s2 := dropPending p (((s1.wrN (PIX_P_COMMIT_STATUS p) (s.rdN (PIX_P_COMMIT_STATUS p) / 65536 * 65536)).wr (PIX_P_COMMIT_FRAME p)
    (s.rd (PIX_P_FRAME_CNT p))).wr (PIX_P_COMMIT_TIME p) (s.rd (PIX_P_FLIP_TIME p)))
  let held := (heldLayers s p placed true).filter (fun l => ((s1.pipe p).layer l).carried.isSome)
  pixEvent p 0 1 svINFO (s.rdN (PIX_P_FRAME_CNT p) % 2 ^ 32 + (held.map (fun l => 2 ^ l)).sum * 2 ^ 32) (s2.setFld (PIX_P_COMMIT_GO p) 0)

/-- A latch decides a pending commit: rejected (R206), deferred (R207) or taken; wherever none is taken, the carried states are judged (R210). -/
def decideCommit (p placed : Nat) (s : State) : State :=
  if !s.flag (PIX_P_COMMIT_GO p) then applyLayers p placed false s
  else match commitCheck s p with
    | some (c, st, l) => rejectCommit p c st l (applyLayers p placed false s)
    | none =>
      let ld := loadingBanks s p
      if ld = 0 then takeCommit p placed s
      else applyLayers p placed false (pixEvent p 0 3 svNOTICE (ld + s.rdN (PIX_P_FRAME_CNT p) % 2 ^ 32 * 2 ^ 32) (s.bump (PIX_P_DEFER_CNT p)))

/-! ### Renders (R199, R200) -/

/-- A render in progress is abandoned (R200): its slot is free again, and its references are released. -/
def abandonRender (p : Nat) (s : State) : State :=
  match (s.pipe p).render with
  | none => s
  | some r =>
    let s1 := (r.ports.foldl (fun t q => dropHolder (.set q r.slot) t) (updPipe p (fun x => { x with render := none }) s)).bump (PIX_P_RENDER_OVR_CNT p)
    pixEvent p 2 8 svWARNING (r.slot + s1.rdN (PIX_P_RENDER_OVR_CNT p) * 2 ^ 32) s1

/-- The ports that a pipe's routes reach and whose EN is 1 (R180). -/
def routedPorts (s : State) (p : Nat) : List Nat :=
  [0, 1, 2, 3].filter (fun q => (effRoutes s p).any (fun r => r.1 == q) && s.flag (SEQ_P_CTL_EN q))

/-- Is a set slot neither on screen nor READY on a port (R199)? -/
def slotFree (s : State) (k q : Nat) : Bool :=
  !(s.flag (SEQ_P_SET_STAT_SHOWING q) && s.fld (SEQ_P_SET_STAT_SHOWN q) == k) && !bit (s.rdN (SEQ_P_SET_READY q)) k

/-! ### Pixels (R180 to R197) -/

/-- n bytes of a layer's buffer: those of an uncorrectable burst read as 0 (R377). -/
def layerBytes (s : State) (va n : Nat) : List Byte :=
  match walk s (sysAsid s) va with
  | .ok l => if readsBad s ⟨l.host, l.at_ va⟩ n then List.replicate n 0#8 else sysRead s va n
  | .bad _ _ _ => List.replicate n 0#8

/-- The value of component k of a pixel or sample at column x and line y of a plane (R181): its code, or of 16F its linear light. -/
def planeSample (s : State) (ls : List Word) (n sb k x y : Nat) : Rat :=
  let v := leNat (layerBytes s (pixelAddr ls n sb x y) sb)
  let c := if lyDEPTH ls = 0 then 8 else 16
  if lyKIND ls ≤ 1 ∧ lyDEPTH ls = 1 then (bits v (10 * k) 10 : Nat)
  else if lyDEPTH ls = 4 then halfLight (bits v (c * k) c)
  else (codeValue (lyDEPTH ls) (bits v (c * k) c) : Nat)

/-- Pixel alpha at column x and line y, 16 bits (R183). -/
def pixelAlpha (s : State) (ls : List Word) (x y : Nat) : Nat :=
  if lyKIND ls != 1 then 65535
  else
    let sb := sampleBytes ls
    let v := leNat (layerBytes s (pixelAddr ls 0 sb x y) sb)
    alpha16 (lyDEPTH ls) (if lyDEPTH ls = 1 then bits v 30 2 else if lyDEPTH ls = 0 then bits v 24 8 else bits v 48 16)

/-- A plane of the crop rectangle pre-decimated (R184): the box average over HDEC columns of every VDEC-th line, at column i and line j. `h` and `v`
divide the plane's columns and lines. -/
def decimated (ls : List Word) (h v : Nat) (at_ : Nat → Nat → Rat) (i j : Nat) : Rat :=
  let d := lyHDEC ls
  boxAverage d (((List.range d).filter (fun t => decide (d * i + t < ceilDiv (lyCropW ls) h))).map (fun t => at_ (lyCropX ls / h + d * i + t) (lyCropY ls / v + lyVDEC ls * j)))

/-- Cb (0) or Cr (1) at a luma position (R181, R184): the co-sited sample, or one that the upsampling gives. -/
def chromaAt (s : State) (ls : List Word) (c i j : Nat) : Rat :=
  let h := if lySAMP ls = 0 then 1 else 2
  let v := if lySAMP ls = 2 then 2 else 1
  let b := if lyDEPTH ls = 0 then 1 else 2
  let smp := decimated ls h v (if lyKIND ls = 2 then planeSample s ls 1 (2 * b) c else planeSample s ls (1 + c) b 0)
  let sited := lySAMP ls = 0 || (lyHDEC ls == 1 && lyVDEC ls == 1 && i % 2 == 0 && (v == 1 || (lw ls 1 7 1 == 1 && j % 2 == 0)))
  if sited then smp (i / h) (j / v) else Config.chroma smp i j [lySAMP ls, lw ls 1 7 1, lyHDEC ls, lyVDEC ls]

/-- A channel of R′G′B′ from 0 to 1 at a position of the decimated crop (R184). -/
def encodedAt (s : State) (ls : List Word) (i j c : Nat) : Rat :=
  let n := depthBits (lyDEPTH ls)
  if lyKIND ls ≤ 1 then
    let v := decimated ls 1 1 (planeSample s ls 0 (sampleBytes ls) c) i j
    if lyDEPTH ls = 4 then v else v / (2 ^ n - 1)
  else rgbOfYcc (lw ls 1 11 2) (lw ls 1 13 1) n (decimated ls 1 1 (planeSample s ls 0 (sampleBytes ls) 0) i j) (chromaAt s ls 0 i j) (chromaAt s ls 1 i j) c

/-- A channel's 20-bit linear light at a position of the decimated crop (R184 to R186). -/
def linearAt (s : State) (peak : Nat) (ls : List Word) (i j c : Nat) : Nat :=
  primaries (lw ls 1 14 2) (fun k => tfDecode (lw ls 1 8 3) peak (encodedAt s ls i j k)) c

/-- A value over the decimated crop brought to a position of the destination rectangle by the layer's filter (R188). -/
def scaledAt (ls : List Word) (dx dy : Nat) (v : Nat → Nat → Rat) : Rat :=
  let f := lw ls 0 7 2
  scaleLine f false (ceilDiv (lyCropH ls) (lyVDEC ls)) (lyDstH ls) dy (fun j => scaleLine f true (ceilDiv (lyCropW ls) (lyHDEC ls)) (lyDstW ls) dx (fun i => v i j))

/-- A layer's alpha and channel value at a position inside its destination rectangle (R183 to R188). -/
def layerValue (s : State) (p : Nat) (ls : List Word) (dx dy c : Nat) : Nat × Nat :=
  let peak := s.rdN (PIX_P_PEAK p + 0x800) % 65536
  if needsScaler ls then
    (if lyKIND ls = 1 then min 65535 (roundFree 9 (scaledAt ls dx dy (decimated ls 1 1 (fun x y => (pixelAlpha s ls x y : Nat))))) else 65535,
     to20 10 (scaledAt ls dx dy (fun i j => (linearAt s peak ls i j c : Nat))))
  else (pixelAlpha s ls (lyCropX ls + dx) (lyCropY ls + dy), linearAt s peak ls dx dy c)

/-- Compose one layer over a channel (R190). -/
def composeLayer (ls : List Word) (apix v c : Nat) : Nat :=
  let aplane := lw ls 12 0 16
  let a16 := (apix * aplane + 32767) / 65535
  let a := a16 + a16 / 32768
  let pl := aplane + aplane / 32768
  let r := match lw ls 0 1 2 with
    | 0 => (v * (if lw ls 0 3 1 = 0 then a else pl) + c * (65536 - a) + 32768) / 65536
    | 1 => min (c + (v * a + 32768) / 65536) 0xFFFFF
    | _ => v
  min r 0xFFFFF

/-- A channel of the composed frame (R190 to R192). -/
def composed (s : State) (p : Nat) (ly : List Shown) (c x y : Nat) : Nat :=
  let bg := if c = 2 then bits (s.rdN (PIX_P_BG_B p + 0x800)) 0 16 else bits (s.rdN (PIX_P_BG_RG p + 0x800)) (16 * c) 16
  ly.foldl (fun acc h =>
    let ls := if h.cut.any (fun k => decide (k ≤ y)) then h.after else h.st
    let dx := (x : Int) - sext (lw ls 10 0 16) 16
    let dy := (y : Int) - sext (lw ls 10 16 16) 16
    if lyEN ls && decide (0 ≤ dx) && decide (dx < (lyDstW ls : Nat)) && decide (0 ≤ dy) && decide (dy < (lyDstH ls : Nat)) then
      let v := layerValue s p ls dx.toNat dy.toNat c
      composeLayer ls v.1 v.2 acc
    else acc) (bg * 16 + bg / 4096)

/-- W and H of a pipe's output frame, in effect. -/
def outW (s : State) (p : Nat) : Nat := bits (s.rdN (PIX_P_SIZE p + 0x800)) 0 13
def outH (s : State) (p : Nat) : Nat := bits (s.rdN (PIX_P_SIZE p + 0x800)) 16 13

/-- The mesh and the 3D table in effect. -/
def meshOf (s : State) (p : Nat) : List Byte := if s.fld (eff (PIX_P_WARP_MESH_BANK p)) = 0 then (s.pipe p).mesh0 else (s.pipe p).mesh1
def lutOf (s : State) (p : Nat) : List Byte := if s.fld (eff (PIX_P_COLOUR_LUT_BANK p)) = 0 then (s.pipe p).lut0 else (s.pipe p).lut1

/-- The source position of channel c at an output pixel: X (0) or Y (1). -/
def positionAt (s : State) (p c x y k : Nat) : Rat := warpPos (meshOf s p) (s.rdN (PIX_P_CONV p c + 0x800)) (outW s p) (outH s p) x y k

/-- A channel after the warp (R193, R194). -/
def warped (s : State) (p : Nat) (ly : List Shown) (x y c : Nat) : Nat :=
  if s.fld (eff (PIX_P_WARP_EN p)) = 0 then composed s p ly c x y
  else warpSample (composed s p ly c) (s.fld (eff (PIX_P_WARP_FILTER p))) (outW s p) (outH s p) y (positionAt s p c x y 0) (positionAt s p c x y 1)

/-- The first output line in which a sample position leaves the window, if any (R194). -/
def clampedLine (s : State) (p : Nat) : Option Nat :=
  if s.fld (eff (PIX_P_WARP_EN p)) = 0 then none
  else (List.range (outH s p)).find? (fun y => (List.range (outW s p)).any (fun x => [0, 1, 2].any (fun c => outOfWindow y (positionAt s p c x y 1))))

/-- A channel after the edge blend (R195). -/
def blended (s : State) (p : Nat) (ly : List Shown) (x y c : Nat) : Nat :=
  let v := warped s p ly x y c
  let lr := s.rdN (PIX_P_BLEND_LR p + 0x800)
  let tb := s.rdN (PIX_P_BLEND_TB p + 0x800)
  if s.fld (eff (PIX_P_BLEND_CTL_EN p)) = 0 then v
  else blendPixel (s.fld (eff (PIX_P_BLEND_CTL_CURVE p))) [(x, bits lr 0 11), (outW s p - 1 - x, bits lr 16 11), (y, bits tb 0 11), (outH s p - 1 - y, bits tb 16 11)] v

/-- A channel after the matrix (R196). -/
def matrixed (s : State) (p : Nat) (ly : List Shown) (x y c : Nat) : Nat :=
  if s.fld (eff (PIX_P_COLOUR_MAT_EN p)) = 0 then blended s p ly x y c
  else matRow ([0, 1, 2].map (fun j => sext (s.rdN (PIX_P_MAT p (3 * c + j) + 0x800)) 18)) (blended s p ly x y)

/-- A channel after all stages, reduced to 16 bits (R193 to R197). -/
def out16 (s : State) (p : Nat) (ly : List Shown) (x y c : Nat) : Nat :=
  let v := if s.fld (eff (PIX_P_COLOUR_LUT_EN p)) = 0 then matrixed s p ly x y c
    else lutPixel (lutOf s p) (s.fld (eff (PIX_P_COLOUR_SHAPER p))) (s.rdN (PIX_P_PEAK p + 0x800) % 65536) (matrixed s p ly x y) c
  min ((v + 8) / 16) 65535

/-- Store bytes of a set (agent 6, R368): none where the access faults, whose record is then written. -/
def sliceStore (p va : Nat) (bs : List Byte) (s : State) : State × Bool :=
  match xlate s (sysAsid s) 0 va akWRITE with
  | .ok t => (storeAt t bs s, true)
  | .bad c l h =>
    (faultOn { agent := 6, unit := p, asid := sysAsid s, va := va, kind := akWRITE, cause := c, level := l, hostLeaf := h, held := false, data := [] } s, false)

/-- Store a list of byte groups, stopping at the first that faults. -/
def sliceAll (p : Nat) : List (Nat × List Byte) → State → State × Bool
  | [], s => (s, true)
  | e :: t, s =>
    let r := sliceStore p e.1 e.2 s
    if r.2 then sliceAll p t r.1 else (r.1, false)

/-- The byte of a plane's row that holds the bits b of eight mirrors (R104, R199). -/
def planeByte (v : Nat → Nat) (b col8 : Nat) : Byte := BitVec.ofNat 8 ((List.range 8).map (fun i => b2n (bit (v (8 * col8 + i)) b) * 2 ^ i)).sum

/-- What the slicer writes to a route's destination (R104, R130, R199, R201). -/
def routeWrites (s : State) (p k : Nat) (ly : List Shown) (r : Nat × Nat × Nat × Nat) : List (Nat × List Byte) :=
  let (q, a, c, src) := r
  let v := fun y x => if src = 3 then 0 else out16 s p ly x y src
  if s.flag (eff (PIX_P_SLICE_BEAM p)) then
    (List.range (s.fld (SEQ_P_BEAM_GEOM_LINES q))).flatMap (fun y => (List.range (s.fld (SEQ_P_BEAM_GEOM_COLS q))).map (fun x =>
      (s.rdN (SEQ_P_SET_BASE q k) + y * s.rdN (SEQ_P_BEAM_STRIDE q) + 8 * x + 2 * c, leBytes 2 (v y x))))
  else
    (List.range 16).flatMap (fun b => (List.range (pRows s q)).flatMap (fun y => (List.range (pCols s q / 8)).map (fun j =>
      (planeAddr s q k a (c * 16 + b) + y * (pCols s q / 8) + j, [planeByte (v y) b j]))))

/-- The columns or lines of a destination rectangle that lie in the frame: the first, and the one after the last (R192). -/
def visible (dst : Int) (len frame : Nat) : Nat × Nat := ((-dst).toNat, min len ((frame : Int) - dst).toNat)

/-- Does a read of bytes of a layer's plane fault? The address at which it does. -/
def readFault (s : State) (a0 len : Nat) : Option Nat :=
  (List.range ((a0 % 65536 + len - 1) / 65536 + 1)).findSome? (fun i =>
    let a := if i = 0 then a0 else a0 / 65536 * 65536 + i * 65536
    match xlate s (sysAsid s) 0 a akREAD with
    | .ok _ => none
    | .bad _ _ _ => some a)

/-- The first output line for which the fetch of a layer faults, with the plane and the access (R213): only lines and columns that contribute to
visible pixels are fetched (R192). -/
def firstFault (s : State) (p : Nat) (ls : List Word) : Option (Nat × Nat × Nat) :=
  let xs := visible (sext (lw ls 10 0 16) 16) (lyDstW ls) (outW s p)
  let ys := visible (sext (lw ls 10 16 16) 16) (lyDstH ls) (outH s p)
  let f := lw ls 0 7 2
  let reach := fun (horiz : Bool) n dst d => if needsScaler ls then scaleReach f horiz n dst d else (d, d)
  let nx := ceilDiv (lyCropW ls) (lyHDEC ls)
  let lo := (reach true nx (lyDstW ls) xs.1).1
  let hi := (reach true nx (lyDstW ls) (xs.2 - 1)).2
  if xs.2 ≤ xs.1 then none
  else ((List.range ys.2).drop ys.1).findSome? (fun dy =>
    let r := reach false (ceilDiv (lyCropH ls) (lyVDEC ls)) (lyDstH ls) dy
    ((List.range (r.2 + 1)).drop r.1).findSome? (fun j => (lyPlanes ls).findSome? (fun (n, sb, h, v) =>
      let c0 := lyHDEC ls * (lo / h)
      let c1 := min (lyHDEC ls * (hi / h + 1)) (ceilDiv (lyCropW ls) h)
      (readFault s (pixelAddr ls n sb (lyCropX ls / h + c0) (lyCropY ls / v + lyVDEC ls * (j / v))) ((c1 - c0) * sb)).map (fun a => (dy, n, a)))))

/-- The unit of a layer plane in fault records (R368). -/
def layerUnit (p l n : Nat) : Nat := p + 4 * l + 32 * n

/-- Does an access to a layer's buffer wait in the MMU (R368)? -/
def layerHeld (s : State) (p l : Nat) (ls : List Word) : Bool :=
  s.mmu.held.any (fun h => h.agent == 5 && h.unit % 32 == p + 4 * l && (lyRanges ls).any (fun r => decide (r.1 / 65536 * 65536 ≤ h.va) && decide (h.va < r.1 + r.2)))

/-- The fetch of a layer in a render (R211, R213, R368): what it shows, and what a fault changes. A buffer with a held access is not fetched. -/
def fetchLayer (p l : Nat) (s : State) : State × Shown :=
  let x := (s.pipe p).layer l
  let ls := effLayer s p l
  let old := if x.prevOk && lyEN x.prev && decide (lyAddrs x.prev ≠ lyAddrs ls) then x.prev else []
  let mark := fun t : State => if old.isEmpty then t.setFld (PIX_P_L_STAT_TRANSPARENT p l) 1 else t
  if !lyEN ls || s.flag (PIX_P_L_STAT_TRANSPARENT p l) then (s, ⟨l, [], none, []⟩)
  else if layerHeld s p l ls then (mark s, ⟨l, old, none, []⟩)
  else match firstFault s p ls with
    | none => (s, ⟨l, ls, none, []⟩)
    | some (dy, n, a) =>
      let line := (sext (lw ls 10 16 16) 16 + (dy : Nat)).toNat
      let s1 := match xlate s (sysAsid s) 0 a akREAD with
        | .ok _ => s
        | .bad cs lv h => faultOn { agent := 5, unit := layerUnit p l n, asid := sysAsid s, va := a, kind := akREAD, cause := cs, level := lv, hostLeaf := h, held := true, data := [] } s
      let s2 := mark ((s1.bump (PIX_P_L_FAULT_CNT p l)).setFld (PIX_P_L_STAT_FAULTED p l) 1)
      (pixEvent p 0 6 svWARNING (l + 8 * b2n old.isEmpty + line % 2 ^ 13 * 16) s2, ⟨l, ls, some line, old⟩)

/-- The layers of a pipe are fetched for a render, from the bottom up. -/
def fetchAll (p : Nat) (s : State) : State × List Shown :=
  let s1 := layerIds.foldl (fun t l => t.setFld (PIX_P_L_STAT_FAULTED p l) 0) s
  (orderOf (s.flag (eff (PIX_P_CTL_ORDER_PROG p))) (s.rdN (PIX_P_ORDER p + 0x800))).foldl (fun (a : State × List Shown) l => let g := fetchLayer p l a.1; (g.1, a.2 ++ [g.2])) (s1, [])

/-- A render begins, if the pipe is enabled (R199), for a latch placed at `placed` quanta. The faults of its fetches are judged here (DESIGN CHOICE,
log entry 116). -/
def beginRender (p placed : Nat) (s : State) : State :=
  if !s.flag (eff (PIX_P_CTL_EN p)) then s
  else
    let ports := routedPorts s p
    match [0, 1, 2, 3].find? (fun k => bit (s.fld (eff (PIX_P_SLICE_SETS p))) k && ports.all (slotFree s k)) with
    | none =>
      let s1 := s.bump (PIX_P_SET_BUSY_CNT p)
      pixEvent p 2 9 svWARNING (s1.rdN (PIX_P_SET_BUSY_CNT p)) s1
    | some k =>
      let s1 := ports.foldl (fun t q =>
        match takeLocked (.set q k) (t.rdN (SEQ_P_SET_BASE q k)) (setBytes t q) false t with
        | .ok t1 => t1
        | .error va => refRefused blkSEQ q va t) s
      let f := fetchAll p s1
      updPipe p (fun x => { x with render := some { slot := k, ports := ports, placed := placed, shown := f.2 } }) f.1

/-- The latch of a pipe at a placed time in quanta, with the latch's flags HOLDOVER, UNLOCKED and LATE (R200, R204, R215). Fence reads serve this latch
only. -/
def pixLatch (p placed flags : Nat) (s : State) : State :=
  let s1 := (((s.wrN (PIX_P_FRAME_CNT p) (s.rdN (PIX_P_FRAME_CNT p) + 1)).wrN (PIX_P_FLIP_TIME p) (showAtQ s placed)).wrN (PIX_P_FLIP_FLAGS p) flags)
  let s2 := emitIf (s.flag (eff (PIX_P_CTL_FLIP_EVT p))) blkPIX 11 svINFO (0x60110000 + p * 0x10000) (s1.rdN (PIX_P_FRAME_CNT p)) s1
  let s3 := decideCommit p placed (notePrev p (abandonRender p s2))
  beginRender p placed (layerIds.foldl (fun t l => updLayer p l (fun x => { x with fences := [] }) t) s3)

/-- When a render can be over at the earliest, in quanta: it begins 20 ns after its latch and makes 4 pixels in a PIX cycle (R179, R199). -/
def renderEnd (s : State) (p : Nat) (r : Render) : Nat := r.placed + 80 + ceilDiv (outW s p * outH s p * 5) 6

/-- RENDER_DONE (R194, R199, R200, R213, R214): the render's planes are written and its set is READY. -/
def execRenderDone (p : Fin 4) (dt : Nat) (s0 : State) : Out :=
  if !s0.clocked then .next (passTime dt s0) else
  let s := passTime dt s0
  .next (match (s.pipe p).render with
    | none => s
    | some r =>
      let rs := (r.shown.flatMap (fun h => [h.st, h.after].filter (fun ls => !ls.isEmpty))).flatMap lyRanges
      if 4 * s.now < renderEnd s p r || !(rs.all (fun x => sysServed s x.1 x.2)) then s
      else
        let s := rs.foldl (fun t x => sysTouch x.1 x.2 (8 + p.val) t) s
        let routes := (effRoutes s p).filter (fun x => r.ports.contains x.1)
        let wr := sliceAll p (routes.flatMap (routeWrites s p r.slot r.shown)) s
        if !wr.2 then abandonRender p wr.1
        else
          let s1 := match clampedLine s p with
            | some k => pixEvent p 1 10 svNOTICE (k % 2 ^ 13) (wr.1.bump (PIX_P_WARP_CLAMP_CNT p))
            | none => wr.1
          let s2 := r.ports.foldl (fun t q => markReady q r.slot t) (updPipe p (fun x => { x with render := none }) s1)
          retireBufs p (r.shown.flatMap (fun h => [h.st, h.after].filter (fun ls => !ls.isEmpty)) ++ (layerIds.map (effLayer s p)).filter lyEN) s2)

end Sys2Proof.Machine
end

