-- ==== Sys2Proof/Machine/Ctl.lean ====
section
/-! DEFINITION. Machine/Ctl.lean: motion control: axes, carriers, encoders, loop tiles, the profile generator, follow streams, the
oscillation detector and the cogging and friction tables (R263 to R305). The loops' numbers between binary32 crossings are exact
rationals; what the manual leaves without a rounding is a free value (log entry 4). -/

namespace Sys2Proof.Machine

/-! ### Places -/

def encLoc (e : Nat) : Nat := 0x60490000 + e * 0x800
def axisLoc (n : Nat) : Nat := 0x80440000 + n / 4 * 0x10000

/-- An axis event (R305): the axis goes in ARG[3:0]. -/
def axisEvent (n code sev rest : Nat) (s : State) : State := emit blkCTL code sev (axisLoc n) (n + 16 * rest) s

def updAxis (n : Nat) (f : AxisRec → AxisRec) (s : State) : State := s.setAxis n (f (s.axis n))
def updTile (t : Nat) (f : TileRec → TileRec) (s : State) : State := s.setTile t (f (s.tile t))
def updSd (k : Nat) (f : SdRec → SdRec) (s : State) : State := s.setSd k (f (s.sd k))
def updEnc (e : Nat) (f : EncRec → EncRec) (s : State) : State := s.setEnc e (f (s.enc e))

/-! ### What an axis is made of (R263 to R265) -/

def axState (s : State) (n : Nat) : Nat := s.fld (CTL_A_STAT_STATE n)
def allAxes : List Nat := List.range 16

/-- Is the brake land BRKn active, which releases the brake: only in RUN (R267)? -/
def brkActive (s : State) (n : Nat) : Bool := axState s n == 1

/-- Pairs of a motor kind (R264). -/
def pairCount (kind : Nat) : Nat := if kind = 1 then 2 else if kind = 2 then 3 else if kind = 3 then 4 else 0

/-- The first pair of an axis, numbered over the module. -/
def firstPair (s : State) (n : Nat) : Nat := 12 * (n / 4) + s.fld (CTL_A_CFG_PAIR_BASE n)

/-- Is a pair, numbered over the module, one of an axis's (R264)? -/
def ownsPair (s : State) (n k : Nat) : Bool := n / 4 == k / 12 && decide (firstPair s n ≤ k) && decide (k < firstPair s n + pairCount (s.fld (CTL_A_CFG_KIND n)))

/-- An axis's bridge begins to be driven at a time in quanta: calibration of its pairs that needs it still is broken (R559, R562). -/
def calDrive (n at_ : Nat) (s : State) : State := calBreak 7 at_ (ownsPair s n) (calBreak 3 at_ (ownsPair s n) s)

/-- The sigma-delta inputs that an axis measures (R264). -/
def axInputs (s : State) (n : Nat) : List Nat :=
  let k := s.fld (CTL_A_CFG_KIND n)
  let b := firstPair s n
  if k = 1 then [b] else if k = 2 then [b, b + 1, b + 2] else if k = 3 then [b, b + 2] else []

/-- The enabled tiles of an axis (R302). -/
def axTiles (s : State) (n : Nat) : List Nat :=
  ((List.range 12).map (fun i => 12 * (n / 4) + i)).filter (fun t => s.flag (CTL_T_CFG_EN t) && s.fld (CTL_T_CFG_AXIS t) == n % 4)

def tileRole (s : State) (t : Nat) : Nat := s.fld (CTL_T_CFG_ROLE t)

/-- The axis's tile of a role. -/
def roleTile (s : State) (n r : Nat) : Option Nat := (axTiles s n).find? (fun t => tileRole s t == r)

/-- The axis of a tile, where AXIS names one of its group. -/
def tileAxis (s : State) (t : Nat) : Option Nat :=
  if s.fld (CTL_T_CFG_AXIS t) < 4 then some (t / 12 * 4 + s.fld (CTL_T_CFG_AXIS t)) else none

/-- The axis's tile that carries the current demand: CURRENT_Q or CURRENT_DC. -/
def demandTile (s : State) (n : Nat) : Option Nat := if s.fld (CTL_A_CFG_KIND n) = 1 then roleTile s n 4 else roleTile s n 2

/-- The outermost tile of an axis. -/
def outerTile (s : State) (n : Nat) : Option Nat :=
  match roleTile s n 0 with
  | some t => some t
  | none => match roleTile s n 1 with
    | some t => some t
    | none => demandTile s n

/-- The kind of an encoder interface (R303): TYPE 3 acts as 0. -/
def encType (s : State) (e : Nat) : Nat := if s.fld (CTL_E_CFG_TYPE e) = 3 then 0 else s.fld (CTL_E_CFG_TYPE e)

def axEnc (s : State) (n : Nat) : Nat := s.fld (CTL_A_CFG_ENC n)
def axTb (s : State) (n : Nat) : Nat := s.fld (CTL_A_CFG_TB n)

/-- The VIO banks of the lands that an axis uses (R289, R601). -/
def axBanks (s : State) (n : Nat) : List Nat := [n / 8 + 2, if n < 8 then 4 else 5, if axEnc s n < 8 then 4 else 5]

/-- The state of a VIO bank (R585): 0 DOWN. -/
def vioState (s : State) (v : Nat) : Nat := bits (s.rdN DBG_VIO_STAT) (2 * v) 2

/-! ### Numbers -/

/-- What a binary32 register stands for. -/
def b32 (x : Nat) : Rat :=
  match fratio x with
  | some (a, d) => mkRat a d
  | none => Config.nonFinite x

/-- A number as binary32: exact where it is one, else a free rounding (log entry 4). -/
def toB32 (r : Rat) : Nat :=
  let f := fround (decide (r < 0)) r.num.natAbs r.den 0
  if f.ex = 0 then f.v else (Config.motionRound r).toNat

/-- A position in turns as Q32.32: exact where it is one, else a free rounding (log entry 4). -/
def toQ32 (r : Rat) : Int :=
  let x := r * (4294967296 : Rat)
  if x.den = 1 then x.num else Config.positionRound r

/-- A Q32.32 position in turns. -/
def ofQ32 (i : Int) : Rat := mkRat i 4294967296

def absR (x : Rat) : Rat := if x < 0 then -x else x
def sgnR (x : Rat) : Rat := if 0 < x then 1 else if x < 0 then -1 else 0
def clampR (x lo hi : Rat) : Rat := if x < lo then lo else if hi < x then hi else x
def minR (x y : Rat) : Rat := if x ≤ y then x else y
def fracR (x : Rat) : Rat := x - (x.floor : Rat)

/-- `rnd` of R279: nearest, halves toward +infinity. -/
def rndR (x : Rat) : Int := rndDiv x.num x.den

/-- A number times 2^e. -/
def scaleR (x : Rat) (e : Int) : Rat := if 0 ≤ e then x * ((2 ^ e.toNat : Nat) : Rat) else x / ((2 ^ (-e).toNat : Nat) : Rat)

/-- A square root: exact where it is rational, else a free value (log entry 4). -/
def sqrtR (x : Rat) : Rat :=
  let a := isqrt x.num.toNat
  let b := isqrt x.den
  if 0 ≤ x.num && a * a == x.num.toNat && b * b == x.den then mkRat a b else Config.plannerSqrt x

/-! ### Faults and safe actions (R289, R290) -/

/-- The causes, as bits of STAT.CAUSE (R301). -/
def acDLMISS : Nat := 0
def acENC : Nat := 1
def acOC : Nat := 2
def acOSC : Nat := 3
def acFOLLOW : Nat := 4
def acSYNC : Nat := 5
def acSHUTDOWN : Nat := 6
def acBANK : Nat := 7

/-- The action of a cause (R289, R290): 0 HOLD, 1 BRAKE, 2 COAST. `cur` says that the cause arose in a current tile. -/
def safeAction (s : State) (n cause : Nat) (cur : Bool) : Nat :=
  if cause = acOC || cause = acSHUTDOWN || cause = acBANK then 2
  else match s.fld (CTL_A_CFG_SAFE_ACT n) with
    | 1 => 2
    | 2 => if cause = acENC || cause = acSYNC || (cause = acDLMISS && cur) then 1 else 0
    | _ => 1

/-- SAFE_ACT's code of an action (R290). -/
def actionCode (a : Nat) : Nat := if a = 0 then 2 else if a = 1 then 0 else 1

/-- A tile's computation and its trigger are dropped. -/
def stopTile (t : Nat) (s : State) : State :=
  (updTile t (fun r => { r with startAt := none, reading := none, due := [] }) s).setFld (CTL_T_STAT_RUNNING t) 0

/-- Tiles stop as an action says: under HOLD the position and velocity tiles, else all (R290). -/
def stopTiles (n action : Nat) (s : State) : State :=
  ((axTiles s n).filter (fun t => action != 0 || decide (tileRole s t < 2))).foldl (fun u t => stopTile t u) s

/-- A cause sets for an axis (R289, R290): in RUN it enters FAULT; in FAULT the cause is kept and no action relaxes. -/
def axisFault (n cause : Nat) (cur : Bool) (s : State) : State :=
  let st := axState s n
  if st != 1 && st != 2 then s
  else
    let a0 := safeAction s n cause cur
    let act := if st = 2 then max (s.axis n).action a0 else a0
    let cv := s.fld (CTL_A_STAT_CAUSE n)
    let s1 := ((s.setFld (CTL_A_STAT_CAUSE n) (if bit cv cause then cv else cv + 2 ^ cause)).setFld (CTL_A_STAT_STATE n) 2).setFld (CTL_A_STAT_RESTING n) 0
    let s2 := updAxis n (fun x => { x with action := act, gates := if act = 0 then 2 else if act = 1 then 1 else 0, goal := none }) (stopTiles n act s1)
    if st = 2 then s2 else axisEvent n 1 svCRITICAL (s2.fld (CTL_A_STAT_CAUSE n) + actionCode act * 256) s2

/-- A timebase goes OFF: the SYNC axes bound to it fault (R289). -/
def axesTbOff (tb : Nat) (s : State) : State :=
  allAxes.foldl (fun t n => if t.flag (CTL_A_PWM_SYNC n) && axTb t n == tb then axisFault n acSYNC false t else t) s

/-- A VIO bank goes DOWN (R289). -/
def axesBankDown (v : Nat) (s : State) : State :=
  allAxes.foldl (fun t n => if (axBanks t n).contains v then axisFault n acBANK false t else t) s

/-- A device shutdown class (R289, R299). -/
def axesShutdown (s : State) : State := allAxes.foldl (fun t n => axisFault n acSHUTDOWN false t) s

/-! ### Enabling (R266, R267) -/

/-- A carrier period in quanta (R268), at an increment of the bound timebase. -/
def carrierQ (s : State) (n inc : Nat) : Rat :=
  if s.flag (CTL_A_PWM_SYNC n) then
    let d := inc * (s.rdN (CTL_A_NPER n) % 65536)
    if d = 0 then 0 else mkRat (4 * 2 ^ 56) d
  else ((5 * s.fld (CTL_A_PWM_PER n) : Nat) : Rat)

/-- Is a friction (1) or cogging (0) table's enable set with a bank that is not loaded (R284)? -/
def tableMissing (s : State) (n kind : Nat) : Bool :=
  let en := if kind = 0 then s.flag (CTL_A_TBL_CTL_COG_EN n) else s.flag (CTL_A_TBL_CTL_FRIC_EN n)
  let b := if kind = 0 then s.fld (CTL_A_TBL_CTL_COG_BANK n) else s.fld (CTL_A_TBL_CTL_FRIC_BANK n)
  en && !bit (s.rdN CTL_TBL_LOADED) (4 * n + 2 * kind + b)

/-- Is a binary32 register zero? -/
def zero32 (x : Nat) : Bool := x % 2 ^ 31 == 0

/-- Does any of R266's cases refuse EN? -/
def enRefused (s : State) (n : Nat) : Bool :=
  let kind := s.fld (CTL_A_CFG_KIND n)
  let base := s.fld (CTL_A_CFG_PAIR_BASE n)
  let ts := axTiles s n
  let count := fun r : Nat => (ts.filter (fun t => tileRole s t == r)).length
  let cfg := fun (r : Nat) => (roleTile s n r).map (fun t => (s.fld (CTL_T_CFG_TRIG t), s.fld (CTL_T_CFG_DIV t)))
  let trig := fun (r : Nat) => (roleTile s n r).map (fun t => s.fld (CTL_T_CFG_TRIG t))
  let per := carrierQ s n (s.incBase (axTb s n))
  let noTile := if kind = 1 then count 4 != 1 else count 2 != 1 || count 3 != 1
  let twice := (List.range 8).any (fun r => decide (2 ≤ count r) || (decide (5 ≤ r) && count r != 0))
  let other := allAxes.any (fun m => m != n && m / 4 == n / 4 && (axState s m != 0 || (s.axis m).enabling.isSome) &&
    decide (s.fld (CTL_A_CFG_PAIR_BASE m) < base + pairCount kind) && decide (base < s.fld (CTL_A_CFG_PAIR_BASE m) + pairCount (s.fld (CTL_A_CFG_KIND m))))
  kind == 0 || decide (12 < base + pairCount kind) || other || noTile || twice || (kind != 1 && cfg 2 != cfg 3) ||
    ts.any (fun t => s.fld (CTL_T_CFG_TB t) != axTb s n || (decide (2 ≤ tileRole s t) && decide (2 ≤ s.fld (CTL_T_CFG_TRIG t)))) ||
    trig 0 == some 2 || (trig 1 == some 2 && trig 0 == none) ||
    encType s (axEnc s n) == 0 || !s.flag (CTL_E_STAT_VALID (axEnc s n)) ||
    (axInputs s n).any (fun k => !s.flag (CTL_SD_CFG_EN k) || zero32 (s.rdN (CTL_SD_ITRIP k)) || bit (s.rdN (CTL_SD_ITRIP k)) 31 || isNaN (s.rdN (CTL_SD_ITRIP k))) ||
    zero32 (s.rdN (CTL_A_IDEM_MAX n)) || s.rdN (CTL_A_VMAX n) == 0 || s.rdN (CTL_A_AMAX n) == 0 || s.rdN (CTL_A_JMAX n) == 0 ||
    decide (per < 20000) || decide (500000 < per) ||
    (s.flag (CTL_A_PWM_SYNC n) && !s.tbOn (axTb s n)) || (s.flag (CTL_A_CFG_QUIET n) && !s.flag (CTL_A_PWM_SYNC n)) ||
    tableMissing s n 0 || tableMissing s n 1

/-- A write of 1 to CMD.EN (R266). -/
def axisEnable (n : Nat) (s : State) : State :=
  if axState s n != 0 || enRefused s n then s.setFld (CTL_A_STAT_CMD_STATUS n) stPRECOND
  else updAxis n (fun x => { x with enabling := some s.now }) (s.setFld (CTL_A_STAT_CMD_STATUS n) stOK)

/-- AXIS_EN (R266). -/
def execAxisEn (n : Fin 16) (s : State) : Out :=
  if !s.clocked then .next s else
  .next (axisEnable n s)

/-- The measured position of an axis (R276). -/
def measured (s : State) (n : Nat) : Int := (s.rd (CTL_E_POS (axEnc s n))).toInt

/-- The generator's registers show its state (R300). -/
def showGen (n : Nat) (s : State) : State :=
  let x := s.axis n
  ((s.wr (CTL_A_PG_POS n) (BitVec.ofInt 64 (toQ32 x.p))).wrN (CTL_A_PG_VEL n) (toB32 x.v)).wrN (CTL_A_PG_ACC n) (toB32 x.a)

/-- A tile's history clears and its stage exponent becomes ES_INIT (R267). -/
def freshTile (t : Nat) (s : State) : State :=
  (((s.setTile t {}).setFld (CTL_T_STAT_ES t) (s.fld (CTL_T_EXP_ES_INIT t))).setFld (CTL_T_STAT_MISS_RUN t) 0).setFld (CTL_T_STAT_RUNNING t) 0

/-- A write of 1 to CMD.DISABLE (R267). -/
def axisDisable (n : Nat) (s : State) : State :=
  let s1 := s.setFld (CTL_A_STAT_CMD_STATUS n) stOK
  if axState s n != 1 then s1
  else updAxis n (fun x => { x with gates := 0, goal := none }) (stopTiles n 1 ((s1.setFld (CTL_A_STAT_STATE n) 0).setFld (CTL_A_STAT_RESTING n) 0))

/-- AXIS_DISABLE (R267). -/
def execAxisDisable (n : Fin 16) (s : State) : Out :=
  if !s.clocked then .next s else
  .next (axisDisable n s)

/-- The current of a fast-path value, of ±256 (R272, R273). -/
def fastCurrent (s : State) (k : Nat) (f : Int) : Rat := absR (mkRat (clampI f (-256) 256) 256 * b32 (s.rdN (CTL_SD_GAIN k)) + b32 (s.rdN (CTL_SD_OFS k)))

/-- Does the condition of a cause persist (R291)? -/
def causeStays (s : State) (n : Nat) : Bool :=
  let cv := s.fld (CTL_A_STAT_CAUSE n)
  (bit cv acOC && (axInputs s n).any (fun k => decide (b32 (s.rdN (CTL_SD_ITRIP k)) ≤ fastCurrent s k (s.sd k).last))) ||
  (bit cv acENC && !s.flag (CTL_E_STAT_VALID (axEnc s n))) ||
  (bit cv acSYNC && !s.tbOn (axTb s n)) ||
  (bit cv acSHUTDOWN && s.flag HKP_STAT_LATCHED) ||
  (bit cv acBANK && (axBanks s n).any (fun v => vioState s v == 0))

/-- A write of 1 to CMD.CLEAR (R291). -/
def axisClear (n : Nat) (s : State) : State :=
  if axState s n != 2 || causeStays s n then s.setFld (CTL_A_STAT_CMD_STATUS n) stPRECOND
  else
    let cv := s.fld (CTL_A_STAT_CAUSE n)
    let s1 := ((s.setFld (CTL_A_STAT_STATE n) 0).setFld (CTL_A_STAT_CAUSE n) 0).setFld (CTL_A_STAT_CMD_STATUS n) stOK
    axisEvent n 0xC svINFO cv (updAxis n (fun x => { x with gates := 0, action := 0 }) (stopTiles n 1 s1))

/-- AXIS_CLEAR (R291). -/
def execAxisClear (n : Fin 16) (s : State) : Out :=
  if !s.clocked then .next s else
  .next (axisClear n s)

/-- A write of 1 to CMD.GO (R293). -/
def axisGo (n : Nat) (s : State) : State :=
  let s1 := s.setFld (CTL_A_STAT_CMD_STATUS n) stOK
  if s.flag (CTL_A_PG_CTL_MODE n) || axState s n != 1 then s1
  else updAxis n (fun x => { x with goal := some (s.rd (CTL_A_TARGET n)).toInt }) (s1.setFld (CTL_A_STAT_AT_TARGET n) 0)

/-- AXIS_GO (R293). -/
def execAxisGo (n : Fin 16) (s : State) : Out :=
  if !s.clocked then .next s else
  .next (axisGo n s)

/-- The limits in effect (R292). -/
def limits (s : State) (n : Nat) : Rat × Rat × Rat :=
  let l := (s.axis n).limEff.getD (s.rdN (CTL_A_VMAX n), s.rdN (CTL_A_AMAX n), s.rdN (CTL_A_JMAX n))
  (mkRat l.1 65536, mkRat l.2.1 65536, mkRat l.2.2 65536)

/-- Is the generator moving? -/
def genMoving (s : State) (n : Nat) : Bool := axState s n == 1 && ((s.axis n).v != 0 || (s.axis n).a != 0)

/-- A write of VMAX (0), AMAX (1) or JMAX (2): held pending while the generator moves (R292). -/
def limitWrite (n which v : Nat) (s : State) : State :=
  let r := if which = 0 then CTL_A_VMAX n else if which = 1 then CTL_A_AMAX n else CTL_A_JMAX n
  if genMoving s n then
    let old := (s.axis n).limEff.getD (s.rdN (CTL_A_VMAX n), s.rdN (CTL_A_AMAX n), s.rdN (CTL_A_JMAX n))
    (updAxis n (fun x => { x with limEff := some old }) (s.wrN r v)).setFld (CTL_A_STAT_LIM_PEND n) 1
  else s.wrN r v

/-- LIMIT_WRITE (R292). -/
def execLimitWrite (n : Fin 16) (which : Fin 3) (v : BitVec 32) (s : State) : Out :=
  if !s.clocked then .next s else
  .next (limitWrite n which v.toNat s)

/-! ### The carrier (R268, R270, R271) -/

/-- Is the axis sampling in some tile: RUN, or FAULT under HOLD (R290)? -/
def axDriven (s : State) (n : Nat) : Bool := axState s n == 1 || (axState s n == 2 && (s.axis n).action == 0)

/-- Does the axis compute: driven, or mirrored in RUN while the module does not hold (R509)? -/
def axComputes (s : State) (n : Nat) : Bool := axDriven s n || (axState s n == 3 && s.twin.axesRun.contains n)

/-- Does the generator of the axis run: in RUN, or mirrored in RUN (R509)? -/
def genRuns (s : State) (n : Nat) : Bool := axState s n == 1 || (axState s n == 3 && s.twin.axesRun.contains n)

/-- Compare values written by a reload point, in quanta, take effect there (R270). -/
def reload (n at_ : Nat) (s : State) : State :=
  match (s.axis n).cmpPend with
  | some (w, l) => if w ≤ at_ then updAxis n (fun x => { x with cmpPend := none, cmpEff := l }) s else s
  | none => s

/-- Carrier periods in a cycle of the bound timebase (R268). -/
def perCycle (s : State) (n : Nat) : Nat := s.rdN (CTL_A_NPER n) % 65536

/-- Does period k of the bound timebase lie wholly inside a blind gap (R271)? -/
def periodInGap (s : State) (n k : Nat) : Bool :=
  let tb := axTb s n
  let m := perCycle s n
  let f := k % m * 2 ^ 32 / m
  let e := (k % m + 1) * 2 ^ 32 / m
  s.flag (PHS_TB_BLIND_CNT_ALL tb) ||
  (List.range (s.rdN (PHS_TB_BLIND_CNT tb) % 128)).any (fun i =>
    let v := s.rdN (PHS_TB_BLIND tb i)
    let a := v % 2 ^ 32
    let b := v / 2 ^ 32
    if a < b then decide (a ≤ f) && decide (e ≤ b) else decide (a ≤ f) || decide (e ≤ b))

/-- DIV of a tile (R302): 0 is 16. -/
def tileDiv (s : State) (t : Nat) : Nat := if s.fld (CTL_T_CFG_DIV t) = 0 then 16 else s.fld (CTL_T_CFG_DIV t)

/-- The first CTL edge at or after a time, both in quanta (R285): CTL cycles are 2.5 ns. -/
def ctlEdge (q : Nat) : Nat := ceilDiv q 10 * 10

/-- The next carrier period start of an axis: its time in quanta, how many periods it lies after the last one known, and with SYNC its number over
all cycles (R268). A start that passed more than a nanosecond ago is gone. -/
def nextCarrier (s : State) (n : Nat) : Nat × Nat × Nat :=
  let x := s.axis n
  if s.flag (CTL_A_PWM_SYNC n) then
    let tb := axTb s n
    let m := perCycle s n
    let ph := totalPhase s tb
    let k := max (x.slot + 1) (if ph < s.incEff tb then 0 else partAt m (ph - s.incEff tb) + 1)
    (partPlaced s tb m k, k - x.slot, k)
  else
    let per := max 1 (5 * s.fld (CTL_A_PWM_PER n))
    let j := max 1 (ceilDiv (4 * s.now - 3 - x.carrierAt) per)
    (x.carrierAt + j * per, j, x.slot)

/-- Time passes to a carrier's point: with SYNC none where a boundary of the timebase comes first. -/
def passCarrier (n at_ : Nat) (s : State) : Option State :=
  if s.flag (CTL_A_PWM_SYNC n) then passTb (axTb s n) at_ s else some (passTime (at_ / 4 - s.now) s)

/-- A carrier period starts at a time in quanta (R270, R271, R285): its number since RUN, and with SYNC over all cycles. A rest period drives nothing
and samples nothing; else compare values are reloaded and the PWM tiles of every DIV-th start are triggered. -/
def periodStart (n at_ k slot : Nat) (s : State) : State :=
  let s1 := updAxis n (fun x => { x with periods := k, slot := slot, carrierAt := at_, peak := true }) s
  if genRuns s n && s.flag (CTL_A_CFG_QUIET n) && !periodInGap s n slot then
    let s2 := if s.flag (CTL_A_STAT_RESTING n) then s1 else (s1.setFld (CTL_A_STAT_RESTING n) 1).bump (CTL_A_REST_CNT n)
    updAxis n (fun x => { x with gates := if axDriven s n then s.fld (CTL_A_CFG_REST n) else 0 }) s2
  else
    let s2 := calDrive n at_ (updAxis n (fun x => { x with gates := if axDriven s n then 2 else 0 }) (s1.setFld (CTL_A_STAT_RESTING n) 0))
    let hit := (axTiles s n).filter (fun t => s.fld (CTL_T_CFG_TRIG t) == 0 && k % tileDiv s t == 0)
    hit.foldl (fun u t => updTile t (fun r => { r with due := r.due ++ [ctlEdge at_] }) u) (reload n at_ s2)

/-- CARRIER_PERIOD_START (R268, R270, R271, R285): time passes to the axis's next carrier period start. -/
def execCarrierPeriodStart (n : Fin 16) (s : State) : Out :=
  if !s.clocked || !axComputes s n then .next s else
  let c := nextCarrier s n
  .next (match passCarrier n c.1 s with
    | none => s
    | some s1 => periodStart n c.1 ((s.axis n).periods + c.2.1) c.2.2 s1)

/-- The peak of the present carrier period, half a period after its start (R268), in quanta. -/
def carrierPeakAt (s : State) (n : Nat) : Nat :=
  let x := s.axis n
  if s.flag (CTL_A_PWM_SYNC n) then (x.carrierAt + partPlaced s (axTb s n) (perCycle s n) (x.slot + 1)) / 2 else x.carrierAt + 5 * s.fld (CTL_A_PWM_PER n) / 2

/-- CARRIER_PEAK (R270): time passes to the peak of the present period, once in a period. -/
def execCarrierPeak (n : Fin 16) (s : State) : Out :=
  if !s.clocked || !axComputes s n || !(s.axis n).peak then .next s else
  let at_ := carrierPeakAt s n
  .next (match passCarrier n at_ s with
    | none => s
    | some s1 =>
      let s2 := updAxis n (fun x => { x with peak := false }) s1
      if axDriven s2 n && !s2.flag (CTL_A_STAT_RESTING n) && !s2.flag (CTL_A_PWM_CARRIER n) && s2.flag (CTL_A_PWM_UPD n) then reload n at_ s2 else s2)

/-- An axis enters RUN at a carrier period start, in quanta (R267): the generator and TARGET stand at the measured position, every tile is fresh, and
the TIMER tiles' periods begin. -/
def enterRun (n at_ slot : Nat) (s : State) : State :=
  let m := measured s n
  let s1 := s.setAxis n { p := ofQ32 m, g := ofQ32 m, first := true, gates := 2, carrierAt := at_, slot := slot, nextIdx := s.rdN (CTL_A_STREAM_TAIL n) }
  let s2 := (axTiles s n).foldl (fun u t => freshTile t u) s1
  let s3 := (s2.wr (CTL_A_TARGET n) (BitVec.ofInt 64 m)).wrN (CTL_A_STAT n) (1 + s2.fld (CTL_A_STAT_CMD_STATUS n) * 65536)
  let s4 := ((axTiles s n).filter (fun t => s.fld (CTL_T_CFG_TRIG t) == 3)).foldl (fun u t => updTile t (fun r => { r with due := [ctlEdge at_] }) u) s3
  periodStart n at_ 0 slot (showGen n s4)

/-- AXIS_RUN_START (R267): time passes to the next carrier period start after the EN. Without SYNC the phase of the carrier is not given: the start comes
`dt` ns from now, within a period of the EN. -/
def execAxisRunStart (n : Fin 16) (dt : Nat) (s : State) : Out :=
  if !s.clocked || axState s n != 0 then .next s else
  .next (match (s.axis n).enabling with
    | none => s
    | some t =>
      if s.flag (CTL_A_PWM_SYNC n) then
        let c := nextCarrier (updAxis n (fun x => { x with slot := 0 }) s) n
        match passTb (axTb s n) c.1 s with
        | none => s
        | some s1 => enterRun n c.1 c.2.2 s1
      else if t + 5 * s.fld (CTL_A_PWM_PER n) / 4 < s.now + dt then s
      else enterRun n (4 * (s.now + dt)) 0 (passTime dt s))

/-! ### Encoders (R274 to R277) -/

/-- An encoder fault (R277): FAULT sets, VALID reads 0, and the axes that use the interface fault. -/
def encFault (e cause : Nat) (s : State) : State :=
  if s.flag (CTL_E_STAT_FAULT e) then s
  else
    let s1 := ((s.setFld (CTL_E_STAT_FAULT e) 1).setFld (CTL_E_STAT_VALID e) 0).setFld (CTL_E_STAT_CAUSE e) cause
    let s2 := emit blkCTL 5 svERROR (encLoc e) (cause + s1.rdN (CTL_E_ERR_CNT e) * 2 ^ 32) s1
    allAxes.foldl (fun t n => if axEnc t n = e then axisFault n acENC false t else t) s2

/-- A write of TYPE (R274, R276): the interface starts afresh. A quadrature interface has its first valid reading, count 0, at once. -/
def encRestart (e : Nat) (s : State) : State :=
  let q := encType s e == 1
  let s1 := (s.setEnc e { last := if q then some (0, s.now) else none, idleAt := s.now }).wrN (CTL_E_STAT e) (b2n q)
  s1.wrN (CTL_E_POS e) 0

/-- The position of a quadrature count (R276). -/
def quadPos (s : State) (e : Nat) (c : Int) : Int :=
  let cpr : Int := (max 1 (s.rdN (CTL_E_CPR e)) : Nat)
  c.fdiv cpr * 4294967296 + (c.fmod cpr * 4294967296).fdiv cpr

/-- Is the bank of an interface's lands UP (R585, R601)? While it is DOWN there are no edges and a frame finds no data. -/
def encLands (s : State) (e : Nat) : Bool := s.bankUp (if e < 8 then 4 else 5)

/-- A quadrature interface has a count: its position follows (R276). -/
def quadCount (e : Nat) (c : Int) (s : State) : State :=
  let p := quadPos s e c
  (updEnc e (fun x => { x with count := c, before := x.last, last := some (p, s.now) }) s).wr (CTL_E_POS e) (BitVec.ofInt 64 p)

/-- QUADRATURE_EDGE (R274, R277): a filtered transition counts up (0) or down (1), or both lands changed in one sample (2). -/
def execQuadratureEdge (e : Fin 16) (dt : Nat) (kind : Fin 3) (s0 : State) : Out :=
  if !s0.clocked then .next (passTime dt s0) else
  let s := passTime dt s0
  if encType s e != 1 || !encLands s e then .next s
  else if kind.val = 2 then .next (encFault e 1 s)
  else .next (quadCount e ((s.enc e).count + (if kind.val = 0 then 1 else -1)) s)

/-- ENCODER_INDEX (R274, R277). -/
def execEncoderIndex (e : Fin 16) (s : State) : Out :=
  if !s.clocked then .next s else
  let m := s.fld (CTL_E_CFG_IDXM e)
  if encType s e != 1 || m = 0 || !encLands s e then .next s
  else
    let s1 := s.setFld (CTL_E_STAT_INDEXED e) 1
    let ip := s.rdN (CTL_E_IDX_POS e)
    if m = 1 then .next (if s.flag (CTL_E_STAT_INDEXED e) then s else quadCount e ip s1)
    else
      let cpr : Int := (max 1 (s.rdN (CTL_E_CPR e)) : Nat)
      let d := ((s.enc e).count - ip).fmod cpr
      let tol : Int := (s.rdN (CTL_E_IDX_TOL e) % 65536 : Nat)
      .next (if d ≤ tol || cpr - d ≤ tol then s1 else encFault e 2 s1)

/-- A serial request (R275): one that arrives while a frame runs is served by that frame. -/
def encRequest (e : Nat) (s : State) : State :=
  if (s.enc e).frame.isSome || !s.driving then s
  else (updEnc e (fun x => { x with frame := some s.now, idleAt := s.now }) s).setFld (CTL_E_STAT_BUSY e) 1

/-- ENCODER_IDLE_REQUEST (R275): while no axis uses the interface, time passes to 20 µs after its last request, and one is issued. -/
def execEncoderIdleRequest (e : Fin 16) (s : State) : Out :=
  if !s.clocked then .next s else
  let used := allAxes.any (fun n => axState s n == 1 && axEnc s n == e)
  .next (if encType s e = 2 && !used then encRequest e (passTime ((s.enc e).idleAt + 20000 - s.now) s) else s)

/-- How long a frame's bits take at the least, in ns (R275): the clock is CTL / (2 × CLKDIV). -/
def frameTime (s : State) (e : Nat) : Nat :=
  (clampN (s.fld (CTL_E_CFG_BITS e)) 8 32 + b2n (s.flag (CTL_E_CFG_ERRBIT e))) * 5 * s.fld (CTL_E_CFG_CLKDIV e)

/-- Gray code of n bits decoded (R275). -/
def grayDecode : Nat → Nat → Nat
  | 0, _ => 0
  | n + 1, v => grayDecode n v ^^^ (v / 2 ^ n % 2 ^ 64)

/-- The prediction of an interface (R277): last position + velocity × elapsed time. -/
def encPredict (x : EncRec) (t : Nat) : Option Int :=
  match x.last, x.before with
  | some l, some b =>
    if l.2 ≤ b.2 then some l.1
    else some (l.1 + rndDiv ((l.1 - b.1) * ((t : Int) - (l.2 : Int))) ((l.2 - b.2 : Nat) : Int))
  | some l, none => some l.1
  | none, _ => none

/-- A reading arrives for the tiles that wait for it (R275, R287). -/
def giveReading (e : Nat) (p : Int) (t : Nat) (s : State) : State :=
  (List.range 48).foldl (fun u k =>
    match tileAxis u k with
    | some n => if axEnc u n = e && (u.tile k).startAt.isSome && (u.tile k).reading.isNone && decide (tileRole u k < 2) then
        updTile k (fun r => { r with reading := some (p, t), readAt := 4 * u.now }) u else u
    | none => u) s

/-- ENCODER_FRAME_DONE (R275 to R277): the frame in progress gives `data`; `err` is the error bit, `noData` a data land not high at the
request. A frame cannot be over before its bits have been clocked. -/
def execEncoderFrameDone (e : Fin 16) (dt : Nat) (data : BitVec 32) (err noData : Bool) (s0 : State) : Out :=
  if !s0.clocked then .next (passTime dt s0) else
  let s := passTime dt s0
  match (s.enc e).frame.or (if encType s e = 2 && !s.driving then some s.now else none) with
  | none => .next s
  | some req =>
    if (s.enc e).frame.isSome && decide (s.now < req + frameTime s e) then .next s else
    let x := s.enc e
    let b := clampN (s.fld (CTL_E_CFG_BITS e)) 8 32
    let raw := data.toNat % 2 ^ b
    let v := if s.flag (CTL_E_CFG_GRAY e) then grayDecode b raw % 2 ^ b else raw
    let fr := v * 2 ^ (32 - b)
    let t := req + s.rdN (CTL_E_LAT e) % 65536
    let pos : Int := match x.last with
      | some l => l.1 + sext (ofInt ((fr : Int) - l.1) 32) 32
      | none => fr
    let pred := encPredict x t
    let jump := s.rdN (CTL_E_JUMP e)
    let cause := if noData || !encLands s e then 4 else if err && s.flag (CTL_E_CFG_ERRBIT e) then 3
      else match pred with
        | some q => if jump != 0 && decide (jump * 2 ^ (32 - b) < (pos - q).natAbs) then 5 else 0
        | none => 0
    let s1 := (updEnc e (fun y => { y with frame := none }) s).setFld (CTL_E_STAT_BUSY e) 0
    if cause = 0 then
      let s2 := (updEnc e (fun y => { y with before := y.last, last := some (pos, t), badRun := 0 }) s1).wr (CTL_E_POS e) (BitVec.ofInt 64 pos)
      let s3 := if s.flag (CTL_E_STAT_FAULT e) then s2 else s2.setFld (CTL_E_STAT_VALID e) 1
      .next (giveReading e pos t s3)
    else
      let s2 := (updEnc e (fun y => { y with badRun := y.badRun + 1 }) s1).bump (CTL_E_ERR_CNT e)
      let s3 := match pred with
        | some q => giveReading e q t (s2.wr (CTL_E_POS e) (BitVec.ofInt 64 q))
        | none => s2
      .next (if max 1 (s.fld (CTL_E_CFG_JUMP_N e)) ≤ x.badRun + 1 then encFault e cause s3 else s3)

/-- A write of 1 to STAT.FAULT (R277). -/
def encFaultClear (e : Nat) (s : State) : State :=
  if !s.flag (CTL_E_STAT_FAULT e) then s
  else
    let s1 := ((s.setFld (CTL_E_STAT_FAULT e) 0).setFld (CTL_E_STAT_CAUSE e) 0).setFld (CTL_E_STAT_VALID e) (b2n (s.enc e).last.isSome)
    updEnc e (fun x => { x with badRun := 0 }) s1

/-- ENC_FAULT_CLEAR (R277). -/
def execEncFaultClear (e : Fin 16) (s : State) : Out :=
  if !s.clocked then .next s else
  .next (encFaultClear e s)

/-- AXIS_OVERCURRENT (R273, R289): the fast path of input k gives a value f, of ±256; OC_N consecutive ones above ITRIP set the OC cause of every axis
that measures the input. -/
def execAxisOvercurrent (k : Fin 48) (f : Int) (s : State) : Out :=
  if !s.clocked || !s.flag (CTL_SD_CFG_EN k) then .next s else
  let high := decide (b32 (s.rdN (CTL_SD_ITRIP k)) < fastCurrent s k f)
  let run := if high then (s.sd k).run + 1 else 0
  let s1 := s.setSd k { run := min run 15, last := f }
  .next (if high && decide (max 1 (s.fld (CTL_SD_CFG_OC_N k)) ≤ run) then allAxes.foldl (fun t n =>
    if (axInputs t n).contains k.val && (axState t n == 1 || (axState t n == 2 && !bit (t.fld (CTL_A_STAT_CAUSE n)) acOC)) then
      axisFault n acOC false (axisEvent n 4 svSAFETY k.val t) else t) s1 else s1)

/-! ### The profile generator (R291 to R296) -/

/-- The motion of a time t at jerk j: changes of position, velocity and acceleration (R293). -/
def jerkStep (v a j t : Rat) : Rat × Rat × Rat := (v * t + a * t * t / 2 + j * t * t * t / 6, a * t + j * t * t / 2, j * t)

/-- The signed distance to bring w and a to 0 (R293). -/
def stopDist (A J w0 a0 : Rat) : Rat :=
  if w0 = 0 && a0 = 0 then 0
  else
    let sg := sgnR (w0 + a0 * absR a0 / (2 * J))
    let w := sg * w0
    let a := sg * a0
    let ab := minR A (sqrtR (J * w + a * a / 2))
    let part := fun (x : Rat × Rat × Rat) (jt : Rat × Rat) =>
      let m := jerkStep x.2.1 x.2.2 jt.1 jt.2
      (x.1 + m.1, x.2.1 + m.2.1, x.2.2 + m.2.2)
    let e := [(-J, (a + ab) / J), (0, (w + a * a / (2 * J) - ab * ab / J) / ab), (J, ab / J)].foldl part (0, w, a)
    sg * e.1

/-- One period of the planner (R293): the new position, velocity and acceleration, and whether it landed. -/
def planner (V A J T p v a g vg : Rat) : Rat × Rat × Rat × Bool :=
  let d := g - p
  let w := v - vg
  if absR d ≤ J * T * T * T / 6 && absR w ≤ J * T * T / 2 && absR a ≤ J * T then (g, vg, 0, true)
  else
    let s1 := sgnR (d - stopDist A J w a)
    let sg := if s1 = 0 then sgnR d else s1
    let ok := fun j : Rat =>
      let m := jerkStep v a j T
      let v2 := v + m.2.1
      let a2 := a + m.2.2
      decide (absR a2 ≤ A) && decide (absR v2 ≤ V) && decide (absR (v2 + a2 * absR a2 / (2 * J)) ≤ V) &&
        decide (0 ≤ sg * (d + vg * T - m.1 - stopDist A J (v2 - vg) a2))
    let j := match [sg * J, 0, -(sg * J)].find? ok with
      | some x => x
      | none => clampR (clampR (-(sg * J)) ((-A - a) / T) ((A - a) / T)) (-J) J
    let m := jerkStep v a j T
    (p + m.1, v + m.2.1, a + m.2.2, false)

/-- The nominal period of a tile, in seconds (R291). -/
def tilePeriod (s : State) (n t : Nat) : Rat :=
  match s.fld (CTL_T_CFG_TRIG t) with
  | 0 => (tileDiv s t : Rat) * carrierQ s n (s.incBase (axTb s n)) / 4000000000
  | 3 => ((max 40 (s.fld (CTL_T_TIMER_TIMER t)) * 10 : Nat) : Rat) / 4000000000
  | _ => ((s.tile t).interval : Rat) / 1000000000

/-- Read the records of a stream until one later than τ, at most k (R295). -/
def readStream (n : Nat) (tau : Int) : Nat → State → State
  | 0, s => s
  | k + 1, s =>
    let x := s.axis n
    let size := s.rdN (CTL_A_STREAM_SIZE n)
    let enough := match x.recs.getLast? with
      | some r => decide (tau < (r.time : Int))
      | none => false
    if enough || !ringSizeOk size || x.nextIdx % size == s.rdN (CTL_A_STREAM_HEAD n) % size then s
    else
      let i := x.nextIdx % size
      let r := sysLoad blkCTL n (s.rdN (CTL_A_STREAM_BASE n) + 16 * i) 16 s
      match r.2 with
      | none => r.1
      | some bs =>
        let t := leNat (bs.take 8)
        let pos := sext (leNat (bs.drop 8)) 64
        let stale := match x.lastTime with
          | some u => decide (t ≤ u)
          | none => false
        let s1 := if stale then r.1.bump (CTL_A_STREAM_BAD_CNT n) else r.1
        readStream n tau k (updAxis n (fun y => { y with nextIdx := (i + 1) % size, recs := if stale then y.recs else y.recs ++ [{ time := t, pos := pos, idx := i }], lastTime := if stale then y.lastTime else some t }) s1)

/-- Records no longer needed: those before the two that the goal comes from (R295). -/
def pruneRecs (tau : Int) : List StreamRec → List StreamRec
  | a :: b :: c :: t => if (b.time : Int) ≤ tau then pruneRecs tau (b :: c :: t) else a :: b :: c :: t
  | l => l

/-- The line through two records at τ: goal and its velocity, in turns and turns per second (R295). -/
def lineAt (a b : StreamRec) (tau : Int) : Rat × Rat :=
  let dt : Rat := ((b.time : Int) - (a.time : Int) : Int)
  let slope := (ofQ32 b.pos - ofQ32 a.pos) / dt
  (ofQ32 a.pos + slope * ((tau - (a.time : Int) : Int) : Rat), slope * 1000000000)

/-- The point where the axis would stop (R296). -/
def stopPoint (s : State) (n : Nat) : Rat :=
  let x := s.axis n
  let l := limits s n
  x.p + stopDist l.2.1 l.2.2 x.v x.a

/-- Extrapolation has lasted longer than STARVE_MS (R296): STARVED sets once. -/
def starve (n : Nat) (s : State) : State :=
  if s.flag (CTL_A_STAT_STARVED n) then s
  else
    let g := stopPoint s n
    let s1 := updAxis n (fun x => { x with g := g, vg := 0 }) (s.setFld (CTL_A_STAT_STARVED n) 1)
    axisEvent n 0xA svWARNING (s.rdN (CTL_A_STREAM_TAIL n) % 65536 * 4096) s1

/-- τ of a sample that starts now (R295). -/
def followTau (s : State) (n : Nat) : Int := (s.showTime : Int) - (s.rdN (CTL_A_FOLLOW_DELAY n) : Int)

/-- Does extrapolation to τ exceed STARVE_MS (R296)? -/
def starving (s : State) (n : Nat) (tau : Int) : Bool :=
  match (s.axis n).recs.getLast? with
  | some r => decide ((r.time : Int) + ((s.rdN (CTL_A_STARVE_MS n) % 65536 * 1000000 : Nat) : Int) < tau)
  | none => false

/-- The goal in FOLLOW mode (R295, R296). -/
def followGoal (n : Nat) (s0 : State) : State :=
  let tau := followTau s0 n
  let s1 := readStream n tau 65536 s0
  let s2 := updAxis n (fun x => { x with recs := pruneRecs tau x.recs, goal := none }) s1
  let x := s2.axis n
  let s3 := s2.wrN (CTL_A_STREAM_TAIL n) (match x.recs with
    | r :: _ => r.idx
    | [] => x.nextIdx)
  let set := fun (gv : Rat × Rat) (s : State) => (updAxis n (fun y => { y with g := gv.1, vg := gv.2 }) s)
  let live := fun (s : State) => s.setFld (CTL_A_STAT_STARVED n) 0
  match x.recs with
  | [] => set (x.g, 0) s3
  | [a] => if tau < (a.time : Int) then set (x.g, 0) (live s3) else if starving s3 n tau then starve n s3 else set (ofQ32 a.pos, 0) s3
  | a :: b :: t =>
    if tau < (a.time : Int) then set (x.g, 0) (live s3)
    else if tau < (b.time : Int) then set (lineAt a b tau) (live s3)
    else match t with
      | c :: _ => set (lineAt b c tau) (live s3)
      | [] => if starving s3 n tau then starve n s3 else if s3.flag (CTL_A_STAT_STARVED n) then s3 else set (lineAt a b tau) s3

/-- STREAM_STARVED (R296). -/
def execStreamStarved (n : Fin 16) (dt : Nat) (s0 : State) : Out :=
  if !s0.clocked then .next (passTime dt s0) else
  let s := passTime dt s0
  .next (if genRuns s n && s.flag (CTL_A_PG_CTL_MODE n) && starving s n (followTau s n) then starve n s else s)

/-- The goal in TARGET mode: one that GO gave is taken (R293, R294). -/
def targetGoal (n : Nat) (s : State) : State :=
  let x := s.axis n
  match x.goal with
  | none => updAxis n (fun y => { y with vg := 0 }) s
  | some q =>
    let g := ofQ32 q
    let s1 := updAxis n (fun y => { y with g := g, vg := 0, goal := none }) s
    let st := stopPoint s n - x.p
    if (x.v != 0 || x.a != 0) && st != 0 && decide (sgnR st * (g - x.p) < absR st) then
      axisEvent n 7 svNOTICE 0 ((s1.setFld (CTL_A_FLAGS_LIMITED n) 1).bump (CTL_A_LIMITED_CNT n))
    else s1

/-- The following error is judged (R289). -/
def followError (n : Nat) (s : State) : State :=
  let err := absR ((s.axis n).p - ofQ32 (measured s n)) * (4294967296 : Rat)
  let mx := s.rdN (CTL_A_FERR_MAX n)
  if mx = 0 || err ≤ (mx : Rat) then updAxis n (fun x => { x with ferrRun := 0 }) s
  else
    let k := (s.axis n).ferrRun + 1
    let s1 := updAxis n (fun x => { x with ferrRun := k }) s
    if max 1 (s.rdN (CTL_A_FERR_N n) % 256) ≤ k && axState s n == 1 then
      axisFault n acFOLLOW false (axisEvent n 6 svERROR (min err.floor.toNat (2 ^ 32 - 1) * 2 ^ 28) s1)
    else s1

/-- One period of the generator, at a sample of the outermost tile t (R291 to R295). -/
def genStep (n t : Nat) (s0 : State) : State :=
  if (s0.axis n).first then updAxis n (fun x => { x with first := false }) s0
  else
    let still := (s0.axis n).v == 0 && (s0.axis n).a == 0
    let s := if still then (updAxis n (fun x => { x with limEff := none }) s0).setFld (CTL_A_STAT_LIM_PEND n) 0 else s0
    let follow := s.flag (CTL_A_PG_CTL_MODE n)
    let s1 := if follow then followGoal n s else targetGoal n s
    let x := s1.axis n
    let l := limits s1 n
    let r := planner l.1 l.2.1 l.2.2 (tilePeriod s1 n t) x.p x.v x.a x.g x.vg
    let s2 := showGen n (updAxis n (fun y => { y with p := r.1, v := r.2.1, a := r.2.2.1 }) s1)
    let before := sgnR (x.g - x.p)
    let after := sgnR (x.g - r.1)
    let beyond := !follow && before != 0 && after != before && r.2.1 != 0
    let s3 := if beyond then axisEvent n 8 svNOTICE 0 ((s2.setFld (CTL_A_FLAGS_OVERSHOOT n) 1).bump (CTL_A_OVERSHOOT_CNT n)) else s2
    let arrived := !follow && r.2.2.2 && !s3.flag (CTL_A_STAT_AT_TARGET n)
    let s4 := if arrived then axisEvent n 9 svINFO 0 (s3.setFld (CTL_A_STAT_AT_TARGET n) 1) else s3
    let far := follow && decide ((s4.rdN (CTL_A_FOLLOW_TOL n) : Rat) < absR (x.g - r.1) * (4294967296 : Rat))
    let s5 := if far && !x.far then axisEvent n 7 svNOTICE 1 ((s4.setFld (CTL_A_FLAGS_LIMITED n) 1).bump (CTL_A_LIMITED_CNT n)) else s4
    followError n (updAxis n (fun y => { y with far := far }) s5)

/-! ### Compensators (R278 to R280) -/

/-- An integer times 2^e, rounded as `rnd` (R279). -/
def shiftRnd (i : Int) (e : Int) : Int := if 0 ≤ e then i * ((2 ^ e.toNat : Nat) : Int) else rndDiv i ((2 ^ (-e).toNat : Nat) : Int)

/-- `sat24` of R279. -/
def sat24 (i : Int) : Int := clampI i (-8388608) 8388607

/-- The stage of a compensator: its exponent and its histories. -/
structure Stage where
  es : Int
  x : List Int
  y : List Int
deriving DecidableEq, Repr

/-- `rescale(k)` of R279. -/
def rescale (k : Nat) (g : Stage) : Stage :=
  { es := g.es + k, x := g.x.map (fun h => rndDiv h ((2 ^ k : Nat) : Int)), y := g.y.map (fun h => rndDiv h ((2 ^ k : Nat) : Int)) }

/-- Make room for the input (R279). -/
def makeRoom (ax : Rat) (emax : Int) : Nat → Stage → Stage
  | 0, g => g
  | k + 1, g => if scaleR 1 g.es ≤ ax && g.es < emax then makeRoom ax emax k (rescale 1 g) else g

/-- The fewest bits k such that rnd(m × 2^-k) fits 24 bits signed (R279). -/
def fewestBits (m : Int) : Nat → Nat → Nat
  | 0, k => k
  | f + 1, k => if sat24 (shiftRnd m (-(k : Int))) = shiftRnd m (-(k : Int)) then k else fewestBits m f (k + 1)

/-- What one sample of a compensator answers: its stage, the output, the quiet run and whether it saturated. -/
structure Sample where
  stage : Stage
  out : Rat
  quiet : Nat
  sat : Bool
deriving DecidableEq, Repr

/-- Coefficient i of bank b of a tile, as a signed mantissa (R302). -/
def coef (s : State) (t b i : Nat) : Int := sext (s.rdN (CTL_T_C t b i)) 24

/-- A weighted sum of histories. -/
def dot (cs hs : List Int) : Int := (List.zipWith (fun c h => c * h) cs hs).sum

/-- One sample of tile t (R279). -/
def compensate (s : State) (t : Nat) (xin : Rat) : Sample :=
  let r := s.tile t
  let b := s.fld (CTL_T_CFG_BANK t)
  let three := s.flag (CTL_T_CFG_ORDER t)
  let ec := sext (if b = 0 then s.fld (CTL_T_EXP_EC0 t) else s.fld (CTL_T_EXP_EC1 t)) 8
  let emin := sext (s.fld (CTL_T_ELIM_EMIN t)) 8
  let emax := sext (s.fld (CTL_T_ELIM_EMAX t)) 8
  let g := makeRoom (absR xin) emax 256 ⟨sext (s.fld (CTL_T_STAT_ES t)) 8, r.x, r.y⟩
  let x0 := sat24 (rndR (scaleR xin (23 - g.es)))
  let c := fun i : Nat => if !three && (i = 3 || i = 6) then 0 else coef s t b i
  let acc := dot [c 0, c 1, c 2, c 3] (x0 :: g.x) - dot [c 4, c 5, c 6] g.y
  let m := shiftRnd acc (ec - 23)
  let k := fewestBits m 128 0
  let k2 := min k (emax - g.es).toNat
  let g2 := rescale k2 g
  let m2 := if k = 0 then m else sat24 (shiftRnd m (-(k2 : Int)))
  let yout := clampR (scaleR m2 (g2.es - 23)) (b32 (s.rdN (CTL_T_OUT_LO t))) (b32 (s.rdN (CTL_T_OUT_HI t)))
  let y0 := rndR (scaleR yout (23 - g2.es))
  let nx := x0 :: g2.x.take 2
  let ny := y0 :: g2.y.take 2
  let q := if (nx ++ ny).all (fun h => decide (h.natAbs < 2097152)) then r.quiet + 1 else 0
  if q = 16 && emin < g2.es then ⟨⟨g2.es - 1, nx.map (fun h => 2 * h), ny.map (fun h => 2 * h)⟩, yout, 0, decide (k2 < k)⟩
  else ⟨⟨g2.es, nx, ny⟩, yout, q, decide (k2 < k)⟩

/-- A tile takes a sample of an input and writes its output (R279, R288, R302). -/
def runTile (n t : Nat) (xin : Rat) (s : State) : State × Rat :=
  let r := compensate s t xin
  let s1 := updTile t (fun y => { y with x := r.stage.x, y := r.stage.y, quiet := r.quiet, startAt := none, reading := none }) s
  let s2 := (((((s1.setFld (CTL_T_STAT_ES t) (ofInt r.stage.es 8)).setFld (CTL_T_STAT_BANK_USE t) (s.fld (CTL_T_CFG_BANK t))).setFld (CTL_T_STAT_RUNNING t) 0).setFld (CTL_T_STAT_MISS_RUN t) 0).setFld (CTL_T_STAT_SAT t) (b2n r.sat)).wrN (CTL_T_OUT t) (toB32 r.out)
  if r.sat then
    let s3 := (s2.bump (CTL_T_SAT_CNT t)).setFld (CTL_A_FLAGS_SAT n) 1
    if msPassed (s.tile t).satAt s.now then
      (emit blkCTL 0xB svNOTICE (tileLoc t) (ofInt r.stage.es 8 + s3.rdN (CTL_T_SAT_CNT t) * 2 ^ 32) (updTile t (fun y => { y with satAt := some s.now }) s3), r.out)
    else (s3, r.out)
  else (s2, r.out)

/-! ### Demands, tables and velocity (R281 to R283) -/

/-- A table's value at an index of 0 to 1,024 (R283): linear between neighbours, wrapping; in IDEM_MAX / 32,768 A. -/
def tableValue (s : State) (n kind bank : Nat) (idx : Rat) : Rat :=
  let bs := kget (fun _ => []) s.ctlTables (4 * n + 2 * kind + bank)
  let entry := fun i : Nat => (sext (leNat ((bs.drop (2 * (i % 1024))).take 2)) 16 : Int)
  let i := idx.floor.toNat
  (entry i : Rat) + ((entry (i + 1) - entry i : Int) : Rat) * (idx - (i : Rat))

/-- The friction and cogging terms in amperes (R283). -/
def tableTerms (s : State) (n : Nat) : Rat :=
  let idx := fracR (ofQ32 (measured s n) * (s.fld (CTL_A_TBL_CTL_REP n) : Rat)) * 1024
  let unit := b32 (s.rdN (CTL_A_IDEM_MAX n)) / 32768
  let vz := b32 (s.rdN (CTL_A_V_ZERO n))
  let ratio := if vz = 0 then Config.nonFinite 0 else (s.axis n).vel / vz
  (if s.flag (CTL_A_TBL_CTL_COG_EN n) then tableValue s n 0 (s.fld (CTL_A_TBL_CTL_COG_BANK n)) idx * unit else 0) +
  (if s.flag (CTL_A_TBL_CTL_FRIC_EN n) then tableValue s n 1 (s.fld (CTL_A_TBL_CTL_FRIC_BANK n)) idx * unit * clampR ratio (-1) 1 else 0)

/-- The current demand (R281). -/
def currentDemand (s : State) (n : Nat) (base : Rat) : Nat :=
  let mx := b32 (s.rdN (CTL_A_IDEM_MAX n))
  toB32 (clampR (base + b32 (s.rdN (CTL_A_FF_A n)) * (s.axis n).a + tableTerms s n) (-mx) mx)

/-- The measured velocity (R282), from a new reading. -/
def noteReading (n : Nat) (rd : Int × Nat) (s : State) : State :=
  let k := 2 ^ (s.rdN (CTL_A_VEL_AVG n) % 4)
  let l := (rd :: (s.axis n).readings).take (k + 1)
  let qs := List.zipWith (fun (a b : Int × Nat) => (ofQ32 (a.1 - b.1)) * 1000000000 / (((a.2 : Int) - (b.2 : Int) : Int) : Rat)) l (l.drop 1)
  let v := if qs.isEmpty then 0 else qs.sum / (qs.length : Rat)
  (updAxis n (fun x => { x with readings := l, vel := v }) s).wrN (CTL_A_VEL n) (toB32 v)

/-! ### The oscillation detector (R297, R298) -/

/-- The detector triggers (R298). -/
def oscTrigger (n : Nat) (s : State) : State :=
  let act := s.fld (CTL_A_OSC_CTL_ACTION n)
  let s1 := axisEvent n 3 svWARNING (act + s.rdN (CTL_A_OSC_CNT n) % 4096 * 4) (s.setFld (CTL_A_FLAGS_OSC n) 1)
  let all1 := (axTiles s n).all (fun t => s.fld (CTL_T_CFG_BANK t) == 1)
  if act = 0 then s1
  else if act = 1 && !all1 then (axTiles s n).foldl (fun u t => u.setFld (CTL_T_CFG_BANK t) 1) s1
  else axisFault n acOSC false s1

/-- One sample of the detector (R297). -/
def oscSample (n t : Nat) (x : Rat) (s : State) : State :=
  if !s.flag (CTL_A_OSC_CTL_EN n) then s
  else
    let r := s.axis n
    let o := Config.oscFilter (s.fld (CTL_A_OSC_BAND_F_LO n)) (s.fld (CTL_A_OSC_BAND_F_HI n)) (tilePeriod s n t) r.oscState x
    let y := o.headD 0
    let amp := b32 (s.rdN (CTL_A_OSC_AMP n))
    let side : Int := if amp ≤ y then 1 else if y ≤ -amp then -1 else r.oscSide
    let k := r.oscN + 1
    let win := s.fld (CTL_A_OSC_CTL_WIN n)
    let cs := ((if side != r.oscSide && r.oscSide != 0 then [k] else []) ++ r.oscCross).filter (fun c => decide (k < c + win))
    let nc := s.fld (CTL_A_OSC_CTL_N_CROSS n)
    let fire := !r.oscDisarmed && decide (nc ≤ cs.length)
    let dis := fire || (r.oscDisarmed && !decide (cs.length ≤ nc / 2))
    let s1 := (s.setAxis n { r with oscState := o.drop 1, oscSide := side, oscN := k, oscCross := cs, oscDisarmed := dis }).wrN (CTL_A_OSC_CNT n) (min cs.length 4095)
    if fire then oscTrigger n s1 else s1

/-! ### Deadlines (R288) -/

/-- A miss of tile t: `drop` says that the computation is abandoned. -/
def tileMiss (n t : Nat) (drop : Bool) (s : State) : State :=
  let s0 := if drop then stopTile t s else s
  let run := s0.fld (CTL_T_STAT_MISS_RUN t)
  let mn := max 1 (s0.fld (CTL_A_CFG_MISS_N n))
  let s1 := ((s0.bump (CTL_T_MISS_CNT t)).setFld (CTL_A_FLAGS_DLMISS n) 1).setFld (CTL_T_STAT_MISS_RUN t) (min (run + 1) 15)
  let s2 := emitIf (run == 0) blkCTL 2 svWARNING (tileLoc t) (s1.rdN (CTL_T_MISS_CNT t) + mn * 2 ^ 32) s1
  if run + 1 = mn then axisFault n acDLMISS (decide (2 ≤ tileRole s t)) s2 else s2

/-- The deadline of a computation, in quanta (R288). -/
def tileDeadline (s : State) (t start : Nat) : Nat := start + 10 * (s.rdN (CTL_T_DL t) % 65536)

/-- When a computation in progress writes its output, in quanta (R286, R287): a current tile 13 CTL cycles after its start, a position or velocity tile
10 after its start or after the reading it waits for; none while that reading is out. -/
def outputAt (s : State) (t start : Nat) : Option Nat :=
  if 2 ≤ tileRole s t then some (start + 130) else (s.tile t).reading.map (fun _ => (s.tile t).readAt + 100)

/-- DEADLINE_MISS (R288): time passes to the deadline of a computation whose output is not written by then. In a rest period nothing is counted
(R271). -/
def execDeadlineMiss (t : Fin 48) (s : State) : Out :=
  if !s.clocked then .next s else
  .next (match (s.tile t).startAt, tileAxis s t with
    | some st, some n =>
      let dl := tileDeadline s t st
      if s.flag (CTL_A_STAT_RESTING n) || (outputAt s t st).any (fun q => decide (q ≤ dl)) then s else tileMiss n t true (passTime (ceilDiv dl 4 - s.now) s)
    | _, _ => s)

/-! ### The current loop (R269, R270, R272, R286) -/

/-- The electrical angle of an axis at a sample start in quanta, in turns (R276): from the latest valid reading, extrapolated to the start. -/
def elecAngle (s : State) (n start : Nat) : Rat :=
  let l := ((s.enc (axEnc s n)).last).getD (0, start / 4)
  let pos := ofQ32 l.1 + (s.axis n).vel * mkRat ((start : Int) - 4 * (l.2 : Int)) 4000000000
  fracR ((s.fld (CTL_A_ELEC_PP n) : Rat) * fracR pos + mkRat (s.rdN (CTL_A_ELEC_OFS n)) 4294967296)

/-- OSR of an input (R304). -/
def sdOsr (s : State) (k : Nat) : Nat :=
  let c := s.fld (CTL_SD_CFG_OSR k)
  if c = 0 then 16 else if c = 1 then 32 else if c = 2 then 64 else if c = 3 then 128 else 256

/-- The current of a filter output, a count of ±OSR³ (R272). -/
def sdCurrent (s : State) (k : Nat) (f : Int) : Rat :=
  mkRat (clampI f (-((sdOsr s k ^ 3 : Nat) : Int)) ((sdOsr s k ^ 3 : Nat) : Int)) (sdOsr s k ^ 3) * b32 (s.rdN (CTL_SD_GAIN k)) + b32 (s.rdN (CTL_SD_OFS k))

/-- i_d and i_q at an electrical angle (R286), or the current of a DC axis twice, from the measured currents. -/
def dqCurrents (s : State) (n : Nat) (th : Rat) (is : List Rat) : Rat × Rat :=
  let i := fun k : Nat => is.getD k 0
  let kind := s.fld (CTL_A_CFG_KIND n)
  if kind = 1 then (i 0, i 0)
  else
    let ab := if kind = 2 then Config.clarke (i 0) (i 1) (i 2) else (i 0, i 1)
    (ab.1 * Config.cosTurn th + ab.2 * Config.sinTurn th, ab.2 * Config.cosTurn th - ab.1 * Config.sinTurn th)

/-- The duties before their clamp, at an electrical angle (R269). -/
def rawDuties (s : State) (n : Nat) (th : Rat) : List Rat :=
  let out := fun r : Nat => match roleTile s n r with
    | some t => b32 (s.rdN (CTL_T_OUT t))
    | none => 0
  let bridge := fun u : Rat => [(1 + u) / 2, (1 - u) / 2]
  let kind := s.fld (CTL_A_CFG_KIND n)
  if kind = 1 then bridge (out 4)
  else
    let al := out 3 * Config.cosTurn th - out 2 * Config.sinTurn th
    let be := out 3 * Config.sinTurn th + out 2 * Config.cosTurn th
    if kind = 3 then bridge al ++ bridge be
    else
      let v := Config.invClarke al be
      let mx := if v.1 ≤ v.2.1 then (if v.2.1 ≤ v.2.2 then v.2.2 else v.2.1) else (if v.1 ≤ v.2.2 then v.2.2 else v.1)
      let mn := minR v.1 (minR v.2.1 v.2.2)
      [v.1, v.2.1, v.2.2].map (fun x => 1 / 2 + x - (mx + mn) / 2)

/-- The high-side on-time of a duty, in quanta, with dead time and minimum pulse (R270). -/
def onTime (s : State) (n : Nat) (per d : Rat) : Nat :=
  let h := (rndR (d * per)).toNat
  let dead : Int := s.fld (CTL_A_DT_DT n)
  let minp : Int := s.fld (CTL_A_DT_MINP n)
  let full := (rndR per).toNat
  if h = 0 || full ≤ h then h
  else if (h : Int) - dead < minp || (full : Int) - h - dead < minp then (if 2 * h < full then 0 else full)
  else h

/-- The duties of the axis become compare values, written at a time in quanta (R269, R270, R286). -/
def writeCompare (n : Nat) (th : Rat) (at_ : Nat) (s : State) : State :=
  let ds := rawDuties s n th
  let per := carrierQ s n (s.incEff (axTb s n))
  let s1 := updAxis n (fun x => { x with cmpPend := some (at_, ds.map (fun d => onTime s n per (clampR d 0 1))) }) s
  if ds.any (fun d => decide (d < 0) || decide (1 < d)) then (s1.setFld (CTL_A_FLAGS_DUTY_CLAMP n) 1).bump (CTL_A_DUTY_CLAMP_CNT n) else s1

/-- A current tile's sample starts (R272, R281, R286): the filter outputs of the axis's inputs are latched, and the demand present is used. -/
def currentStart (n t start : Nat) (fs : List Int) (s : State) : State :=
  let noOuter := (roleTile s n 0).isNone && (roleTile s n 1).isNone
  let dem := if tileRole s t = 3 then s.rdN (CTL_A_ID_REF n) else if noOuter && genRuns s n then currentDemand s n 0 else (s.tile t).dem
  let s1 := (axInputs s n).zipIdx.foldl (fun u ki => u.wrN (CTL_SD_I ki.1) (toB32 (sdCurrent s ki.1 (fs.getD ki.2 0)))) s
  ((updTile t (fun r => { r with dem := dem, startAt := some start, fs := fs, angle := elecAngle s n start }) s1).wrN (CTL_T_DEM t) dem).setFld (CTL_T_STAT_RUNNING t) 1

/-- A current tile's output (R286): once no current tile of the axis still computes, the outputs become compare values. -/
def currentOutput (n t at_ : Nat) (s : State) : State :=
  let r := s.tile t
  let is := (axInputs s n).zipIdx.map (fun ki => sdCurrent s ki.1 (r.fs.getD ki.2 0))
  let dq := dqCurrents s n r.angle is
  let i := if tileRole s t = 3 then dq.1 else dq.2
  let s1 := if tileRole s t = 3 then s else s.wrN (CTL_A_IQ n) (toB32 i)
  let s2 := (runTile n t (b32 (toB32 (b32 r.dem - i))) s1).1
  if (axTiles s2 n).any (fun u => decide (2 ≤ tileRole s2 u) && (s2.tile u).startAt.isSome) then s2 else writeCompare n r.angle at_ s2

/-! ### Sample starts and outputs (R285, R287) -/

/-- A position or velocity tile's sample starts (R275, R281, R285). -/
def outerStart (n t start : Nat) (s : State) : State :=
  let e := axEnc s n
  let dem := if tileRole s t = 0 then toB32 (s.axis n).p
    else if (roleTile s n 0).isSome then (s.tile t).dem else toB32 (s.axis n).v
  let rd := if encType s e = 2 then none else some (measured s n, s.now)
  let s1 := ((updTile t (fun r => { r with dem := dem, startAt := some start, reading := rd, readAt := start }) s).wrN (CTL_T_DEM t) dem).setFld (CTL_T_STAT_RUNNING t) 1
  if encType s e = 2 then encRequest e s1 else s1

/-- The generator of an axis takes the state of the last AXIS record (R513), if one waits. -/
def takeGen (n : Nat) (s : State) : State :=
  let ws := kget (fun _ => []) s.twin.axPend n
  if ws.isEmpty then s
  else
    let w := fun k : Nat => ws.getD k 0#64
    let v := fun (k lo : Nat) => b32 (bits (w k).toNat lo 32)
    showGen n (updAxis n (fun x => { x with p := ofQ32 (w 0).toInt, v := v 1 0, a := v 1 32, g := ofQ32 (w 2).toInt, vg := v 3 0 })
      { s with twin := { s.twin with axPend := kset (fun _ => []) s.twin.axPend n [] } })

/-- A tile takes its mirrored exponent, bank and histories (R511, R513), if they wait. -/
def takeTile (t : Nat) (s : State) : State :=
  let ws := kget (fun _ => []) s.twin.tilePend t
  if ws.isEmpty then s
  else
    let v := (ws.getD 0 0#64).toNat + (ws.getD 1 0#64).toNat * 2 ^ 64 + (ws.getD 2 0#64).toNat * 2 ^ 128
    let m := fun j : Nat => sext (bits v (16 + 24 * j) 24) 24
    ((updTile t (fun r => { r with x := [m 0, m 1, m 2], y := [m 3, m 4, m 5] })
      { s with twin := { s.twin with tilePend := kset (fun _ => []) s.twin.tilePend t [] } }).setFld (CTL_T_STAT_ES t) (bits v 0 8)).setFld (CTL_T_CFG_BANK t) (bits v 8 1)

/-- A period of the generator: where an AXIS record waits, its state overwrites the generator's (R513). -/
def genPeriod (n t : Nat) (s : State) : State := if (kget (fun _ => []) s.twin.axPend n).isEmpty then genStep n t s else takeGen n s

/-- A trigger of tile t is served at a time in quanta (R271, R285, R288): nothing samples in a rest period, and a trigger that finds the tile computing is a
miss. The outermost tile's sample first steps the generator. -/
def sampleAt (n t start : Nat) (fs : List Int) (s : State) : State :=
  let cur := decide (2 ≤ tileRole s t)
  let next := if s.fld (CTL_T_CFG_TRIG t) = 3 then [start + 10 * max 40 (s.fld (CTL_T_TIMER_TIMER t))] else []
  let s1 := updTile t (fun r => { r with due := r.due.drop 1 ++ next }) s
  if s.flag (CTL_A_STAT_RESTING n) then s1
  else if (s.tile t).startAt.isSome then tileMiss n t false s1
  else
    let s2 := takeTile t (if outerTile s n = some t && genRuns s n then genPeriod n t s1 else s1)
    if !(genRuns s2 n || (cur && axComputes s2 n)) then s2
    else if cur then currentStart n t start fs s2 else outerStart n t start s2

/-- TILE_SAMPLE_START (R285, R286): time passes to the tile's next sample start; `fs` are the sinc³ outputs of the axis's inputs. -/
def execTileSampleStart (t : Fin 48) (fs : List Int) (s : State) : Out :=
  if !s.clocked then .next s else
  .next (match tileAxis s t, (s.tile t).due with
    | some n, start :: _ =>
      if !s.flag (CTL_T_CFG_EN t) || !(genRuns s n || (decide (2 ≤ tileRole s t) && axComputes s n)) then s
      else sampleAt n t start fs (passTime (ceilDiv start 4 - s.now) s)
    | _, _ => s)

/-- A position or velocity tile's output, written at a time in quanta, passes down the cascade (R265, R281, R285). -/
def passDown (n t at_ : Nat) (y : Rat) (s : State) : State :=
  match (if tileRole s t = 0 then roleTile s n 1 else none) with
  | some vt =>
    let chain := s.fld (CTL_T_CFG_TRIG vt) == 2
    updTile vt (fun r => { r with dem := toB32 (y + b32 (s.rdN (CTL_A_FF_V n)) * (s.axis n).v), due := if chain then r.due ++ [at_ + 10] else r.due }) s
  | none =>
    match demandTile s n with
    | some ct => updTile ct (fun r => { r with dem := currentDemand s n y }) s
    | none => s

/-- A position or velocity tile's output (R279, R281, R282, R297), from the reading it has. -/
def outerOutput (n t at_ : Nat) (rd : Int × Nat) (s : State) : State :=
  let role := tileRole s t
  let s1 := if role = 1 || (roleTile s n 1).isNone then noteReading n rd s else s
  let x := if role = 0 then b32 (toB32 ((s1.axis n).p - ofQ32 rd.1)) else b32 (toB32 (b32 (s.tile t).dem - (s1.axis n).vel))
  let r := runTile n t x s1
  let s2 := passDown n t at_ r.2 r.1
  if s.fld (CTL_A_OSC_CTL_SRC n) = role then oscSample n t x s2 else s2

/-- TILE_OUTPUT (R286, R287): time passes to the instant at which the tile writes its output, if its deadline does not come first (DEADLINE_MISS). -/
def execTileOutput (t : Fin 48) (s0 : State) : Out :=
  if !s0.clocked then .next s0 else
  .next (match (s0.tile t).startAt, tileAxis s0 t with
    | some st, some n =>
      match outputAt s0 t st with
      | none => s0
      | some at_ =>
        if tileDeadline s0 t st < at_ then s0
        else
          let s := passTime (ceilDiv at_ 4 - s0.now) s0
          if 2 ≤ tileRole s t then currentOutput n t at_ s
          else match (s.tile t).reading with
            | some rd => outerOutput n t at_ rd s
            | none => s
    | _, _ => s0)

/-- LOOP_TRIGGER (R74, R285): a pin of timebase n placed at a time in quanta fires; the tiles of its mask start at the first CTL edge 10 ns later or
after. -/
def loopTrigger (n placed mask : Nat) (s : State) : State :=
  let ts := (List.range 48).filter (fun t => bit mask t)
  let here := ts.filter (fun t => s.fld (CTL_T_CFG_TB t) == n)
  let s1 := if here.length = ts.length then s else bindMiss n s
  here.foldl (fun u t =>
    if u.fld (CTL_T_CFG_TRIG t) != 1 then u.bump (CTL_T_PIN_IGN_CNT t)
    else if !(tileAxis u t).any (fun a => axComputes u a) then u
    else updTile t (fun r => { r with due := r.due ++ [ctlEdge (placed + 40)], lastFire := some placed, interval := match r.lastFire with
      | some q => min ((placed - q) / 4) 1000000
      | none => 1000000 }) u) s1

/-- LOOP_TRIGGER (R285). -/
def execLoopTrigger (n : Fin 4) (s : State) : Out :=
  .next (match fire n 7 s with
    | (some d, s1) => loopTrigger n d.placed (d.pin.arg % 2 ^ 48) s1
    | (none, s1) => s1)

/-! ### Table loads (R284) -/

/-- A write of CTL_TBL_CMD with LOAD (R284). -/
def ctlTableLoad (n kind b : Nat) (s : State) : State :=
  let en := if kind = 0 then s.flag (CTL_A_TBL_CTL_COG_EN n) else s.flag (CTL_A_TBL_CTL_FRIC_EN n)
  let use := if kind = 0 then s.fld (CTL_A_TBL_CTL_COG_BANK n) else s.fld (CTL_A_TBL_CTL_FRIC_BANK n)
  if en && use == b then s.setFld CTL_TBL_STAT_CMD_STATUS stNOTPERM
  else if s.ctlLoad.isSome then s.setFld CTL_TBL_STAT_CMD_STATUS stBUSY
  else
    let s1 := { s with ctlLoad := some { axis := n, kind := kind, bank := b, addr := s.rdN CTL_TBL_ADDR / 256 * 256 } }
    (s1.setFld CTL_TBL_STAT_BUSY 1).setFld CTL_TBL_STAT_CMD_STATUS stOK

/-- CTL_TABLE_LOAD (R284). -/
def execCtlTableLoad (n : Fin 16) (kind : Fin 2) (b : Fin 2) (s : State) : Out :=
  if !s.clocked then .next s else
  .next (ctlTableLoad n kind b s)

/-- CTL_TABLE_LOAD_DONE (R284). -/
def execCtlTableLoadDone (dt : Nat) (s0 : State) : Out :=
  if !s0.clocked then .next (passTime dt s0) else
  let s := passTime dt s0
  match s.ctlLoad with
  | none => .next s
  | some l =>
    if !sysServed s l.addr 2048 then .next s else
    let r := tableRead (l.axis + 256) l.addr 2048 (sysTouch l.addr 2048 29 s)
    let key := 4 * l.axis + 2 * l.kind + l.bank
    let s1 := { r.1.setFld CTL_TBL_STAT_BUSY 0 with ctlLoad := none }
    .next (match r.2 with
      | none => (s1.setFld ⟨CTL_TBL_LOADED, key, 1⟩ 0).setFld CTL_TBL_STAT_CMD_STATUS stFAULT
      | some bs => { s1.setFld ⟨CTL_TBL_LOADED, key, 1⟩ 1 with ctlTables := kset (fun _ => []) s1.ctlTables key bs })

end Sys2Proof.Machine
end

