-- ==== Sys2Proof/Machine/Cal.lean ====
section
/-! DEFINITION. Machine/Cal.lean: calibration: slots, runs, their outcome, staleness and manual values (R559 to R566, R578, R581). -/

namespace Sys2Proof.Machine

/-- Instances of a target (R559). -/
def calCount (t : Nat) : Nat := if t = 9 then 1 else [0, 24, 8, 48, 4, 48, 24, 48, 12].getD t 0

/-- DUR of a target, in ns (R559); that of target 9 lies in the round. -/
def calDur (t : Nat) : Nat := [0, 2000, 2000, 2000, 20000, 100000, 10000, 50000, 2000].getD t 0

/-- The instances that a target's runs take (R560, R578). -/
def calEnabled (s : State) (t : Nat) : List Nat := (List.range (calCount t)).filter (fun i => bit (s.rdN (CAL_T_MASK t)) i)

/-- The next instance, in round-robin order, after the last one run (R560). -/
def calNext (s : State) (t : Nat) : Option Nat :=
  let is := calEnabled s t
  match (s.cal t).last with
  | none => is.head?
  | some l => (is.find? (fun i => decide (l < i))).or is.head?

/-- The axis whose bridge holds pair k (R264). -/
def pairAxis (s : State) (k : Nat) : Option Nat := allAxes.find? (fun n => ownsPair s n k)

/-- Is the pair's axis DISABLED or in a rest period? -/
def pairIdle (s : State) (k : Nat) : Bool :=
  match pairAxis s k with
  | none => true
  | some n => axState s n == 0 || s.flag (CTL_A_STAT_RESTING n)

/-- Is the pair's bridge not driven? -/
def pairOff (s : State) (k : Nat) : Bool :=
  match pairAxis s k with
  | none => true
  | some n => (s.axis n).gates != 2 || s.flag (CTL_A_STAT_RESTING n)

/-- Is the line of an instance needed by its output inside a slot, in quanta (R561): by an edge of the string that is due, or by a pin that
is dispatched? -/
def lineNeeded (s : State) (t i a b : Nat) : Bool :=
  let ins := fun q : Nat => decide (a ≤ q) && decide (q < b)
  let pins := [0, 1, 2, 3].flatMap (fun n => (s.tb n).dispatched)
  match t with
  | 1 => (s.str i).due.any (fun d => ins d.at_ && (match d.act with
      | .shunt _ _ => true
      | _ => false)) || pins.any (fun d => d.pin.action == 5 && bit d.pin.arg i && ins (d.placed + 40))
  | 2 => pins.any (fun d => d.pin.action == 6 && d.pin.target % 8 == i && ins (d.placed + 40))
  | _ => false

/-- The preconditions of an instance that hold at an instant (R559): `ok` says what the state cannot show of them (whether the loopback switch
reports engaged, the sensed current, the plane that an array's mirrors hold). -/
def calPre (s : State) (t i : Nat) (ok : Bool) : Bool :=
  match t with
  | 1 => ok && strClosed s i
  | 2 => ok && (s.pd i).win.isNone
  | 3 => ok && pairIdle s i
  | 4 => allStrings.all (fun n => strMode s n == 0 || s.fld (LDR_S_CTL_SPORT n) != i || (s.str n).iref != 0) &&
      (ok || (List.range (pArrays s i)).all (fun a => s.fld (SEQ_F_A_BSTATE_PARKED i a) == 0xFFFF))
  | 5 => allStrings.all (fun n => strMode s n == 0 || strClosed s n)
  | 6 => strMode s i == 0 || ((s.str i).iref == 0 && ok)
  | 7 => pairOff s i
  | _ => ok

/-- A run of the next instance starts (R560, R562): its slot opens at a time in quanta and lasts `len` ns; a command's and the round's last as
long as the target needs (DESIGN CHOICE, log entry 97). -/
def calStart (t at_ : Nat) (len : Option Nat) (ok : Bool) (s : State) : State :=
  match calNext s t with
  | none => s
  | some i =>
    let s1 := updCal t (fun x => { x with last := some i }) s
    let close := at_ + 4 * len.getD (calDur t)
    if len.any (fun l => decide (l < calDur t)) then calReject t i 3 s1
    else if !calPre s1 t i ok || lineNeeded s1 t i at_ close then calReject t i 1 s1
    else calStat t stOK i 0 true (updCal t (fun x => { x with run := some ⟨i, showAtQ s at_, at_, close⟩ }) s1)

/-- A CAL_SLOT pin of timebase n, placed at a time in quanta, fires (R73, R560, R566). -/
def calSlot (n t placed len : Nat) (ok : Bool) (s : State) : State :=
  if !s.flag (CAL_T_CTL_EN t) || calNext s t = none then s
  else if (s.cal t).run.isSome then s.bump (PHS_TB_CONFLICT_CNT n)
  else calStart t (placed + 40) (some len) ok (settleLight s)

/-- CAL_SLOT (R74, R560): the next pin of timebase n; `ok` is as for calPre. A target that no pin runs counts as a miss. -/
def execCalSlot (n : Fin 4) (ok : Bool) (s : State) : Out :=
  .next (match fire n 9 s with
    | (some d, s1) =>
      if d.pin.target = 0 || 9 ≤ d.pin.target then bindMiss n s1 else calSlot n d.pin.target d.placed (d.pin.arg % 2 ^ 32) ok s1
    | (none, s1) => s1)

/-- A write of CMD.RUN (R560, R566): targets 3, 6, 7 and 8. None runs under latched shutdown, which abandons runs (DESIGN CHOICE, log entry
97). -/
def calRun (t : Nat) (ok : Bool) (s : State) : State :=
  if !(t == 3 || t == 6 || t == 7 || t == 8) || !s.flag (CAL_T_CTL_EN t) || calNext s t = none || isLatched s then s.setFld ⟨CAL_T_STAT t, 0, 8⟩ stPRECOND
  else if (s.cal t).run.isSome then s.setFld ⟨CAL_T_STAT t, 0, 8⟩ stBUSY
  else calStart t (4 * s.now) none ok (settleLight s)

/-- CAL_RUN (R560, R566): `ok` is as for calPre. -/
def execCalRun (t : Fin 10) (ok : Bool) (s : State) : Out :=
  if !s.mainOn then .next s else
  .next (if t = 0 then s else calRun t ok s)

/-- The tap of an instance: DLY_SHUNT's stands in LDR_Sn_SHD (R559). -/
def calTap (s : State) (t i : Nat) : Nat := if t = 1 then s.rdN (LDR_S_SHD i) % 256 else (s.calInst t i).tap

/-- Move an instance's tap and trim toward zero error (R562): the state, or none where a tap beyond the line's range is needed with the trim
converter at its limit. Delay taps are 250 ps and trim steps 7.8 ps; a comparator's trim steps are 1/16 step. -/
def calTaps (t i : Nat) (err : Int) (s : State) : Option State :=
  let x := s.calInst t i
  let u : Int := if t = 6 then 16 else 2500
  let v : Int := if t = 6 then 1 else 78
  let d : Int := -(err * (if t = 6 then 16 else 10))
  let most : Int := (max 1 (s.fld (CAL_T_CTL_MAX_STEP t)) : Nat)
  let want : Int := (calTap s t i : Nat) + clampI (d.tdiv u) (-most) most
  let got := clampI want 0 255
  let steps := rndDiv (d - u * (got - (calTap s t i : Nat))) v
  let trim := clampI (x.trim + steps) (-32) 31
  if want != got && ((x.trim == 31 && decide (0 < steps)) || (x.trim == -32 && decide (steps < 0))) then none
  else
    let s1 := updInst t i (fun y => { y with trim := trim, tap := if t = 1 then 0 else got.toNat }) s
    some (if t = 1 then s1.wrN (LDR_S_SHD i) got.toNat else s1)

/-- The correction of a run (R559, R562): none where it is out of range. -/
def calCorrect (t i : Nat) (err : Int) (value : Nat) (s : State) : Option State :=
  match t with
  | 4 => some (s.wrN (SEQ_P_EDGE_COMP i) (value % 65536))
  | 5 => some (s.wrN (LDR_PD_DARK (i / 6) (i % 6)) value)
  | 7 => some (s.wrN (CTL_SD_OFS i) value)
  | 9 => some (updInst t i (fun y => { y with trim := sext value 8 }) s)
  | _ => calTaps t i err s

/-- A run succeeds (R563, R564). -/
def calSuccess (t i start : Nat) (s : State) : State :=
  let c := min ((s.calInst t i).count + 1) 0xFFFFFFFF
  let s1 := updInst t i (fun y => { y with count := c, lastOk := some start }) s
  let s2 := calStat t stOK i 0 false (updCal t (fun x => { x with run := none }) s1)
  if calStale s t i then calEvent t i 1 svINFO (c * 65536) (setStale t i false s2) else s2

/-- A run's slot has ended (R562 to R565). -/
def calEnd (t : Nat) (r : CalRun) (broken : Bool) (err residual : Int) (value : Nat) (s : State) : State :=
  let i := r.inst
  if broken || !calPre s t i true then calReject t i 2 s
  else if calManual s t i then calStat t stOK i 0 false (updInst t i (fun y => { y with err := err }) (updCal t (fun x => { x with run := none }) s))
  else match calCorrect t i err value s with
    | none => calEvent t i 3 svERROR (ofInt err 32) (calReject t i 5 (updInst t i (fun y => { y with err := err }) s))
    | some s1 =>
      if residual.natAbs ≤ s.fld (CAL_T_TOL_RES_TOL t) then calSuccess t i r.start (updInst t i (fun y => { y with err := residual }) s1)
      else calReject t i 4 (updInst t i (fun y => { y with err := residual }) s)

/-- CAL_RUN_DONE (R562 to R565): time passes to the end of the target's slot. The mean error, the residual after the tentative correction, the
value that a register target measured, and whether a precondition that the state cannot show broke, are what the run measured. -/
def execCalRunDone (t : Fin 10) (broken : Bool) (err residual value : BitVec 32) (s0 : State) : Out :=
  if !s0.mainOn then .next s0 else
  .next (match (s0.cal t).run with
    | none => s0
    | some r =>
      let s := settleLight (passTime (ceilDiv r.closeAt 4 - s0.now) s0)
      match (s.cal t).run with
      | none => s
      | some _ => calEnd t r broken err.toInt residual.toInt value.toNat s)

/-- Runs in progress are abandoned (R562). -/
def calAbandon (s : State) : State :=
  (List.range 10).foldl (fun t k =>
    match (t.cal k).run with
    | some r => calStat k stPRECOND r.inst 6 false (updCal k (fun x => { x with run := none }) t)
    | none => t) s

/-- CAL_STALE (R564): time passes until an instance's LAST_OK is older than VALID. -/
def execCalStale (t : Fin 10) (i : Fin 64) (s0 : State) : Out :=
  if !s0.mainOn then .next s0 else
  .next (match (s0.calInst t i).lastOk with
    | none => s0
    | some u =>
      if t = 0 || calStale s0 t i || calManual s0 t i || decide (calCount t ≤ i.val) then s0
      else
        let s := passTime (untilShow s0 (u + s0.rdN (CAL_T_VALID t) % 2 ^ 24 * 1000000 + 1)) s0
        calEvent t i 4 svNOTICE (min ((s.showTime + 2 ^ 64 - u) % 2 ^ 64 / 1000000) 0xFFFFFFFF * 65536) (setStale t i true s))

/-- A software write of a calibrated value sets MANUAL (R565). -/
def calSetManual (t i : Nat) (s : State) : State := setStale t i false (s.setFld ⟨CAL_T_MANUAL t, i, 1⟩ 1)

/-- The register of a calibrated value, its target and its instance (R565): 0 LDR_Sn_SHD, 1 LDR_PDi_DARKk, 2 SEQ_Pp_EDGE_COMP, 3 CTL_SDk_OFS. -/
def manualReg (which n : Nat) : Option (Nat × Nat × Nat) :=
  match which with
  | 0 => if n < 24 then some (LDR_S_SHD n, 1, 8) else none
  | 1 => if n < 48 then some (LDR_PD_DARK (n / 6) (n % 6), 5, 32) else none
  | 2 => if n < 4 then some (SEQ_P_EDGE_COMP n, 4, 16) else none
  | _ => if n < 48 then some (CTL_SD_OFS n, 7, 32) else none

/-- CAL_MANUAL_WRITE (R565). -/
def execCalManualWrite (which : Fin 4) (n : Fin 48) (v : BitVec 32) (s : State) : Out :=
  if !s.clocked then .next s else
  .next (match manualReg which n with
    | some r => calSetManual r.2.1 n (s.wrN r.1 (v.toNat % 2 ^ r.2.2))
    | none => s)

/-- A write of CMD.RELEASE (R565). -/
def calRelease (t i : Nat) (s : State) : State :=
  if calManual s t i then setStale t i true (s.setFld ⟨CAL_T_MANUAL t, i, 1⟩ 0) else s

/-- CAL_RELEASE (R565). -/
def execCalRelease (t : Fin 10) (i : Fin 64) (s : State) : Out :=
  if !s.mainOn then .next s else
  .next (if t = 0 then s else calRelease t i s)

/-- The window on the selected instance (R578). -/
def calView (s : State) : State :=
  let t := s.fld CAL_SEL_TARGET
  let i := s.fld CAL_SEL_INSTANCE
  if t = 0 || calCount t ≤ i then ((((s.wrN CAL_INST_COUNT 0).wrN CAL_INST_LAST_OK 0).wrN CAL_INST_ERR 0).wrN CAL_INST_VALUE 0)
  else
    let x := s.calInst t i
    (((s.wrN CAL_INST_COUNT x.count).wrN CAL_INST_LAST_OK (x.lastOk.getD 0)).wrN CAL_INST_ERR (ofInt x.err 32)).wrN CAL_INST_VALUE
      (pack [(0, 8, calTap s t i), (8, 8, ofInt x.trim 8), (16, 1, b2n (calStale s t i)), (17, 1, b2n (calManual s t i))])

end Sys2Proof.Machine
end

