-- ==== Sys2Proof/Machine/Facet.lean ====
section
/-! DEFINITION. Machine/Facet.lean: the temperatures of the mirror arrays, their trips and the release of a trip (R161 to R164). -/

namespace Sys2Proof.Machine

/-- TEMP_INT as it acts, in ns (R177). -/
def tempInt (s : State) (p : Nat) : Nat := 1000000 * max 1 (s.fld (SEQ_F_CTL_TEMP_INT p))

/-- A bit of a field of one bit for each array. -/
def arrBit (f : Fld) (a : Nat) : Fld := ⟨f.reg, f.lo + a, 1⟩

/-- Take bit k out of a mask. -/
def dropBit (m k : Nat) : Nat := m - m / 2 ^ k % 2 * 2 ^ k

/-- A port's trip darkens the PLANE strings that name the port (R163, R249). -/
def facetDark (p : Nat) (s : State) : State :=
  (allStrings.filter (fun n => strMode s n == 1 && s.fld (LDR_S_CTL_SPORT n) == p && !hasCause s n cFTRIP)).foldl (fun t n =>
    ldrEvent 5 svSAFETY (strLoc n) p (darken n cFTRIP t)) s

/-- An array trips (R163): PARK at the next word position, whatever R113 and R114 would remove (DESIGN CHOICE, log entry 113), its later pins
dropped, its strings dark. -/
def tripArray (p a sensor temp : Nat) (s : State) : State :=
  if bit (s.fld (SEQ_F_STAT_TRIP p)) a then s
  else
    let s1 := s.setFld (arrBit (SEQ_F_STAT_TRIP p) a) 1
    let s2 := updPort p (fun x => { x with clearPend := dropBit x.clearPend a, tripDue := dropBit x.tripDue a }) s1
    let s3 := if s.flag (SEQ_F_STAT_ACTIVE p) then putDue p (.reset a 1 0xFFFF (4 * s.now) (4 * s.now) true) s2 else s2
    seqEvent p 0x19 svSAFETY (pack [(0, 2, a), (2, 2, sensor), (4, 16, temp)]) (facetDark p s3)

/-- Has the latest reading of every sensor of an array fallen 2 °C below WARN (R162)? -/
def warnOver (s : State) (p a : Nat) : Bool :=
  [0, 1, 2, 3].all (fun k => !bit ((s.port p).arr a).reported k ||
    decide (sext (kget (fun _ => 0) ((s.port p).arr a).tempVal k) 16 + 32 ≤ sext (s.fld (SEQ_F_A_TLIM_WARN p a)) 16))

/-- A reading reaches its register, and the sensor has reported (R162). -/
def noteTemp (p a k v : Nat) (s : State) : State :=
  let s1 := updArr p a (fun r => { r with tempAt := kset (fun _ => 0) r.tempAt k s.now, tempVal := kset (fun _ => 0) r.tempVal k v, reported := r.reported ||| 2 ^ k, late := dropBit r.late k, owed := dropBit r.owed k }) s
  let s2 := s1.setFld ⟨(if k < 2 then SEQ_F_A_TEMP01 p a else SEQ_F_A_TEMP23 p a), 16 * (k % 2), 16⟩ v
  if ((s2.port p).arr a).owed = 0 then s2.setFld (arrBit (SEQ_F_STAT_STALE p) a) 0 else s2

/-- A reading at or above WARN sets WARN; it clears once every sensor stands 2 °C below (R162). -/
def judgeWarn (p a k v : Nat) (s : State) : State :=
  let f := arrBit (SEQ_F_STAT_WARN p) a
  if sext (s.fld (SEQ_F_A_TLIM_WARN p a)) 16 ≤ sext v 16 then
    if s.flag f then s else seqEvent p 0x18 svWARNING (pack [(0, 2, a), (2, 2, k), (4, 16, v)]) (s.setFld f 1)
  else if warnOver s p a then s.setFld f 0 else s

/-- TEMP_WORD (R161 to R164): sensor k of array a reports a temperature in 1/16 °C. -/
def execTempWord (p : Fin 4) (a : Fin 3) (k : Fin 4) (dt : Nat) (temp : BitVec 16) (s0 : State) : Out :=
  if !hears s0 p then .next (passTime dt s0) else
  let s := judgeWarn p a k temp.toNat (noteTemp p a k temp.toNat (passTime dt s0))
  .next (if sext (s.fld (SEQ_F_A_TLIM_TRIP p a)) 16 ≤ sext temp.toNat 16 then tripArray p a k temp.toNat s else s)

/-- Sensors that an array says it has (R166). -/
def sensors (s : State) (p a : Nat) : Nat := clampN ((kget (fun _ => 0#32) ((s.port p).arr a).doneCaps 6).toNat % 65536) 1 4

/-- TEMP_STALE (R162): sensor k of array a has sent no TEMP word for 16 intervals. -/
def execTempStale (p : Fin 4) (a : Fin 3) (k : Fin 4) (dt : Nat) (s0 : State) : Out :=
  if !s0.clocked then .next (passTime dt s0) else
  let s := passTime dt s0
  let r := (s.port p).arr a
  .next (
    if !s.flag (SEQ_F_STAT_ACTIVE p) || s.flag (SEQ_P_CTL_MODE p) || !(s.port p).capsDone || s.fld (SEQ_F_STAT_FOUND p) ≤ a || sensors s p a ≤ k || bit r.late k ||
        s.now < kget (fun _ => 0) r.tempAt k + 16 * tempInt s p then s
    else
      let s1 := updArr p a (fun x => { x with late := x.late ||| 2 ^ k.val, owed := 2 ^ sensors s p a - 1 }) (s.setFld (arrBit (SEQ_F_STAT_STALE p) a) 1)
      tripArray p a k (kget (fun _ => 0) r.tempVal k) (seqEvent p 0x1A svERROR (a.val + k.val * 4) s1))

/-- TRIP_RELEASE (R163, R249): a VB_LATCH after an accepted CLEAR_TRIP has let the arrays go; LED strings are released once no array of the port
is tripped. -/
def execTripRelease (p : Fin 4) (s : State) : Out :=
  if !s.clocked then .next s else
  let m := (s.port p).tripDue
  if m = 0 then .next s
  else
    let s1 := updPort p (fun x => { x with tripDue := 0 }) ([0, 1, 2].foldl (fun t a => if bit m a then t.setFld (arrBit (SEQ_F_STAT_TRIP p) a) 0 else t) s)
    .next (if s1.fld (SEQ_F_STAT_TRIP p) = 0 then
      (allStrings.filter (fun n => s1.flag (LDR_S_CTL_KIND n) && s1.fld (LDR_S_CTL_SPORT n) == p.val)).foldl (fun t n => clearCause n cFTRIP t) s1
    else s1)

end Sys2Proof.Machine
end

