-- ==== Sys2Proof/Machine/Pins.lean ====
section
/-! DEFINITION. Machine/Pins.lean: bindings, the start and stop of a timebase, the swap of banks, the reading and dispatch of pins, and the
pins that reach no port, string or tile (R21, R50 to R52, R73, R74, R79 to R85, R92, R106, R111, R330). -/

namespace Sys2Proof.Machine

/-! ### Bindings (R21) -/

/-- The binding field of a unit: kind 0 a facet port, 1 a string, 2 a photodiode input, 3 a loop tile, 4 an axis (R301). -/
def bindFld (kind i : Nat) : Fld :=
  if kind = 0 then SEQ_P_CTL_TB (i % 4) else if kind = 1 then LDR_S_CTL_TB (i % 24) else if kind = 2 then ⟨LDR_PD_TB, 2 * (i % 8), 2⟩ else if kind = 3 then CTL_T_CFG_TB (i % 48)
  else CTL_A_CFG_TB (i % 16)

/-- How many units of a kind there are. -/
def bindCount (kind : Nat) : Nat := [4, 24, 8, 48, 16].getD kind 0

/-- The key of a waiting change. -/
def bindKey (kind i : Nat) : Nat := kind * 64 + i

/-- A facet port is bound to a timebase (R21): a line being drawn goes on only where that one is a SCANNER timebase too (R129). -/
def portTake (p tb : Nat) (s0 : State) : State :=
  let s := settlePort p s0
  let old := s.fld (SEQ_P_CTL_TB p)
  let s1 := s.setFld (SEQ_P_CTL_TB p) tb
  if (s.port p).beam.isSome then beamCheck p (retrail tb (retrail old s1)) else s1

/-- A unit is bound to a timebase (R21); a string follows R225. -/
def bindTake (kind i tb : Nat) (s0 : State) : State :=
  let s := { s0 with bindPend := kset (fun _ => none) s0.bindPend (bindKey kind i) none }
  if kind = 0 then portTake (i % 4) tb s
  else if kind = 1 then
    let wasOff := !s.tbOn (s.fld (bindFld kind i))
    let s1 := updStr i (fun r => { r with freeSlot := none }) (s.setFld (bindFld kind i) tb)
    if !s1.tbOn tb then stringTbOff i s1 else if wasOff then stringTbOn i s1 else s1
  else s.setFld (bindFld kind i) tb

/-- A binding is written (R21, R52): it waits for a boundary of the timebase named, or takes effect at once where that one is OFF. -/
def bindWrite (kind i tb : Nat) (s : State) : State :=
  if bindCount kind ≤ i then s
  else if s.tbOn tb then { s with bindPend := kset (fun _ => none) s.bindPend (bindKey kind i) (some (tb, (s.tb tb).wraps)) }
  else bindTake kind i tb s

/-- BINDING_WRITE (R21). -/
def execBindingWrite (kind : Fin 5) (i : Fin 48) (tb : Fin 4) (s : State) : Out :=
  if !s.clocked then .next s else
  .next (bindWrite kind i tb s)

/-- BINDING_EFFECT (R21): at a boundary of the timebase named. -/
def execBindingEffect (kind : Fin 5) (i : Fin 48) (s : State) : Out :=
  if !s.clocked then .next s else
  .next (match kget (fun _ => none) s.bindPend (bindKey kind i) with
    | some (tb, since) => if boundaryAfter s tb since || !s.tbOn tb then bindTake kind i tb s else s
    | none => s)

/-! ### Start and stop (R50, R52, R55) -/

/-- EN is written 1 (R50, R52, R55). -/
def tbEnable (n : Nat) (s : State) : State :=
  if s.flag (PHS_TB_STAT_STOP_PEND n) then setTbStatus n stOK ((s.setFld (PHS_TB_STAT_STOP_PEND n) 0).setFld (PHS_TB_CTL_EN n) 1)
  else if s.tbOn n then setTbStatus n stOK s
  else if !incInRange (s.incBase n) || namesPickup s (s.rdN (PHS_TB_SRC n)) then setTbStatus n stPRECOND s
  else
    let s1 := updTb n (fun t => { t with acc := 0, everLocked := false, countPend := none, lastPhase := 0 }) ((setTbStatus n stOK s).setFld (PHS_TB_CTL_EN n) 1)
    let s2 := enterSource n (setCorr n 0 s1)
    allStrings.foldl (fun t x => if strTb t x = n then stringTbOn x t else t) s2

/-- TB_ENABLE (R52). -/
def execTbEnable (n : Fin 4) (s : State) : Out :=
  if !s.clocked then .next s else
  .next (tbEnable n s)

/-- The lines that its ports draw end as a timebase stops or is no SCANNER any more (R128, R129). -/
def beamsOf (n : Nat) (s : State) : State := [0, 1, 2, 3].foldl (fun t p => if t.fld (SEQ_P_CTL_TB p) = n then beamCheck p t else t) s

/-- SRC_WRITE (R54, R55, R70, R129). A camera window that is bound to the timebase stays as it is when TYPE becomes SCANNER (DESIGN CHOICE, log
entry 112). -/
def execSrcWrite (n : Fin 4) (v : BitVec 32) (s : State) : Out :=
  if !s.clocked then .next s else
  let x := v.toNat % 2 ^ 16
  .next (
    if 6 ≤ x % 8 then s
    else if s.flag (PHS_TB_CTL_EN n) && namesPickup s x then setTbStatus n stPRECOND s
    else
      let s1 := (settlePorts s).wrN (PHS_TB_SRC n) x
      beamsOf n (if s.flag (PHS_TB_CTL_EN n) then enterSource n s1 else updTb n (fun t => { t with alignPend := false }) s1))

/-- Every change that waits for a boundary of a timebase takes effect as it stops (R21, R52, R89). -/
def stopEffects (n : Nat) (s : State) : State :=
  let s1 := s.bindPend.foldl (fun t e => if e.2.map (fun p => p.1) = some n then bindTake (e.1 / 64) (e.1 % 64) n t else t) s
  [0, 1, 2, 3].foldl (fun t w => if t.fld (PHS_CW_CTL_TB w) = n then cwEffect w t else t) s1

/-- The shutter measurements of a timebase's windows end as it stops (R91). -/
def dropEdges (n : Nat) (s : State) : State :=
  [0, 1, 2, 3].foldl (fun t w => if t.fld (PHS_CW_CTL_TB w) = n then t.setCw w { t.cw w with openFrac := none } else t) s

/-- TB_STOP (R52, R91, R225, R289): at the boundary after EN was cleared. No pin of the timebase fires any more. -/
def execTbStop (n : Fin 4) (s0 : State) : Out :=
  if !s0.clocked then .next s0 else
  let s := settlePorts s0
  if !s.flag (PHS_TB_STAT_STOP_PEND n) || !boundaryAfter s n (s.tb n).stopFrom then .next s
  else
    let b := s.fld (PHS_TB_STAT_ACTIVE_BANK n)
    let s1 := setTbState n tbOFF ((dropArm n s).setFld (PHS_TB_STAT_STOP_PEND n) 0)
    let s2 := if s.flag (PHS_TB_STAT_ACTIVE n) then dropHolder (.bank n b) (s1.setFld (PHS_TB_STAT_ACTIVE n) 0) else s1
    let s3 := updTb n (fun t => { t with readAhead := [], nextPin := 0, nextIn := 0, eccSkip := [], alignPend := false, posted := [], dispatched := [], countPend := none, stepPend := none }) s2
    let s4 := beamsOf n (stopEffects n (dropEdges n (boundaryWork n s3)))
    .next (axesTbOff n (allStrings.foldl (fun t x => if strTb t x = n.val then stringTbOff x t else t) s4))

/-! ### The swap (R79, R80) -/

/-- BANK_SWAP (R79, R80, R512): at a boundary. An AT_CYCLE arm whose cycle a step of the count has passed lapses. -/
def execBankSwap (n : Fin 4) (s : State) : Out :=
  if !s.clocked then .next s else
  match (s.tb n).arm with
  | none => .next s
  | some a =>
    match a.validAt with
    | none => .next s
    | some _ =>
      let past := sext (s.cycle n + 2 ^ 32 - s.rdN (PHS_TB_SWAP_CYCLE n)) 32
      .next (
        if !atBoundary s n || !s.tbOn n then s
        else if a.atCycle && decide (0 < past) then lapseArm n s
        else if swapNow s n a then
          mirror 2 n [BitVec.ofNat 64 (a.bank + s.cycle n * 2 ^ 32)] (swapBank n a s)
        else s)

/-! ### Read-ahead (R81, R111, R377) -/

/-- The entry of a pin in the read-ahead buffer. -/
def heldPin (s : State) (n b i : Nat) : Option Pin := ((s.tb n).readAhead.find? (fun e => e.1 == b && e.2.1 == i)).map (fun e => e.2.2)

/-- A fetch notice for a BLOCK_LOAD pin that will fire `d` ahead (R111); a late one is announced for the time at which it will act. -/
def notify (n b i : Nat) (p : Pin) (d : Int) (s : State) : State :=
  if p.action != 1 || !pinDueIn p (cycleAt s n d) then s
  else
    let at_ := placedAt s n d
    let soon : Int := ((4 * (s.now + 64) : Nat) : Int)
    fetchNotice (p.target % 4) { tb := n, bank := b, index := i, arr := bits p.target 2 2, mask := bits p.arg 0 16, plane := bits p.arg 16 8, placed := (if at_ < soon then soon else at_).toNat } s

/-- The pins of the active bank that the buffer can give up for those of the bank that comes in at the next boundary: those dispatched for the
last time (R81). -/
def spentPins (s : State) (n : Nat) : List (Nat × Nat × Pin) :=
  let t := s.tb n
  if (swapSoon s n).isSome && t.wraps < t.pinDue then t.readAhead.filter (fun e => e.1 == s.fld (PHS_TB_STAT_ACTIVE_BANK n))
  else if (swapSoon s n).isSome then t.readAhead.filter (fun e => e.1 == s.fld (PHS_TB_STAT_ACTIVE_BANK n) && decide (e.2.1 < t.nextPin))
  else []

/-- The pin of a bank to be read next: the first, from the next to be dispatched on, that the buffer does not hold; none where the buffer
is full. -/
def nextRead (s : State) (n b cnt : Nat) : Option Nat :=
  let t := s.tb n
  let active := s.flag (PHS_TB_STAT_ACTIVE n) && s.fld (PHS_TB_STAT_ACTIVE_BANK n) == b
  let from_ := if active then t.nextPin else t.nextIn
  if 2048 ≤ t.readAhead.length - (if active then 0 else (spentPins s n).length) then none
  else ((List.range (min cnt 2048)).map (fun k => (from_ + k) % cnt)).find? (fun i => (heldPin s n b i).isNone)

/-- The buffer has room for one more pin of a bank (R81): where it is full, a pin dispatched for the last time goes. -/
def roomFor (n b : Nat) (s : State) : State :=
  let t := s.tb n
  let active := s.flag (PHS_TB_STAT_ACTIVE n) && s.fld (PHS_TB_STAT_ACTIVE_BANK n) == b
  if t.readAhead.length < 2048 || active then s
  else match (spentPins s n).head? with
    | some e => updTb n (fun t => { t with readAhead := t.readAhead.erase e, heldWhole := false }) s
    | none => s

/-- One pin of a bank enters the buffer. -/
def takePin (n b i : Nat) (bad : Bool) (s : State) : State :=
  let p := readPin s n b i
  let s1 := updTb n (fun t => { t with readAhead := t.readAhead ++ [(b, i, p)], eccSkip := if bad then (b * 65536 + i) :: t.eccSkip else t.eccSkip }) s
  if bad then s1 else notify n b i p (pinAhead s n b i p.frac) s1

/-- The pins of one burst of 64 bytes enter the buffer. -/
def takeBurst (n b cnt : Nat) (bad : Bool) : Nat → Nat → State → State
  | 0, _, s => s
  | k + 1, i, s =>
    let s0 := roomFor n b s
    if cnt ≤ i || (heldPin s n b i).isSome || 2048 ≤ (s0.tb n).readAhead.length then s
    else
      let s1 := takePin n b i bad s0
      if (bankBase s n b / 16 + i + 1) % 4 = 0 then s1 else takeBurst n b cnt bad k (i + 1) s1

/-- PIN_READAHEAD (R81, R377): one burst of the active bank, or of the one that a validated arm brings in, is read; `finding` is what its
check finds. -/
def execPinReadahead (n : Fin 4) (dt : Nat) (coming : Bool) (finding : Fin 5) (s0 : State) : Out :=
  if !s0.clocked then .next (passTime dt s0) else
  let s := passTime dt s0
  let bank := if coming then ((s.tb n).arm.filter (fun a => a.validAt.isSome)).map (fun a => a.bank)
    else if s.flag (PHS_TB_STAT_ACTIVE n) then some (s.fld (PHS_TB_STAT_ACTIVE_BANK n)) else none
  .next (match bank with
    | none => s
    | some b =>
      let cnt := bankCount s n b
      match nextRead s n b cnt with
      | none => s
      | some i =>
        match walk s (sysAsid s) (bankBase s n b + 16 * i) with
        | .ok l =>
          if !sysServed s (bankBase s n b + 16 * i) 16 then s else
          let s1 := eccFind (l.at_ (bankBase s n b + 16 * i)) finding (4 + n.val) (activate (l.at_ (bankBase s n b + 16 * i)) s)
          takeBurst n b cnt (badBurst s1 (l.at_ (bankBase s n b + 16 * i))) 4 i s1
        | .bad _ _ _ => s)

/-! ### Dispatch (R83 to R85, R89, R330) -/

/-- A pin that may be dispatched next: of a bank (its number and the pin's index) or posted (its place among the posted), and how far it is. -/
structure Cand where
  bank : Nat
  index : Nat
  posted : Bool
  pin : Pin
  ahead : Int
deriving DecidableEq, Repr

/-- The next pin of the active bank, or of the bank that comes in at the next boundary; none falls due beyond a boundary at which the
timebase stops or swaps. -/
def bankCand (s : State) (n : Nat) : Option Cand :=
  let t := s.tb n
  let b := s.fld (PHS_TB_STAT_ACTIVE_BANK n)
  let stop := s.flag (PHS_TB_STAT_STOP_PEND n)
  let soon := swapSoon s n
  let next := fun d : Int => decide (((2 ^ 56 : Nat) : Int) ≤ ((s.frac56 n : Nat) : Int) + d)
  let cur := if s.flag (PHS_TB_STAT_ACTIVE n) then (heldPin s n b t.nextPin).bind (fun p =>
      let d := pinAhead s n b t.nextPin p.frac
      if next d && (stop || soon.isSome) then none else some { bank := b, index := t.nextPin, posted := false, pin := p, ahead := d }) else none
  match cur with
  | some c => some c
  | none =>
    match soon with
    | some a => if stop then none else (heldPin s n a.bank t.nextIn).map (fun p => { bank := a.bank, index := t.nextIn, posted := false, pin := p, ahead := untilFrac s n p.frac 1 })
    | none => none

/-- The instance of a posted pin that fires: the first at or after its earliest time, in a cycle that its PARITY allows (R330), and none
beyond a boundary at which the timebase stops (R52). -/
def postAhead (s : State) (n earliest : Nat) (p : Pin) : Option Int :=
  ([-1, 0, 1].map (fun k => untilFrac s n p.frac k)).find? (fun d => decide (((4 * earliest : Nat) : Int) ≤ placedAt s n d) && pinDueIn p (cycleAt s n d) &&
    !(s.flag (PHS_TB_STAT_STOP_PEND n) && decide (1 ≤ cyclesTo s n d)))

/-- The posted pin that falls due first. -/
def postCand (s : State) (n : Nat) : Option Cand :=
  ((List.range (s.tb n).posted.length).zip (s.tb n).posted).foldl (fun (best : Option Cand) e =>
    match postAhead s n e.2.1 e.2.2 with
    | none => best
    | some d =>
      match best with
      | some c => if c.ahead ≤ d then best else some { bank := 0, index := e.1, posted := true, pin := e.2.2, ahead := d }
      | none => some { bank := 0, index := e.1, posted := true, pin := e.2.2, ahead := d }) none

/-- The pin that is next in order of placed time: at an equal one, a posted pin comes after those of the bank (R330). -/
def nextCand (s : State) (n : Nat) : Option Cand :=
  match bankCand s n, postCand s n with
  | some a, some b => some (if placedAt s n b.ahead < placedAt s n a.ahead then b else a)
  | some a, none => some a
  | none, b => b

/-- A candidate leaves its place: the bank's next pin follows it, or it is no longer posted. -/
def consume (n : Nat) (c : Cand) (s : State) : State :=
  if c.posted then updTb n (fun t => { t with posted := t.posted.eraseIdx c.index }) s
  else if s.flag (PHS_TB_STAT_ACTIVE n) && s.fld (PHS_TB_STAT_ACTIVE_BANK n) == c.bank then
    let last := decide (bankCount s n c.bank ≤ c.index + 1)
    updTb n (fun t => { t with nextPin := if last then 0 else c.index + 1, pinDue := if last then t.pinDue + 1 else t.pinDue, readAhead := if t.heldWhole && !t.eccSkip.contains (c.bank * 65536 + c.index) then t.readAhead else t.readAhead.filter (fun e => !(e.1 == c.bank && e.2.1 == c.index)), eccSkip := t.eccSkip.filter (fun k => k != c.bank * 65536 + c.index) }) s
  else updTb n (fun t => { t with nextIn := c.index + 1, eccSkip := t.eccSkip.filter (fun k => k != c.bank * 65536 + c.index), readAhead := if bankCount s n c.bank ≤ 2048 && !t.eccSkip.contains (c.bank * 65536 + c.index) then t.readAhead else t.readAhead.filter (fun e => !(e.1 == c.bank && e.2.1 == c.index)) }) s

/-- A late pin is counted and reported, once in a cycle (R85); its lateness is told in whole nanoseconds, rounded down (DESIGN CHOICE, log
entry 112). -/
def notePinLate (n index ns : Nat) (s : State) : State :=
  let s1 := s.bump (PHS_TB_LATE_CNT n)
  if (s.tb n).lateWritten then s1 else phsEvent n 8 svWARNING (pack [(0, 16, index), (16, 32, ns)]) (updTb n (fun t => { t with lateWritten := true }) s1)

/-- A due pin goes to its destination with its placed time (R83, R85). -/
def handOver (n : Nat) (c : Cand) (s : State) : State :=
  let ideal := placedAt s n c.ahead
  let soon := 4 * (s.now + 64)
  let late := decide (ideal < ((4 * s.now + 256 : Nat) : Int))
  let index := if c.posted then 0xFFFF else c.index
  let f := s.takeBit
  let s0 := if c.posted then f.2 else s
  let s1 := if late then notePinLate n index ((((soon : Nat) : Int) - ideal) / 4).toNat s0 else s0
  let d : Placed := { pin := c.pin, index := index, bank := if c.posted then b2n f.1 else c.bank, placed := if late then soon else ideal.toNat, late := late, due := (((s.tb n).wraps : Int) + cyclesTo s n c.ahead).toNat, stale := pinStale s n c.pin.action c.pin.target c.pin.arg, posted := c.posted }
  updTb n (fun t => { t with lastDispatch := s.now + 1, dispatched := t.dispatched ++ [d] }) s1

/-- A bank held whole announces each BLOCK_LOAD of the next cycle as its pin comes round in this one (R111). -/
def announceNext (n : Nat) (c : Cand) (s : State) : State :=
  if !c.posted && (s.tb n).heldWhole && (swapSoon s n).isNone && s.flag (PHS_TB_STAT_ACTIVE n) && s.fld (PHS_TB_STAT_ACTIVE_BANK n) == c.bank then
    notify n c.bank c.index c.pin (c.ahead + ((2 ^ 56 : Nat) : Int)) s
  else s

/-- The first PHS cycle at which a candidate may be dispatched (R83): no earlier than 127 ns before its placed time, and after the last
dispatch. -/
def dispatchTime (s : State) (n : Nat) (c : Cand) : Nat := max (max s.now (s.tb n).lastDispatch) (-((508 - placedAt s n c.ahead).fdiv 4)).toNat

/-- The next pin of timebase n is dispatched, where it falls due within 127 ns (R83): at most one in a PHS cycle. A pin with EN 0, of the other
parity, or whose read was uncorrectable is passed over (R72, R377). -/
def dispatch (n : Nat) (s : State) : State :=
  match nextCand s n with
  | none => s
  | some c =>
    if s.now < dispatchTime s n c then s
    else
      let skip := !c.posted && (s.tb n).eccSkip.contains (c.bank * 65536 + c.index)
      let s1 := announceNext n c (consume n c s)
      if skip || !pinDueIn c.pin (cycleAt s n c.ahead) then s1 else handOver n c s1

/-- PIN_DISPATCH (R83): time passes to the first PHS cycle at which the next pin may be dispatched. A boundary that comes before it is passed
first (CYCLE_BOUNDARY). -/
def execPinDispatch (n : Fin 4) (s : State) : Out :=
  if !s.clocked || !s.tbOn n then .next s else
  .next (match nextCand s n with
    | none => s
    | some c =>
      let dt := dispatchTime s n c - s.now
      if decide (0 < dt) && decide (toBoundary s n ≤ dt) then s else dispatch n (passTime dt s))

/-! ### Pins -/

/-- NOP (R73): the next pin of timebase n fires with no effect. -/
def execNop (n : Fin 4) (s : State) : Out := .next (fire n 0 s).2

/-- MARK (R73): a pin fires with its stamp and its event only. -/
def execMark (n : Fin 4) (s : State) : Out := .next (fire n 12 s).2

/-- PD_WINDOW (R237): the next pin of timebase n opens a window. -/
def execPdWindow (n : Fin 4) (s : State) : Out :=
  .next (match fire n 6 s with
    | (some d, s1) => pdWindow n d.placed d.pin.target d.pin.arg d.stale s1
    | (none, s1) => s1)

/-- What stops a VB_LATCH pin (R74, R95, R174): the counter that advances. -/
def latchGate (s : State) (n p : Nat) : Option Nat :=
  if s.fld (SEQ_P_CTL_TB p) != n || (s.fld (PHS_TB_SRC_TYPE n) == 5 && !s.flag (SEQ_P_CTL_MODE p)) then some (PHS_TB_BIND_MISS_CNT n)
  else if s.flag (SEQ_F_CTL_CLONE_EN p) then some (SEQ_F_CLONE_IGN_CNT p)
  else none

/-- A latch of port p, placed at `placed` quanta, with its flags HOLDOVER, UNLOCKED and LATE: the sequencer's flip (R106), the pipe's take
(R204) and the strings' update points (R229). The clones show the set of their source (R174). -/
def vbLatch (p placed flags : Nat) (s : State) : State :=
  let down := s.flag (SEQ_P_CTL_EN p) && !s.flag (SEQ_P_CTL_MODE p) && !s.flag (SEQ_F_STAT_ACTIVE p)
  let s1 := if down then s.bump (SEQ_F_LINK_DROP_CNT p) else s
  let s2 := seqLatch p placed s1
  let s3 := (clonesOf s p).foldl (fun t c => t.wr (SEQ_P_SET_STAT c) (s2.rd (SEQ_P_SET_STAT p))) s2
  mirrorLights p (ldrLatch p placed (pixLatch p placed flags s3))

/-- VB_LATCH (R106, R204, R215, R229): the next pin of timebase n latches its port. -/
def execVbLatch (n : Fin 4) (s : State) : Out :=
  .next (match fire n 8 s with
    | (some d, s1) =>
      let p := d.pin.target % 4
      match latchGate s1 n p with
      | some r => s1.bump r
      | none => vbLatch p d.placed (stampFlags s1 n + 4 * b2n d.late) s1
    | (none, s1) => s1)

end Sys2Proof.Machine
end

