-- ==== Sys2Proof/Machine/Que.lean ====
section
/-! DEFINITION. Machine/Que.lean: the host interface and the queues (R402 to R443). -/

namespace Sys2Proof.Machine

/-! ### Descriptors (R417 to R419) -/

/-- An n-byte field of a descriptor. -/
def dNat (d : List Byte) (off n : Nat) : Nat := leNat ((d.drop off).take n)
def dOp (d : List Byte) : Nat := dNat d 0 1
def dFlags (d : List Byte) : Nat := dNat d 1 1
def dTag (d : List Byte) : Nat := dNat d 2 2

/-- Does an outcome count as a success (R418)? -/
def okStatus (st : Nat) : Bool := st == stOK || st == stDONE

/-- Is a descriptor's header bad for a server (R418, R419, R445)? -/
def badHeader (server : Nat) (d : List Byte) : Bool :=
  dNat d 5 1 / 16 != 0 || dNat d 6 2 != 0 || dFlags d / 32 != 0 || (bit (dFlags d) 4 && !bit (dFlags d) 2) ||
    (if server = 0 then decide (3 < dOp d) else if server = 1 then decide (dOp d < 0x20) || decide (0x22 < dOp d) else decide (dOp d < 0x40))

/-! ### Shared pieces -/

/-- Change a queue's record. -/
def updQueue (q : Nat) (f : QueueRec → QueueRec) (s : State) : State := s.setQueue q (f (s.queue q))

def qServer (s : State) (q : Nat) : Nat := s.fld (QUE_Q_CTL_SERVER q)
def qCq (s : State) (q : Nat) : Nat := s.fld (QUE_Q_LINK_CQ q)

/-- Is a queue working: ENABLED or STOPPED (R413)? -/
def qLive (s : State) (q : Nat) : Bool := qState s q == 1 || qState s q == 2

/-- Slots reserved in a CQ: one for each claimed entry of the SQs that complete to it (R422). -/
def cqReserved (s : State) (cq : Nat) : Nat :=
  (s.queues.map (fun e => if qType s e.1 == 0 && qCq s e.1 == cq then e.2.claims.length else 0)).sum

/-- Can a CQ reserve one more slot (R422)? -/
def cqRoom (s : State) (cq : Nat) : Bool := decide (qPresent s cq + cqReserved s cq < qSize s cq - 1)

/-- The claim of an entry. -/
def claimOf (s : State) (q idx : Nat) : Option Claim := (s.queue q).claims.find? (fun c => c.idx == idx)

/-- Change the claim of an entry. -/
def updClaim (q idx : Nat) (f : Claim → Claim) (s : State) : State :=
  updQueue q (fun r => { r with claims := r.claims.map (fun c => if c.idx = idx then f c else c) }) s

/-- Drop the accesses that an agent's unit holds under a number: the agent has left (R367). -/
def dropHeld (agent unit sub : Nat) (s : State) : State :=
  showHeld { s with mmu := { s.mmu with held := s.mmu.held.filter (fun h => !(h.agent == agent && h.unit == unit && h.sub == sub)) } }

/-- The abort of an entry no longer reads as pending (R431). -/
def pendEnd (q idx : Nat) (s : State) : State :=
  if s.fld (QUE_ABORT_STAT_ENTRY q) = idx then s.setFld (QUE_ABORT_STAT_PEND q) 0 else s

/-- The bytes of a completion entry, without PHASE (R423). -/
def completionBytes (s : State) (q idx : Nat) (d : List Byte) (status resume : Nat) (result : List Byte) : List Byte :=
  d.take 4 ++ leBytes 1 status ++ (d.drop 5).take 11 ++
    leBytes 2 (if qOwner s q = 0 then q else s.fld (QUE_Q_LINK_LOCAL q)) ++ leBytes 2 idx ++ leBytes 2 (qHead s q) ++ leBytes 2 0 ++
    leBytes 8 resume ++ leBytes 8 s.showTime ++ (result ++ List.replicate 16 0#8).take 16 ++ List.replicate 7 0#8

/-- An entry's outcome is committed (R418, R423, R425): its completion is written, or discarded where the SQ is DRAINING or in ERROR
(R433, R436). -/
def commit (q idx : Nat) (d : List Byte) (status resume : Nat) (result : List Byte) (s0 : State) : State :=
  let s := updQueue q (fun r => { r with claims := r.claims.filter (fun c => c.idx != idx), ended := kset (fun _ => none) r.ended idx (some (dTag d, status)) }) (mirrorEntry q idx 1 s0)
  let cq := qCq s q
  if qState s q = 3 || qState s q = 4 then pendEnd q idx s
  else
    let p := if (bit (dFlags d) 0 && okStatus status) || !qLive s cq then (s, [])
      else ringPut cq (completionBytes s q idx d status resume result) (bit (dFlags d) 1) s
    let s1 := emitAll p.2 (pendEnd q idx p.1)
    emitIf (bit (dFlags d) 3 && !okStatus status) blkQUE 6 svNOTICE 0x60080000
      (q + idx * 2 ^ 12 + status % 256 * 2 ^ 28 + dOp d * 2 ^ 40) s1

/-! ### Claims (R422) -/

/-- An access of a queue's ring entry for reading: the bytes, or none where it waits (R389) or meets a fault (R436). -/
def readEntry (q idx : Nat) (held : Bool) (s : State) : State × Option (List Byte) :=
  let va := qBase s q + 64 * idx
  if !accessServed s (qAsid s q) (qOwner s q) va 64 akREAD then (s, none)
  else match xlate s (qAsid s q) (qOwner s q) va akREAD with
  | .ok t => (targetTouch t 64 17 (keepXlat (qAsid s q) va s), some (loadAt s t 64))
  | .bad c l h =>
    let hold := held
    let s1 := faultOn { agent := 3, unit := q, asid := qAsid s q, va := va, kind := akREAD, cause := c, level := l, hostLeaf := h,
                        held := hold, data := [], sub := 1 } s
    (if hold then updQueue q (fun r => { r with readHeld := true }) s1 else s1, none)

/-- What an attempt to claim gives: nothing, an entry that ended at once, or a claimed entry with its descriptor. -/
inductive ClaimRes where
  | none
  | ended
  | got (idx : Nat) (desc : List Byte)
deriving DecidableEq, Repr

/-- Take the oldest entry off a ring. -/
def advanceHead (q : Nat) (s : State) : State := s.setFld (QUE_Q_HEAD_HEAD q) ((qHead s q + 1) % qSize s q)

/-- One attempt to claim the oldest unclaimed entry of an SQ (R418, R419, R422, R431). `by_` says who takes a descriptor, if anyone can. -/
def claimStep (q : Nat) (by_ : State → List Byte → Option Claimant) (s : State) : State × ClaimRes :=
  let head := qHead s q
  let r := s.queue q
  if qType s q != 0 || qState s q != 1 || !s.driving || r.readHeld || qPresent s q = 0 then (s, .none)
  else match r.skip.find? (fun e => e.1 == head) with
    | some e =>
      let unskip := fun t : State => advanceHead q (updQueue q (fun x => { x with skip := x.skip.filter (fun y => y.1 != head) }) t)
      if !e.2 then (unskip s, .ended)
      else if !cqRoom s (qCq s q) then (s, .none)
      else
        let p := readEntry q head true s
        match p.2 with
        | none => (p.1, .none)
        | some d => (unskip (commit q head d stABORTED 0 [] p.1), .ended)
    | none =>
      if !cqRoom s (qCq s q) then (s, .none)
      else
        let p := readEntry q head true s
        match p.2 with
        | none => (p.1, .none)
        | some d =>
          let prev := kget (fun _ => none) r.ended ((head + qSize s q - 1) % qSize s q)
          if bit (dFlags d) 2 && !r.claims.isEmpty then (p.1, .none)
          else if badHeader (qServer s q) d then (commit q head d stBADDESC 0 [] (advanceHead q p.1), .ended)
          else if bit (dFlags d) 4 && prev.any (fun e => !okStatus e.2) then (commit q head d stABORTED 0 [] (advanceHead q p.1), .ended)
          else match by_ p.1 d with
            | none => (p.1, .none)
            | some b =>
              (advanceHead q (updQueue q (fun x => { x with claims := x.claims ++ [{ idx := head, desc := d, by_ := b }], ended := kset (fun _ => none) x.ended head none }) (mirrorEntry q head 0 p.1)), .got head d)

/-- DMA jobs running, and those of one SQ (R421). -/
def dmaJobs (s : State) : Nat := (s.queues.map (fun e => (e.2.claims.filter (fun c => decide (c.by_ = .dma))).length)).sum

/-- Is a compression unit running a job? -/
def cmpBusy (s : State) (u : Nat) : Bool := s.queues.any (fun e => e.2.claims.any (fun c => decide (c.by_ = .cmp u)))

/-- The lowest-numbered enabled free unit of the kind an opcode needs (R444). -/
def freeUnit (s : State) (op : Nat) : Option Nat :=
  (if op = 0x20 then [0, 1, 2, 3] else [4, 5, 6, 7, 8, 9, 10, 11]).find? (fun u => bit (s.rdN CMP_CTL) u && !cmpBusy s u)

/-- Who takes a descriptor of an SQ served by the DMA engine or the compression units (R421, R444). -/
def serverOf (q : Nat) (s : State) (d : List Byte) : Option Claimant :=
  if 4 ≤ (s.queue q).claims.length then none
  else if qServer s q = 0 then (if dmaJobs s < 16 then some .dma else none)
  else if qServer s q = 1 then (freeUnit s (dOp d)).map Claimant.cmp
  else none

/-- DESCRIPTOR_CLAIM (R422). -/
def execDescriptorClaim (q : Fin 4096) (s : State) : Out :=
  if !s.clocked then .next s else
  .next (if qServer s q = 2 || qServer s q = 3 then s else (claimStep q (serverOf q) s).1)

/-! ### DMA jobs (R420, R421) -/

/-- Why a run of bytes stops: an access that waits for its channel (R389) among them. -/
inductive Stop where
  | none
  | xl (va kind cause level : Nat) (host : Bool)
  | ecc (pa : Nat)
  | wait
deriving DecidableEq, Repr

/-- Store one byte in a context. -/
def putByte (asid fn va : Nat) (b : Byte) (s : State) : State × Stop :=
  if !accessServed s asid fn va 1 akWRITE then (s, .wait)
  else match xlate s asid fn va akWRITE with
  | .ok t => (storeAt t [b] (if t.host then keepXlat asid va s else s), .none)
  | .bad c l h => (s, .xl va akWRITE c l h)

/-- Load one byte in a context. -/
def getByte (asid fn va : Nat) (s : State) : Byte × Stop :=
  if !accessServed s asid fn va 1 akREAD then (0#8, .wait)
  else match xlate s asid fn va akREAD with
  | .ok t => if readsBad s t 1 then (0#8, .ecc t.addr) else ((loadAt s t 1).headD 0#8, .none)
  | .bad c l h => (0#8, .xl va akREAD c l h)

/-- Copy bytes one by one: how many were copied, and why it stopped. Where `ov` holds of a byte, its result is a free value. -/
def copyLoop (asid fn src dst : Nat) (ov : Nat → Bool) : Nat → Nat → State → State × Nat × Stop
  | 0, i, s => (s, i, .none)
  | n + 1, i, s =>
    let g := getByte asid fn (src + i) s
    if g.2 ≠ .none then (s, i, g.2)
    else
      let b := if ov i then Config.freeByte s.freeCtr else g.1
      let s0 := keepXlat asid (src + i) s
      let s1 := if ov i then { s0 with freeCtr := s0.freeCtr + 1 } else s0
      let p := putByte asid fn (dst + i) b s1
      if p.2 ≠ .none then (s, i, p.2) else copyLoop asid fn src dst ov n (i + 1) p.1

/-- Fill bytes one by one from a pattern of 8 bytes (R420). -/
def fillLoop (asid fn dst pat : Nat) : Nat → Nat → State → State × Nat × Stop
  | 0, i, s => (s, i, .none)
  | n + 1, i, s =>
    let p := putByte asid fn (dst + i) (BitVec.ofNat 8 (pat / 256 ^ ((dst + i) % 8))) s
    if p.2 ≠ .none then (s, i, p.2) else fillLoop asid fn dst pat n (i + 1) p.1

/-- Is the body of a DMA descriptor bad (R420)? -/
def badBody (d : List Byte) : Bool :=
  let len := fun n => n == 0 || decide (2 ^ 36 < n)
  match dOp d with
  | 0 => dNat d 16 48 != 0
  | 1 => len (dNat d 32 8) || dNat d 40 24 != 0
  | 2 => len (dNat d 24 8) || dNat d 40 24 != 0
  | _ => dNat d 16 8 % 8 != 0 || dNat d 32 32 != 0

/-- A job of an agent meets a fault: it is held, with the faulting access recorded (R368, R377). -/
def jobStop (agent unit q idx src : Nat) (st : Stop) (s : State) : State :=
  match st with
  | .none | .wait => s
  | .ecc pa => eccUncorr pa src (updClaim q idx (fun c => { c with outcome := some stFAULT }) s)
  | .xl va k c l h =>
    faultOn { agent := agent, unit := unit, asid := qAsid s q, va := va, kind := k, cause := c, level := l, hostLeaf := h,
              held := true, data := [], sub := idx + 2 } (updClaim q idx (fun x => { x with held := true }) s)

/-- Run a claimed DMA job of an opcode (R420, R421, R430): one that is held, aborted or at its end does nothing more. -/
def runJob (q idx op : Nat) (f : Claim → State → State) (s : State) : State :=
  match claimOf s q idx with
  | none => s
  | some c =>
    if c.by_ ≠ .dma || dOp c.desc != op || c.held || c.aborted.isSome || c.outcome.isSome then s
    else if badBody c.desc then updClaim q idx (fun x => { x with outcome := some stBADDESC }) s
    else f c s

/-- A transfer of a job has run to byte `i` of `len` and stopped: its offset is a multiple of 64, or its length (R421). -/
def jobAt (q idx len i : Nat) (st : Stop) (s : State) : State :=
  let s1 := updClaim q idx (fun c => { c with done := if i = len then len else i / 64 * 64 }) (memArrive s)
  if i = len then updClaim q idx (fun c => { c with outcome := some stDONE }) s1 else jobStop 3 q q idx 17 st s1

/-- DMA_NOP (R420). -/
def execDmaNop (q : Fin 4096) (idx : BitVec 16) (s : State) : Out :=
  if !s.clocked then .next s else
  .next (runJob q idx.toNat 0 (fun _ t => updClaim q idx.toNat (fun c => { c with outcome := some stDONE }) t) s)

/-- COPY (R420, R421): at most `bursts` bursts of 64 bytes are performed. -/
def execCopy (q : Fin 4096) (idx : BitVec 16) (bursts : Nat) (s : State) : Out :=
  if !s.clocked then .next s else
  .next (runJob q idx.toNat 1 (fun c t =>
    let src := dNat c.desc 16 8
    let dst := dNat c.desc 24 8
    let len := dNat c.desc 32 8
    let lo := max src dst
    let hi := min (src + len) (dst + len)
    let within := fun a => decide (lo ≤ a) && decide (a < hi)
    let r := copyLoop (qAsid t q) (qOwner t q) src dst (fun i => within (src + i) || within (dst + i)) (min (64 * bursts) (len - c.done)) c.done t
    jobAt q idx.toNat len r.2.1 r.2.2 r.1) s)

/-- FILL (R420, R421). -/
def execFill (q : Fin 4096) (idx : BitVec 16) (bursts : Nat) (s : State) : Out :=
  if !s.clocked then .next s else
  .next (runJob q idx.toNat 2 (fun c t =>
    let len := dNat c.desc 24 8
    let r := fillLoop (qAsid t q) (qOwner t q) (dNat c.desc 16 8) (dNat c.desc 32 8) (min (64 * bursts) (len - c.done)) c.done t
    jobAt q idx.toNat len r.2.1 r.2.2 r.1) s)

/-- WRITE64 (R420): one atomic write. -/
def execWrite64 (q : Fin 4096) (idx : BitVec 16) (s : State) : Out :=
  if !s.clocked then .next s else
  .next (runJob q idx.toNat 3 (fun c t =>
    let dst := dNat c.desc 16 8
    if !accessServed t (qAsid t q) (qOwner t q) dst 8 akWRITE then t
    else match xlate t (qAsid t q) (qOwner t q) dst akWRITE with
    | .ok g => updClaim q idx.toNat (fun x => { x with done := 8, outcome := some stDONE }) (storeAt g ((c.desc.drop 24).take 8) (keepXlat (qAsid t q) dst t))
    | .bad cs l h => jobStop 3 q q idx.toNat 17 (.xl dst akWRITE cs l h) t) s)

/-- DMA_JOB_DONE (R421, R431): the job's completion is committed. -/
def execDmaJobDone (q : Fin 4096) (idx : BitVec 16) (s : State) : Out :=
  if !s.clocked then .next s else
  .next (match claimOf s q idx.toNat with
    | none => s
    | some c =>
      if c.by_ ≠ .dma then s
      else if c.aborted.isSome then dropHeld 3 q (idx.toNat + 2) (commit q idx.toNat c.desc stABORTED c.done [] s)
      else match c.outcome with
        | none => s
        | some o => commit q idx.toNat c.desc o (if o = stFAULT then c.done else 0) [] s)

/-! ### Commands on queues (R411, R413, R433) -/

def setQState (q st : Nat) (s : State) : State := s.setFld (QUE_Q_STAT_STATE q) st
def setQStatus (q st : Nat) (s : State) : State := s.setFld (QUE_Q_STAT_CMD_STATUS q) st

/-- Does ENABLE's check fail with PRECOND (R411)? -/
def enableBad (s : State) (q : Nat) : Bool :=
  let o := qOwner s q
  qType s q == 3 || decide (s.fld (QUE_Q_CTL_LOG2 q) < 4) || qBase s q % 4096 != 0 || !ctxValid s (qAsid s q) ||
    !bit (s.rdN GLB_FN_EN) o ||
    (if qType s q = 0 then
      qType s (qCq s q) != 1 || !qLive s (qCq s q) || qOwner s (qCq s q) != o || qServer s q == 3 ||
        (qServer s q == 2 && s.fld (QUE_Q_CTL_PILLOWS q) == 0) || (s.flag (QUE_Q_CTL_PRODUCER q) && o != 0)
    else decide ((if o = 0 then 2048 else 32) ≤ s.fld (QUE_Q_ASID_VECTOR q)))

/-- Does another queue of the same VF hold the same slot (R411)? -/
def slotTaken (s : State) (q : Nat) : Bool :=
  qOwner s q != 0 && (List.range 4096).any (fun p => p != q && qLive s p && qOwner s p == qOwner s q &&
    s.fld (QUE_Q_LINK_LOCAL p) == s.fld (QUE_Q_LINK_LOCAL q))

/-- Events that waited for a route are written if they have one now (R443, R616). -/
def flushHeld (s : State) : State :=
  let ready := s.heldEvents.filter (fun e => (routeOf s e.block).isSome)
  emitAll ready { s with heldEvents := s.heldEvents.filter (fun e => (routeOf s e.block).isNone) }

/-- ENABLE (R411, R412, R429): HEAD and TAIL start at 0, and the ring is armed. -/
def queueEnable (q : Nat) (s : State) : State :=
  if qState s q != 0 || enableBad s q then setQStatus q stPRECOND s
  else if slotTaken s q then setQStatus q stBUSY s
  else
    let s1 := (((setQState q 1 (setQStatus q stOK (s.setQueue q {}))).setFld (QUE_Q_STAT_ARMED q) 1).wrN (QUE_Q_HEAD q) 0).wrN (QUE_Q_TAIL q) 0
    flushHeld (s1.wrN (QUE_ABORT_STAT q) 0)

/-- QUEUE_ENABLE (R411). -/
def execQueueEnable (q : Fin 4096) (s : State) : Out :=
  if !s.clocked then .next s else
  .next (queueEnable q s)

/-- STOP (R413). -/
def queueStop (q : Nat) (s : State) : State :=
  if qState s q = 1 then setQState q 2 (setQStatus q stOK s) else setQStatus q stPRECOND s

/-- QUEUE_STOP (R413). -/
def execQueueStop (q : Fin 4096) (s : State) : Out :=
  if !s.clocked then .next s else
  .next (queueStop q s)

/-- RESUME (R413). -/
def queueResume (q : Nat) (s : State) : State :=
  if qState s q = 2 then setQState q 1 (setQStatus q stOK s) else setQStatus q stPRECOND s

/-- QUEUE_RESUME (R413). -/
def execQueueResume (q : Fin 4096) (s : State) : Out :=
  if !s.clocked then .next s else
  .next (queueResume q s)

/-- A queue enters DRAINING (R433): unclaimed entries are discarded and claimed ones aborted. -/
def drain (q : Nat) (flr : Bool) (s : State) : State :=
  let s1 := setQState q 3 (updQueue q (fun r => { r with claims := r.claims.map (fun c => { c with aborted := some (c.aborted.getD s.now) }), skip := [], readHeld := false, flrDrain := r.flrDrain || flr }) s)
  let s2 := dropHeld 3 q 0 (dropHeld 3 q 1 s1)
  if qType s q = 0 then
    let s3 := s2.setFld (QUE_Q_HEAD_HEAD q) (qTail s q)
    if (claimOf s q (s.fld (QUE_ABORT_STAT_ENTRY q))).isNone then s3.setFld (QUE_ABORT_STAT_PEND q) 0 else s3
  else s2

/-- DISABLE (R413). -/
def queueDisable (q : Nat) (s : State) : State :=
  if qState s q = 0 || qState s q = 3 then setQStatus q stPRECOND s
  else if qType s q = 1 && (List.range 4096).any (fun p => qType s p == 0 && qLive s p && qCq s p == q) then setQStatus q stBUSY s
  else drain q false (setQStatus q stOK s)

/-- QUEUE_DISABLE (R413). -/
def execQueueDisable (q : Fin 4096) (s : State) : Out :=
  if !s.clocked then .next s else
  .next (queueDisable q s)

/-- QUEUE_DRAINED (R433): a draining queue with no claimed entry left becomes DISABLED. -/
def execQueueDrained (q : Fin 4096) (s : State) : Out :=
  if !s.clocked then .next s else
  .next (
    if qState s q = 3 && (s.queue q).claims.isEmpty then
      let o := qOwner s q
      let s1 := updQueue q (fun r => { r with flrDrain := false }) (setQState q 0 s)
      let s2 := emitAll [queEvent s 3 svINFO (q + o * 2 ^ 12)] s1
      if bit (s.rdN GLB_FN_EN) o && !(List.range 4096).any (fun p => qState s2 p == 3 && qOwner s2 p == o) then
        { s2 with hostIf := { s2.hostIf with flr := s2.hostIf.flr.filter (fun f => f != o) } }
      else s2
    else s)

/-! ### Functions and the link (R404, R405, R411, R433) -/

/-- Drain every queue that a test picks and that is not already DISABLED. -/
def drainAll (p : Nat → Bool) (flr : Bool) (s : State) : State :=
  (List.range 4096).foldl (fun t q => if p q && qState t q != 0 && qState t q != 3 then drain q flr t else t) s

/-- A host-side reset (R405). -/
def hostReset (kind : Nat) (s : State) : State :=
  let s1 := (drainAll (fun _ => true) (kind == 2) s).bump GLB_HOSTRST_CNT
  let s2 := { s1 with msix := [], hostIf := { s1.hostIf with linkDown := s1.hostIf.linkDown || decide (kind < 2) }, heldEvents := s1.heldEvents ++ [{ time := s.showTime, block := blkGLB, sev := svWARNING, code := 5, loc := 0x602C0000, arg := kind }] }
  if kind < 2 then s2.setFld GLB_LINK_UP 0 else s2

/-- VF_RESET (R433): a function-level reset of VF v, or its disabling. -/
def execVfReset (v : Fin 64) (flr : Bool) (s : State) : Out :=
  if !s.mainOn then .next s else
  .next (
    if v = 0 || !bit (s.rdN GLB_FN_EN) v then s
    else
      let s1 := drainAll (fun q => qOwner s q == v) true s
      let busy := (List.range 4096).any (fun q => qState s1 q == 3 && qOwner s1 q == v)
      let s2 := if flr then s1.bump GLB_FLR_CNT else s1.setFld ⟨GLB_FN_EN, v, 1⟩ 0
      let s3 := { s2 with msix := s2.msix.filter (fun e => e.1 / 2048 != v), hostIf := { s2.hostIf with flr := if !flr || busy then v :: s2.hostIf.flr else s2.hostIf.flr } }
      emit blkGLB 6 svNOTICE 0x602C0000 v s3)

/-- VF_ENABLE (R411, R440): the VFs of a mask are enabled. -/
def execVfEnable (mask : BitVec 64) (s : State) : Out :=
  if !s.mainOn then .next s else
  let m := mask.toNat / 2 * 2
  .next { s.wrN GLB_FN_EN (s.rdN GLB_FN_EN ||| m) with hostIf := { s.hostIf with flr := s.hostIf.flr.filter (fun f => !bit m f || bit (s.rdN GLB_FN_EN) f) } }

/-- A GLB event (R443). -/
def glbEvent (code sev arg : Nat) (s : State) : State := emit blkGLB code sev 0x602C0000 arg s

/-- Send the messages of vectors whose pending bit is set and that are not masked (R429). -/
def sendPending (s : State) : State :=
  s.msix.foldl (fun t e =>
    if e.2.pending && !e.2.masked && linkOpen t (e.1 / 2048) then
      { t with msix := kset (fun _ => {}) t.msix e.1 { e.2 with pending := false }, hostMsgs := t.hostMsgs ++ [.msix (e.1 / 2048) (e.1 % 2048) e.2.addr e.2.data] }
    else t) s

/-- PCIE_LINK_UP (R404, R441, R443): not while PE_PERST_N reads asserted (R585), nor after a privileged shutdown (R546). -/
def execPcieLinkUp (width : Nat) (speed : Fin 7) (flit : Bool) (s : State) : Out :=
  if !s.bankUp 7 || s.island.pcieDown || !s.power.mainUp then .next s else
  let slow := decide (speed.val < 4) || decide (width < 4)
  let v := pack [(0, 1, 1), (1, 5, width), (6, 3, speed), (9, 1, b2n flit), (12, 1, b2n slow)]
  let s1 := { s.wrN GLB_LINK v with hostIf := { s.hostIf with linkDown := false } }
  let s2 := glbEvent 1 svINFO v s1
  .next (sendPending (if slow then glbEvent 3 svWARNING v s2 else s2))

/-- The PCI Express link, which is up, goes down (R443): its loss is a host-side reset (R405). -/
def pcieDown (s : State) : State :=
  if !s.flag GLB_LINK_UP then s
  else
    let s1 := (s.setFld GLB_LINK_UP 0).bump GLB_LINK_DOWN_CNT
    hostReset 1 (glbEvent 2 svERROR (s1.rdN GLB_LINK_DOWN_CNT) { s1 with hostIf := { s1.hostIf with linkDown := true } })

/-- PCIE_LINK_DOWN (R405, R443). -/
def execPcieLinkDown (s : State) : Out :=
  if !s.mainOn then .next s else
  .next (pcieDown s)

/-- HOST_RESET (R405): `kind` is 0 conventional or hot, 1 link loss, 2 PF reset, 3 D3hot exit. -/
def execHostReset (kind : Fin 4) (s : State) : Out :=
  if !s.mainOn then .next s else
  .next (if kind = 1 then pcieDown s else hostReset kind s)

/-! ### Doorbells (R414, R415) -/

/-- A doorbell write is dropped (R415). -/
def doorbellBad (fn q v : Nat) (s : State) : State :=
  let s1 := s.bump (QUE_Q_DB_BAD_CNT q)
  if msPassed (s.queue q).dbBadAt s.now then
    emitAll [queEvent s 1 svWARNING (q + fn * 2 ^ 12 + v % 2 ^ 32 * 2 ^ 32)] (updQueue q (fun r => { r with dbBadAt := some s.now }) s1)
  else s1

/-- Is a doorbell write bad whatever the queue's type (R415)? -/
def dbRefused (s : State) (fn q v : Nat) : Bool :=
  fn != qOwner s q || qState s q == 0 || qState s q == 3 || qState s q == 4 || bits v 16 15 != 0 || decide (qSize s q ≤ v % 65536)

/-- A write of an SQ's DB (R414, R415): TAIL moves forward. -/
def sqDoorbell (fn q v : Nat) (s : State) : State :=
  let idx := v % 65536
  let adv := (idx + qSize s q - qTail s q) % qSize s q
  if dbRefused s fn q v || s.flag (QUE_Q_CTL_PRODUCER q) || decide (qSize s q - 1 < qPresent s q + adv) then doorbellBad fn q v s
  else s.setFld (QUE_Q_TAIL_TAIL q) idx

/-- SQ_DOORBELL (R414). -/
def execSqDoorbell (fn : Fin 64) (q : Fin 4096) (v : BitVec 32) (s : State) : Out :=
  if !s.clocked then .next s else
  .next (if qType s q = 0 then sqDoorbell fn q v.toNat s else s)

/-- A write of a CQ's or EQ's DB (R414, R415, R429): HEAD moves forward, and ARM re-arms the ring. -/
def cqDoorbell (fn q v : Nat) (s : State) : State :=
  let idx := v % 65536
  let adv := (idx + qSize s q - qHead s q) % qSize s q
  if dbRefused s fn q v || decide (qPresent s q < adv) then doorbellBad fn q v s
  else
    let s1 := s.setFld (QUE_Q_HEAD_HEAD q) idx
    if bit v 31 then irqCheck true q (s1.setFld (QUE_Q_STAT_ARMED q) 1) else s1

/-- CQ_DOORBELL (R414). -/
def execCqDoorbell (fn : Fin 64) (q : Fin 4096) (v : BitVec 32) (s : State) : Out :=
  if !s.clocked then .next s else
  .next (if qType s q = 0 then s else cqDoorbell fn q v.toNat s)

/-- IRQ_TIMER (R429): time passes to TIME µs after the first entry written since the last signal. -/
def execIrqTimer (q : Fin 4096) (s : State) : Out :=
  let t := s.fld (QUE_Q_IRQ_TIME q)
  if !s.clocked || t = 0 || !(qType s q == 1 || qType s q == 2) then .next s
  else .next (match (s.queue q).firstPend with
    | some f => irqCheck true q (passTime (f + t * 1000 - s.now) s)
    | none => s)

/-! ### Aborts (R430 to R432) -/

/-- What ABORT_STAT reads after a sample. -/
def abortStat (q idx st pend : Nat) (s : State) : State := s.wrN (QUE_ABORT_STAT q) (pack [(0, 8, st), (8, 16, idx), (24, 1, pend)])

/-- A write of ABORT (R430, R431). -/
def abortEntry (q v : Nat) (s : State) : State :=
  let idx := v % 65536
  let tag := v / 65536 % 65536
  let r := s.queue q
  if s.flag (QUE_ABORT_STAT_PEND q) then s.setFld (QUE_ABORT_STAT_STATUS q) stBUSY
  else if qType s q != 0 || qState s q = 0 || decide (qSize s q ≤ idx) then abortStat q idx stBADDESC 0 s
  else if decide ((idx + qSize s q - qHead s q) % qSize s q < qPresent s q) && !r.skip.any (fun e => e.1 == idx) then
    let p := readEntry q idx false s
    match p.2 with
    | none => abortStat q idx stBADDESC 0 p.1
    | some d =>
      if dTag d != tag then abortStat q idx stBADDESC 0 p.1
      else if cqRoom p.1 (qCq s q) then
        commit q idx d stABORTED 0 [] (abortStat q idx stOK 1 (updQueue q (fun x => { x with skip := x.skip ++ [(idx, false)] }) p.1))
      else abortStat q idx stOK 1 (updQueue q (fun x => { x with skip := x.skip ++ [(idx, true)] }) p.1)
  else match claimOf s q idx with
    | some c =>
      if dTag c.desc != tag then abortStat q idx stBADDESC 0 s
      else abortStat q idx stOK 1 (updClaim q idx (fun x => { x with aborted := some (x.aborted.getD s.now) }) s)
    | none =>
      match kget (fun _ => none) r.ended idx with
      | some e => abortStat q idx (if e.1 = tag then stNOTHING else stBADDESC) 0 s
      | none => abortStat q idx stBADDESC 0 s

/-- ABORT (R430). -/
def execAbort (q : Fin 4096) (v : BitVec 32) (s : State) : Out :=
  if !s.clocked then .next s else
  .next (abortEntry q v.toNat s)

/-- How long an aborted pillow entry may wait for its QDONE, in milliseconds: 10 under a function-level reset (R432, R433). -/
def abortLimit (s : State) (q : Nat) : Option Nat :=
  let t := s.rdN (QUE_Q_ABORT_TO q) % 65536
  if (s.queue q).flrDrain then some (if t = 0 then 10 else min t 10) else if t = 0 then none else some t

/-- ABORT_TIMEOUT (R432): time passes to the limit of a pillow entry whose abort has taken effect, and its completion is forced. -/
def execAbortTimeout (q : Fin 4096) (idx : BitVec 16) (s0 : State) : Out :=
  if !s0.clocked then .next s0 else
  .next (match claimOf s0 q idx.toNat, abortLimit s0 q with
    | some c, some lim =>
      match c.by_, c.aborted with
      | .thread _, some t =>
        let s := passTime (t + lim * 1000000 - s0.now) s0
        emitAll [queEvent s 5 svWARNING (q + idx.toNat * 2 ^ 12 + dTag c.desc * 2 ^ 32)]
          (commit q idx.toNat c.desc stABORTED c.prog (leBytes 1 1) s)
      | _, _ => s0
    | _, _ => s0)

end Sys2Proof.Machine
end

