-- ==== Sys2Proof/Machine/Eng.lean ====
section
/-! DEFINITION. Machine/Eng.lean: bobbin threads: their states, registers, faults, mailboxes, moves, contexts, commands and debug (R306
to R312, R324, R331, R337 to R352). A thread is named by its number 4 x bobbin + thread. The instructions follow in the W files. -/

namespace Sys2Proof.Machine

/-! ### Places and registers -/

def bobLoc (b : Nat) : Nat := 0x60000000 + b / 16 * 0x10000 + b % 16 * 0x800

def updTh (u : Nat) (f : Thread → Thread) (s : State) : State := s.setTh u (f (s.th u))

/-- The state of a thread slot (R308). -/
def thState (s : State) (u : Nat) : Nat := s.fld (ENG_B_T_STAT_STATE (u / 4) (u % 4))
def setThState (u v : Nat) (s : State) : State := s.setFld (ENG_B_T_STAT_STATE (u / 4) (u % 4)) v
def setThStatus (u v : Nat) (s : State) : State := s.setFld (ENG_B_T_STAT_CMD_STATUS (u / 4) (u % 4)) v

/-- A thread's program counter. -/
def thPc (s : State) (u : Nat) : Nat := s.rdN (ENG_B_T_PC (u / 4) (u % 4))
def setPc (u v : Nat) (s : State) : State := s.wrN (ENG_B_T_PC (u / 4) (u % 4)) v

def thPriv (s : State) (u : Nat) : Bool := s.flag (ENG_B_T_CFG_PRIV (u / 4) (u % 4))
def thAsid (s : State) (u : Nat) : Nat := s.fld (ENG_B_T_CFG_ASID (u / 4) (u % 4))

/-- A general register (R312): g0 reads 0. -/
def getG (s : State) (u k : Nat) : Word := if k = 0 then 0#64 else kget (fun _ => 0#64) (s.th u).g k

/-- Write a general register (R312): a write to g0 is discarded. -/
def setG (u k : Nat) (v : Word) (s : State) : State :=
  if k = 0 then s else updTh u (fun x => { x with g := kset (fun _ => 0#64) x.g k v }) s

/-- A vector register (R312). -/
def getV (s : State) (u k : Nat) : Vec := kget (fun _ => 0#256) (s.th u).v k
def setV (u k : Nat) (v : Vec) (s : State) : State := updTh u (fun x => { x with v := kset (fun _ => 0#256) x.v k v }) s

/-- A predicate (R312): p0 reads 1. -/
def getP (s : State) (u k : Nat) : Bool := k = 0 || bit (s.th u).p k

/-- Write a predicate (R312): a write to p0 is discarded. -/
def setP (u k : Nat) (v : Bool) (s : State) : State :=
  if k = 0 then s else updTh u (fun x => { x with p := x.p - b2n (bit x.p k) * 2 ^ k + b2n v * 2 ^ k }) s

/-- Status of the last operation (R325, R334). -/
def setOpst (u v : Nat) (s : State) : State := updTh u (fun x => { x with opst := v % 256 }) s

/-- Sticky exception bits (R317, R334). -/
def raise (u ex : Nat) (s : State) : State := updTh u (fun x => { x with fpst := (x.fpst ||| ex) % 64 }) s

/-- A thread event (R352): the thread goes in ARG[1:0]. -/
def thEvent (u code sev rest : Nat) (s : State) : State := emit blkENG code sev (bobLoc (u / 4)) (u % 4 + 4 * rest) s

/-- PC[47:2] at ARG[63:18], less the thread's two bits (R352). -/
def pcArg (s : State) (u : Nat) : Nat := thPc s u / 4 % 2 ^ 46 * 2 ^ 16

/-! ### Leaving a wait or a held access -/

/-- A barrier arrival is withdrawn (R341). -/
def withdraw (u k : Nat) (s : State) : State :=
  let b := s.barrier k
  let l := b.arrived.filter (fun x => x != u)
  s.setBarrier k { count := if l.isEmpty then 0 else b.count, arrived := l }

/-- What a thread was waiting for, or held by, is abandoned: its PC stands at the operation (R338, R341, R345). -/
def abandon (u : Nat) (s : State) : State :=
  let s1 := match (s.th u).wait with
    | .barrier k => withdraw u k s
    | _ => s
  dropHeld 1 u 0 (updTh u (fun x => { x with wait := .nothing }) s1)

/-! ### Faults, halts and retirement -/

/-- A thread enters FAULT (R339): its cause, TRAP code, fault address and the word of the instruction not retired. -/
def threadFault (u cause trap addr word : Nat) (s : State) : State :=
  let b := u / 4
  let t := u % 4
  let s1 := ((setThState u 5 s).wrN (ENG_B_T_FAULT b t) (cause + trap * 16)).wrN (ENG_B_T_FADDR b t) addr
  let s2 := updTh u (fun x => { x with pendInsn := word, pendAddr := addr, wait := .nothing, stepping := false }) s1
  thEvent u 1 svERROR (cause + trap * 16 + pcArg s u) s2

def tcILLEGAL : Nat := 1
def tcMISALIGN : Nat := 2
def tcNOTPERM : Nat := 3
def tcATOMSPACE : Nat := 4
def tcXLATEFAIL : Nat := 5
def tcTRAP : Nat := 6
def tcECC : Nat := 7
def tcUNMAPPED : Nat := 8

/-- A thread enters HALT (R345, R352): 0 a command or HALT, 1 a step, 2 a breakpoint, 3 BKPT. Of the last two the PC is kept (R347). -/
def haltThread (u reason : Nat) (s : State) : State :=
  let s1 := setThState u 4 (updTh u (fun x => { x with stepping := false, stepDone := false, bpPass := false, bpAt := if 2 ≤ reason then some (thPc s u) else none }) (abandon u s))
  thEvent u 2 svINFO (reason + pcArg s u) s1

/-- An instruction retires: the PC moves, INSTRET advances, siblings that yielded to this thread see it issue. -/
def retireTo (u pc : Nat) (s : State) : State :=
  let b := u / 4
  let t := u % 4
  let r := ENG_B_T_INSTRET b t
  let s1 := updTh u (fun x => { x with bpPass := false, wait := .nothing, stepDone := x.stepping, pendInsn := 0, pendAddr := 0 }) (setPc u (pc % 2 ^ 64) (s.wrN r (s.rdN r + 1)))
  [0, 1, 2, 3].foldl (fun z k => if (z.th (4 * b + k)).yieldFor.contains u then updTh (4 * b + k) (fun x => { x with yieldFor := x.yieldFor.filter (fun y => y != u) }) z else z) s1

/-- An instruction retires and the next one follows it. -/
def retire (u : Nat) (s : State) : State := retireTo u (thPc s u + 4) s

/-- A waiting operation ends: its thread runs on (R308). -/
def endWait (u : Nat) (s : State) : State := retire u (setThState u 1 s)

/-! ### Address windows (R309) -/

/-- Where an access of a thread goes; `stall`: it waits for a channel that serves no requests (R389). -/
inductive Place where
  | io (off : Nat)
  | pil (a : Nat)
  | pad (a : Nat)
  | mem (t : Target)
  | bad (cause : Nat)
  | miss (cause level : Nat) (host : Bool)
  | stall
deriving DecidableEq, Repr

/-- Where an address of thread u lies (R309, R310, R355). One with bits [63:48] not 0 is the MMU's to refuse (R353, R365). -/
def place (s : State) (u va kind : Nat) : Place :=
  let b := u / 4
  if va < 0xFFFFF8000000 || 2 ^ 48 ≤ va then
    if !accessServed s (thAsid s u) 0 va 1 kind then .stall
    else match xlate s (thAsid s u) 0 va kind with
    | .ok t => .mem t
    | .bad c l h => .miss c l h
  else if va < 0xFFFFFC000000 then (if thPriv s u then .io (va - 0xFFFFF8000000) else .bad tcNOTPERM)
  else if 0xFFFFFE000000 ≤ va && va < 0xFFFFFF000000 then .pil (va - 0xFFFFFE000000)
  else if 0xFFFFFFC00000 ≤ va && va < 0xFFFFFFE00000 then .pil (b / 16 * 0x200000 + (va - 0xFFFFFFC00000))
  else if 0xFFFFFFFE0000 ≤ va && va < 0x1000000000000 then .pad (b * 0x20000 + (va - 0xFFFFFFFE0000))
  else .bad tcUNMAPPED

/-- An access meets a translation fault: the thread enters XLATE, its access is held (R337, R368). -/
def enterXlate (u va kind word cause level : Nat) (host : Bool) (s : State) : State :=
  let s1 := (setThState u 3 s).wrN (ENG_B_T_FADDR (u / 4) (u % 4)) va
  faultOn { agent := 1, unit := u, asid := thAsid s u, va := va, kind := kind, cause := cause, level := level, hostLeaf := host,
            held := true, data := [] } (updTh u (fun x => { x with pendInsn := word, pendAddr := va }) s1)

/-- Is a breakpoint armed on a thread's PC (R347)? -/
def bpHit (s : State) (u : Nat) : Bool :=
  let b := u / 4
  s.flag (ENG_B_CTL_DBG_EN b) && !(s.th u).bpPass &&
    [0, 1, 2, 3].any (fun k => s.flag (ENG_B_BKPT_EN b k) && s.fld (ENG_B_BKPT_PC b k) == bits (thPc s u) 2 46 && bit (bits (s.rdN (ENG_B_BKPT b k)) 48 4) (u % 4))

/-- Must a thread that yielded still wait for a sibling: one in RUN, of equal priority, that has not issued since (R333)? -/
def yields (s : State) (u : Nat) : Bool :=
  (s.th u).yieldFor.any (fun w => thState s w == 1 && (s.th w).tpri == (s.th u).tpri)

/-- Thread u issues one instruction (R307, R309, R337, R347): `k` is what it does. Nothing happens where the thread is not in RUN, has
finished its step or has yielded; a breakpoint halts it; a fetch that cannot be performed faults. -/
def issue (u : Nat) (k : State → State) (s : State) : State :=
  if thState s u != 1 || (s.th u).stepDone || yields s u then s
  else if bpHit s u then haltThread u 2 s
  else
    let pc := thPc s u
    match place s u pc akFETCH with
    | .bad c => threadFault u c 0 pc 0 s
    | .miss c l h => enterXlate u pc akFETCH 0 c l h s
    | .stall => s
    | .mem t => if readsBad s t 4 then threadFault u tcECC 0 pc 0 (targetTouch t 4 (19 + u / 64) s) else k s
    | _ => k s

/-! ### Mailboxes (R331) -/

/-- A delivery is lost (R331): WAKE_LOST advances; WAKE_LOST is written once per run of losses. -/
def mailLost (u : Nat) (s : State) : State :=
  let r := ENG_B_T_WAKE_LOST (u / 4) (u % 4)
  let s1 := updTh u (fun x => { x with lossRun := true }) (s.bump r)
  if (s.th u).lossRun then s1 else thEvent u 6 svNOTICE (s1.rdN r * 2 ^ 30) s1

/-- Deliver a value to a thread's mailbox (R331): a WAITEV that waits takes it. -/
def deliverMail (u : Nat) (v : Word) (s : State) : State :=
  let st := thState s u
  if st = 0 || st = 7 then mailLost u s
  else if (s.th u).mailFull then mailLost u (updTh u (fun x => { x with mail := v }) s)
  else
    let s1 := updTh u (fun x => { x with lossRun := false }) s
    match (s.th u).wait with
    | .mail d _ => endWait u (setOpst u stOK (setG u d v s1))
    | _ => updTh u (fun x => { x with mail := v, mailFull := true }) s1

/-- WAKE (R331): a pin of a timebase fires and delivers its argument. -/
def execWake (n : Fin 4) (s : State) : Out :=
  .next (match fire n 11 s with
    | (some d, s1) => deliverMail (4 * (d.pin.target % 128) + bits d.pin.target 7 2) (BitVec.ofNat 64 d.pin.arg) s1
    | (none, s1) => s1)

/-! ### Words of the pads and shared memories -/

/-- Is a word of a pad or of a pillow's shared memory uncorrectable? -/
def localBad (pad : Bool) (a n : Nat) (s : State) : Bool :=
  (if pad then s.island.padBad else s.island.pilBad).any (fun w => decide (a / 8 ≤ w) && decide (w ≤ (a + n - 1) / 8))

/-- Mark a word of a pad or of a pillow's shared memory uncorrectable. -/
def localMark (pad : Bool) (a : Nat) (s : State) : State :=
  if pad then { s with island := { s.island with padBad := a / 8 :: s.island.padBad } }
  else { s with island := { s.island with pilBad := a / 8 :: s.island.pilBad } }

/-- Words stored whole are good again. -/
def localClear (pad : Bool) (a n : Nat) (s : State) : State :=
  let keep := fun w : Nat => !(decide (a ≤ w * 8) && decide (w * 8 + 8 ≤ a + n))
  if pad then { s with island := { s.island with padBad := s.island.padBad.filter keep } }
  else { s with island := { s.island with pilBad := s.island.pilBad.filter keep } }

/-! ### Moves (R324) -/

/-- The memory source number of a thread's pillow (R379). -/
def pilSource (u : Nat) : Nat := 19 + u / 64

/-- Read a byte for a move. A move cannot use the I/O window. -/
def moveGet (u va : Nat) (s : State) : Byte × Stop :=
  match place s u va akREAD with
  | .pil a => (kget unwritten s.pilMem a, if localBad false a 1 s then .ecc (2 ^ 40) else .none)
  | .pad a => (kget unwritten s.padMem a, if localBad true a 1 s then .ecc (2 ^ 40) else .none)
  | .mem t => if readsBad s t 1 then (0#8, .ecc t.addr) else ((loadAt s t 1).headD 0#8, .none)
  | .miss c l h => (0#8, .xl va akREAD c l h)
  | .stall => (0#8, .wait)
  | _ => (0#8, .ecc (2 ^ 40))

/-- Write a byte for a move. -/
def movePut (u va : Nat) (v : Byte) (s : State) : State × Stop :=
  match place s u va akWRITE with
  | .pil a => ({ s with pilMem := kset unwritten s.pilMem a v }, .none)
  | .pad a => ({ s with padMem := kset unwritten s.padMem a v }, .none)
  | .mem t => (storeAt t [v] (if t.host then keepXlat (thAsid s u) va s else s), .none)
  | .miss c l h => (s, .xl va akWRITE c l h)
  | .stall => (s, .wait)
  | _ => (s, .ecc (2 ^ 40))

/-- Copy at most n bytes: how many were copied, and why it stopped. Where `ov` holds of a byte, its result is a free value. -/
def moveLoop (u src dst : Nat) (ov : Nat → Bool) : Nat → Nat → State → State × Nat × Stop
  | 0, i, s => (s, i, .none)
  | n + 1, i, s =>
    let g := moveGet u (src + i) s
    if g.2 ≠ .none then (s, i, g.2)
    else
      let b := if ov i then Config.freeByte s.freeCtr else g.1
      let s0 := if src + i < 0xFFFFF8000000 then keepXlat (thAsid s u) (src + i) s else s
      let s1 := if ov i then { s0 with freeCtr := s0.freeCtr + 1 } else s0
      let p := movePut u (dst + i) b s1
      if p.2 ≠ .none then (s, i, p.2) else moveLoop u src dst ov n (i + 1) p.1

def getMove (s : State) (u k : Nat) : Move := kget (fun _ => {}) (s.th u).moves k
def setMove (u k : Nat) (m : Move) (s : State) : State := updTh u (fun x => { x with moves := kset (fun _ => {}) x.moves k m }) s

/-- The moves of a thread that have not ended. -/
def liveMoves (s : State) (u : Nat) : List Nat := (List.range 8).filter (fun k => (getMove s u k).valid)

/-- Perform at most n bytes of a move. -/
def runMove (u k n : Nat) (s : State) : State × Stop :=
  let m := getMove s u k
  let lo := max m.src m.dst
  let hi := min (m.src + m.left) (m.dst + m.left)
  let within := fun a => decide (lo ≤ a) && decide (a < hi)
  let r := moveLoop u m.src m.dst (fun i => within (m.src + i) || within (m.dst + i)) (min n m.left) 0 (memArrive s)
  let z := match place s u m.dst akWRITE with
    | .pad a => localClear true a r.2.1 r.1
    | .pil a => localClear false a r.2.1 r.1
    | _ => r.1
  (setMove u k { m with src := m.src + r.2.1, dst := m.dst + r.2.1, left := m.left - r.2.1 } z, r.2.2)

/-- Start a move in a free slot (R324): a bad length ends it at once with BAD_DESC. -/
def startMove (u src dst len : Nat) (s : State) : State :=
  if len = 0 || 2 ^ 24 < len then updTh u (fun x => { x with moveFail := some (x.moveFail.getD stBADDESC) }) s
  else match (List.range 8).find? (fun k => !(getMove s u k).valid) with
    | some k => setMove u k { valid := true, src := src, dst := dst, left := len } s
    | none => s

/-- A move of a thread has ended: MWAIT and a ninth MOVE may go on (R323, R324). -/
def movesChanged (u : Nat) (s : State) : State :=
  match (s.th u).wait with
  | .moves d =>
    if (liveMoves s u).isEmpty then
      let st := (s.th u).moveFail.getD stOK
      endWait u (setOpst u st (setG u d (BitVec.ofNat 64 st) (updTh u (fun x => { x with moveFail := none }) s)))
    else s
  | .slot a b l => if (liveMoves s u).length < 8 then endWait u (startMove u a b l s) else s
  | _ => s

/-- A move ends with a status (R324). -/
def endMove (u k st : Nat) (s : State) : State :=
  let m := getMove s u k
  let s1 := setMove u k { m with valid := false, suspended := false, status := st } s
  movesChanged u (if st = stOK then s1 else updTh u (fun x => { x with moveFail := some (x.moveFail.getD st) }) s1)

/-- MOVE_DONE (R324): move k runs to its end, or to the fault that suspends or ends it. -/
def execMoveDone (b : Fin 128) (t : Fin 4) (k : Fin 8) (dt : Nat) (s0 : State) : Out :=
  if !s0.clocked then .next (passTime dt s0) else
  let s := passTime dt s0
  let u := 4 * b.val + t.val
  let m := getMove s u k
  if !m.valid || m.suspended || thState s u = 0 || thState s u = 6 || thState s u = 7 then .next s
  else
    let r := runMove u k m.left s
    .next (match r.2 with
      | .none => endMove u k stOK r.1
      | .wait => r.1
      | .ecc pa => endMove u k stFAULT (if 2 ^ 40 ≤ pa then r.1 else eccUncorr pa (pilSource u) r.1)
      | .xl va kd c l h =>
        faultOn { agent := 2, unit := u + 512 * k, asid := thAsid s u, va := va, kind := kd, cause := c, level := l, hostLeaf := h,
                  held := true, data := [] } (setMove u k { getMove r.1 u k with suspended := true } r.1))

/-- Moves stop at their next 4 KiB boundary, reached after a free number of them, or end before it (R341, R343). -/
def stopMoves (u : Nat) (s : State) : State :=
  (liveMoves s u).foldl (fun z k =>
    let m := getMove z u k
    let f := z.takeFree
    if m.suspended then dropHeld 2 (u + 512 * k) 0 z
    else
      let r := runMove u k (4096 * (f.1.toNat % 4097)) f.2
      if r.2 = .none && (getMove r.1 u k).left = 0 then endMove u k stOK r.1 else r.1) s

/-! ### Control registers (R334) -/

/-- CYCLE of a thread (R334). -/
def thCycle (s : State) (u : Nat) : Nat := (s.th u).cycBase + (s.engAcc - (s.th u).cycFrom) / 65536

/-- The value of a control register; none for an unlisted number. -/
def csrRead (s : State) (u n : Nat) : Option Word :=
  let x := s.th u
  let w := fun v : Nat => some (BitVec.ofNat 64 v)
  match n with
  | 0 => w (u / 4 + u % 4 * 128)
  | 1 => w (thCycle s u)
  | 2 => w (s.rdN (ENG_B_T_INSTRET (u / 4) (u % 4)))
  | 3 => w (x.p / 2 * 2 % 256 + 1)
  | 4 => w x.fpst
  | 5 => w x.opst
  | 6 => w x.tpri
  | 7 => w (s.rdN ENG_THROT)
  | 8 => w (s.rdN (ENG_B_T_WAKE_LOST (u / 4) (u % 4)))
  | 9 => w (thAsid s u)
  | 10 => w (b2n (thPriv s u))
  | _ => none

/-- Write a control register; a read-only one ignores it (R334). -/
def csrWrite (u n : Nat) (v : Word) (s : State) : State :=
  match n with
  | 3 => updTh u (fun x => { x with p := v.toNat / 2 % 128 * 2 + 1 }) s
  | 4 => updTh u (fun x => { x with fpst := v.toNat % 64 }) s
  | 6 => updTh u (fun x => { x with tpri := v.toNat % 4 }) s
  | _ => s

/-! ### Contexts (R340 to R343) -/

/-- The bytes of a thread's context (R340). -/
def contextBytes (s : State) (u : Nat) : List Byte :=
  let x := s.th u
  let pend := x.saveState == 3 || x.saveState == 5
  let mv := fun k : Nat =>
    let m := getMove s u k
    leBytes 8 m.src ++ leBytes 8 m.dst ++ leBytes 8 m.left ++ leBytes 8 (b2n m.valid + 2 * b2n m.suspended + m.status * 256)
  ((List.range 64).map (fun k => leBytes 8 (getG s u k).toNat)).flatten ++
  ((List.range 16).map (fun k => leBytes 32 (getV s u k).toNat)).flatten ++
  leBytes 8 (thPc s u) ++ leBytes 1 x.saveState ++ leBytes 1 (x.p / 2 * 2 + 1) ++ leBytes 1 x.tpri ++ leBytes 1 (b2n (thPriv s u) + 2 * b2n x.mailFull) ++
  leBytes 2 (thAsid s u) ++ leBytes 2 0 ++ leBytes 4 x.fpst ++ leBytes 4 x.opst ++ leBytes 8 (thCycle s u) ++
  leBytes 8 (s.rdN (ENG_B_T_INSTRET (u / 4) (u % 4))) ++ leBytes 8 x.mail.toNat ++ leBytes 4 (s.rdN (ENG_B_T_WAKE_LOST (u / 4) (u % 4))) ++
  leBytes 4 (s.rdN (ENG_B_T_FAULT (u / 4) (u % 4))) ++ leBytes 4 (if pend then x.pendInsn else 0) ++ leBytes 4 0 ++ leBytes 8 (if pend then x.pendAddr else 0) ++ List.replicate 56 0#8 ++
  ((List.range 8).map mv).flatten

/-- n bytes of a list from an offset, as a number. -/
def natAt (bs : List Byte) (off n : Nat) : Nat := leNat ((bs.drop off).take n)

/-- May a context be loaded (R342)? -/
def contextOk (bs : List Byte) : Bool :=
  let st := natAt bs 0x408 1
  decide (1 ≤ st) && decide (st ≤ 5) && natAt bs 0x40A 1 / 4 == 0 && natAt bs 0x40B 1 / 4 == 0 && natAt bs 0x40E 2 == 0 && natAt bs 0x43C 4 == 0 &&
    natAt bs 0x448 56 == 0 && (List.range 8).all (fun k => natAt bs (0x480 + 32 * k + 24) 8 % 65536 / 4 % 64 == 0 && natAt bs (0x480 + 32 * k + 26) 6 == 0)

/-- Load a context into a slot (R342). -/
def loadContext (u : Nat) (bs : List Byte) (s : State) : State :=
  let st := natAt bs 0x408 1
  let run := st != 4 && st != 5
  let mv := fun k : Nat =>
    let f := natAt bs (0x480 + 32 * k + 24) 2
    ({ valid := bit f 0, suspended := false, status := f / 256, src := natAt bs (0x480 + 32 * k) 8, dst := natAt bs (0x480 + 32 * k + 8) 8, left := natAt bs (0x480 + 32 * k + 16) 8 } : Move)
  let fails := ((List.range 8).map mv).filter (fun m => !m.valid && m.status != 0)
  let x : Thread := {
    g := (List.range 64).foldl (fun m k => if k = 0 then m else kset (fun _ => 0#64) m k (BitVec.ofNat 64 (natAt bs (8 * k) 8))) [],
    v := (List.range 16).foldl (fun m k => kset (fun _ => 0#256) m k (BitVec.ofNat 256 (natAt bs (0x200 + 32 * k) 32))) [],
    p := natAt bs 0x409 1 / 2 * 2 + 1, tpri := natAt bs 0x40A 1, fpst := natAt bs 0x410 4 % 64, opst := natAt bs 0x414 4 % 256,
    cycBase := natAt bs 0x418 8, cycFrom := s.engAcc, mail := BitVec.ofNat 64 (natAt bs 0x428 8), mailFull := bit (natAt bs 0x40B 1) 1,
    pendInsn := if run then 0 else natAt bs 0x438 4, pendAddr := if run then 0 else natAt bs 0x440 8,
    moves := (List.range 8).foldl (fun m k => kset (fun _ => {}) m k (mv k)) [], moveFail := fails.head?.map (fun m => m.status) }
  let b := u / 4
  let t := u % 4
  let s1 := ((((setPc u (natAt bs 0x400 8) (s.setTh u x)).wrN (ENG_B_T_INSTRET b t) (natAt bs 0x420 8)).wrN (ENG_B_T_WAKE_LOST b t) (natAt bs 0x430 4)).wrN (ENG_B_T_FAULT b t) (natAt bs 0x434 4)).setFld (ENG_B_T_CFG_PRIV b t) (natAt bs 0x40B 1 % 2)
  setThState u (if run then 1 else st) (s1.setFld (ENG_B_T_CFG_ASID b t) (natAt bs 0x40C 2))

/-- A slot becomes EMPTY: its context is discarded. -/
def emptySlot (u : Nat) (s : State) : State := setThState u 0 ((abandon u s).setTh u { lossRun := (s.th u).lossRun })

/-- The context address of a slot. -/
def ctxAddr (s : State) (u : Nat) : Nat := s.rdN (ENG_B_T_CTX (u / 4) (u % 4))

/-- Are the pages of a slot's context mapped and pinned (R341)? -/
def ctxPinned (s : State) (u : Nat) : Bool :=
  let a := ctxAddr s u
  a % 128 == 0 && [a, a + 1407].all (fun va => match walk s (thAsid s u) va with
    | .ok l => l.pin != 0
    | .bad _ _ _ => false)

/-- Are a slot's context bytes served (R389)? -/
def ctxServed (s : State) (u : Nat) : Bool :=
  (List.range 22).all (fun i => accessServed s (thAsid s u) 0 (ctxAddr s u + 64 * i) 64 akREAD)

/-- Write bytes in a context, leaving those that its translation refuses. -/
def storeCtx (asid : Nat) : Nat → List Byte → State → State
  | _, [], s => s
  | va, b :: t, s =>
    storeCtx asid (va + 1) t (match xlate s asid 0 va akWRITE with
      | .ok g => storeAt g [b] s
      | .bad _ _ _ => s)

/-- Read n bytes in a context; none where its translation refuses one. -/
def loadCtx (s : State) (asid va n : Nat) : Option (List Byte) :=
  let rs := (List.range n).map (fun i => match xlate s asid 0 (va + i) akREAD with
    | .ok g => if readsBad s g 1 then [] else loadAt s g 1
    | .bad _ _ _ => [])
  if rs.any (fun r => r.isEmpty) then none else some rs.flatten

/-! ### Commands (R341 to R346) -/

/-- Is a slot moving a context? -/
def slotBusy (s : State) (u : Nat) : Bool := thState s u == 6 || thState s u == 7

/-- A thread starts at a PC with the slot's CFG (R343). -/
def startThread (u pc : Nat) (s : State) : State :=
  let b := u / 4
  let t := u % 4
  let s1 := s.setTh u { p := 1, tpri := s.fld (ENG_B_T_CFG_TPRI b t), cycFrom := s.engAcc }
  let s2 := (((setPc u pc s1).wrN (ENG_B_T_INSTRET b t) 0).wrN (ENG_B_T_WAKE_LOST b t) 0).wrN (ENG_B_T_FAULT b t) 0
  setThState u 1 s2

/-- Are the bobbins held in reset: during the boot read, and in RECOVERY (R598, R599)? -/
def bobbinsHeld (s : State) : Bool := s.fld DBG_BOOT_STAT_STATE == 1 || s.fld DBG_BOOT_STAT_STATE == 3

/-- CMD.START (R343). -/
def cmdStart (u : Nat) (s : State) : State :=
  if bobbinsHeld s then setThStatus u stPRECOND s
  else if thState s u != 0 then setThStatus u stBUSY s else setThStatus u stOK (startThread u (thPc s u) s)

/-- CMD.STOP (R343, R344). -/
def cmdStop (u : Nat) (s : State) : State :=
  if thState s u = 0 then setThStatus u stNOTHING s
  else if slotBusy s u then setThStatus u stOK (updTh u (fun x => { x with stopPend := true }) s)
  else setThStatus u stOK (emptySlot u (stopMoves u (abandon u s)))

/-- CMD.PREEMPT (R341). -/
def cmdPreempt (u : Nat) (s : State) : State :=
  let st := thState s u
  if slotBusy s u then setThStatus u stBUSY s
  else if st = 0 || !ctxPinned s u then setThStatus u stPRECOND s
  else setThStatus u stOK (setThState u 6 (updTh u (fun x => { x with saveState := st, stepping := false, stepDone := false }) (stopMoves u (abandon u s))))

/-- CMD.RESTORE (R342). -/
def cmdRestore (u : Nat) (s : State) : State :=
  if bobbinsHeld s then setThStatus u stPRECOND s
  else if thState s u != 0 then setThStatus u stBUSY s else setThStatus u stOK (setThState u 7 s)

/-- CMD.HALT (R345). -/
def cmdHalt (u : Nat) (s : State) : State :=
  let st := thState s u
  if slotBusy s u then setThStatus u stBUSY s
  else if st = 1 || st = 2 || st = 3 then setThStatus u stOK (haltThread u 0 s)
  else setThStatus u stPRECOND s

/-- CMD.RUN and CMD.STEP (R346, R347): the instruction at which a breakpoint or a BKPT stopped the thread is executed. -/
def cmdResume (u : Nat) (step : Bool) (s : State) : State :=
  if slotBusy s u then setThStatus u stBUSY s
  else if thState s u != 4 then setThStatus u stPRECOND s
  else setThStatus u stOK (setThState u 1 (updTh u (fun x => { x with stepping := step, stepDone := false, bpPass := x.bpAt == some (thPc s u), bpAt := none }) s))

/-- The number of a thread. -/
def unitOf (b : Fin 128) (t : Fin 4) : Nat := 4 * b.val + t.val

/-- CMD_START (R343). -/
def execCmdStart (b : Fin 128) (t : Fin 4) (s : State) : Out :=
  if !s.clocked then .next s else
  .next (cmdStart (unitOf b t) s)

/-- CMD_STOP (R343). -/
def execCmdStop (b : Fin 128) (t : Fin 4) (s : State) : Out :=
  if !s.clocked then .next s else
  .next (cmdStop (unitOf b t) s)

/-- CMD_PREEMPT (R341). -/
def execCmdPreempt (b : Fin 128) (t : Fin 4) (s : State) : Out :=
  if !s.clocked then .next s else
  .next (cmdPreempt (unitOf b t) s)

/-- CONTEXT_SAVE_DONE (R341, R344). -/
def execContextSaveDone (b : Fin 128) (t : Fin 4) (s : State) : Out :=
  if !s.clocked then .next s else
  let u := unitOf b t
  if thState s u != 6 then .next s
  else
    let a := ctxAddr s u
    .next (thEvent u 3 svINFO (a % 2 ^ 48 * 2 ^ 14) (emptySlot u (storeCtx (thAsid s u) a (contextBytes s u) s)))

/-- CMD_RESTORE (R342). -/
def execCmdRestore (b : Fin 128) (t : Fin 4) (s : State) : Out :=
  if !s.clocked then .next s else
  .next (cmdRestore (unitOf b t) s)

/-- CONTEXT_RESTORE_DONE (R342, R344). -/
def execContextRestoreDone (b : Fin 128) (t : Fin 4) (s : State) : Out :=
  if !s.clocked then .next s else
  let u := unitOf b t
  let a := ctxAddr s u
  if thState s u != 7 || !ctxServed s u then .next s
  else
    let stop := (s.th u).stopPend
    match loadCtx s (thAsid s u) a 1408 with
    | some bs =>
      if contextOk bs then
        let s1 := thEvent u 4 svINFO (a % 2 ^ 48 * 2 ^ 14) (loadContext u bs s)
        .next (if stop then emptySlot u s1 else s1)
      else .next (thEvent u 5 svERROR (a % 2 ^ 48 * 2 ^ 14) (setThStatus u stBADDESC (emptySlot u s)))
    | none => .next (thEvent u 5 svERROR (a % 2 ^ 48 * 2 ^ 14) (setThStatus u stBADDESC (emptySlot u s)))

/-- CMD_HALT (R345). -/
def execCmdHalt (b : Fin 128) (t : Fin 4) (s : State) : Out :=
  if !s.clocked then .next s else
  .next (cmdHalt (unitOf b t) s)

/-- CMD_RUN (R346). -/
def execCmdRun (b : Fin 128) (t : Fin 4) (s : State) : Out :=
  if !s.clocked then .next s else
  .next (cmdResume (unitOf b t) false s)

/-- CMD_STEP (R346). -/
def execCmdStep (b : Fin 128) (t : Fin 4) (s : State) : Out :=
  if !s.clocked then .next s else
  .next (cmdResume (unitOf b t) true s)

/-- STEP_DONE (R346). -/
def execStepDone (b : Fin 128) (t : Fin 4) (s : State) : Out :=
  if !s.clocked then .next s else
  let u := unitOf b t
  .next (if thState s u = 1 && (s.th u).stepDone then haltThread u 1 s else s)

/-- BREAKPOINT (R347). -/
def execBreakpoint (b : Fin 128) (t : Fin 4) (s : State) : Out :=
  if !s.clocked then .next s else
  let u := unitOf b t
  .next (if thState s u = 1 && !(s.th u).stepDone && bpHit s u then haltThread u 2 s else s)

/-- A write of the bits of CMD (R344): applied in the order STOP, HALT, PREEMPT, RESTORE, START, RUN, STEP. -/
def threadCmd (u v : Nat) (s : State) : State :=
  let on := fun (i : Nat) (f : State → State) (z : State) => if bit v i then f z else z
  on 6 (cmdResume u true) (on 5 (cmdResume u false) (on 0 (cmdStart u) (on 3 (cmdRestore u) (on 2 (cmdPreempt u) (on 4 (cmdHalt u) (on 1 (cmdStop u) s))))))

/-! ### Debug access (R345, R349) -/

/-- The value of the register that DBG_SEL names (R349). -/
def dbgRead (s : State) (u : Nat) : Word :=
  let b := u / 4
  let t := u % 4
  let r := s.fld (ENG_B_T_DBG_SEL_REG b t)
  if s.flag (ENG_B_T_DBG_SEL_CSR b t) then (csrRead s u r).getD 0#64
  else if r < 0x40 then getG s u r
  else if r < 0x50 then BitVec.ofNat 64 ((getV s u (r - 0x40)).toNat / 2 ^ (64 * s.fld (ENG_B_T_DBG_SEL_PART b t)))
  else if r = 0x50 then s.rd (ENG_B_T_PC b t)
  else if r = 0x51 then (csrRead s u 3).getD 0#64
  else 0#64

/-- Write the register that DBG_SEL names (R345): writes to g0 and p0 are ignored. -/
def dbgWrite (u : Nat) (v : Word) (s : State) : State :=
  let b := u / 4
  let t := u % 4
  let r := s.fld (ENG_B_T_DBG_SEL_REG b t)
  if s.flag (ENG_B_T_DBG_SEL_CSR b t) then csrWrite u r v s
  else if r < 0x40 then setG u r v s
  else if r < 0x50 then
    let k := 64 * s.fld (ENG_B_T_DBG_SEL_PART b t)
    let old := (getV s u (r - 0x40)).toNat
    setV u (r - 0x40) (BitVec.ofNat 256 (old - old / 2 ^ k % 2 ^ 64 * 2 ^ k + v.toNat * 2 ^ k)) s
  else if r = 0x50 then setPc u v.toNat s
  else if r = 0x51 then csrWrite u 3 v s
  else s

/-- A read of DBG_DATA (R345, R348): outside HALT its value is free. -/
def dbgDataRead (u : Nat) (s : State) : State × Word :=
  if thState s u = 4 then (s, dbgRead s u)
  else
    let f := s.takeFree
    (f.2, f.1)

/-- A write of DBG_DATA (R345): outside HALT it does nothing. -/
def dbgDataWrite (u : Nat) (v : Word) (s : State) : State := if thState s u = 4 then dbgWrite u v s else s

/-- DEBUG_REG_ACCESS (R345). -/
def execDebugRegAccess (b : Fin 128) (t : Fin 4) (write : Bool) (v : BitVec 64) (s : State) : Out :=
  if !s.clocked then .next s else
  let u := unitOf b t
  if write then .next (dropAside (ENG_B_T_DBG_DATA b t) (dbgDataWrite u v s))
  else
    let r := dbgDataRead u s
    .next { r.1 with lastRead := r.2 }

/-- ICACHE_INVALIDATE (R350). Which lines the caches hold is not state of this model: instructions come with their commands, so an
invalidation changes nothing that can be seen. -/
def execIcacheInvalidate (_b : Fin 128) (s : State) : Out :=
  if !s.clocked then .next s else
  .next s

/-- A held access of a thread is resolved (R337, R368). -/
def resolveThread (u : Nat) (fail : Bool) (s : State) : State :=
  if thState s u != 3 then s
  else if fail then threadFault u tcXLATEFAIL 0 (s.th u).pendAddr (s.th u).pendInsn s
  else setThState u 1 s

/-- A held access of a move is resolved (R324, R368). -/
def resolveMove (u k : Nat) (fail : Bool) (s : State) : State :=
  let m := getMove s u k
  if !m.valid || !m.suspended then s
  else if fail then endMove u k stFAULT s
  else setMove u k { m with suspended := false } s

/-! ### ECC in the bobbins (R352) -/

/-- A corrected error in a bobbin's pad or a pillow's shared memory (R350 to R352). -/
def engCorrected (u : Nat) (pad : Bool) (off : Nat) (s : State) : State :=
  let b := u / 4
  let k := if pad then b else 128 + off / 0x200000
  let s1 := s.bump (if pad then ENG_B_ECC_CNT b else ENG_PIL_ECC_CNT (off / 0x200000))
  let at_ := kget (fun _ => none) s.engEccAt k
  if msPassed at_ s.now then
    let s2 := { s1 with engEccAt := kset (fun _ => none) s1.engEccAt k (some s.now) }
    if pad then emit blkENG 7 svNOTICE (bobLoc b - 0x20000000 + 1) (off % 0x20000) s2
    else emit blkENG 7 svNOTICE (0x80000000 + off / 0x200000 * 0x10000) (off % 0x200000) s2
  else s1

end Sys2Proof.Machine
end

