-- ==== Sys2Proof/Machine/Cmp.lean ====
section
/-! DEFINITION. Machine/Cmp.lean: the compression engine: the block format, decompressors and compressors (R444 to R464). -/

namespace Sys2Proof.Machine

/-! ### The coded payload (R449, R450) -/

/-- The bits of bytes, from byte 0 and bit 0 upward. -/
def toBits (bs : List Byte) : List Bool := bs.flatMap (fun b => (List.range 8).map (fun i => bit b.toNat i))

/-- Read an n-bit field, least significant bit first. -/
def readBits : Nat → List Bool → Option (Nat × List Bool)
  | 0, t => some (0, t)
  | _ + 1, [] => none
  | n + 1, b :: t => (readBits n t).map (fun r => (b2n b + 2 * r.1, r.2))

/-- Read n code lengths of 4 bits. -/
def readLens : Nat → List Bool → Option (List Nat × List Bool)
  | 0, t => some ([], t)
  | n + 1, t =>
    match readBits 4 t with
    | none => none
    | some (v, t1) => (readLens n t1).map (fun r => (v :: r.1, r.2))

/-- The symbols of a code length, ascending. -/
def symsOf (lens : List Nat) (l : Nat) : List Nat := (List.range lens.length).filter (fun i => lens.getD i 0 == l)

/-- How many lengths are not 0. -/
def usedLens (lens : List Nat) : Nat := (lens.filter (fun l => l != 0)).length

/-- Is a table of lengths allowed (R449)? `dist` allows a table of zeros. -/
def tableFits (dist : Bool) (lens : List Nat) : Bool :=
  if usedLens lens = 0 then dist
  else usedLens lens == 1 || (lens.map (fun l => if l = 0 then 0 else 2 ^ (15 - l))).sum == 2 ^ 15

/-- The lengths that decoding uses: a single code is the bit 0. -/
def effLens (lens : List Nat) : List Nat := if usedLens lens = 1 then lens.map (fun l => min l 1) else lens

/-- Read one canonical code, most significant bit first (R449). -/
def readCode (lens : List Nat) : Nat → Nat → Nat → Nat → List Bool → Option (Nat × List Bool)
  | 0, _, _, _, _ => none
  | _ + 1, _, _, _, [] => none
  | n + 1, l, code, first, b :: t =>
    let c := code + b2n b
    let ss := symsOf lens l
    if c < first + ss.length then some (ss.getD (c - first) 0, t)
    else readCode lens n (l + 1) (2 * c) (2 * (first + ss.length)) t

/-- One code of a table. -/
def readSym (lens : List Nat) (t : List Bool) : Option (Nat × List Bool) := readCode lens 15 1 0 0 t

/-- What a block gives: its bytes, latest first, or its error code (R455). -/
inductive Dec where
  | ok (out : List Byte) (rest : List Bool)
  | bad (err : Nat) (n : Nat)
deriving DecidableEq, Repr

/-- Copy L bytes one at a time from D bytes back; both lists are latest byte first. -/
def copyBack (win : List Byte) (d : Nat) : Nat → List Byte → List Byte
  | 0, out => out
  | n + 1, out => copyBack win d n ((if d ≤ out.length then out.getD (d - 1) 0#8 else win.getD (d - 1 - out.length) 0#8) :: out)

/-- Decode symbols up to END (R450). Each symbol takes a bit at least, so one step more than there are bits is enough. -/
def decodeSyms (lit dist : List Nat) (win : List Byte) : Nat → List Byte → List Bool → Dec
  | 0, out, _ => .bad 5 out.length
  | n + 1, out, t =>
    match readSym lit t with
    | none => .bad 3 out.length
    | some (sym, t1) =>
      if sym < 256 then decodeSyms lit dist win n (BitVec.ofNat 8 sym :: out) t1
      else if sym = 256 then .ok out t1
      else
        let k := sym - 257
        let e := if k < 8 then 0 else (k - 4) / 4
        match readBits e t1 with
        | none => .bad 3 out.length
        | some (x, t2) =>
          let len := (if k < 8 then k else (k - 4 * e) * 2 ^ e + x) + 4
          match readSym dist t2 with
          | none => .bad 3 out.length
          | some (c, t3) =>
            let f := if c < 4 then 0 else (c - 2) / 2
            match readBits f t3 with
            | none => .bad 3 out.length
            | some (y, t4) =>
              let d := (if c < 4 then c else (c - 2 * f) * 2 ^ f + y) + 1
              if 258 < len then .bad 3 out.length
              else if out.length + win.length < d then .bad 4 out.length
              else decodeSyms lit dist win n (copyBack win d len out) t4

/-- Decode a CODED payload behind a window (R449 to R451). -/
def decodeCoded (win payload : List Byte) : Dec :=
  match readBits 5 (toBits payload) with
  | none => .bad 2 0
  | some (a, t1) =>
    match readBits 5 t1 with
    | none => .bad 2 0
    | some (b, t2) =>
      match readLens (a + 257) t2 with
      | none => .bad 2 0
      | some (lit, t3) =>
        match readLens (b + 1) t3 with
        | none => .bad 2 0
        | some (dist, t4) =>
          if 285 < a + 257 || !tableFits false lit || !tableFits true dist || lit.getD 256 0 = 0 then .bad 2 0
          else match decodeSyms (effLens lit) (effLens dist) win (t4.length + 1) [] t4 with
            | .bad e n => .bad e n
            | .ok out rest => if rest.length < 8 && rest.all (fun x => !x) then .ok out [] else .bad 3 out.length

/-! ### Blocks (R448) -/

/-- A block header. -/
structure Hdr where
  kind : Nat
  last : Bool
  reset : Bool
  clen : Nat
  ulen : Nat
  crc : Nat
  bad : Bool
deriving DecidableEq, Repr

/-- The header that 16 bytes spell; `bad` is the check HEADER but for the length of the input (R455). -/
def parseHdr (bs : List Byte) : Hdr :=
  let f := dNat bs 0 2
  let kind := f % 4
  let clen := dNat bs 4 4
  let ulen := dNat bs 8 4
  { kind := kind, last := bit f 2, reset := bit f 3, clen := clen, ulen := ulen, crc := dNat bs 12 4,
    bad := decide (16 ≤ f) || dNat bs 2 2 != 0 || kind == 3 || ulen == 0 || decide (131072 < ulen) ||
      (kind == 2 && clen != 1) || (kind == 0 && clen != ulen) }

/-- The padded length of a payload. -/
def pad8 (n : Nat) : Nat := (n + 7) / 8 * 8

/-- The bytes of a block, earliest first, or its error and how many bytes were decoded (R455). -/
def decodeBlock (h : Hdr) (win payload : List Byte) : Except (Nat × Nat) (List Byte) :=
  let w := if h.reset then [] else win
  let r : Dec := if h.kind = 0 then .ok payload.reverse []
    else if h.kind = 2 then .ok (List.replicate h.ulen (payload.headD 0#8)) []
    else decodeCoded w payload
  match r with
  | .bad e n => .error (e, n)
  | .ok out _ => if out.length != h.ulen then .error (5, out.length) else if crc32 out.reverse != h.crc then .error (6, out.length) else .ok out.reverse

/-- The window after a block's bytes: the latest 65,536 bytes, latest first. -/
def winAfter (h : Bool) (win bs : List Byte) : List Byte := (bs.reverse ++ (if h then [] else win)).take 65536

/-! ### Jobs (R444 to R447) -/

/-- Read n bytes of a context. -/
def getRun (asid fn : Nat) (s : State) : Nat → Nat → List Byte → List Byte × Stop
  | _, 0, acc => (acc.reverse, .none)
  | va, n + 1, acc =>
    let g := getByte asid fn va s
    if g.2 ≠ .none then (acc.reverse, g.2) else getRun asid fn s (va + 1) n (g.1 :: acc)

/-- Write bytes in a context. -/
def putRun (asid fn : Nat) : Nat → List Byte → State → State × Stop
  | _, [], s => (s, .none)
  | va, b :: t, s =>
    let p := putByte asid fn va b s
    if p.2 ≠ .none then (s, p.2) else putRun asid fn (va + 1) t p.1

def optDEPTH (d : List Byte) : Nat := bits (dNat d 52 4) 0 4
def optBLK (d : List Byte) : Nat := bits (dNat d 52 4) 4 4
def optCONT (d : List Byte) : Bool := bit (dNat d 52 4) 8
def optLAST (d : List Byte) : Bool := bit (dNat d 52 4) 9
def optLAZY (d : List Byte) : Bool := bit (dNat d 52 4) 10
def optSTORE (d : List Byte) : Bool := bit (dNat d 52 4) 11

/-- Is the body of a compression descriptor bad (R446, R447)? -/
def badCmpBody (d : List Byte) : Bool :=
  let len := fun lo n => decide (n < lo) || decide (2 ^ 36 < n)
  if dOp d = 0x20 then
    len 1 (dNat d 24 8) || dNat d 32 8 % 8 != 0 || dNat d 40 8 % 8 != 0 || decide (dNat d 40 8 < 24) || decide (65536 < dNat d 48 4) ||
      (dNat d 48 4 != 0 && !optCONT d) || decide (10 < optDEPTH d) || decide (optBLK d < 12) || decide (17 < optBLK d) ||
      bits (dNat d 52 4) 12 20 != 0 || dNat d 56 8 != 0
  else if dOp d = 0x21 then
    dNat d 16 8 % 8 != 0 || len 16 (dNat d 24 8) || len 1 (dNat d 40 8) || decide (65536 < dNat d 48 4) ||
      (dNat d 48 4 != 0 && !optCONT d) || dNat d 52 4 - dNat d 52 4 / 256 % 2 * 256 != 0 || dNat d 56 8 % 8 != 0
  else dNat d 16 8 % 8 != 0 || len 16 (dNat d 24 8) || dNat d 32 32 != 0

/-- The location of a unit (R444). -/
def cmpLoc (u : Nat) : Nat := 0x60090000 + u * 0x800

/-- A unit's registers show a job's progress (R462). -/
def showUnit (u : Nat) (c : Claim) (s : State) : State :=
  ((s.wrN (CMP_U_IN u) c.done).wrN (CMP_U_OUT u) c.out).wrN (CMP_U_BLOCKS u) c.blocks

/-- A check failed (R455, R464). -/
def dataBad (u q err blk : Nat) (s : State) : State :=
  let s1 := s.bump CMP_DATA_BAD_CNT
  if msPassed (kget (fun _ => none) s.cmpBadAt u) s.now then
    emit blkCMP 2 svWARNING (cmpLoc u) (err + blk % 2 ^ 28 * 16 + q * 2 ^ 32) { s1 with cmpBadAt := kset (fun _ => none) s1.cmpBadAt u (some s.now) }
  else s1

/-- Run a claimed job of an opcode on its unit, up to n blocks; an aborted one finishes the block in progress (R458). `f` does one block. -/
def runBlocks (q idx op : Nat) (f : Nat → Claim → State → State) : Nat → State → State
  | 0, s => s
  | n + 1, s =>
    match claimOf s q idx with
    | none => s
    | some c =>
      match c.by_ with
      | .cmp u =>
        if dOp c.desc != op || c.held || c.outcome.isSome then s
        else if badCmpBody c.desc then updClaim q idx (fun x => { x with outcome := some stBADDESC }) s
        else
          let s1 := f u c s
          if c.aborted.isSome then updClaim q idx (fun x => if x.blocks = c.blocks then x else { x with outcome := some (x.outcome.getD stABORTED) }) s1
          else runBlocks q idx op f n s1
      | _ => s

/-- A block is done: the claim moves on (R454, R455). -/
def blockDone (q idx u : Nat) (c : Claim) (s : State) : State :=
  showUnit u c (updClaim q idx (fun x => { c with held := x.held, aborted := x.aborted }) s)

/-- One block of a DECOMPRESS or, with `wr` false, of a VERIFY (R447, R455, R456). -/
def decompressBlock (q idx : Nat) (wr : Bool) (u : Nat) (c : Claim) (s : State) : State :=
  let d := c.desc
  let asid := qAsid s q
  let fn := qOwner s q
  let src := dNat d 16 8 + c.done
  let left := dNat d 24 8 - c.done
  let lim := if wr then dNat d 40 8 else 2 ^ 64
  let dst := dNat d 32 8
  let hist := if wr then dNat d 48 4 else 0
  let stop := fun st t => jobStop 4 u q idx 18 st t
  let fail := fun (e n : Nat) (t : State) =>
    let k := if wr then min n (lim - c.out) else 0
    let p := putRun asid fn (dst + c.out) ((List.range k).map (fun i => Config.freeByte (t.freeCtr + i))) t
    if p.2 ≠ .none then stop p.2 { p.1 with freeCtr := t.freeCtr + k }
    else dataBad u q e c.blocks (blockDone q idx u { c with err := e, outcome := some (if c.aborted.isSome then stABORTED else stBADDESC) }
      { p.1 with freeCtr := t.freeCtr + k })
  if left = 0 then updClaim q idx (fun x => { x with outcome := some stDONE }) s
  else if left < 16 then fail 7 0 s
  else
    let g := getRun asid fn s src 16 []
    if g.2 ≠ .none then stop g.2 s
    else
      let h := parseHdr g.1
      if h.bad || decide (left < 16 + h.clen) then fail 1 0 s
      else if left < 16 + pad8 h.clen then fail 7 0 s
      else if c.blocks = 0 && !h.reset && !(wr && optCONT d) then fail 8 0 s
      else
        let w := if h.reset then ([], Stop.none) else if c.win.isSome then (c.win.getD [], Stop.none) else let r := getRun asid fn s (dst - hist) hist []; (r.1.reverse, r.2)
        let p := getRun asid fn s (src + 16) h.clen []
        if w.2 ≠ .none then stop w.2 s
        else if p.2 ≠ .none then stop p.2 s
        else match decodeBlock h w.1 p.1 with
          | .error (e, n) => fail e n s
          | .ok bs =>
            let o := if wr then putRun asid fn (dst + c.out) (bs.take (lim - c.out)) s else (s, Stop.none)
            if o.2 ≠ .none then stop o.2 o.1
            else
              let beyond := decide (lim < c.out + h.ulen)
              let done := c.done + 16 + pad8 h.clen
              blockDone q idx u { c with done := done, out := if beyond then lim else c.out + h.ulen, blocks := c.blocks + 1, win := some (winAfter h.reset w.1 bs), outcome := if beyond then some stOUTLIMIT else if h.last || done = dNat d 24 8 then some stDONE else none } o.1

/-- DECOMPRESS (R447, R455 to R458): at most `blocks` blocks. -/
def execDecompress (q : Fin 4096) (idx : BitVec 16) (blocks : Nat) (s : State) : Out :=
  if !s.clocked then .next s else
  .next (runBlocks q idx.toNat 0x21 (fun u c t => decompressBlock q idx.toNat true u c t) blocks s)

/-- VERIFY (R447, R455, R458): at most `blocks` blocks. -/
def execVerify (q : Fin 4096) (idx : BitVec 16) (blocks : Nat) (s : State) : Out :=
  if !s.clocked then .next s else
  .next (runBlocks q idx.toNat 0x22 (fun u c t => decompressBlock q idx.toNat false u c t) blocks s)

/-- The bytes of a block (R448). -/
def blockBytes (kind : Nat) (last reset : Bool) (bs payload : List Byte) : List Byte :=
  leBytes 2 (kind + 4 * b2n last + 8 * b2n reset) ++ leBytes 2 0 ++ leBytes 4 payload.length ++ leBytes 4 bs.length ++ leBytes 4 (crc32 bs) ++
    payload ++ List.replicate (pad8 payload.length - payload.length) 0#8

/-- Do all bytes equal the first? -/
def allSame (bs : List Byte) : Bool := bs.all (fun b => b == bs.headD 0#8)

/-- The kind and payload that a compressor picks (R452): the shortest, FILL before STORED before CODED. -/
def pickKind (bs coded : List Byte) (storeOnly : Bool) : Nat × List Byte :=
  if allSame bs then (2, bs.take 1) else if !storeOnly && coded.length < bs.length then (1, coded) else (0, bs)

/-- One block of a COMPRESS (R452 to R454). -/
def compressBlock (q idx : Nat) (u : Nat) (c : Claim) (s : State) : State :=
  let d := c.desc
  let asid := qAsid s q
  let fn := qOwner s q
  let len := dNat d 24 8
  let prime := dNat d 48 4
  let stop := fun st t => jobStop 4 u q idx 18 st t
  let w := if c.win.isSome then (c.win.getD [], Stop.none) else let r := getRun asid fn s (dNat d 16 8 - prime) prime []; (r.1.reverse, r.2)
  let n := min (2 ^ optBLK d) (len - c.done)
  let g := getRun asid fn s (dNat d 16 8 + c.done) n []
  if w.2 ≠ .none then stop w.2 s
  else if g.2 ≠ .none then stop g.2 s
  else
    let bs := g.1
    let reset := c.blocks = 0 && (!optCONT d || prime == 0)
    let k := pickKind bs (Config.codedPayload w.1 bs (optDEPTH d) (optLAZY d)) (optSTORE d)
    let chk : Bool := k.1 != 1 || decide (decodeCoded (if reset then [] else w.1) k.2 = Dec.ok bs.reverse [])
    let k2 := if chk then k else (0, bs)
    let s1 := if chk then s else
      let t := s.bump CMP_VERIFY_FAIL_CNT
      emit blkCMP 1 svERROR (cmpLoc u) (c.blocks % 2 ^ 32 + t.rdN CMP_VERIFY_FAIL_CNT * 2 ^ 32) t
    let last := optLAST d && decide (c.done + n = len)
    let out := blockBytes k2.1 last reset bs k2.2
    if dNat d 40 8 < c.out + out.length then updClaim q idx (fun x => { x with outcome := some (if c.aborted.isSome then stABORTED else stOUTFULL) }) s1
    else
      let p := putRun asid fn (dNat d 32 8 + c.out) out s1
      if p.2 ≠ .none then stop p.2 p.1
      else blockDone q idx u { c with done := c.done + n, out := c.out + out.length, blocks := c.blocks + 1, win := some (winAfter false w.1 bs), outcome := if c.done + n = len then some stDONE else none } p.1

/-- COMPRESS (R446, R452 to R454, R458): at most `blocks` blocks. -/
def execCompress (q : Fin 4096) (idx : BitVec 16) (blocks : Nat) (s : State) : Out :=
  if !s.clocked then .next s else
  .next (runBlocks q idx.toNat 0x20 (fun u c t => compressBlock q idx.toNat u c t) blocks s)

/-- The RESULT of a compression completion (R460). -/
def cmpResult (c : Claim) : List Byte := leBytes 8 c.out ++ leBytes 4 c.blocks ++ leBytes 1 c.err ++ leBytes 3 0

/-- CMP_JOB_DONE (R457 to R460): POST is written for a DECOMPRESS that ends DONE or OUT_LIMIT, and then the completion. -/
def execCmpJobDone (q : Fin 4096) (idx : BitVec 16) (s : State) : Out :=
  if !s.clocked then .next s else
  .next (match claimOf s q idx.toNat with
    | none => s
    | some c =>
      match c.by_ with
      | .cmp u =>
        let fin := fun (st : Nat) (t : State) =>
          dropHeld 4 u (idx.toNat + 2) (commit q idx.toNat c.desc st c.done (cmpResult c) (t.bump (CMP_U_JOB_CNT u)))
        let post := dNat c.desc 56 8
        if c.aborted.isSome then (if c.held || c.outcome.isSome then fin stABORTED s else s)
        else if c.held then s
        else match c.outcome with
          | none => s
          | some o =>
            if dOp c.desc = 0x21 && post != 0 && (o == stDONE || o == stOUTLIMIT) then
              if !accessServed s (qAsid s q) (qOwner s q) post 8 akWRITE then memArrive s
              else match xlate s (qAsid s q) (qOwner s q) post akWRITE with
              | .ok t => fin o (storeAt t ((c.desc.drop 8).take 8) (keepXlat (qAsid s q) post s))
              | .bad cs l h => jobStop 4 u q idx.toNat 18 (.xl post akWRITE cs l h) s
            else fin o s
      | _ => s)

end Sys2Proof.Machine
end

