-- ==== Sys2Proof/Machine/Nvm.lean ====
section
/-! DEFINITION. Machine/Nvm.lean: the geode: its journal, the log, firmware images and the LEDGER object (R567 to R575, R579, R582). -/

namespace Sys2Proof.Machine

def updGeode (f : Geode → Geode) (s : State) : State := { s with geode := f s.geode }
/-- Does the safety island run, and with it the geode and the store (R546, R588, R589)? -/
def islandRuns (s : State) : Bool := s.power.islandUp && s.island.privAt.isNone
def nvmEvent (code sev arg : Nat) (s : State) : State := emit blkNVM code sev 0x60540000 arg s

/-! ### The write window (R544, R570) -/

/-- Is a temperature in 1/16 °C at least −25 °C and below 100 °C? -/
def inWindow (t : Int) : Bool := decide (-400 ≤ t) && decide (t < 1600)

/-- Is the geode write window open (R570)? Not before the first round has measured it (DEDUCED, log entry 105). -/
def windowOpen (s : State) : Bool :=
  s.island.stepped && (List.range 10).all (fun z => inWindow (sext (s.rdN (HKP_Z z)) 16)) && inWindow (sext (s.rdN (HKP_CH 56) / 65536) 16) &&
    !s.island.vinLow && !s.flag HKP_STAT_RATE_HOLD && !isLatched s

/-- The window is judged anew: its two status bits follow, and a write in progress notes that it has closed (R571). -/
def noteWindow (s : State) : State :=
  let w := windowOpen s
  let s1 := (s.setFld HKP_STAT_WINDOW (b2n w)).setFld NVM_STAT_WINDOW (b2n w)
  updGeode (fun g => { g with op := g.op.map (fun o => { o with closed := o.closed || !w }) }) s1

/-! ### Slots (R567 to R569) -/

def objPages (o : Nat) : Nat := [0, 16, 12288, 1024, 256, 16, 8192].getD o 0
def slotPage (o sl : Nat) : Nat := [0, 0, 32, 24608, 26656, 27168, 27200].getD o 0 + sl * objPages o
def objIds : List Nat := [1, 2, 3, 4, 5, 6]
def magicH : Nat := 0x47454F48
def magicC : Nat := 0x47454F43
def magicL : Nat := 0x47454F4C
def storeRead (s : State) (page off n : Nat) : List Byte := readMem s.store (page * 4096 + off) n

/-- What a header or commit record says: MAGIC, OBJECT, SLOT, SEQ, LEN, DCRC, HCRC. -/
structure NvmHdr where
  magic : Nat
  obj : Nat
  slot : Nat
  seq : Nat
  len : Nat
  dcrc : Nat
  hcrc : Nat
deriving DecidableEq, Repr

/-- The record at the head of a page. -/
def hdrAt (s : State) (page : Nat) : NvmHdr :=
  let b := storeRead s page 0 64
  { magic := dNat b 0 4, obj := dNat b 4 1, slot := dNat b 5 1, seq := dNat b 8 8, len := dNat b 16 8, dcrc := dNat b 24 4, hcrc := dNat b 28 4 }

/-- A slot's header, if it is correct (R569). -/
def slotHdr (s : State) (o sl : Nat) : Option NvmHdr :=
  let p := slotPage o sl
  let h := hdrAt s p
  if h.magic == magicH && h.obj == o && h.slot == sl && h.hcrc == crc32 (storeRead s p 0 28) then some h else none

/-- A slot's header, if the slot is valid (R569). -/
def slotValid (s : State) (o sl : Nat) : Option NvmHdr :=
  match slotHdr s o sl with
  | none => none
  | some h =>
    let n := ceilDiv h.len 4096
    let p := slotPage o sl + 1 + n
    let c := hdrAt s p
    if decide (n + 2 ≤ objPages o) && c.magic == magicC && c.obj == o && c.slot == sl && dNat (storeRead s p 0 64) 40 4 == crc32 (storeRead s p 0 40) &&
        c.seq == h.seq && c.len == h.len && c.dcrc == h.dcrc && c.hcrc == h.hcrc && crc32 (storeRead s (slotPage o sl + 1) 0 h.len) == h.dcrc
    then some h else none

/-- The newest valid slot of an object (R569): its slot and header. -/
def newestSlot (s : State) (o : Nat) : Option (Nat × NvmHdr) :=
  match slotValid s o 0, slotValid s o 1 with
  | some a, some b => if a.seq < b.seq then some (1, b) else some (0, a)
  | some a, none => some (0, a)
  | none, some b => some (1, b)
  | none, none => none

/-- Is a slot a cut write (R569)? -/
def isCut (s : State) (o sl : Nat) : Option Nat :=
  match slotHdr s o sl with
  | none => none
  | some h =>
    if (slotValid s o sl).isSome then none
    else match newestSlot s o with
      | some n => if n.2.seq < h.seq then some h.seq else none
      | none => some h.seq

/-- NVM_SLOT_STAT (R579). -/
def showSlots (s : State) : State :=
  s.wrN NVM_SLOT_STAT (objIds.map (fun o => 16 ^ o * pack [(0, 1, b2n (slotValid s o 0).isSome), (1, 1, b2n (slotValid s o 1).isSome),
    (2, 1, b2n ((newestSlot s o).map (fun n => n.1) == some 1)), (3, 1, b2n ((isCut s o 0).isSome || (isCut s o 1).isSome))])).sum

/-- A cut write that no LEDGER lists is found (R569). One found since power-on reset is counted once. -/
def foundCut (o seq : Nat) (s : State) : State :=
  if kget (fun _ => 0) s.geode.cuts o = seq || s.geode.found.contains (o, seq) then s
  else nvmEvent 3 svWARNING (o + seq % 2 ^ 56 * 256)
    (updGeode (fun g => { g with due := true, found := g.found ++ [(o, seq)] }) (s.bump NVM_WR_ABORT))

/-- The geode scans every object (R569). -/
def geodeScan (s : State) : State :=
  showSlots (objIds.foldl (fun t o => [0, 1].foldl (fun u sl => match isCut u o sl with
    | some q => foundCut o q u
    | none => u) t) s)

/-! ### The LEDGER object (R569, R575) -/

/-- What a LEDGER written now holds. -/
def ledgerNow (s : State) : Ledger :=
  { eq := s.rdN HKP_LEDGER_EQ, time := s.rdN HKP_LEDGER_TIME, tmax := s.rdN HKP_T_MAX, seen := s.island.seen, priv := s.rdN HKP_PRIV_CNT,
    arr := (List.range 12).map (fun i => s.rdN (HKP_ARR_EQ i)), life := min (s.rdN NVM_WR_ABORT_LIFE + s.geode.found.length) 0xFFFFFFFF,
    cuts := s.geode.found.foldl (fun m e => kset (fun _ => 0) m e.1 e.2) s.geode.cuts }

/-- The words of a record, from which its payload is made. -/
def ledgerWords (l : Ledger) : List Nat :=
  [l.eq, l.time, l.tmax, b2n l.seen, l.priv, l.life] ++ l.arr ++ objIds.map (kget (fun _ => 0) l.cuts)

/-- The registers take what a LEDGER holds (R575). -/
def loadLedger (l : Ledger) (s : State) : State :=
  let s1 := ((((s.wrN HKP_LEDGER_EQ l.eq).wrN HKP_LEDGER_TIME l.time).wrN HKP_T_MAX l.tmax).wrN HKP_PRIV_CNT l.priv).wrN NVM_WR_ABORT_LIFE l.life
  let s2 := (List.range 12).foldl (fun t i => t.wrN (HKP_ARR_EQ i) (l.arr.getD i 0)) s1
  updGeode (fun g => { g with cuts := l.cuts }) { s2 with island := { s2.island with seen := l.seen } }

def nvmStatus (st : Nat) (s : State) : State := s.setFld NVM_STAT_STATUS st

/-- A write of an object begins: its header page is being programmed (R570). -/
def startWrite (op o : Nat) (data : List Byte) (asked : Bool) (led : Option Ledger) (s : State) : State :=
  let n := newestSlot s o
  let sl := match n with
    | some x => 1 - x.1
    | none => 0
  let seq := match n with
    | some x => (x.2.seq + 1) % 2 ^ 64
    | none => 1
  let s1 := updGeode (fun g => { g with op := some { op := op, obj := o, slot := sl, data := data, seq := seq, start := s.showTime, asked := asked, led := led, at_ := s.now } })
    (s.setFld NVM_STAT_BUSY 1)
  if asked then ((s1.setFld NVM_STAT_CUT 0).setFld NVM_STAT_FALLBACK 0).wrN NVM_DONE 0 else s1

/-- The island writes the LEDGER (R575). -/
def startLedger (asked : Bool) (s : State) : State :=
  let l := ledgerNow s
  startWrite 5 5 ((Config.ledgerPayload (ledgerWords l)).take 57344) asked (some l) s

/-- A LEDGER write that is due starts as soon as the window is open (R569, R575). -/
def startDue (s : State) : State :=
  if s.geode.due && s.geode.op.isNone && windowOpen s then startLedger false s else s

/-! ### Commands (R570, R572) -/

/-- What refuses every command: latched shutdown (R545), then a command that runs (R572). -/
def unlessNvmBusy (s : State) (f : State → State) : State :=
  if isLatched s then nvmStatus stPRECOND s
  else if s.geode.op.isSome then nvmStatus stBUSY s
  else f s

/-- Do NVM_ADDR and a length lie in device memory, aligned? -/
def badRange (s : State) (len : Nat) : Bool := s.rdN NVM_ADDR % 8 != 0 || decide (2 ^ 32 < s.rdN NVM_ADDR + len)

/-- Does device memory hold an uncorrectable burst in a range? -/
def rangeBad (s : State) (a n : Nat) : Bool := n != 0 && s.memc.uncorr.any (fun b => decide (a / 64 ≤ b) && decide (b ≤ (a + n - 1) / 64))

/-- The 48 bytes of a key hash (R579). -/
def keyHash (s : State) (k : Nat) : List Byte :=
  (List.range 12).flatMap (fun i => leBytes 4 (s.rdN (if k = 0 then NVM_KEYHASH0 i else NVM_KEYHASH1 i)))

/-- Why an image does not verify (R573): 5 format, 1 digest, 2 key, 3 signature, 4 SVN; 0 where it verifies. -/
def verifyImage (s : State) (hdr body : List Byte) : Nat :=
  let ks := dNat hdr 24 4
  if dNat hdr 0 4 != 0x52574D46 || dNat hdr 4 4 != 512 || dNat hdr 8 8 != body.length then 5
  else if Config.sha384 body != (hdr.drop 40).take 48 then 1
  else if decide (1 < ks) || Config.sha384 ((hdr.drop 96).take 97) != keyHash s ks || (ks == 1 && !s.flag NVM_FUSE_KEY1_EN) then 2
  else if !Config.ecdsaValid ((hdr.drop 96).take 97) ((hdr.drop 200).take 96) (hdr.take 200) then 3
  else if dNat hdr 20 4 < s.rdN NVM_SVN_MIN then 4
  else 0

/-- An image is refused (R573). -/
def imageReject (reason : Nat) (s : State) : State := nvmEvent 5 svERROR reason (nvmStatus stNOTPERM s)

/-- The geode reads a payload from device memory (R377): it is no source of R379, and names itself 31 (DESIGN CHOICE, log entry 106). -/
def nvmTouch (len : Nat) (s : State) : State := if len = 0 then s else devRead (s.rdN NVM_ADDR) len 31 s

/-- WRITE (R570). -/
def nvmWrite (o : Nat) (s : State) : State :=
  unlessNvmBusy s (fun s =>
    let len := s.rdN NVM_LEN
    if o = 1 || o = 5 then nvmStatus stNOTPERM s
    else if o = 0 || 6 < o || (objPages o - 2) * 4096 < len || badRange s len then nvmStatus stBADDESC s
    else if !windowOpen s then nvmStatus stPRECOND s
    else if rangeBad s (s.rdN NVM_ADDR) len then nvmStatus stFAULT (nvmTouch len s)
    else
      let data := readMem s.dram (s.rdN NVM_ADDR) len
      let why := if o = 2 then verifyImage s (data.take 512) (data.drop 512) else 0
      let t := nvmTouch len s
      if why != 0 then imageReject why t else startWrite 1 o data true none t)

/-- NVM_WRITE (R570, R573). -/
def execNvmWrite (o : Fin 16) (s : State) : Out :=
  if !s.mainOn then .next s else
  .next (nvmWrite o s)

/-- READ (R572): the newest valid copy is being read. -/
def nvmRead (o : Nat) (s : State) : State :=
  unlessNvmBusy s (fun s =>
    if o = 0 || 6 < o then nvmStatus stBADDESC s
    else match newestSlot s o with
      | none => nvmStatus stPRECOND s
      | some n =>
        if s.rdN NVM_LEN < n.2.len || badRange s n.2.len then nvmStatus stBADDESC s
        else updGeode (fun g => { g with op := some { op := 2, obj := o, slot := n.1, seq := n.2.seq, addr := s.rdN NVM_ADDR, len := s.rdN NVM_LEN, at_ := s.now } })
          ((((s.setFld NVM_STAT_BUSY 1).setFld NVM_STAT_CUT 0).setFld NVM_STAT_FALLBACK 0).wrN NVM_DONE 0))

/-- NVM_READ (R572). -/
def execNvmRead (o : Fin 16) (s : State) : Out :=
  if !s.mainOn then .next s else
  .next (nvmRead o s)

/-- A command ends. -/
def nvmEnd (st : Nat) (s : State) : State := nvmStatus st (updGeode (fun g => { g with op := none }) (s.setFld NVM_STAT_BUSY 0))

/-- An object's copy, or a log page's payload, goes to device memory. -/
def nvmCopy (addr : Nat) (data : List Byte) (seq : Nat) (s : State) : State :=
  nvmEnd stOK (((storeDev addr data s).wrN NVM_DONE data.length).wrN NVM_SEQ seq)

/-! ### The log (R572) -/

def logPage (seq : Nat) : Nat := 43584 + seq % 21952

/-- The bytes of a log page (log entry 40): MAGIC, four zeros, page sequence, payload length, CRC-32 of the page with this field 0, then zeros
to 32. -/
def logBytes (seq : Nat) (data : List Byte) (crc : Nat) : List Byte :=
  leBytes 4 magicL ++ leBytes 4 0 ++ leBytes 8 seq ++ leBytes 4 data.length ++ leBytes 4 crc ++ leBytes 8 0 ++ data ++ List.replicate (4064 - data.length) 0#8

/-- The sequence and payload of a page of the ring, if it is valid. -/
def logAt (s : State) (page : Nat) : Option (Nat × List Byte) :=
  let b := storeRead s page 0 4096
  let n := dNat b 16 4
  let q := dNat b 8 8
  let d := (b.drop 32).take n
  if dNat b 0 4 == magicL && decide (n ≤ 4064) && logPage q == page && dNat b 20 4 == crc32 (logBytes q d 0) then some (q, d) else none

/-- The valid page sequences of the ring. -/
def logSeqs (s : State) : List Nat :=
  (((s.store.map (fun e => e.1 / 4096)).filter (fun p => decide (43584 ≤ p))).eraseDups).filterMap (fun p => (logAt s p).map (fun e => e.1))

/-- NVM_LOG_FIRST and NVM_LOG_NEXT (R579). -/
def showLog (s : State) : State :=
  match logSeqs s with
  | [] => s
  | q :: t => (s.wrN NVM_LOG_FIRST (t.foldl min q)).wrN NVM_LOG_NEXT (max (s.rdN NVM_LOG_NEXT) (t.foldl max q + 1))

/-- Is a payload one or more blocks of the compressed format, by their headers and lengths (R572, R449)? -/
def blocksOk : Nat → List Byte → Bool
  | 0, _ => false
  | n + 1, bs =>
    let h := parseHdr (bs.take 16)
    let len := 16 + pad8 h.clen
    if bs.length < 16 || h.bad || bs.length < len then false
    else if bs.length = len then true else blocksOk n (bs.drop len)

/-- LOG_APPEND (R572). -/
def logAppend (s : State) : State :=
  unlessNvmBusy s (fun s =>
    let len := s.rdN NVM_LEN
    let data := readMem s.dram (s.rdN NVM_ADDR) len
    if len = 0 || 4064 < len || badRange s len then nvmStatus stBADDESC s
    else if rangeBad s (s.rdN NVM_ADDR) len then nvmStatus stFAULT (nvmTouch len s)
    else if !blocksOk 4064 data then nvmStatus stBADDESC (nvmTouch len s)
    else if !windowOpen s then nvmStatus stPRECOND s
    else updGeode (fun g => { g with op := some { op := 3, obj := 7, data := data, seq := s.rdN NVM_LOG_NEXT, at_ := s.now } })
      ((((nvmTouch len s).setFld NVM_STAT_BUSY 1).setFld NVM_STAT_CUT 0).wrN NVM_DONE 0))

/-- LOG_APPEND (R572). -/
def execLogAppend (s : State) : Out :=
  if !s.mainOn then .next s else
  .next (logAppend s)

/-- LOG_READ (R572). -/
def logRead (s : State) : State :=
  unlessNvmBusy s (fun s =>
    let q := s.rdN NVM_LOG_SEQ
    match logAt s (logPage q) with
    | none => nvmStatus stPRECOND s
    | some e =>
      if e.1 != q then nvmStatus stPRECOND s
      else if s.rdN NVM_LEN < e.2.length || badRange s e.2.length then nvmStatus stBADDESC s
      else updGeode (fun g => { g with op := some { op := 4, obj := 7, seq := q, addr := s.rdN NVM_ADDR, len := s.rdN NVM_LEN, at_ := s.now } })
        (((s.setFld NVM_STAT_BUSY 1).setFld NVM_STAT_CUT 0).wrN NVM_DONE 0))

/-- LOG_READ (R572). -/
def execLogRead (s : State) : Out :=
  if !s.mainOn then .next s else
  .next (logRead s)

/-- The pages that a read command reads (R567, R568): of a slot its header, payload and commit pages, or one page of the log. -/
def readPages (s : State) (o : NvmOp) : Nat :=
  if o.op = 4 then 1 else match slotHdr s o.obj o.slot with
    | some h => ceilDiv h.len 4096 + 2
    | none => 1

/-- A read command's page reads have ended; `bad` where the store misreads the copy. -/
def readDone (o : NvmOp) (bad : Bool) (s : State) : State :=
  if o.op = 4 then
    match logAt s (logPage o.seq) with
    | some e => if bad then nvmEnd stFAULT s else nvmCopy o.addr e.2 o.seq s
    | none => nvmEnd stPRECOND s
  else
    match if bad then none else slotValid s o.obj o.slot with
    | some h => nvmCopy o.addr (storeRead s (slotPage o.obj o.slot + 1) 0 h.len) h.seq s
    | none =>
      match if s.flag NVM_STAT_FALLBACK then none else slotValid s o.obj (1 - o.slot) with
      | none => nvmEnd stPRECOND s
      | some h =>
        let s1 := nvmEvent 4 svWARNING (o.obj + h.seq % 2 ^ 56 * 256) (s.setFld NVM_STAT_FALLBACK 1)
        if o.len < h.len || decide (2 ^ 32 < o.addr + h.len) then nvmEnd stBADDESC s1
        else updGeode (fun g => { g with op := some { o with slot := 1 - o.slot, seq := h.seq, at_ := s1.now } }) s1

/-- NVM_READ_DONE (R567, R572): the page reads end `lag` ns after they began, at most 50 µs for each page; `bad` where the store misreads the copy,
so that its CRC fails. Device memory takes the copy while the main die runs. -/
def execNvmReadDone (lag : Nat) (bad : Bool) (s0 : State) : Out :=
  if !islandRuns s0 || !s0.clocked then .next s0 else
  .next (match s0.geode.op with
    | none => s0
    | some o =>
      if o.op = 4 || o.op = 2 then
        startDue (readDone o bad (passTime (o.at_ + min lag (50000 * readPages s0 o) - s0.now) s0))
      else s0)

/-! ### Programming (R568, R570, R571) -/

/-- Program a page. -/
def program (page : Nat) (bs : List Byte) (s : State) : State := { s with store := writeMem s.store (page * 4096) (bs ++ List.replicate (4096 - bs.length) 0#8) }

/-- The header page of a write (R568). -/
def headerBytes (o : NvmOp) : List Byte :=
  let b := leBytes 4 magicH ++ leBytes 1 o.obj ++ leBytes 1 o.slot ++ leBytes 2 1 ++ leBytes 8 o.seq ++ leBytes 8 o.data.length ++ leBytes 4 (crc32 o.data)
  b ++ leBytes 4 (crc32 b) ++ leBytes 8 o.start

/-- The commit page of a write (R568). -/
def commitBytes (o : NvmOp) (t : Nat) : List Byte :=
  let h := (headerBytes o).take 32
  let b := leBytes 4 magicC ++ h.drop 4 ++ leBytes 8 t
  b ++ leBytes 4 (crc32 b)

/-- The pages of a payload. -/
def dataPages (o : NvmOp) : Nat := ceilDiv o.data.length 4096

/-- A write is cut (R571). -/
def cutWrite (o : NvmOp) (s : State) : State :=
  let s1 := updGeode (fun g => { g with op := none }) (s.setFld NVM_STAT_BUSY 0)
  let s2 := if o.asked then nvmStatus stPRECOND (s1.setFld NVM_STAT_CUT 1) else s1
  geodeScan (nvmEvent 2 svWARNING (o.obj + (o.step + 1) * 256) s2)

/-- A write ends OK: its commit page is programmed (R570, R569). -/
def writeDone (o : NvmOp) (s : State) : State :=
  let s1 := updGeode (fun g => { g with op := none }) (s.setFld NVM_STAT_BUSY 0)
  let s2 := if o.asked then nvmStatus stOK (s1.wrN NVM_SEQ o.seq) else s1
  let s3 := match o.led with
    | none => s2
    | some l =>
      let left := s2.geode.found.filter (fun e => kget (fun _ => 0) l.cuts e.1 != e.2)
      updGeode (fun g => { g with slots := kset (fun _ => {}) g.slots o.slot l, cuts := l.cuts, found := left, due := !left.isEmpty, savedAt := s.now }) (s2.wrN NVM_WR_ABORT_LIFE l.life)
  showSlots (nvmEvent 1 svINFO (o.obj + o.seq % 2 ^ 56 * 256) s3)

/-- The page in flight is programmed, and the write goes on, ends or is cut (R570, R571). -/
def pageDone (o : NvmOp) (misread : Bool) (s : State) : State :=
  let n := dataPages o
  let page := slotPage o.obj o.slot + o.step
  let bs := if o.step = 0 then headerBytes o else if o.step ≤ n then (o.data.drop ((o.step - 1) * 4096)).take 4096 else commitBytes o s.showTime
  let s1 := program page bs s
  let s2 := if o.asked then s1.wrN NVM_DONE (min (min o.step n * 4096) o.data.length) else s1
  if o.step = n + 1 then writeDone o s2
  else if o.closed || !windowOpen s2 then cutWrite o s2
  else if o.step = n && misread then
    let s3 := updGeode (fun g => { g with op := none }) (s2.setFld NVM_STAT_BUSY 0)
    if o.asked then nvmStatus stFAULT s3 else s3
  else updGeode (fun g => { g with op := some { o with step := o.step + 1, at_ := s2.now } }) s2

/-- The longest that a page program lasts, with the read-back of the payload before a commit page (R567, R570). -/
def programMost (o : NvmOp) : Nat := 400000 + (if o.step = dataPages o + 1 then 50000 * dataPages o else 0)

/-- NVM_PAGE_DONE (R567, R570 to R572): a page program ends `lag` ns after it began, at most 400 µs; `misread` where the payload read back does not
give DCRC. -/
def execNvmPageDone (lag : Nat) (misread : Bool) (s0 : State) : Out :=
  if !islandRuns s0 then .next s0 else
  .next (match s0.geode.op with
    | none => s0
    | some o =>
      if o.op = 3 then
        let s := passTime (o.at_ + min lag 400000 - s0.now) s0
        let s1 := program (logPage o.seq) (logBytes o.seq o.data (crc32 (logBytes o.seq o.data 0))) s
        startDue (showLog (nvmEnd stOK ((s1.wrN NVM_DONE o.data.length).wrN NVM_LOG_SEQ o.seq)))
      else if o.op = 1 || o.op = 5 then startDue (pageDone o misread (passTime (o.at_ + min lag (programMost o) - s0.now) s0))
      else s0)

/-! ### LEDGER_SAVE and SVN_BUMP (R573, R575) -/

/-- LEDGER_SAVE (R575). -/
def ledgerSave (s : State) : State :=
  unlessNvmBusy s (fun s => if windowOpen s then startLedger true s else nvmStatus stPRECOND s)

/-- LEDGER_SAVE (R575). -/
def execLedgerSave (s : State) : Out :=
  if !s.mainOn then .next s else
  .next (ledgerSave s)

/-- LEDGER_PERIODIC_SAVE (R575): time passes until 15 minutes of powered time have gone since the last save; the ledger is written if the window
is open. -/
def execLedgerPeriodicSave (s0 : State) : Out :=
  if !islandRuns s0 || s0.geode.op.isSome then .next s0 else
  let s := passTime (s0.geode.savedAt + 900000000000 - s0.now) s0
  .next (if windowOpen s then startLedger false s else s)

/-- SVN_BUMP (R573). -/
def svnBump (s : State) : State :=
  unlessNvmBusy s (fun s => match s.power.svn with
    | none => nvmStatus stPRECOND s
    | some v => nvmStatus stOK (s.wrN NVM_SVN_MIN (max (s.rdN NVM_SVN_MIN) v)))

/-- SVN_BUMP (R573). -/
def execSvnBump (s : State) : Out :=
  if !s.mainOn then .next s else
  .next (svnBump s)

/-- A write of NVM_CMD (R579): other OPs are ignored. -/
def nvmCmd (v : Nat) (s : State) : State :=
  match v % 16 with
  | 1 => nvmWrite (bits v 8 4) s
  | 2 => nvmRead (bits v 8 4) s
  | 3 => logAppend s
  | 4 => logRead s
  | 5 => ledgerSave s
  | 6 => svnBump s
  | _ => s

end Sys2Proof.Machine
end

