-- ==== Sys2Proof/Machine/Twin.lean ====
section
/-! DEFINITION. Machine/Twin.lean: capability packets of Palis links, and twin pairs: the TKOVR lands, heartbeats, mirroring and handover
(R498, R505 to R520). -/

namespace Sys2Proof.Machine

def twState (s : State) : Nat := s.fld CAS_TW_STAT_STATE
def setTwState (st : Nat) (s : State) : State := s.setFld CAS_TW_STAT_STATE st
def twinOn (s : State) : Bool := s.flag CAS_TW_CTL_EN
def twStatus (st : Nat) (s : State) : State := s.setFld CAS_TW_STAT_CMD_STATUS st

/-- Is the twin link usable: port 3 in TWIN mode and its link ACTIVE? -/
def twinLink (s : State) : Bool := portMode s 3 == 2 && portActive s 3

/-! ### Outputs (R506, R509, R520) -/

/-- The shared outputs are released: gates off, shunts closed, axes in STANDBY, serial requests and awaited ACKs dropped (R506, R509), and
calibration runs abandoned (R562). -/
def releaseOutputs (s : State) : State :=
  let s1 := allStrings.foldl (fun t n => stringSafe n t) (calAbandon s)
  let s2 := allAxes.foldl (fun t n => updAxis n (fun x => { x with gates := 0, enabling := none, goal := none }) ((t.setFld (CTL_A_STAT_STATE n) 3).setFld (CTL_A_STAT_RESTING n) 0)) s1
  let s3 := (List.range 16).foldl (fun t e => (updEnc e (fun x => { x with frame := none }) t).setFld (CTL_E_STAT_BUSY e) 0) s2
  [0, 1, 2, 3].foldl (fun t p => updPort p (fun x => { x with await := [] }) t) s3

/-- The module drives the shared outputs: axes mirrored in RUN go on in RUN, every other axis is DISABLED; string converters start from
zero current at their level (R520). -/
def driveOutputs (s : State) : State :=
  let s1 := allAxes.foldl (fun t n =>
    if s.twin.axesRun.contains n then
      updAxis n (fun x => { x with gates := 2, first := false }) (((axTiles s n).foldl (fun u i => takeTile i u) (takeGen n t)).setFld (CTL_A_STAT_STATE n) 1)
    else updAxis n (fun x => { x with gates := 0 }) (stopTiles n 1 (t.setFld (CTL_A_STAT_STATE n) 0))) s
  allStrings.foldl (fun t n => setIref n (settleStr n t)) s1

/-- Enter STANDBY (R508, R514). -/
def enterStandby (s : State) : State :=
  let was := twState s
  let s1 := ((setTwState 2 s).setFld CAS_TW_STAT_STALE 1).setFld CAS_TW_STAT_PENDING 0
  casEvent 3 0x13 svINFO was (updTwin (fun t => { t with claiming := 0, awaited := none, heard := [], refused := [], mirRx := none, full := false, entries := [], beyond := false, axesRun := [], axPend := [], tilePend := [], demO := false, yield := false }) s1)

/-- A holder releases (R507, R508). -/
def twinRelease (s : State) : State :=
  let s1 := s.setFld CAS_TW_STAT_HOLD_O 0
  if twState s = 3 || twState s = 4 then releaseOutputs (enterStandby s1) else s1

/-- Does the module want to hold (R507): it claims from WAIT, or hands over to itself? -/
def wantsHold (s : State) : Bool := (twState s == 1 && s.twin.claiming != 0) || twState s == 5

/-- May the module assert HOLD_O, but for the 1 µs for which HOLD_I must have been deasserted (R507)? -/
def mayHold (s : State) : Bool := twinOn s && wantsHold s && !s.flag CAS_TW_STAT_HOLD_O && !s.holdI && !s.demI

/-- Assert HOLD_O where that is due (R507). -/
def tryHold (s : State) : State :=
  if mayHold s && decide (s.twin.hiOff + 1000 ≤ s.now) then
    updTwin (fun t => { t with holdAt := s.now }) (s.setFld CAS_TW_STAT_HOLD_O 1)
  else s

/-- What a module in WAIT does once the twin link is ACTIVE (R508). -/
def waitRules (s : State) : State :=
  if !twinOn s || twState s != 1 || !twinLink s || isHot s then s
  else if (s.palisPort 3).peerHolds then enterStandby s
  else if s.flag CAS_TW_CTL_TWIN_ID then enterStandby s
  else tryHold (updTwin (fun t => { t with claiming := 1 }) s)

/-- TWIN_ENABLE (R505, R508): a write of EN. -/
def twinEnable (en : Bool) (s : State) : State :=
  if en = twinOn s then s
  else if en then
    let s1 := (s.setFld CAS_TW_CTL_EN 1).setFld CAS_TW_STAT_STATE 1
    waitRules (releaseOutputs { s1 with twin := { hiOff := s.twin.hiOff, waitAt := s.now, mirTx := s.twin.mirTx, mirOut := s.twin.mirOut, hbSeq := s.twin.hbSeq } })
  else
    let s1 := if twState s = 3 || twState s = 4 then releaseOutputs s else s
    let s2 := s1.wrN CAS_TW_STAT (pack [(4, 2, bits (s.rdN CAS_TW_STAT) 4 2), (16, 8, s.fld CAS_TW_STAT_CMD_STATUS)])
    let s3 := s2.setFld CAS_TW_CTL_EN 0
    driveOutputs { s3 with twin := { hiOff := s.twin.hiOff, mirTx := s.twin.mirTx, mirOut := s.twin.mirOut, hbSeq := s.twin.hbSeq } }

/-- TWIN_ENABLE (R508). -/
def execTwinEnable (en : Bool) (s : State) : Out :=
  if !s.clocked then .next s else
  .next (twinEnable en s)

/-- A write of CAS_TW_CTL (R542): TWIN_ID is a strap. -/
def twinCtl (v : Nat) (s : State) : State :=
  twinEnable (bit v 0) (s.wrN CAS_TW_CTL (pack [(0, 2, s.rdN CAS_TW_CTL % 4), (2, 12, bits v 2 12), (16, 16, bits v 16 16)]))

/-! ### CAPS (R477, R498, R508, R538) -/

/-- CAPS_PACKET (R498, R538): the partner's version and mode, and whether it holds. -/
def execCapsPacket (p : Fin 4) (dt : Nat) (w : BitVec 64) (ws : List (BitVec 64)) (s0 : State) : Out :=
  if !s0.mainOn then .next (passTime dt s0) else
  .next (oneHop p 4 9 w ws (fun _ data s =>
    let w0 := (data.headD 0#64).toNat
    let ver := bits w0 0 16
    let mode := bits w0 16 2
    let own := portMode s p
    let agree := if ver = 1 then own == 1 else own == mode
    let xw8 := decide (ver = 1)
    let s1 := (s.wr (CAS_P_PEER_UID p) (data.getD 1 0#64)).setFld (CAS_P_STAT_XW8 p) (b2n xw8)
    let s2 := emitIf (xw8 && !s.flag (CAS_P_STAT_XW8 p)) blkCAS 0xB svINFO (0x602D0000 + p * 0x800) p s1
    let s3 := s2.setFld (CAS_P_STAT_CAPS_OK p) (b2n agree)
    let s4 := updPalis p (fun x => { x with agreed := agree, heard := some (mode, ver), misRun := x.misRun && !agree, peerHolds := bit w0 21 })
      (if agree then s3.setFld (CAS_P_STAT_MISMATCH p) 0 else s3)
    if p = 3 && agree && own = 2 && twinOn s && twState s = 1 && bit w0 21 then enterStandby s4 else s4) (capsSend p (passTime dt s0)))

/-- The link enters ACTIVE if its user's exchange is complete (R477, R508). -/
def capsGo (k : Nat) (s : State) : State :=
  let s1 := capsComplete1 k (if k < 4 then s else capsSend (k - 4) s)
  if k = 7 then waitRules s1 else s1

/-- CAPS_COMPLETE (R477, R508). -/
def execCapsComplete (k : Fin 8) (s : State) : Out :=
  if !s.mainOn || stageOver s k then .next s else .next (capsGo k s)

/-- STAGE_TIMEOUT (R472, R478, R480, R498): time passes to the limit of the link's stage; a completion wins against it. -/
def execStageTimeout (k : Fin 8) (s0 : State) : Out :=
  let st := linkStage s0 k
  if !s0.mainOn || !(st = 2 || st = 3 || st = 4) || beamLink s0 k then .next s0
  else
    let s := passTime ((s0.link k).stageAt + stageLimit st - s0.now) s0
    let t := capsGo k (lockGo k (if st = 2 then trainGo k s else s))
    .next (if linkStage t k != st then t
      else if st = 4 && 4 ≤ k.val then modesDisagree (k - 4) (stageFail k 1 t) else stageFail k 1 t)

/-! ### Behind (R513, R514, R517) -/

/-- LAG of a pipe (R517). -/
def lagOf (s : State) (p : Nat) : Nat :=
  let l := (kget (fun _ => []) s.twin.ids p).reverse
  match l.findIdx? (fun x => x == s.rd (CAS_TW_FID_TAKEN p)) with
  | some i => i
  | none => 4

/-- LAG over the pipes named in PIPES, as CAS_TW_LAG shows it. -/
def lagWord (s : State) : Nat :=
  ([0, 1, 2, 3].map (fun p => if bit (s.fld CAS_TW_CTL_PIPES) p then lagOf s p * 16 ^ p else 0)).sum

/-- SWAP_OFF (R513): a mirrored swap of a timebase has not occurred here at its cycle count, a cycle after it. -/
def swapOff (s : State) : Bool :=
  [0, 1, 2, 3].any (fun n => match kget (fun _ => none) s.twin.swaps n with
    | some c => (s.tb n).lastSwap != some c && decide (1 ≤ sext (s.cycle n + 2 ^ 32 - c) 32)
    | none => false)

/-- The causes of BEHIND (R517): LAG, STALE, SWAP_OFF, PHASE_OFF. -/
def behindCauses (s : State) : Nat :=
  pack [(0, 1, b2n ([0, 1, 2, 3].any (fun p => bit (s.fld CAS_TW_CTL_PIPES) p && decide (1 < lagOf s p)))), (1, 1, s.fld CAS_TW_STAT_STALE),
    (2, 1, b2n (swapOff s)), (3, 1, s.fld CAS_TW_STAT_PHASE_OFF)]

def isBehind (s : State) : Bool := !s.driving && behindCauses s != 0

/-- The read-only bits of CAS_TW_STAT and CAS_TW_LAG that follow the mirror (R541, R542). -/
def showTwin (s : State) : State :=
  let off := twinOn s && !s.driving
  ((s.setFld CAS_TW_STAT_BEHIND (b2n (isBehind s))).setFld CAS_TW_STAT_SWAP_OFF (b2n (off && swapOff s))).wrN CAS_TW_LAG (if off then lagWord s else 0)

/-! ### Triggers and handover (R516, R518, R519) -/

/-- A trigger is refused (R518). -/
def refuse (k : Nat) (s : State) : State :=
  let s1 := (s.bump CAS_TW_REFUSE_CNT).setFld CAS_TW_STAT_PENDING 0
  casEvent 3 0x11 svERROR (k + behindCauses s * 16 + lagWord s % 65536 * 65536)
    (updTwin (fun t => { t with awaited := none, refused := if t.refused.contains k then t.refused else k :: t.refused }) s1)

/-- A handover starts (R519). -/
def startHandover (k : Nat) (forced : Bool) (s : State) : State :=
  tryHold (updTwin (fun t => { t with hAt := s.now, trig := k, forced := forced, awaited := none, stuckAt := none, demO := true, claiming := 0 })
    ((setTwState 5 s).setFld CAS_TW_STAT_PENDING 0))

/-- In how many nanoseconds a DEFERRED handover may start by a gap of TB (R519): at once where 50 µs of the gap are still to come, at the gap's next
opening where the gap is that long, and never else. -/
def gapStart (s : State) (n : Nat) (g : Nat × Nat) : Option Nat :=
  let f := s.frac56 n
  let a := g.1 * 2 ^ 24
  let b := g.2 * 2 ^ 24
  let left := fun x : Nat => (b + 2 ^ 56 - x) % 2 ^ 56
  let inside := if a < b then decide (a ≤ f) && decide (f < b) else decide (a ≤ f) || decide (f < b)
  if inside && decide (50000 * s.incEff n ≤ left f) then some 0
  else if 50000 * s.incEff n ≤ left a && s.incEff n != 0 then some (ceilDiv ((a + 2 ^ 56 - f) % 2 ^ 56) (s.incEff n))
  else none

/-- In how many nanoseconds a DEFERRED handover may start (R519), as things stand. -/
def startIn (s : State) : Option Nat :=
  let n := s.fld CAS_TW_CTL_TB
  let cnt := s.rdN (PHS_TB_BLIND_CNT n) % 128
  if !s.tbOn n || s.flag (PHS_TB_BLIND_CNT_ALL n) || cnt = 0 then some 0
  else ((List.range cnt).filterMap (fun k => gapStart s n (s.rdN (PHS_TB_BLIND n k) % 2 ^ 32, s.rdN (PHS_TB_BLIND n k) / 2 ^ 32))).min?

/-- A takeover trigger is found (R516 to R519): 0 missed heartbeats, 1 SHUTDOWN, 2 FACET_FAIL, 3 YIELD, which alone is DEFERRED. -/
def trigger (k : Nat) (s : State) : State :=
  if twState s != 2 then s
  else if isBehind s then refuse k s
  else if k != 3 || startIn s == some 0 then startHandover k false s
  else if s.twin.awaited.isSome then s
  else updTwin (fun t => { t with awaited := some k }) (s.setFld CAS_TW_STAT_PENDING 1)

/-- HANDOVER_START (R519): time passes to the instant that a DEFERRED trigger awaits. -/
def execHandoverStart (s0 : State) : Out :=
  if !s0.mainOn then .next s0 else
  match s0.twin.awaited, startIn s0 with
  | some k, some t => .next (if isBehind s0 then refuse k s0 else (fun s => if isBehind s then refuse k s else startHandover k false s) (passTime t s0))
  | _, _ => .next s0

/-- A write of 1 to CMD.FORCE (R518): whatever the state, unless the module holds. -/
def twinForce (s : State) : State :=
  if s.driving then twStatus stPRECOND s
  else if twState s = 5 then twStatus stOK s
  else startHandover 0 true (twStatus stOK s)

/-- TWIN_FORCE (R518). -/
def execTwinForce (s : State) : Out :=
  if !s.clocked then .next s else
  .next (twinForce s)

/-- A write of 1 to CMD.YIELD (R516). -/
def twinYield (s : State) : State :=
  if twinOn s && s.driving then updTwin (fun t => { t with yield := true }) (twStatus stOK s) else twStatus stPRECOND s

/-- TWIN_YIELD (R516). -/
def execTwinYield (s : State) : Out :=
  if !s.clocked then .next s else
  .next (twinYield s)

/-- A write of 1 to CMD.RESYNC (R514). -/
def twinResync (s : State) : State := updTwin (fun t => { t with resync := true }) (twStatus stOK s)

/-- TWIN_RESYNC (R514). -/
def execTwinResync (s : State) : Out :=
  if !s.clocked then .next s else
  .next (twinResync s)

/-! ### The TKOVR lands (R507) -/

/-- ALONE_TIMEOUT (R508): time passes to ALONE_MS after the entry to WAIT. -/
def execAloneTimeout (s : State) : Out :=
  if !s.mainOn then .next s else
  .next (if twinOn s && twState s = 1 && !twinLink s && s.flag CAS_TW_CTL_ALONE_EN && !s.holdI && !isHot s then
    tryHold (updTwin (fun t => { t with claiming := 2 }) (passTime (s.twin.waitAt + s.fld CAS_TW_CTL_ALONE_MS * 1000000 - s.now) s)) else s)

/-- TKOVR_DEM_I_ASSERT (R507). -/
def execTkovrDemIAssert (dt : Nat) (s0 : State) : Out :=
  if !s0.mainOn then .next (passTime dt s0) else
  let s := (passTime dt s0).setFld CAS_TW_STAT_DEM_I 1
  .next (if twinOn s then twinRelease s else s)

/-- TKOVR_DEM_I_DEASSERT (R507). -/
def execTkovrDemIDeassert (dt : Nat) (s0 : State) : Out :=
  if !s0.mainOn then .next (passTime dt s0) else
  .next ((passTime dt s0).setFld CAS_TW_STAT_DEM_I 0)

/-- TKOVR_HOLD_I_CHANGE (R507): against an asserted HOLD_O, TWIN_ID 1 releases and TWIN_ID 0 keeps and restarts its 1 µs. -/
def execTkovrHoldIChange (level : Bool) (dt : Nat) (s0 : State) : Out :=
  if !s0.mainOn then .next (passTime dt s0) else
  let s := passTime dt s0
  let s1 := s.setFld CAS_TW_STAT_HOLD_I (b2n level)
  let s2 := if level then s1 else updTwin (fun t => { t with hiOff := if s.flag CAS_TW_STAT_HOLD_I then s.now else t.hiOff, holdAt := s.now }) s1
  .next (if level && twinOn s && s.flag CAS_TW_STAT_HOLD_O && s.flag CAS_TW_CTL_TWIN_ID then twinRelease s2 else s2)

/-- HOLD_O_ASSERT (R507): time passes until HOLD_I has been deasserted for 1 µs. -/
def execHoldOAssert (s : State) : Out :=
  if !s.mainOn then .next s else
  .next (if mayHold s then tryHold (passTime (s.twin.hiOff + 1000 - s.now) s) else s)

/-- An entry of the mirrored list completes once, ABORTED, with RESULT byte 0 set to 2 (R520). -/
def abortTaken (i idx : Nat) (s : State) : State :=
  let q := s.fld (CAS_TW_Q_OWN i)
  let r := readEntry q idx false s
  match r.2 with
  | some d => commit q idx d stABORTED 0 [2#8] r.1
  | none => r.1

/-- A timebase whose source is BEACON on the twin link loses its source at the handover (R520). -/
def loseTwinBeacon (s : State) : State :=
  [0, 1, 2, 3].foldl (fun t n =>
    if t.fld (PHS_TB_SRC_TYPE n) = 4 && t.fld (PHS_TB_SRC_SEL n) = 3 && (t.tbState n = tbSLEWING || t.tbState n = tbLOCKED) then enterHoldover n t else t) s

/-- HOLD_ACQUIRED (R507, R508, R520): time passes until HOLD_O has been asserted for 1 µs with HOLD_I deasserted. -/
def execHoldAcquired (s0 : State) : Out :=
  if !s0.mainOn || !twinOn s0 || !s0.flag CAS_TW_STAT_HOLD_O || s0.holdI || !wantsHold s0 then .next s0
  else
  let s := passTime (s0.twin.holdAt + 1000 - s0.now) s0
  if twState s = 1 then
    .next (driveOutputs (updTwin (fun t => { t with claiming := 0, partnerHolds := none }) (setTwState (if s.twin.claiming = 2 then 4 else 3) s)))
  else
    let es := s.twin.entries
    let s1 := updTwin (fun t => { t with demO := false, entries := [], refused := [], heard := [], partnerHolds := none }) (setTwState 3 s)
    let s2 := loseTwinBeacon (driveOutputs s1)
    let s3 := (es.foldl (fun t e => abortTaken e.1 e.2 t) s2).bump CAS_TW_TKO_CNT
    .next (casEvent 3 0x10 svWARNING (s.twin.trig + b2n s.twin.forced * 8 + (s.now - s.twin.hAt) % 2 ^ 24 * 256) s3)

/-- TAKEOVER_STUCK (R519): time passes to 10 µs after H, or to 1 ms after the last event. -/
def execTakeoverStuck (s0 : State) : Out :=
  if !s0.mainOn || twState s0 != 5 || !s0.holdI then .next s0
  else
    let s := passTime ((match s0.twin.stuckAt with
      | some t => t + 1000000
      | none => s0.twin.hAt + 10000) - s0.now) s0
    .next (casEvent 3 0x12 svCRITICAL ((s.now - s.twin.hAt) / 1000 % 2 ^ 32) (updTwin (fun t => { t with stuckAt := some s.now }) s))

/-! ### Mirror records sent (R511, R512) -/

/-- An AXIS record. -/
def mirrorAxis (n : Nat) (s : State) : State :=
  let x := s.axis n
  let w := BitVec.ofNat 64
  let tile := fun t : Nat =>
    let r := s.tile t
    let v := s.fld (CTL_T_STAT_ES t) % 256 + s.fld (CTL_T_CFG_BANK t) * 256 +
      ((r.x.take 3 ++ r.y.take 3).zipIdx.map (fun a => ofInt a.1 24 * 2 ^ (16 + 24 * a.2))).sum
    [w (v % 2 ^ 64), w (v / 2 ^ 64 % 2 ^ 64), w (v / 2 ^ 128 % 2 ^ 64)]
  mirror 3 n ([BitVec.ofInt 64 (toQ32 x.p), w (toB32 x.v + toB32 x.a * 2 ^ 32), BitVec.ofInt 64 (toQ32 x.g), w (toB32 x.vg + axState s n * 2 ^ 32),
    BitVec.ofInt 64 (measured s n)] ++ (axTiles s n).flatMap tile) s

/-- A QUEUE record of a slot (R511). -/
def mirrorQueue (i : Nat) (s : State) : State :=
  let q := s.fld (CAS_TW_Q_OWN i)
  updTwin (fun t => { t with qSent := kset (fun _ => none) t.qSent i (some (qHead s q, qTail s q)) })
    (mirror 5 i [BitVec.ofNat 64 (qHead s q + qTail s q * 65536 + q * 2 ^ 32)] s)

/-- The enabled twin slots. -/
def slots (s : State) : List Nat := (List.range 64).filter (fun i => s.flag (CAS_TW_Q_EN i))

/-- A full state: every record type for every object, framed (R512). -/
def fullState (s : State) : State :=
  let s1 := mirror 6 0 [] s
  let s2 := [0, 1, 2, 3].foldl (fun t p => if bit (s.fld CAS_TW_CTL_PIPES) p then mirror 1 p [s.rd (CAS_TW_FID_TAKEN p), s.rd (PIX_P_FLIP_TIME p)] t else t) s1
  let s3 := [0, 1, 2, 3].foldl (fun t n => match (s.tb n).lastSwap with
    | some c => mirror 2 n [BitVec.ofNat 64 (s.fld (PHS_TB_STAT_ACTIVE_BANK n) + c * 2 ^ 32)] t
    | none => t) s2
  let s4 := allAxes.foldl (fun t n => mirrorAxis n t) s3
  let s5 := (List.range 8).foldl (fun t g => mirrorLight g t) s4
  let s6 := (slots s).foldl (fun t i => mirrorQueue i t) s5
  let s7 := (slots s).foldl (fun t i => (s.queue (s.fld (CAS_TW_Q_OWN i))).claims.foldl (fun u c => mirror 8 i [BitVec.ofNat 64 c.idx] u) t) s6
  mirror 7 0 [] s7

/-! ### Heartbeats (R515, R516) -/

/-- The flags of a heartbeat, bits [38:32] of its word 1 (R515). -/
def hbFlags (s : State) (shut : Bool) : Nat :=
  let facet := s.flag CAS_TW_CTL_FAIL_FACET && [0, 1, 2, 3].any (fun p => s.flag (SEQ_P_CTL_EN p) && !s.flag (SEQ_F_STAT_ACTIVE p))
  pack [(0, 1, b2n s.driving), (1, 1, b2n s.twin.yield), (2, 1, b2n shut), (3, 1, b2n (s.driving && facet)), (4, 1, b2n (isBehind s)),
    (5, 1, b2n s.twin.resync), (6, 1, b2n (!s.twin.refused.isEmpty))]

/-- Send a heartbeat. -/
def sendHeartbeat (shut : Bool) (s : State) : State :=
  let mir := if s.driving then s.twin.mirTx else s.twin.mirRx.getD 0
  updTwin (fun t => { t with hbSeq := (t.hbSeq + 1) % 2 ^ 32, hbSent := some s.now })
    (sendOn 3 1 (4 * s.now) (.heartbeat s.twin.hbSeq (hbFlags s shut) mir) s)

/-- HEARTBEAT_SEND (R512, R515): time passes to 10 µs after the last; a holder's AXIS and QUEUE records go with it. -/
def execHeartbeatSend (s0 : State) : Out :=
  if !s0.mainOn || twState s0 = 0 || !twinLink s0 || isHot s0 then .next s0
  else
    let s := passTime (match s0.twin.hbSent with
      | some t => t + 10000 - s0.now
      | none => 0) s0
    let s1 := sendHeartbeat false s
    let s2 := (allAxes.filter (fun n => axState s n == 1)).foldl (fun t n => mirrorAxis n t) s1
    .next (if s.driving then ((slots s).filter (fun i => kget (fun _ => none) s.twin.qSent i != some (qHead s (s.fld (CAS_TW_Q_OWN i)), qTail s (s.fld (CAS_TW_Q_OWN i))))).foldl
      (fun t i => mirrorQueue i t) s2 else s2)

/-- A latched shutdown of a twin module: one heartbeat with SHUTDOWN, and its outputs are released (R545). -/
def twinShutdown (s : State) : State := if twinOn s && twState s != 0 then twinRelease (sendHeartbeat true s) else s

/-- The phase checks of a heartbeat (R517): PHASE_OFF where a timebase of TB_CHK was off by more than PH_TOL in each of the last three. -/
def checkPhases (data : List Word) (s : State) : State :=
  let lag := sext (s.rdN (CAS_P_DELAY 3)) 24 + (rxLat s 3 : Int)
  let chk := [0, 1, 2, 3].filter (fun n => bit (s.fld CAS_TW_CTL_TB_CHK) n)
  let diff := fun n : Nat => wrapI (((data.getD (3 + n) 0#64).toNat : Int) - (phaseAt s n (-lag) : Int)) ((2 ^ 64 : Nat) : Int)
  let ns := fun n : Nat => if s.incEff n = 0 then 0 else rndDiv (diff n * ((2 ^ 24 : Nat) : Int)) (s.incEff n : Nat)
  let off := fun n : Nat => decide (s.rdN CAS_TW_PH_TOL % 65536 * s.incEff n < (diff n).natAbs * 2 ^ 24)
  let run := fun n : Nat => if chk.contains n && off n then kget (fun _ => 0) s.twin.phaseRun n + 1 else 0
  let big := chk.foldl (fun (m : Int) n => if m.natAbs < (ns n).natAbs then ns n else m) 0
  let s1 := updTwin (fun t => { t with phaseRun := [0, 1, 2, 3].foldl (fun k n => kset (fun _ => 0) k n (run n)) t.phaseRun }) s
  (s1.wrN CAS_TW_PHDIFF (ofInt big 32)).setFld CAS_TW_STAT_PHASE_OFF (b2n (chk.any (fun n => decide (3 ≤ run n))))

/-- A heartbeat heard by a holder (R508, R512, R518). -/
def hearHolder (fl : Nat) (s : State) : State :=
  let holds := bit fl 0
  let s1 := if twState s = 4 && !holds then setTwState 3 s else s
  let new := !holds && s.twin.partnerHolds != some false
  let s2 := updTwin (fun t => { t with partnerHolds := some holds, partnerRef := bit fl 6 }) s1
  let s3 := if new || bit fl 5 then fullState s2 else s2
  if bit fl 6 && !s.twin.partnerRef then
    casEvent 3 0x11 svERROR ((if s.twin.yield then 3 else if bit (hbFlags s false) 3 then 2 else 0) + 8)
      (updTwin (fun t => { t with yield := false }) (if s.twin.yield then twStatus stPRECOND s3 else s3))
  else s3

/-- A heartbeat heard by a module that does not hold (R516, R518). -/
def hearStandby (fl : Nat) (data : List Word) (s : State) : State :=
  let present := [1, 2, 3].filter (fun k => if k = 1 then bit fl 2 else if k = 2 then bit fl 3 else bit fl 1)
  let new := present.filter (fun k => !s.twin.heard.contains k)
  let s1 := checkPhases data (updTwin (fun t => { t with heard := present, refused := t.refused.filter (fun k => present.contains k), partnerHolds := some (bit fl 0) }) s)
  let s2 := if twState s1 = 1 && bit fl 0 then enterStandby s1 else s1
  new.foldl (fun t k => trigger k t) s2

/-- HEARTBEAT (R516): a heartbeat is handed over on port 3. -/
def execHeartbeat (dt : Nat) (w : BitVec 64) (ws : List (BitVec 64)) (s0 : State) : Out :=
  if !s0.mainOn then .next (passTime dt s0) else
  .next (oneHop 3 5 10 w ws (fun _ data s =>
    if portMode s 3 != 2 then pktBad 3 false s
    else if !twinOn s || isHot s then s
    else
      let fl := bits (data.getD 1 0#64).toNat 32 7
      let s1 := updTwin (fun t => { t with hbHeard := some s.now, missRun := 0 }) ((s.wrN CAS_TW_LAST_HB s.showTime).setFld CAS_TW_STAT_PARTNER 1)
      if s1.driving then hearHolder fl s1 else hearStandby fl data s1) (passTime dt s0))

/-- HEARTBEAT_MISS (R516): time passes to 11 µs after the last heartbeat or miss. -/
def execHeartbeatMiss (s0 : State) : Out :=
  if !s0.mainOn then .next s0 else
  match s0.twin.hbHeard with
  | none => .next s0
  | some t =>
    if !twinOn s0 || isHot s0 then .next s0
    else
      let s := passTime (t + 11000 - s0.now) s0
      let run := s.twin.missRun + 1
      let s1 := updTwin (fun x => { x with hbHeard := some s.now, missRun := run }) (s.bump CAS_TW_HB_MISS_CNT)
      .next (if run != 3 then s1
        else
          let s2 := s1.setFld CAS_TW_STAT_PARTNER 0
          if s.driving then casEvent 3 0x14 svWARNING (s2.rdN CAS_TW_HB_MISS_CNT) s2
          else trigger 0 (updTwin (fun x => { x with heard := 0 :: x.heard }) s2))

/-! ### Mirror records received (R513, R514) -/

/-- A mirror record reaches a module that does not hold; one that skips a number makes it STALE (R514). -/
def mirRecord (seq : Nat) (f : State → State) (s : State) : State :=
  if !twinOn s || s.driving || !twinLink s || isHot s then s
  else
    let gap := match s.twin.mirRx with
      | some l => seq != (l + 1) % 2 ^ 32
      | none => false
    let s1 := updTwin (fun t => { t with mirRx := some seq, resync := t.resync || gap, full := t.full && !gap }) s
    f (if gap then s1.setFld CAS_TW_STAT_STALE 1 else s1)

/-- MIRROR_COMMIT (R513, R517). -/
def execMirrorCommit (seq : BitVec 32) (p : Fin 4) (id _time : BitVec 64) (s : State) : Out :=
  if !s.mainOn then .next s else
  .next (mirRecord seq.toNat (fun s => updTwin (fun t =>
    let l := kget (fun _ => []) t.ids p ++ [id]
    { t with ids := kset (fun _ => []) t.ids p (l.drop (l.length - 4)) }) s) s)

/-- MIRROR_SWAP (R513). -/
def execMirrorSwap (seq : BitVec 32) (n : Fin 4) (_bank : Bool) (count : BitVec 32) (s : State) : Out :=
  if !s.mainOn then .next s else
  .next (mirRecord seq.toNat (fun s => updTwin (fun t => { t with swaps := kset (fun _ => none) t.swaps n (some count.toNat) }) s) s)

/-- An encoder interface's measured position becomes the mirrored one (R513). -/
def takePosition (n : Nat) (pos : Int) (s : State) : State :=
  let e := axEnc s n
  let cpr : Int := (max 1 (s.rdN (CTL_E_CPR e)) : Nat)
  (updEnc e (fun x => { x with count := rndDiv (pos * cpr) 4294967296, last := some (pos, s.now) }) s).wr (CTL_E_POS e) (BitVec.ofInt 64 pos)

/-- MIRROR_AXIS (R511, R513): `ws` are the record's words; the generator takes them at its next period, and each tile at its next sample. -/
def execMirrorAxis (seq : BitVec 32) (n : Fin 16) (ws : List (BitVec 64)) (s : State) : Out :=
  if !s.mainOn then .next s else
  .next (mirRecord seq.toNat (fun s =>
    let run := bits (ws.getD 3 0#64).toNat 32 3 == 1
    let tiles := (axTiles s n).zipIdx.foldl (fun m ti => kset (fun _ => []) m ti.1 ((ws.drop (5 + 3 * ti.2)).take 3)) s.twin.tilePend
    let s1 := updTwin (fun t => { t with axPend := kset (fun _ => []) t.axPend n (ws.take 4), tilePend := tiles, axesRun := (if run then [n.val] else []) ++ t.axesRun.filter (fun m => m != n.val) }) s
    takePosition n (ws.getD 4 0#64).toInt s1) s)

/-- MIRROR_LIGHT (R511, R513): the values wait for the group's next update point. -/
def execMirrorLight (seq : BitVec 32) (g : Fin 8) (ws : List (BitVec 64)) (s : State) : Out :=
  if !s.mainOn then .next s else
  .next (mirRecord seq.toNat (fun s =>
    let w := fun k : Nat => (ws.getD k 0#64).toNat
    let fade : Fade := ⟨bits (w 2) 32 17, bits (w 0) 17 17, bits (w 2) 0 32, bit (w 0) 35, w 1⟩
    let l := (ws.drop 3).map (fun x => (bits x.toNat 0 5, bits x.toNat 8 16, bits x.toNat 24 17))
    updGrp g (fun r => { r with mir := some ⟨bits (w 0) 0 17, if bit (w 0) 34 then some fade else none, l.filter (fun x => decide (x.1 < 24))⟩ }) s) s)

/-- MIRROR_QUEUE (R513): the record's queue must be the slot's PARTNER. -/
def execMirrorQueue (seq : BitVec 32) (i : Fin 64) (head tail : BitVec 16) (q : Fin 4096) (s : State) : Out :=
  if !s.mainOn then .next s else
  .next (mirRecord seq.toNat (fun s =>
    if !s.flag (CAS_TW_Q_EN i) then s
    else
      let bad := q.val != s.fld (CAS_TW_Q_PARTNER i)
      let l := s.twin.badSlots.filter (fun k => k != i.val)
      let l' := if bad then i.val :: l else l
      let s1 := (updTwin (fun t => { t with badSlots := l' }) s).setFld CAS_TW_STAT_QMAP_BAD (b2n (!l'.isEmpty))
      let own := s.fld (CAS_TW_Q_OWN i)
      if bad then s1 else (s1.setFld (QUE_Q_HEAD_HEAD own) head.toNat).setFld (QUE_Q_TAIL_TAIL own) tail.toNat) s)

/-- MIRROR_ENTRY (R513, R514): the list holds up to 1,024 entries. -/
def execMirrorEntry (seq : BitVec 32) (i : Fin 64) (idx : BitVec 16) (ended : Bool) (s : State) : Out :=
  if !s.mainOn then .next s else
  .next (mirRecord seq.toNat (fun s =>
    let l := s.twin.entries.filter (fun e => e != (i.val, idx.toNat))
    if ended then updTwin (fun t => { t with entries := l }) s
    else if l.length < 1024 then updTwin (fun t => { t with entries := l ++ [(i.val, idx.toNat)] }) s
    else (updTwin (fun t => { t with beyond := true, resync := true }) s).setFld CAS_TW_STAT_STALE 1) s)

/-- FULL_BEGIN (R512): the list of entries begins afresh. -/
def execFullBegin (seq : BitVec 32) (s : State) : Out :=
  if !s.mainOn then .next s else
  .next (mirRecord seq.toNat (updTwin (fun t => { t with full := true, entries := [], beyond := false })) s)

/-- FULL_END (R514). -/
def execFullEnd (seq : BitVec 32) (s : State) : Out :=
  if !s.mainOn then .next s else
  .next (mirRecord seq.toNat (fun s =>
    if !s.twin.full then s
    else
      let ok := !s.twin.beyond
      let s1 := updTwin (fun t => { t with full := false, resync := t.resync && !ok }) (s.bump CAS_TW_RESYNC_CNT)
      casEvent 3 0x15 svINFO seq.toNat (if ok then s1.setFld CAS_TW_STAT_STALE 0 else s1)) s)

end Sys2Proof.Machine
end

