-- ==== Sys2Proof/Machine/Hkp.lean ====
section
/-! DEFINITION. Machine/Hkp.lean: the housekeeping round, zones and cross-check, throttling, fans, the life ledger, the shutdown classes and
VIO banks (R544 to R558, R574, R576, R577, R580, R585). -/

namespace Sys2Proof.Machine

def updIsland (f : Island → Island) (s : State) : State := { s with island := f s.island }
def hkpEvent (code sev loc arg : Nat) (s : State) : State := emit blkHKP code sev loc arg s
def zoneLoc (z : Nat) : Nat := 0x60520000 + z * 0x800
def islandLoc : Nat := 0x60500000
def shutLoc : Nat := 0xA0500000

/-- A DBG event, held until a route exists (R616). -/
def dbgEvent (code sev loc arg : Nat) (s : State) : State :=
  if (routeOf s blkDBG).isSome then emit blkDBG code sev loc arg s
  else { s with heldEvents := s.heldEvents ++ [{ time := s.showTime, block := blkDBG, sev := sev, code := code, loc := loc, arg := arg }] }

/-! ### VIO banks (R585) -/

def setVio (v st : Nat) (s : State) : State := s.setFld ⟨DBG_VIO_STAT, 2 * v, 2⟩ st

/-- A VIO bank that was UP goes DOWN at a voltage in mV (R585): its lands are released, and the rules of the inputs take their course. -/
def bankDown (v mv : Nat) (s : State) : State :=
  if !s.bankUp v then s
  else
    let s1 := dbgEvent 5 svERROR (0x50C09000 + v) (v + mv % 65536 * 65536) (setVio v 0 s)
    match v with
    | 0 => twinRelease ([0, 1, 2, 3].foldl (fun t i => interlockOpen i t) s1)
    | 2 | 3 => axesBankDown v s1
    | 4 | 5 =>
      let es := (List.range 8).map (fun k => 8 * (v - 4) + k)
      es.foldl (fun t e => if encType t e = 0 then t else encFault e 4 t) (axesBankDown v s1)
    | 6 => { s1 with power := { s1.power with tap := 1 } }
    | 7 => hostReset 0 s1
    | _ => s1

/-- A VIO bank goes UP in a range (R585). -/
def bankRise (v st : Nat) (s : State) : State :=
  let s1 := dbgEvent 6 svINFO (0x50C09000 + v) (v + (st - 1) * 8) (setVio v st s)
  if v = 0 && !s.flag CAS_TW_STAT_HOLD_I then updTwin (fun t => { t with hiOff := s.now }) s1 else s1

/-- The range of R583 that a voltage in mV lies in: 0 neither, 1 at 1.8 V, 2 at 3.3 V. -/
def vioRange (mv : Int) : Nat := if 1620 ≤ mv && mv ≤ 1980 then 1 else if 2970 ≤ mv && mv ≤ 3630 then 2 else 0

/-- A round's check of a bank (R585). -/
def vioRound (v : Nat) (s : State) : State :=
  let mv := sext (s.rdN (HKP_CH (59 + v)) / 65536) 16
  let r := vioRange mv
  let s1 := updIsland (fun x => { x with vioSeen := kset (fun _ => 0) x.vioSeen v r }) s
  if s.bankUp v then (if r = 0 then bankDown v mv.toNat s1 else s1)
  else if r != 0 && kget (fun _ => 0) s.island.vioSeen v == r then bankRise v r s1
  else s1

/-- BANK_DOWN (R585): the fast comparator finds the bank's VIO, in mV, below 1.50 V for 10 µs. -/
def execBankDown (v : Fin 8) (dt : Nat) (mv : BitVec 16) (s0 : State) : Out :=
  let s := passTime dt s0
  if 1500 ≤ mv.toNat then .next s else
  .next (bankDown v mv.toNat (updIsland (fun x => { x with vioSeen := kset (fun _ => 0) x.vioSeen v 0 }) s))

/-! ### Conversions (R547 to R550) -/

def chCode (s : State) (k : Nat) : Nat := s.rdN (HKP_CH k) % 65536
def chVal (s : State) (k : Nat) : Int := sext (s.rdN (HKP_CH k) / 65536) 16

/-- Is a thermistor's reading valid (R549)? -/
def thermOk (t : Int) : Bool := decide (-880 ≤ t) && decide (t ≤ 2800)

/-- A channel's value is checked against its limits (R550). -/
def checkLimits (k : Nat) (s : State) : State :=
  let v := chVal s k
  let hi := decide (sext (s.fld (HKP_LIM_HI k)) 16 < v)
  let out := hi || decide (v < sext (s.fld (HKP_LIM_LO k)) 16)
  let was := s.island.limOut.contains k
  let s1 := updIsland (fun x => { x with limOut := if out then (if was then x.limOut else k :: x.limOut) else x.limOut.filter (fun j => j != k) }) s
  emitIf (out && !was) blkHKP 9 svWARNING (0x40510000 + k) (ofInt v 16 + b2n hi * 65536) s1

/-- The sum of z^(2i+1)/(2i+1) over n terms, from the i-th, `p` being z^(2i+1) and z2 its ratio. -/
def atanhTerms (z2 : Rat) : Nat → Nat → Rat → Rat
  | 0, _, _ => 0
  | n + 1, i, p => p / ((2 * i + 1 : Nat) : Rat) + atanhTerms z2 n (i + 1) (p * z2)

/-- ln x for x from 1/2 to 2, by 40 terms of 2 artanh((x − 1)/(x + 1)): an error below 10⁻³⁸. -/
def lnNear (x : Rat) : Rat := 2 * atanhTerms (((x - 1) / (x + 1)) ^ 2) 40 0 ((x - 1) / (x + 1))

/-- ln x for x above 0. -/
def lnR (x : Rat) : Rat :=
  let e : Int := (x.num.toNat.log2 : Nat) - (x.den.log2 : Nat)
  lnNear (if 0 ≤ e then x / ((2 ^ e.toNat : Nat) : Rat) else x * ((2 ^ (-e).toNat : Nat) : Rat)) + e * lnNear 2

/-- A thermistor's temperature in 1/16 °C (R549, R607), from its code, NOM in 10 Ω and BETA: a 10 kΩ pull-up to the converter's full scale makes
the divider. A reading with no finite temperature above 0 K, and one that the field cannot hold, stands at the field's end (DEDUCED, log entry
99); which neighbour a temperature between two codes becomes, and what NOM 0 or BETA 0 gives, are free (log entry 4). -/
def thermTemp (code nom beta : Nat) : Int :=
  if nom = 0 || beta = 0 then clampI (Config.thermCorner code nom beta) (-32768) 32767
  else if code = 0 then 32767
  else if 65535 ≤ code then -32768
  else
    let d : Rat := mkRat 100 29815 + lnR (mkRat (10000 * code) ((65535 - code) * 10 * nom)) / ((beta : Nat) : Rat)
    let q := 16 * (1 / d - mkRat 27315 100)
    if d ≤ 0 then 32767
    else clampI (if q.den = 1 then q.num else q.floor + (b2n (Config.thermUp code q) : Int)) (-32768) 32767

/-- Channel k has given a code, and, but for a thermistor, the value it stands for in the units of R548 (R547 to R550). -/
def converted (k code : Nat) (value : BitVec 16) (s : State) : State :=
  if 115 ≤ k && k ≤ 123 then checkLimits k (s.wrN (HKP_CH k) 0)
  else if 40 ≤ k && k ≤ 55 then
    let t := k - 40
    let temp := thermTemp code (s.fld (HKP_TH_NOM t)) (s.fld (HKP_TH_BETA t))
    let s1 := s.wrN (HKP_CH k) (code + ofInt temp 16 * 65536)
    let was := s.island.thermBad.contains t
    let s2 := if thermOk temp then updIsland (fun x => { x with thermBad := x.thermBad.filter (fun j => j != t) }) s1
      else if was then s1
      else hkpEvent 8 svERROR (0x40510000 + k) code (updIsland (fun x => { x with thermBad := t :: x.thermBad }) s1)
    checkLimits k s2
  else
    let s1 := checkLimits k (s.wrN (HKP_CH k) (code + value.toNat * 65536))
    if k = 57 then startDue (noteWindow (updIsland (fun x => { x with vinLow := decide (value.toInt ≤ 850) }) s1))
    else if k = 56 then startDue (noteWindow s1)
    else s1

/-- HKP_CONVERSION (R547): time passes to the end of the conversion in progress, 32 µs after it began, and the next channel follows. The round's
end advances HKP_ROUND; its steps come before the conversion of channel 2 of the next. -/
def execHkpConversion (code value : BitVec 16) (s0 : State) : Out :=
  let x := s0.island
  if x.privAt.isSome || !s0.power.islandUp || (x.roundAt.isSome && decide (2 ≤ x.channel)) then .next s0
  else
    let at_ := x.convAt + 32000
    let s := updIsland (fun y => { y with channel := (x.channel + 1) % 128, convAt := at_, roundAt := if x.channel = 127 then some at_ else x.roundAt }) (passTime (at_ - s0.now) s0)
    .next (converted x.channel code.toNat value (if x.channel = 127 then s.bump HKP_ROUND else s))

/-! ### Zones and the cross-check (R551 to R553) -/

/-- The zones adjacent to a zone (R551). -/
def adjacent (z : Nat) : List Nat :=
  [[1, 2], [0, 2], [0, 1, 3], [2, 4, 7], [3, 5], [4, 6], [5, 7], [3, 6, 8], [7, 9], [8]].getD z []

def codeOk (s : State) (i : Nat) : Bool := chCode s i != 0 && chCode s i != 0xFFFF
def suspect (s : State) (i : Nat) : Bool := bit (s.rdN HKP_SUSPECT) i

/-- The neighbours of a sensor (R552). -/
def neighbours (i : Nat) : List Nat :=
  ([0, 1, 2, 3].filter (fun k => k != i % 4)).map (fun k => 4 * (i / 4) + k) ++ (adjacent (i / 4)).map (fun z => 4 * z + i % 4)

/-- Insert into a list that rises. -/
def insInt (x : Int) : List Int → List Int
  | [] => [x]
  | y :: t => if x ≤ y then x :: y :: t else y :: insInt x t

def sortInt (l : List Int) : List Int := l.foldr insInt []

/-- The median (R552): of an even count, the mean of the two middle values rounded down. -/
def median (l : List Int) : Int :=
  let a := sortInt l
  let m := a.length / 2
  if a.length % 2 = 1 then a.getD m 0 else (a.getD (m - 1) 0 + a.getD m 0).fdiv 2

/-- The check of a sensor (R552), the readings and SUSPECT marks being those of `r`. -/
def checkSensor (r : State) (i : Nat) (s : State) : State :=
  let nb := ((neighbours i).filter (fun j => codeOk r j && !suspect r j)).map (chVal r)
  let bad := !codeOk r i
  if nb.length < 3 && !bad then s
  else
    let med := if nb.length < 3 then 0 else median nb
    let ok := !bad && decide ((chVal r i - med).natAbs ≤ 96)
    let x := kget (fun _ => {}) s.island.sens i
    let run := if ok then 0 else x.run + 1
    let s1 := updIsland (fun y => { y with sens := kset (fun _ => {}) y.sens i { run := run, checks := (ok :: x.checks).take 4 } }) s
    if 4 ≤ run && !suspect r i then
      hkpEvent 5 svWARNING (0x40520000 + i / 4 * 0x800 + i % 4) (ofInt (chVal r i) 16 + ofInt med 16 * 65536) (s1.setFld ⟨HKP_SUSPECT, i, 1⟩ 1)
    else s1

/-- The valid readings of a zone, rising. -/
def zoneReadings (s : State) (z : Nat) : List Int :=
  sortInt ((([0, 1, 2, 3].map (fun k => 4 * z + k)).filter (fun i => codeOk s i && !suspect s i)).map (chVal s))

/-- A zone's own temperature (R553): the second-highest of 3 or 4 valid readings, the higher of 2. -/
def zoneOwn (s : State) (z : Nat) : Option Int :=
  let l := zoneReadings s z
  if 3 ≤ l.length then some (l.getD (l.length - 2) 0) else if l.length = 2 then some (l.getD 1 0) else none

/-- The hottest of some zones that have a temperature of their own. -/
def hottest (s : State) (zs : List Nat) : Option (Nat × Int) :=
  zs.foldl (fun b z => match zoneOwn s z, b with
    | some t, some x => if x.2 < t then some (z, t) else b
    | some t, none => some (z, t)
    | none, _ => b) none

/-- The substitute for a zone (R553): the source zone and the temperature. -/
def zoneSubst (s : State) (z : Nat) : Option (Nat × Int) :=
  ((hottest s (adjacent z)).or (hottest s (List.range 10))).map (fun x => (x.1, x.2 + 160))

def rateWarn (s : State) : Int := (clampN (s.fld HKP_RATE_RATE_WARN) 5 60 : Nat)
def rateTrip (s : State) : Int := (clampN (s.fld HKP_RATE_RATE_TRIP) 20 200 : Nat)

/-- The rate of rise over 16 rounds of history, in °C/s toward zero (R554). -/
def rateOf (h : List Int) : Int := if h.length = 17 then ((h.headD 0 - h.getD 16 0) * 1000000).tdiv 1048576 else 0

/-- A zone's round (R553, R554). -/
def zoneRound (z : Nat) (s : State) : State :=
  let was := s.flag (HKP_Z_SUBST z)
  let x := kget (fun _ => ({} : ZoneRec)) s.island.zones z
  let own := zoneOwn s z
  let sub := zoneSubst s z
  match own.or (sub.map (fun e => e.2)) with
  | none => s.setFld ⟨HKP_Z z, 17, 3⟩ (zoneReadings s z).length
  | some t =>
    let h := (t :: (if was == own.isNone then x.hist else [])).take 17
    let rate := clampI (rateOf h) (-2048) 2047
    let warn := decide (rateWarn s < rate)
    let s1 := (updIsland (fun y => { y with zones := kset (fun _ => {}) y.zones z { hist := h, warn := warn } }) s).wrN (HKP_Z z)
      (pack [(0, 16, ofInt t 16), (16, 1, b2n own.isNone), (17, 3, (zoneReadings s z).length), (20, 12, ofInt rate 12)])
    let s2 := emitIf (own.isNone && !was) blkHKP 6 svWARNING (zoneLoc z) (ofInt t 16 + (sub.map (fun e => e.1)).getD 0 * 65536) s1
    emitIf (warn && !x.warn) blkHKP 7 svWARNING (zoneLoc z) (ofInt rate 12) s2

def zoneTemp (s : State) (z : Nat) : Int := sext (s.rdN (HKP_Z z)) 16
def zoneRate (s : State) (z : Nat) : Int := sext (s.rdN (HKP_Z z) / 2 ^ 20) 12

/-! ### T_GOV and throttling (R544, R555, R556) -/

/-- The zone that governs: the hottest. -/
def govZone (s : State) : Nat := (List.range 10).foldl (fun b z => if zoneTemp s b < zoneTemp s z then z else b) 0

def tGov (s : State) : Int := sext (s.fld HKP_T_GOV_T_GOV) 16
def thrStart (s : State) : Int := (16 * clampN (s.fld HKP_CTL_THR_START) 85 100 : Nat)
def tTrip (s : State) : Int := (16 * clampN (s.fld HKP_CTL_T_TRIP) 90 115 : Nat)

/-- ENG_THROT shows the level's effect (R351, R555). -/
def showThrot (s : State) : State :=
  let l := s.fld HKP_STAT_LEVEL
  let n := s.rdN HKP_SKIP_N / 256 ^ (l - 1) % 256
  s.wrN ENG_THROT (if l = 0 then 0 else if s.flag HKP_CTL_MODE then 4 + max 2 n * 256 else l)

/-- The level of a round (R555, R556). -/
def throttleRound (s : State) : State :=
  let t := tGov s
  let thr := thrStart s
  let hold := s.flag HKP_STAT_RATE_HOLD
  let force := s.fld HKP_CTL_FORCE
  let therm := if t < thr then 0 else if t < thr + 48 then 1 else if t < thr + 96 then 2 else 3
  let least := max (b2n hold) force
  let lv := s.fld HKP_STAT_LEVEL
  let cool := if 0 < lv && t ≤ thr + 48 * ((lv : Int) - 1) - 32 then s.island.cool + 1 else 0
  let lv' := if lv < max therm least then max therm least else if 16 ≤ cool && least < lv then lv - 1 else lv
  let s1 := updIsland (fun x => { x with cool := if lv' = lv then cool else 0 }) s
  if lv' = lv then s1
  else hkpEvent 1 svWARNING islandLoc (pack [(0, 2, lv'), (2, 1, b2n (hold && decide (max therm force < lv'))), (16, 16, ofInt t 16)]) (showThrot (s1.setFld HKP_STAT_LEVEL lv'))

/-! ### Fans (R557) -/

/-- The temperature of a fan's source, where it is valid. -/
def fanTemp (s : State) (src : Nat) : Option Int :=
  if src < 10 then some (zoneTemp s src)
  else if src = 10 then some (tGov s)
  else if src < 16 then none
  else if thermOk (chVal s (24 + src)) then some (chVal s (24 + src)) else none

/-- The duty of a fan, in %. -/
def fanDuty (s : State) (f : Nat) : Nat :=
  let mn := min 100 (s.fld (HKP_FAN_CTL_MIN f))
  let lo := s.fld (HKP_FAN_CTL_T_LO f)
  let hi := s.fld (HKP_FAN_CTL_T_HI f)
  if isLatched s then 100
  else match fanTemp s (s.rdN (HKP_FAN_CTL f) % 32) with
    | none => 100
    | some t =>
      if (16 * hi : Nat) ≤ t then 100
      else if t < (16 * lo : Nat) then mn
      else
        let num := (100 - mn) * (t.toNat - 16 * lo)
        let den := 16 * (hi - lo)
        mn + num / den + (if num % den = 0 then 0 else b2n (Config.fanUp mn lo hi t))

/-- A fan's round: its speed, its duty, and since when it is slow. -/
def fanRound (f rpm : Nat) (s : State) : State :=
  let r := if s.bankUp 0 then rpm else 0
  let d := fanDuty s f % 256
  let slow := decide (r < s.rdN HKP_TACH_MIN % 65536)
  let fail := s.flag (HKP_FAN_STAT_FAIL f) && slow
  let s1 := s.wrN (HKP_FAN_STAT f) (pack [(0, 16, r), (16, 1, b2n fail), (24, 8, d)])
  updIsland (fun x => { x with fanSlow := kset (fun _ => none) x.fanSlow f (if slow && 30 ≤ d then some ((kget (fun _ => none) x.fanSlow f).getD s.now) else none) }) s1

/-- FAN_FAIL (R557): time passes until a fan has stayed slow for 2 s. -/
def execFanFail (f : Fin 4) (s0 : State) : Out :=
  .next (match kget (fun _ => none) s0.island.fanSlow f.val with
    | none => s0
    | some t =>
      if s0.flag (HKP_FAN_STAT_FAIL f) || s0.island.privAt.isSome || !s0.power.islandUp then s0
      else
        let s := passTime (t + 2000000000 - s0.now) s0
        hkpEvent 10 svERROR islandLoc (f + s.rdN (HKP_FAN_STAT f) % 65536 * 65536) (s.setFld (HKP_FAN_STAT_FAIL f) 1))

/-! ### The life ledger (R574) -/

/-- The terms of the exponential series of x, n of them after `term`. -/
def expSeries (x : Rat) : Nat → Nat → Rat → Rat
  | 0, _, _ => 0
  | n + 1, k, term => term + expSeries x n (k + 1) (term * x / ((k : Rat) + 1))

/-- round(AF(T) × 4,096) at a whole temperature in °C (R574), from 96 terms of the series of |x|, far more than the rounding needs. -/
def ageStep (t : Int) : Nat :=
  let x : Rat := mkRat 70000000000 8617333 * (mkRat 100 35815 - mkRat 100 (100 * t + 27315).toNat)
  let y := if x < 0 then -x else x
  let e := expSeries y 96 0 1
  let a := if x < 0 then 1 / e else e
  (a * 4096 + mkRat 1 2).floor.toNat

/-- A temperature in 1/16 °C rounded up to a whole °C. -/
def ceilC (t : Int) : Int := -((-t).fdiv 16)

/-- The budget B, in equivalent µs (R574). -/
def lifeBudget : Nat := 1335700800000000

/-- The hottest sensor of array a of port p, where it has reported. -/
def arrayTemp (s : State) (p a : Nat) : Option Int :=
  let r := (s.port p).arr a
  (([0, 1, 2, 3].filter (fun k => bit r.reported k)).map (fun k => sext (kget (fun _ => 0) r.tempVal k) 16)).foldl
    (fun b t => match b with
      | some x => some (if x < t then t else x)
      | none => some t) none

/-- The ledger's round (R574). -/
def ledgerRound (s : State) : State :=
  let eq := s.rdN HKP_LEDGER_EQ + ageStep (ceilC (tGov s))
  let s1 := ((s.wrN HKP_LEDGER_EQ eq).wrN HKP_LEDGER_TIME (s.rdN HKP_LEDGER_TIME + 4096)).wrN HKP_LIFE_PPM (min (eq * 1000000 / lifeBudget) 0xFFFFFFFF)
  let s2 := if !s.island.seen || sext (s.rdN HKP_T_MAX) 16 < tGov s then s1.wrN HKP_T_MAX (ofInt (tGov s) 16) else s1
  (List.range 12).foldl (fun t i => match arrayTemp t (i / 3) (i % 3) with
    | some x => t.wrN (HKP_ARR_EQ i) (t.rdN (HKP_ARR_EQ i) + ageStep (ceilC x))
    | none => t) (updIsland (fun x => { x with seen := true }) s2)

/-! ### Latched shutdown (R545) -/

/-- Latched shutdown begins, its times counted from `at_`, with its cause, zone and zone temperature; a later cause changes nothing. -/
def latch (at_ cause zone : Nat) (temp : Int) (s : State) : State :=
  if isLatched s then s
  else
    let s1 := (s.setFld HKP_STAT_LATCHED 1).setFld HKP_STAT_CAUSE cause
    let s2 := allStrings.foldl (fun t n => shutdownDark n t) s1
    let s3 := calAbandon (twinShutdown (axesShutdown s2))
    let s4 := [0, 1, 2, 3].foldl (fun t f => t.setFld ⟨HKP_FAN_STAT f, 24, 8⟩ 100) s3
    hkpEvent 3 svSAFETY shutLoc (pack [(0, 3, cause), (4, 4, zone), (16, 16, ofInt temp 16)]) (noteWindow (updIsland (fun x => { x with shutAt := some at_ }) s4))

/-- The cause that a round finds, if any (R545): TEMP, RATE or NO_SENSOR, with its zone and temperature. -/
def roundCause (s : State) : Option (Nat × Nat × Int) :=
  if tTrip s ≤ tGov s then some (1, govZone s, tGov s)
  else match (List.range 10).find? (fun z => decide (rateTrip s < zoneRate s z)) with
    | some z => some (2, z, zoneTemp s z)
    | none => if (hottest s (List.range 10)).isNone then some (3, 0, zoneTemp s 0) else none

/-- A bank's temperature source, in whole °C (R253). -/
def bankTemp (s : State) (b : Nat) : Option Int :=
  let src := s.rdN (LDR_BANK_TSRC b) % 32
  let t := if src < 16 then (if thermOk (chVal s (40 + src)) then some (chVal s (40 + src)) else none)
    else if src < 26 then some (zoneTemp s (src - 16)) else none
  t.map (fun x => x.fdiv 16 + (if x % 16 = 0 then 0 else (b2n (Config.wholeUp x) : Int)))

/-- Do the converter's references lie within ±2 % (R559): the codes of ground, mid-scale and full scale, the first within 2 % of full scale
(DESIGN CHOICE, log entry 98)? -/
def refsOk (s : State) : Bool :=
  decide (chCode s 124 * 100 ≤ 2 * 65535) && decide (98 * 32768 ≤ chCode s 125 * 100) && decide (chCode s 125 * 100 ≤ 102 * 32768) &&
    decide (98 * 65535 ≤ chCode s 126 * 100)

/-- The steps of a round that ended at `end_` (R547), fan speeds given. -/
def hkpRound (end_ : Nat) (rpm : List Nat) (s : State) : State :=
  let s1 := (List.range 40).foldl (fun t i => checkSensor s i t) s
  let s2 := (List.range 10).foldl (fun t z => zoneRound z t) s1
  let beyond := (List.range 10).any (fun z => decide (rateWarn s2 < zoneRate s2 z))
  let s3 := (updIsland (fun x => { x with hold := if beyond then 16 else x.hold - 1 }) s2).setFld HKP_STAT_RATE_HOLD (b2n (beyond || s2.island.hold != 0))
  let g := govZone s3
  let t := zoneTemp s3 g
  let s4 := s3.wrN HKP_T_GOV (ofInt t 16 + g * 65536)
  let hot := decide (1680 < t)
  let s5 := emitIf (hot && !s4.flag HKP_STAT_OVER_RANGE) blkHKP 2 svWARNING (zoneLoc g) (ofInt t 16 * 65536) (s4.setFld HKP_STAT_OVER_RANGE (b2n hot))
  let s6 := throttleRound s5
  let s7 := [0, 1, 2, 3].foldl (fun u f => fanRound f (rpm.getD f 0) u) s6
  let s8 := [0, 1, 2, 3, 4, 5, 6, 7].foldl (fun u v => vioRound v u) s7
  let s9 := [0, 1, 2, 3].foldl (fun u b => derateRound b (bankTemp u b) u) { s8 with vin10 := (chVal s8 57).toNat }
  let s10 := noteWindow (updIsland (fun x => { x with stepped := true }) (ledgerRound s9))
  let s11 := match if isLatched s10 then none else roundCause s10 with
    | some c => latch end_ c.1 c.2.1 c.2.2 s10
    | none => s10
  let s12 := if s11.rdN HKP_ROUND % 1024 = 0 && s11.flag (CAL_T_CTL_EN 9) && (s11.cal 9).run.isNone then calStart 9 (4 * s11.now) none (refsOk s11) s11 else s11
  startDue s12

/-- HOUSEKEEPING_ROUND (R547): the round's steps run `lag` ns after the end of channel 127, at most 64 µs; the four fans' speeds are measured. -/
def execHousekeepingRound (lag : Fin 64001) (rpm0 rpm1 rpm2 rpm3 : BitVec 16) (s0 : State) : Out :=
  .next (match s0.island.roundAt with
    | none => s0
    | some t =>
      if s0.island.privAt.isSome || !s0.power.islandUp then s0
      else hkpRound t [rpm0.toNat, rpm1.toNat, rpm2.toNat, rpm3.toNat] (updIsland (fun x => { x with roundAt := none }) (passTime (t + lag - s0.now) s0)))

/-- SHUTDOWN_CLOCK_STOP (R545): time passes to 100 µs into latched shutdown; DRAM content is lost, and the facet links stop. -/
def execShutdownClockStop (s0 : State) : Out :=
  .next (match s0.island.shutAt with
    | none => s0
    | some t =>
      if s0.island.clocksOff then s0
      else
        let s := passTime (t + 100000 - s0.now) s0
        let s1 := [0, 1, 2, 3].foldl (fun u k => if linkStage u k = 0 then u else setStage k 0 u) s
        { s1 with dram := [], memc := { s1.memc with uncorr := [] }, island := { s1.island with clocksOff := true } })

/-! ### Privileged shutdown (R546) -/

/-- PRIVILEGED_SHUTDOWN (R546): the comparator of zone z reads 125 °C or more, `temp` in 1/16 °C. -/
def execPrivilegedShutdown (z : Fin 10) (dt : Nat) (temp : BitVec 16) (s0 : State) : Out :=
  let s := passTime dt s0
  if s.island.privAt.isSome || !s.power.islandUp || decide (temp.toInt < 2000) then .next s
  else
    let s1 := latch s.now 4 z temp.toInt s
    let s2 := [4, 5, 6, 7].foldl (fun u k => if linkStage u k = 0 then u else setStage k 0 u) s1
    let s3 := if s2.hostIf.linkDown then s2 else pcieDown s2
    .next (updIsland (fun x => { x with privAt := some s.now, pcieDown := true }) s3)

/-- The registers of a block take their reset values, but for those that a test keeps. -/
def resetRegs (drop : Nat → Bool) (s : State) : State := { s with regs := s.regs.filter (fun e => !drop e.1) }

/-- The registers of the island's blocks, but for fuses and NVM_WR_ABORT. -/
def islandReg (r : Nat) : Bool :=
  (r / 0x100000 == 14 || r / 0x100000 == 15 || r / 0x100000 == 16) && r != NVM_SVN_MIN && r != NVM_WR_ABORT

/-- The LEDGER in effect at the island's boot (R575): that of the newest valid slot, or all 0. -/
def bootLedger (s : State) : State :=
  match newestSlot s 5 with
  | some n => loadLedger (kget (fun _ => {}) s.geode.slots n.1) s
  | none => loadLedger {} s

/-- ISLAND_RESTART (R546, R592): every comparator has read below 100 °C for 1 s. Latched shutdown is kept. -/
def execIslandRestart (dt : Nat) (s0 : State) : Out :=
  let s := passTime dt s0
  match s.island.privAt with
  | none => .next s
  | some t =>
    if s.now < t + 1000000000 then .next s
    else
      let c := s.fld HKP_STAT_CAUSE
      let s1 := resetRegs islandReg s
      let s2 := { s1 with cals := [], island := { shutAt := s.island.shutAt, clocksOff := s.island.clocksOff, pcieDown := s.island.pcieDown, vinLow := s.island.vinLow, convAt := s.now }, geode := { s1.geode with op := none } }
      let s3 := bootLedger ((s2.setFld HKP_STAT_LATCHED 1).setFld HKP_STAT_CAUSE c)
      let s4 := [0, 1, 2, 3].foldl (fun u f => u.setFld ⟨HKP_FAN_STAT f, 24, 8⟩ 100) (s3.bump HKP_PRIV_CNT)
      let s5 := [4, 5, 6, 7].foldl (fun u k => if u.flag (LNK_K_CTL_EN k) then enterDetect k u.now u else u) s4
      .next (showSlots (showLog (hkpEvent 4 svSAFETY shutLoc ((s.now - t) / 1000000 % 2 ^ 32) s5)))

/-! ### Other commands -/

/-- A write of HKP_SENS_CLR (R552). -/
def sensClr (i : Nat) (s : State) : State :=
  let x := kget (fun _ => ({} : SensRec)) s.island.sens i
  if decide (i < 40) && x.checks == [true, true, true, true] then
    (s.setFld ⟨HKP_SUSPECT, i, 1⟩ 0).setFld HKP_STAT_CMD_STATUS stOK
  else s.setFld HKP_STAT_CMD_STATUS stPRECOND

/-- SENS_CLR (R552). -/
def execSensClr (i : BitVec 6) (s : State) : Out :=
  if !s.mainOn then .next s else
  .next (sensClr i.toNat s)

/-- A write of HKP_RATE (R554): one that sets RATE_TRIP at or below RATE_WARN is ignored. -/
def rateWrite (v : Nat) (s : State) : State :=
  if clampN (bits v 8 8) 20 200 ≤ clampN (v % 256) 5 60 then s else s.wrN HKP_RATE (v % 65536)

/-- The lands COOL0 and COOL1 (R545, R557): asserted under latched shutdown. -/
def coolLands (s : State) : Nat := if isLatched s then 3 else s.rdN HKP_COOL % 4

/-- SRAM_SCRUB (R558): the pad of a bobbin (0 to 127) or the shared memory of a pillow (128 to 135) has a word, at an offset, that is
corrected, or that is uncorrectable. The tile and macro of a shared memory are free (log entry 4). -/
def execSramScrub (mem : Fin 136) (off : BitVec 21) (uncorr : Bool) (dt : Nat) (s0 : State) : Out :=
  let s := passTime dt s0
  if isLatched s || s.island.privAt.isSome then .next s
  else
    let pad := decide (mem.val < 128)
    let k := if pad then mem.val else mem.val - 128
    let o := off.toNat / 8 * 8 % (if pad then 131072 else 2097152)
    let f := s.takeFree
    let loc := if pad then 0x20000000 + k / 16 * 0x10000 + k % 16 * 0x800 + 1 else 0x20000000 + k * 0x10000 + f.1.toNat % 65536
    let s1 := if pad then s else f.2
    if uncorr then
      let w := (k * (if pad then 131072 else 2097152) + o) / 8
      .next (hkpEvent 12 svERROR loc o (updIsland (fun x =>
        if pad then { x with padBad := if x.padBad.contains w then x.padBad else w :: x.padBad }
        else { x with pilBad := if x.pilBad.contains w then x.pilBad else w :: x.pilBad }) (s1.bump HKP_SCRUB_UNCORR_CNT)))
    else
      let s2 := s1.bump HKP_SCRUB_CORR_CNT
      .next (if msPassed s.island.scrubAt s.now then hkpEvent 11 svNOTICE loc o (updIsland (fun x => { x with scrubAt := some s.now }) s2) else s2)

end Sys2Proof.Machine
end

