-- ==== Sys2Proof/Machine/Pwr.lean ====
section
/-! DEFINITION. Machine/Pwr.lean: supplies, resets, boot, recovery and the TAP's instructions (R583 to R599, R610, R611, R614 to R616). -/

namespace Sys2Proof.Machine

def updPower (f : Power → Power) (s : State) : State := { s with power := f s.power }

/-! ### Resets of the main die (R589, R592, R594) -/

/-- Is a register kept when the main die is reset: the island's blocks, what DBG keeps, the RWS field, and for a warm reset the PCI Express
link and configuration space, and the levels that lands have? -/
def keptReg (warm : Bool) (r : Nat) : Bool :=
  (decide (14 ≤ r / 0x100000) && decide (r / 0x100000 ≤ 16)) || r == DBG_RST_CAUSE || r == DBG_RST_CNT || r == DBG_CTL || r == DBG_VIO_STAT || r == DBG_REFCLK ||
    r == GLB_HOSTRST_CNT || (warm && (r == GLB_LINK || r == GLB_FN_EN))

/-- The channels whose content a warm reset keeps: those ONLINE enter self-refresh (R594). -/
def onlineChans (s : State) : List Nat := (List.range 16).filter (fun c => s.flag (MEM_C_STAT_ONLINE c))

/-- The pipes' counts of latches run since power-on reset (R215). -/
def isFrameCnt (r : Nat) : Bool := [0, 1, 2, 3].any (fun p => r == PIX_P_FRAME_CNT p)

/-- What a reset of the main die leaves of the facet ports: the last capability exchange completed since power-on reset (R167). -/
def keptPorts (s : State) : KMap Port :=
  let k := fun a : ArrayRec => ({ doneCaps := a.doneCaps } : ArrayRec)
  [0, 1, 2, 3].foldl (fun m p => let x := s.port p; kset (fun _ => {}) m p { capsDone := x.capsDone, arr0 := k x.arr0, arr1 := k x.arr1, arr2 := k x.arr2 }) []

/-- The main die is reset, warm or with the loss of its supplies: everything it holds takes its reset value, but for what R592 and R594
keep, and what R167 and R215 count or hold since power-on reset (log entry 115). -/
def mainReset (warm : Bool) (s : State) : State :=
  let hold := s.fld CAS_TW_STAT_HOLD_I
  let dem := s.fld CAS_TW_STAT_DEM_I
  let lv := s.fld LDR_INTLK_STAT_LEVEL
  let t : State := { pending := s.pending, now := s.now, showAcc := if warm then s.showAcc else 0, regs := s.regs.filter (fun e => keptReg warm e.1 || isFrameCnt e.1), ports := keptPorts s, lastRead := s.lastRead, freeCtr := s.freeCtr, dram := if warm then s.dram.filter (fun e => s.power.selfRef.contains (chanOf e.1)) else [], host := s.host, msix := if warm then s.msix else [], hostIf := if warm then s.hostIf else {}, hostMsgs := s.hostMsgs, heldEvents := s.heldEvents, shdEdges := s.shdEdges, vin10 := s.vin10, island := s.island, cals := s.cals, geode := s.geode, store := s.store, power := s.power, mmu := { priEn := warm && s.mmu.priEn }, tree := { mayStep := !warm || s.tree.mayStep } }
  (((t.setFld CAS_TW_STAT_HOLD_I hold).setFld CAS_TW_STAT_DEM_I dem).setFld LDR_INTLK_STAT_LEVEL lv)

/-- The outputs are made safe (R589, R594): shunts closed, gates off; a holding twin releases. -/
def outputsSafe (s : State) : State :=
  twinRelease (allStrings.foldl (fun t n => stringSafe n t) (calAbandon s))

/-- The brown-out sequence (R589, R591, R593): it wins against a warm reset. Causes as RST_CAUSE. -/
def brownOut (cause : Nat) (s : State) : State :=
  let rails := if cause = 4 then s.power.rails + 1 else 0
  if !s.power.mainUp then (if s.power.refWait then updPower (fun p => { p with refWait := false, offAt := some s.now, offCause := cause, rails := rails }) s else s)
  else
    let t := updPower (fun p => { p with mainUp := false, warm := none, booted := false, offAt := some s.now, offCause := cause, rails := rails, pwrgd := false, faultN := false, svn := none, selfRef := [] }) (outputsSafe s)
    (mainReset false t).wrN DBG_RST_CAUSE cause

/-- VIN_PF (R588, R570): VIN at or below 8.5 V closes the write window. -/
def execVinPf (dt : Nat) (s0 : State) : Out := .next (noteWindow (updIsland (fun x => { x with vinLow := true }) (passTime dt s0)))

/-- BROWN_OUT (R589). -/
def execBrownOut (dt : Nat) (s : State) : Out := .next (brownOut 2 (noteWindow (updIsland (fun x => { x with vinLow := true }) (passTime dt s))))

/-- OVERVOLT (R591). -/
def execOvervolt (dt : Nat) (s : State) : Out := .next (brownOut 3 (passTime dt s))

/-- RAIL_FAULT (R591). -/
def execRailFault (dt : Nat) (s : State) : Out := .next (brownOut 4 (passTime dt s))

/-- REFCLK_LOSS (R591, R596). -/
def execRefclkLoss (dt : Nat) (s0 : State) : Out :=
  let s := passTime dt s0
  .next (if s.power.mainUp then (brownOut 5 s).setFld DBG_REFCLK_PRESENT 0 else s)

/-- BROWNOUT_RECOVERY (R589, R591, R593): after dt the cause has cleared with VIN above VIN_ON; once the main die has been off for 1 ms, or for 100 ms
after a RAIL cause, power-up resumes and waits for REFCLK. -/
def execBrownoutRecovery (dt : Nat) (s0 : State) : Out :=
  match s0.power.offAt with
  | none => .next (passTime dt s0)
  | some t =>
    let s := passTime (max dt (t + (if s0.power.offCause = 4 then 100000000 else 1000000) - s0.now)) s0
    if s.power.mainUp || !islandRuns s || isLatched s || (s.power.offCause == 4 && decide (3 ≤ s.power.rails)) then .next s
    else .next (updPower (fun p => { p with refWait := true, offAt := none, bootFrom := s.now }) s)

/-- ISLAND_STOP (R588, R571): VIN falls below VIN_ISL. The store page in flight completes and nothing further is programmed. -/
def execIslandStop (dt : Nat) (s0 : State) : Out :=
  let s := brownOut 2 (passTime dt s0)
  let s1 := match s.geode.op with
    | some o =>
      if o.op = 3 then program (logPage o.seq) (logBytes o.seq o.data (crc32 (logBytes o.seq o.data 0))) s
      else if o.op = 1 || o.op = 5 then
        program (slotPage o.obj o.slot + o.step) (if o.step = 0 then headerBytes o else if o.step ≤ dataPages o then (o.data.drop ((o.step - 1) * 4096)).take 4096 else commitBytes o s.showTime) s
      else s
    | none => s
  .next (updPower (fun p => { p with islandUp := false, refWait := false }) (updGeode (fun g => { g with op := none }) s1))

/-- POWER_ON_RESET (R592, R595): VIN passes VIN_ON after the island had stopped. The island runs and the ledger is reloaded; the main die
waits for its rails and REFCLK. -/
def execPowerOnReset (dt : Nat) (s0 : State) : Out :=
  let s := passTime dt s0
  if s.power.islandUp then .next s
  else
    let t : State := { pending := s.pending, now := s.now, freeCtr := s.freeCtr, host := s.host, hostMsgs := s.hostMsgs, shdEdges := s.shdEdges, store := s.store, regs := s.regs.filter (fun e => e.1 == NVM_SVN_MIN), island := { convAt := s.now }, geode := { slots := s.geode.slots, savedAt := s.now }, power := { mainUp := false, refWait := true, bootFrom := s.now, pwrgd := false } }
    let s1 := showLog (bootLedger t)
    .next (if (newestSlot s1 5).isSome then s1 else updGeode (fun g => { g with found := [], due := false }) s1)

/-- The main die is released, and the geode scans the headers and reads the boot image (R595, R597). -/
def releaseMain (s : State) : State :=
  let s1 := updPower (fun p => { p with relAt := s.now, mainUp := true, refWait := false, pwrgd := true, booted := false }) s
  let s2 := if (newestSlot s1 5).isSome then s1 else nvmEvent 3 svWARNING 5 s1
  startDue (geodeScan (s2.setFld DBG_BOOT_STAT_STATE 1))

/-- REFCLK_PRESENT (R595, R596): REFCLK measures `khz`. The main die starts only after a housekeeping round. -/
def execRefclkPresent (dt : Nat) (khz : BitVec 24) (s0 : State) : Out :=
  let s := passTime dt s0
  let ok := decide (98000 ≤ khz.toNat) && decide (khz.toNat ≤ 102000)
  if !s.power.refWait then .next s
  else
    let s1 := s.wrN DBG_REFCLK (b2n ok + khz.toNat * 256)
    .next (if ok && !isLatched s && islandRuns s && s.island.stepped then releaseMain s1 else s1)

/-! ### Boot (R597, R598) and recovery (R599) -/

/-- Bobbin 0, thread 0 starts an image at an address, with PRIV 1, TPRI 3 and ASID 0 (R598). -/
def startImage (pc svn : Nat) (s : State) : State :=
  let s1 := s.wrN (ENG_B_T_CFG 0 0) 0
  let s2 := ((s1.setFld (ENG_B_T_CFG_PRIV 0 0) 1).setFld (ENG_B_T_CFG_TPRI 0 0) 3).setFld DBG_BOOT_STAT_STATE 2
  let s3 := s2.wrN DBG_BOOT_TIME (min ((s.now - s.power.bootFrom) / 1000000) 0xFFFFFFFF)
  startThread 0 pc (updPower (fun p => { p with booted := true, svn := some svn, faultN := true }) s3)

/-- Why a FIRMWARE slot does not boot (R597, R615): 0 where it does; its image header and body. `mis` says that the store misreads it. -/
def bootCheck (s : State) (sl : Nat) (mis : Bool) : Nat × List Byte × List Byte :=
  match slotValid s 2 sl with
  | none => (7, [], [])
  | some h =>
    let img := storeRead s (slotPage 2 sl + 1) 0 h.len
    let hdr := img.take 512
    let body := img.drop 512
    let why := if mis then 6 else verifyImage s hdr body
    ((if why = 0 && decide (min (2 ^ 21) body.length ≤ dNat hdr 32 8) then 5 else why), hdr, body)

def slotSeq (s : State) (sl : Nat) : Nat := ((slotValid s 2 sl).map (fun h => h.seq)).getD 0
def reasonFld (sl : Nat) : Fld := if sl = 0 then DBG_BOOT_STAT_REASON_A else DBG_BOOT_STAT_REASON_B

/-- The module boots from a slot (R598, R616). -/
def bootFromSlot (sl : Nat) (hdr body : List Byte) (s : State) : State :=
  let q := slotSeq s sl
  let s1 := { s with pilMem := writeMem s.pilMem 0 (body.take (2 ^ 21)) }
  let s2 := startImage (0xFFFFFFC00000 + dNat hdr 32 8) (dNat hdr 20 4) ((s1.setFld DBG_BOOT_STAT_SLOT sl).wrN DBG_BOOT_SEQ q)
  let s3 := dbgEvent 1 svINFO 0x60550000 (s2.rdN DBG_RST_CAUSE % 16 + s2.rdN DBG_BOOT_TIME * 2 ^ 32) s2
  dbgEvent 2 svINFO 0x60550000 (sl + s3.fld DBG_BOOT_STAT_FALLBACK * 2 + q % 2 ^ 56 * 256) s3

/-- Neither slot boots: RECOVERY (R597, R599); the memory that the read filled is cleared (R598). -/
def enterRecovery (s : State) : State :=
  let s1 := { s with pilMem := s.pilMem.filter (fun e => decide (2 ^ 21 ≤ e.1)) }
  dbgEvent 4 svCRITICAL 0x60550000 (s1.fld DBG_BOOT_STAT_REASON_A + s1.fld DBG_BOOT_STAT_REASON_B * 16) (s1.setFld DBG_BOOT_STAT_STATE 3)

/-- BOOT_READ_DONE (R597, R598): `misA` and `misB` say that the store misreads slot A or B. -/
def execBootReadDone (dt : Nat) (misA misB : Bool) (s0 : State) : Out :=
  let s := passTime dt s0
  if !s.mainOn || s.power.booted || s.fld DBG_BOOT_STAT_STATE == 3 then .next s
  else
    let mis := fun sl : Nat => if sl = 0 then misA else misB
    match newestSlot s 2 with
    | none => .next (enterRecovery ((s.setFld DBG_BOOT_STAT_REASON_A 7).setFld DBG_BOOT_STAT_REASON_B 7))
    | some n =>
      let a := n.1
      let c := bootCheck s a (mis a)
      if c.1 = 0 then .next (bootFromSlot a c.2.1 c.2.2 s)
      else
        let s1 := s.setFld (reasonFld a) c.1
        let d := bootCheck s (1 - a) (mis (1 - a))
        if d.1 = 7 then .next (enterRecovery (s1.setFld (reasonFld (1 - a)) 7))
        else
          let s2 := dbgEvent 3 svWARNING 0x60550000 (a + c.1 * 16 + slotSeq s a % 2 ^ 56 * 256) (s1.setFld DBG_BOOT_STAT_FALLBACK 1)
          if d.1 = 0 then .next (bootFromSlot (1 - a) d.2.1 d.2.2 s2) else .next (enterRecovery (s2.setFld (reasonFld (1 - a)) d.1))

/-- DBG_RCV_STAT after a GO. -/
def rcvStat (st reason : Nat) (s : State) : State := s.wrN DBG_RCV_STAT (st + reason * 256)

/-- A write of DBG_RCV_CMD.GO (R599). -/
def rcvGo (s : State) : State :=
  let len := s.rdN DBG_RCV_LEN
  if s.fld DBG_BOOT_STAT_STATE != 3 then rcvStat stPRECOND 0 s
  else if 2 ^ 24 < len then rcvStat stBADDESC 0 s
  else
    let hdr := (List.range 128).flatMap (fun k => leBytes 4 (s.rdN (DBG_RCV_HDR k)))
    let why := verifyImage s hdr (readMem s.pilMem 0 len)
    if why != 0 then dbgEvent 8 svERROR 0x60550000 why (rcvStat stNOTPERM why s)
    else
      let s1 := startImage (0xFFFFFE000000 + dNat hdr 32 8) (dNat hdr 20 4) ((rcvStat stOK 0 s).setFld DBG_BOOT_STAT_RECOVERED 1)
      let s2 := dbgEvent 1 svINFO 0x60550000 (s1.rdN DBG_RST_CAUSE % 16 + s1.rdN DBG_BOOT_TIME * 2 ^ 32) s1
      dbgEvent 2 svINFO 0x60550000 (s2.fld DBG_BOOT_STAT_SLOT + s2.fld DBG_BOOT_STAT_FALLBACK * 2 + 4) s2

/-- RCV_GO (R599). -/
def execRcvGo (dt : Nat) (s : State) : Out :=
  if !s.mainOn then .next s else
  .next (rcvGo (passTime dt s))

/-! ### Warm reset (R592 to R594) -/

/-- A warm reset is requested (R592 to R594): 6 RESET_N, 7 SOFT, 8 TEST. Ignored under latched shutdown; one that runs is extended. -/
def warmReset (cause : Nat) (kind : WarmKind) (s : State) : State :=
  if isLatched s || !s.power.mainUp then s
  else if s.power.warm.isSome then updPower (fun p => { p with warm := some kind, warmAt := s.now }) s
  else
    let s1 := updPower (fun p => { p with selfRef := onlineChans s }) (outputsSafe s)
    let s2 := updPower (fun p => { p with warm := some kind, warmAt := s.now, booted := false, faultN := false, bootFrom := s.now, svn := none }) (mainReset true s1)
    (s2.wrN DBG_RST_CAUSE cause).bump DBG_RST_CNT

/-- WARM_RESET (R592, R594): RESET_N is low for at least 1 µs, which it cannot read as while bank 0 is DOWN (R585). -/
def execWarmReset (dt : Nat) (s0 : State) : Out :=
  let s := passTime dt s0
  .next (if s.bankUp 0 then warmReset 6 .pin s else s)

/-- A write of DBG_RST_CMD (R592, R614). -/
def rstCmd (v : Nat) (s : State) : State := if v = 0x5741524D then warmReset 7 .soft s else s

/-- RST_CMD (R592). -/
def execRstCmd (v : BitVec 32) (s : State) : Out :=
  if !s.mainOn then .next s else
  .next (rstCmd v.toNat s)

/-- A warm reset ends, and boot proceeds from the geode step (R594). -/
def warmRelease (s : State) : State := releaseMain (updPower (fun p => { p with warm := none }) s)

/-- WARM_RESET_RELEASE (R594): RESET_N is high after dt, and boot proceeds no earlier than the step at 50 µs; or time passes to 100 µs after the
write of DBG_RST_CMD. -/
def execWarmResetRelease (dt : Nat) (s : State) : Out :=
  .next (match s.power.warm with
    | some .pin => warmRelease (passTime (max dt (s.power.warmAt + 50000 - s.now)) s)
    | some .soft => warmRelease (passTime (s.power.warmAt + 100000 - s.now) s)
    | _ => passTime dt s)

/-! ### VGD (R586) -/

/-- VGD_LOW (R586): VGDb has stood below 9.0 V for 1 µs, at a voltage in mV. A string that was lit latches OPEN. -/
def execVgdLow (b : Fin 4) (dt : Nat) (mv : BitVec 16) (s0 : State) : Out :=
  let s := settleLight (passTime dt s0)
  if (s.bank b).vgdLow || decide (9000 ≤ mv.toNat) then .next s
  else
    let lit := (bankStrings b).filter (fun n => strMode s n != 0 && !strClosed s n && (s.str n).iref != 0)
    let s1 := (bankStrings b).foldl (fun t n => stringSafe n t) s
    let s2 := lit.foldl (fun t n => ldrEvent 3 svSAFETY (strLoc n) (t.fld (LDR_S_PROT_OPEN_NS n)) (darken n cOPEN (updStr n (fun r => { r with openSeen := true }) t))) s1
    .next (dbgEvent 7 svERROR (0x50C06800 + b) (b + mv.toNat * 65536) (s2.setBank b { s2.bank b with vgdLow := true, vgdAt := s2.now }))

/-- VGD_RECOVERY (R586): VGDb has stood at or above 9.5 V for 1 ms, and the lands are released. -/
def execVgdRecovery (b : Fin 4) (dt : Nat) (s0 : State) : Out :=
  let s := passTime dt s0
  if (s.bank b).vgdLow && decide ((s.bank b).vgdAt + 1000000 ≤ s.now) then
    .next ((bankStrings b).foldl (fun t n => setIref n t) (s.setBank b { s.bank b with vgdLow := false }))
  else .next s

/-! ### The TAP (R610, R611) -/

/-- A TAP instruction other than EXTEST, CLAMP and HIGHZ loads: a test's warm reset ends (R610). The TAP is held in Test-Logic-Reset while
bank 6 is DOWN (R585). -/
def tapLoad (code : Nat) (s : State) : State :=
  if !s.bankUp 6 then s
  else
    let s1 := updPower (fun p => { p with tap := code }) s
    if s.power.warm = some .test then warmRelease s1 else s1

/-- EXTEST, CLAMP or HIGHZ loads (R610, R611): with JTAG_LOCK it acts as BYPASS. -/
def tapTest (code : Nat) (s : State) : State :=
  if !s.bankUp 6 then s
  else if s.flag DBG_CTL_JTAG_LOCK then tapLoad 0xFF s
  else warmReset 8 .test (updPower (fun p => { p with tap := code }) s)

/-- EXTEST (R610). -/
def execExtest (s : State) : Out := .next (tapTest 0x00 s)

/-- IDCODE (R610): the instruction loads, and its data register is DBG_JTAG_ID. -/
def execIdcode (s : State) : Out := .next (tapLoad 0x01 s)

/-- SAMPLE_PRELOAD (R610). -/
def execSamplePreload (s : State) : Out := .next (tapLoad 0x02 s)

/-- HIGHZ (R610). -/
def execHighz (s : State) : Out := .next (tapTest 0x04 s)

/-- CLAMP (R610). -/
def execClamp (s : State) : Out := .next (tapTest 0x05 s)

/-- DBG_ACCESS (R611). -/
def execDbgAccess (s : State) : Out := .next (tapLoad 0x20 s)

/-- BYPASS (R610). -/
def execBypass (s : State) : Out := .next (tapLoad 0xFF s)

/-- JTAG_LOCK (R611): a write of 1 sets it until power-on reset. -/
def execJtagLock (s : State) : Out :=
  if !s.mainOn then .next s else
  .next (s.setFld DBG_CTL_JTAG_LOCK 1)

end Sys2Proof.Machine
end

