-- ==== Sys2Proof/Machine/Resolve.lean ====
section
/-! DEFINITION. Machine/Resolve.lean: held accesses are retried or fail (R337, R360, R363, R367, R368, R436, R459). -/

namespace Sys2Proof.Machine

/-- A fault of a claimed entry's job is resolved (R421, R459): it goes on, or ends FAULT. -/
def resolveJob (q idx : Nat) (fail : Bool) (s : State) : State :=
  updClaim q idx (fun c => if fail then { c with outcome := some (c.outcome.getD stFAULT) } else { c with held := false }) s

/-- The queue whose entry a compression unit works on. -/
def queueOfUnit (s : State) (u idx : Nat) : Option Nat :=
  (s.queues.find? (fun e => e.2.claims.any (fun c => c.idx == idx && decide (c.by_ = .cmp u)))).map (fun e => e.1)

/-- Enter ERROR with its events (R436). -/
def failQueue (q seq : Nat) (s : State) : State :=
  let e := queueError q seq s
  emitAll e.2 e.1

/-- A ring entry's write goes again, or its queue enters ERROR (R436). -/
def resolveRingWrite (q seq va : Nat) (data : List Byte) (fail : Bool) (s : State) : State :=
  if fail then failQueue q seq s
  else
    let r := ringStore q ((va - qBase s q) / 64) data s
    emitAll r.2 r.1

/-- A held access is resolved (R368): what its agent does on success, where the access translates again, and on failure. -/
def resolveAgent (h : HeldAccess) (fail : Bool) (s : State) : State :=
  match h.agent with
  | 1 => resolveThread h.unit fail s
  | 2 => resolveMove (h.unit % 512) (h.unit / 512) fail s
  | 3 =>
    if h.sub = 0 then resolveRingWrite h.unit h.seq h.va h.data fail s
    else if h.sub = 1 then
      let s1 := updQueue h.unit (fun r => { r with readHeld := false }) s
      if fail then failQueue h.unit h.seq s1 else s1
    else resolveJob h.unit (h.sub - 2) fail s
  | 4 =>
    match queueOfUnit s h.unit (h.sub - 2) with
    | some q => resolveJob q (h.sub - 2) fail s
    | none => s
  | 5 => if fail then updLayer (h.unit % 4) (h.unit / 4 % 8) (fun x => { x with bad := true }) s else s
  | 9 => resolveCas h.unit h.va h.data fail s
  | _ => s

/-- Resolve a held access, if it is still held. -/
def resolveHeld (h : HeldAccess) (fail : Bool) (s : State) : State :=
  if s.mmu.held.contains h then
    resolveAgent h fail (showHeld { s with mmu := { s.mmu with held := s.mmu.held.erase h } })
  else s

/-- RESOLVE (R367): a write of MMU_RESOLVE. -/
def resolveWrite (v : Nat) (s : State) : State :=
  match s.mmu.held.find? (fun h => h.seq == bits v 0 32) with
  | some h => resolveHeld h (bit v 32) (s.setFld MMU_RESOLVE_STAT_OK stOK)
  | none => s.setFld MMU_RESOLVE_STAT_OK stPRECOND

/-- RESOLVE (R367): the value written to MMU_RESOLVE. -/
def execResolve (v : BitVec 64) (s : State) : Out :=
  if !s.clocked then .next s else
  .next (resolveWrite v.toNat (dropAside MMU_RESOLVE s))

/-- RESOLVE_PAGE (R360): every held access of the context in the range is resolved. -/
def execResolvePage (s0 : State) : Out :=
  if !s0.clocked then .next s0 else
  .next (unlessBusy s0 (fun s =>
    if badLen s || badVaRange s then endCommand 0 stBADDESC false s
    else
      let hs := s.mmu.held.filter (fun h => h.asid == cmdAsid s && decide (s.rdN MMU_CMD_VA ≤ h.va) && decide (h.va < cmdVa s (cmdLen s)))
      endCommand (cmdLen s) stOK false (hs.foldl (fun t h => resolveHeld h (s.flag MMU_CMD_FLAGS_FAIL) t) s)))

/-- A page request has its answer, or none comes (R363): it is no longer outstanding. -/
def endRequest (asid page : Nat) (s : State) : State :=
  showHeld { s with mmu := { s.mmu with priOut := s.mmu.priOut.filter (fun r => !(r.asid == asid && r.page == page)) } }

/-- The accesses that wait for a page request. -/
def waitingFor (s : State) (asid page : Nat) : List HeldAccess := s.mmu.held.filter (fun h => h.pri && h.asid == asid && h.page == page)

/-- A hold turns into a fault with cause HOST_FAULT (R363): its record is written, and the access is held as any fault of its agent. -/
def holdFails (h : HeldAccess) (s : State) : State :=
  let p := putFault { agent := h.agent, unit := h.unit, asid := h.asid, va := h.va, kind := h.kind, cause := fcHOST_FAULT, level := 4, hostLeaf := true, held := true, data := h.data, sub := h.sub }
    { s with mmu := { s.mmu with held := s.mmu.held.erase h } }
  emitAll p.2 p.1

/-- Is a page request outstanding? -/
def requested (s : State) (asid page : Nat) : Option PageReq := s.mmu.priOut.find? (fun r => r.asid == asid && r.page == page)

/-- PAGE_REQUEST_RESPONSE (R363): `code` is 0 Success, 1 Invalid Request, 2 Response Failure. -/
def execPageRequestResponse (asid : BitVec 16) (page : BitVec 52) (code : Fin 3) (s : State) : Out :=
  if !s.clocked then .next s else
  let a := asid.toNat
  let g := page.toNat
  .next (match requested s a g with
    | none => s
    | some _ =>
      let hs := waitingFor s a g
      let s1 := endRequest a g s
      if code = 0 then sendWaiting (hs.foldl (fun t h => resolveHeld h false t) s1)
      else
        let s2 := hs.foldl (fun t h => holdFails h t) s1
        if code = 1 then sendWaiting s2
        else emit blkMMU 5 svERROR 0x60340000 0 { s2 with mmu := { s2.mmu with priStop := true } })

/-- PRI_TIMEOUT (R363): MMU_PRI_TO ms after a page request, of which 0 acts as 1, no response has come. -/
def execPriTimeout (asid : BitVec 16) (page : BitVec 52) (s0 : State) : Out :=
  if !s0.clocked then .next s0 else
  let a := asid.toNat
  let g := page.toNat
  .next (match requested s0 a g with
    | none => s0
    | some r =>
      let s := passTime (r.sentAt + max 1 (s0.rdN MMU_PRI_TO % 65536) * 1000000 - s0.now) s0
      sendWaiting ((waitingFor s a g).foldl (fun t h => holdFails h t) (endRequest a g s)))

end Sys2Proof.Machine
end

