-- ==== Sys2Proof/Machine/Regs.lean ====
section
/-! DEFINITION. Machine/Regs.lean: what a register does as it takes a whole new value, by its access codes (R6, R8) and by the rules of its
own, and what it reads as (R6, R7, R202). -/

namespace Sys2Proof.Machine

/-- The state that a meaning answers. -/
def stateOf (s : State) (o : Out) : State :=
  match o with
  | .next t => t
  | _ => s

/-- Do something if a condition holds. -/
def doIf (c : Bool) (f : State → State) (s : State) : State := if c then f s else s

/-! ### Access codes (R6, R8) -/

/-- A field as it stands after a write of the whole register. -/
def fieldAfter (old v : Nat) (f : RegField) : Nat :=
  match f.acc with
  | .rw => bits v f.lo f.w
  | .sh => bits v f.lo f.w
  | .w1c => bits old f.lo f.w &&& (bits v f.lo f.w ^^^ (2 ^ f.w - 1))
  | .w1s => bits old f.lo f.w ||| bits v f.lo f.w
  | .ro => bits old f.lo f.w
  | .wo => 0
  | .clr => 0

/-- A register's value after a write, from its fields; reserved bits read 0. -/
def afterWrite (r : RegRow) (old v : Nat) : Nat := (r.fields.map (fun f => fieldAfter old v f * 2 ^ f.lo)).sum

/-- A write applied by the access codes alone; where no register stands it has no effect. -/
def plainWrite (off v : Nat) (s : State) : State :=
  match rowAt off with
  | some r => s.wrN off (afterWrite r (s.rdN off) v)
  | none => s

/-- Does the register at an offset hold 64 bits? -/
def isWide (off : Nat) : Bool :=
  match rowAt (if isTwin off then off - 0x800 else off) with
  | some r => r.wide
  | none => false

/-! ### Adaptive parameters (R41 to R48) -/

/-- The offsets and events of an adaptive parameter. -/
def paramOf : AdaptPar → AParam
  | .scale n => scaleParam n
  | .hyst n => hystParam n
  | .eq n k => eqParam n k
  | .srIdle => srIdle

/-- An entry into self-refresh whose conditions no longer hold is cancelled (R386). -/
def srRecheck (s : State) : State := if s.fld MEM_STAT_SR_STATE = 1 && !srConditions s then srCancel s else s

/-- A write of a value register (R42, R490). -/
def parValue (a : AdaptPar) (v : Nat) (s : State) : State :=
  match a with
  | .scale n => adaptValue (scaleParam n) v s
  | .hyst n => adaptValue (hystParam n) v s
  | .eq n k => eqWrite n k v s
  | .srIdle => srRecheck (adaptValue srIdle v s)

/-- A write of a bound (R45, R46). -/
def parBound (a : AdaptPar) (hi : Bool) (v : Nat) (s : State) : State :=
  let p := paramOf a
  srRecheck (boundsCheck p (s.wrN (if hi then p.hi else p.lo) (v % 2 ^ p.w)))

/-- A write of an _ADP register (R41). -/
def parAdp (a : AdaptPar) (v : Nat) (s : State) : State :=
  let p := paramOf a
  doIf (bit v 2) (adaptRelease p) (plainWrite p.adp v s)

/-- The register of a parameter written: 0 its value, 1 and 2 its bounds, 3 _ADP. -/
def parWrite (a : AdaptPar) (k v : Nat) (s : State) : State :=
  if k = 0 then parValue a v s else if k = 1 then parBound a false v s else if k = 2 then parBound a true v s else parAdp a v s

/-! ### PHS and SEQ (02, 03, 04) -/

/-- A write of PHS_TBn_CTL (R52, R97). -/
def tbCtlWrite (n v : Nat) (s : State) : State :=
  let s1 := (s.setFld (PHS_TB_CTL_STAMP_ALL n) (bits v 1 1)).setFld (PHS_TB_CTL_ALIGN_AUTO n) (bits v 2 1)
  if bit v 0 then tbEnable n s1 else stateOf s1 (execTbDisable (Fin.ofNat 4 n) s1)

/-- A write of PHS_TBn_CMD (R98). -/
def tbCmdWrite (n v : Nat) (s : State) : State :=
  let s1 := doIf (bit v 0) (fun t => stateOf t (execCmdAlign (Fin.ofNat 4 n) t)) s
  doIf (bit v 1) (fun t => stateOf t (execCancelArm (Fin.ofNat 4 n) t)) s1

/-- A write to PHS. -/
def phsWrite (off v : Nat) (s : State) : State :=
  let n := off / 0x1000 % 256
  let r := off % 0x1000
  if n < 4 then
    match r with
    | 0x000 => tbCtlWrite n v s
    | 0x004 => stateOf s (execSrcWrite (Fin.ofNat 4 n) (BitVec.ofNat 32 v) s)
    | 0x010 => stateOf s (execIncBaseWrite (Fin.ofNat 4 n) (BitVec.ofNat 64 v) s)
    | 0x034 => slewWrite n v s
    | 0x038 => tbCmdWrite n v s
    | 0x070 => stateOf s (execArmGo (Fin.ofNat 4 n) (BitVec.ofNat 32 v) s)
    | _ => plainWrite off v s
  else if n = 4 && decide (r / 0x100 < 4) && decide (r % 0x100 < 0x10) && r % 4 == 0 then cwWrite (r / 0x100) (r % 0x100 / 4) (v % 2 ^ 32) s
  else plainWrite off v s

/-- A write of SEQ_Pp_CTL (R21, R128, R135): the binding, the fields that EN protects, and EN. -/
def seqCtlWrite (p v : Nat) (s : State) : State :=
  let on := s.flag (SEQ_P_CTL_EN p)
  let s1 := bindWrite 0 p (bits v 8 2) s
  let s2 := if on then s1
    else ((s1.setFld (SEQ_P_CTL_MODE p) (bits v 1 1)).setFld (SEQ_P_CTL_ARRAYS p) (bits v 2 2)).setFld (SEQ_P_CTL_COMPS p) (bits v 4 3)
  if bit v 0 then (if on then s2 else stateOf s2 (execSeqPortEnable (Fin.ofNat 4 p) s2)) else doIf on (portOff p) s2

/-- A write of SEQ_Fp_CTL (R168, R175, R177): SET_TEMP_INT is sent whenever TEMP_INT is written. -/
def facetCtlWrite (p v : Nat) (s : State) : State :=
  let s1 := (s.setFld (SEQ_F_CTL_IDLE_EN p) (bits v 3 1)).setFld (SEQ_F_CTL_ACK_TO p) (bits v 18 6)
  let clone := bits v 0 1 != s.fld (SEQ_F_CTL_CLONE_EN p) || bits v 1 2 != s.fld (SEQ_F_CTL_CLONE_SRC p)
  let s2 := doIf clone (fun t => stateOf t (execCloneWrite (Fin.ofNat 4 p) (bit v 0) (Fin.ofNat 4 (bits v 1 2)) t)) s1
  tempIntWrite p (bits v 10 8) s2

/-- A write of SEQ_Fp_CMD (R177). -/
def facetCmdWrite (p v : Nat) (s : State) : State :=
  let q := Fin.ofNat 4 p
  let s1 := doIf (bit v 0) (parkCmd p true) s
  let s2 := doIf (bit v 1) (parkCmd p false) s1
  let s3 := doIf (bit v 2) (fun t => stateOf t (execCmdClearTrip q t)) s2
  doIf (bit v 3) (fun t => stateOf t (execCmdRecap q t)) s3

/-- A write to SEQ. -/
def seqWrite (off v : Nat) (s : State) : State :=
  let n := off / 0x1000 % 256
  let r := off % 0x1000
  if n < 4 then
    match r with
    | 0x000 => seqCtlWrite n v s
    | 0x004 => if s.flag (SEQ_P_CTL_EN n) then s else showBlkTime n (plainWrite off v s)
    | 0x01C => stateOf s (execCalManualWrite 2 (Fin.ofNat 48 n) (BitVec.ofNat 32 v) s)
    | 0x040 => stateOf s (execSetReadyWrite (Fin.ofNat 4 n) (BitVec.ofNat 32 v) s)
    | _ => plainWrite off v s
  else if 8 ≤ n && n < 12 then
    let p := n - 8
    if r = 0x000 then facetCtlWrite p v s
    else if r = 0x004 then facetCmdWrite p v s
    else if 0x100 ≤ r && r < 0x1C0 && r % 0x40 == 0x10 then stateOf s (execTlimWrite (Fin.ofNat 4 p) (Fin.ofNat 3 ((r - 0x100) / 0x40)) (BitVec.ofNat 32 v) s)
    else plainWrite off v s
  else plainWrite off v s

/-! ### PIX and LDR (05, 06) -/

/-- A write to PIX. An SH write while a commit is pending joins it (R203, R214). -/
def pixWrite (off v : Nat) (s : State) : State :=
  let p := off / 0x4000 % 64
  let r := off % 0x4000
  if p < 4 then
    match r with
    | 0x004 => doIf (bit v 1) (commitCancel p) (doIf (bit v 0) (commitGo p) s)
    | 0x0B8 => doIf (bit v 0) (tableLoad p (bits v 1 1) (bits v 2 1)) s
    | _ => doIf (isSh off && s.flag (PIX_P_COMMIT_GO p)) (refShadow p) (plainWrite off v s)
  else plainWrite off v s

/-- A write of LDR_Sn_CTL (R21, R223, R258). -/
def stringCtlWrite (n v : Nat) (s : State) : State :=
  let s1 := (((s.setFld (LDR_S_CTL_KIND n) (bits v 2 1)).setFld (LDR_S_CTL_SPORT n) (bits v 5 2)).setFld (LDR_S_CTL_GROUP n) (bits v 7 3)).setFld (LDR_S_CTL_GRP_EN n) (bits v 10 1)
  let s2 := bindWrite 1 n (bits v 3 2) s1
  match v % 4 with
  | 0 => stringOff n s2
  | 3 => s2.setFld (LDR_S_STAT_CMD_STATUS n) stPRECOND
  | m => stringMode n m s2

/-- A write of a string's register (R223, R230, R565). -/
def stringWrite (n : Nat) (off v : Nat) (s : State) : State :=
  let r := off % 0x200
  match r with
  | 0x000 => stringCtlWrite n v s
  | 0x008 => if strMode s n != 0 then s else plainWrite off v s
  | 0x014 => if strMode s n != 0 then s else plainWrite off v s
  | 0x010 => if s.rdN (LDR_S_ILIM n) % 2 ^ 20 < v % 2 ^ 20 then s else plainWrite off v s
  | 0x05C => stateOf s (execCalManualWrite 0 (Fin.ofNat 48 n) (BitVec.ofNat 32 v) s)
  | _ =>
    if 0x018 ≤ r && r < 0x028 then parWrite (.scale (Fin.ofNat 24 n)) ((r - 0x018) / 4) v s
    else if 0x030 ≤ r && r < 0x040 then parWrite (.hyst (Fin.ofNat 24 n)) ((r - 0x030) / 4) v s
    else plainWrite off v s

/-- A write of a colour group's register (R245, R247, R259): a write to a RATIO_REF lets the next sample set its mean. -/
def groupWrite (g off v : Nat) (s : State) : State :=
  match off % 0x100 with
  | 0x08 => stateOf s (execGroupVWrite (Fin.ofNat 8 g) (BitVec.ofNat 32 v) s)
  | 0x20 =>
    let s1 := doIf (bit v 0) (fun t => stateOf t (execFadeGo (Fin.ofNat 8 g) (bit v 2) t)) s
    doIf (bit v 1) (fun t => stateOf t (execFadeCancel (Fin.ofNat 8 g) t)) s1
  | 0x44 => updGrp g (fun x => { x with seenM := false }) (plainWrite off v s)
  | 0x48 => updGrp g (fun x => { x with seenL := false }) (plainWrite off v s)
  | _ => plainWrite off v s

/-- A write to LDR. -/
def ldrWrite (off v : Nat) (s : State) : State :=
  let r := off % 0x100000
  if r < 0x3000 then stringWrite (r / 0x200) off v s
  else if 0x4000 ≤ r && r < 0x4800 then groupWrite ((r - 0x4000) / 0x100) off v s
  else if 0x5000 ≤ r && r < 0x5200 && 0x18 ≤ r % 0x40 && r % 0x40 < 0x30 then
    stateOf s (execCalManualWrite 1 (Fin.ofNat 48 ((r - 0x5000) / 0x40 * 6 + (r % 0x40 - 0x18) / 4)) (BitVec.ofNat 32 v) s)
  else if r = 0x60C4 then stateOf s (execSafeClr (BitVec.ofNat 32 v) s)
  else if r = 0x60CC then stateOf s (execProbeReq (BitVec.ofNat 24 v) s)
  else if r = 0x60D0 then (List.range 8).foldl (fun t i => bindWrite 2 i (bits v (2 * i) 2) t) s
  else if r = 0x6084 || r = 0x6094 || r = 0x60A4 || r = 0x60B4 then
    (if bits v 0 8 < bits v 8 8 && bits v 8 8 < bits v 16 8 then plainWrite off v s else s)
  else plainWrite off v s

/-! ### CTL (07) -/

/-- A write of CTL_An_TBL_CTL (R284): while the axis runs, an EN set or a bank selected that is not loaded is ignored. -/
def tblCtlWrite (n v : Nat) (s : State) : State :=
  let run := axState s n == 1
  let loaded := fun kind b : Nat => bit (s.rdN CTL_TBL_LOADED) (4 * n + 2 * kind + b)
  let old := s.rdN (CTL_A_TBL_CTL n)
  let one := fun kind : Nat =>
    let b := if run && !loaded kind (bits v (2 + kind) 1) then bits old (2 + kind) 1 else bits v (2 + kind) 1
    let e := if run && !loaded kind b then bits old kind 1 &&& bits v kind 1 else bits v kind 1
    e * 2 ^ kind + b * 2 ^ (2 + kind)
  s.wrN (CTL_A_TBL_CTL n) (one 0 + one 1 + bits v 8 8 * 256)

/-- A write of an axis's register (R21, R267, R284, R292, R301). -/
def axisWrite (n off v : Nat) (s : State) : State :=
  let run := axState s n == 1
  match off % 0x400 with
  | 0x000 => if run then s else bindWrite 4 n (bits v 10 2) (plainWrite off (putBits (BitVec.ofNat 64 v) (CTL_A_CFG_TB n) (s.fld (CTL_A_CFG_TB n))).toNat s)
  | 0x004 => doIf (bit v 3) (axisGo n) (doIf (bit v 2) (axisClear n) (doIf (bit v 1) (axisDisable n) (doIf (bit v 0) (axisEnable n) s)))
  | 0x010 => if run then s else plainWrite off v s
  | 0x040 => limitWrite n 0 (v % 2 ^ 32) s
  | 0x044 => limitWrite n 1 (v % 2 ^ 32) s
  | 0x048 => limitWrite n 2 (v % 2 ^ 32) s
  | 0x0A0 => tblCtlWrite n v s
  | _ => plainWrite off v s

/-- A write of a tile's register (R21, R267, R280): what an axis in RUN protects is ignored. -/
def tileWrite (t off v : Nat) (s : State) : State :=
  let run := match tileAxis s t with
    | some n => axState s n == 1
    | none => false
  let bank := s.fld (CTL_T_CFG_BANK t)
  let r := off % 0x80
  if r = 0x00 then
    (if run then s.setFld (CTL_T_CFG_BANK t) (bits v 20 1)
     else bindWrite 3 t (bits v 7 2) (plainWrite off (putBits (BitVec.ofNat 64 v) (CTL_T_CFG_TB t) (s.fld (CTL_T_CFG_TB t))).toNat s))
  else if r = 0x0C then
    (if run then plainWrite off (putBits (BitVec.ofNat 64 v) ⟨off, 8 * bank, 8⟩ (s.fld ⟨off, 8 * bank, 8⟩)).toNat s else plainWrite off v s)
  else if 0x40 ≤ r && r / 0x20 - 2 == bank && run then s
  else plainWrite off v s

/-- A write to CTL. -/
def ctlWrite (off v : Nat) (s : State) : State :=
  let r := off % 0x100000
  if r < 0x4000 then axisWrite (r / 0x400) off v s
  else if r < 0x5800 then tileWrite ((r - 0x4000) / 0x80) off v s
  else if 0x6000 ≤ r && r < 0x6400 then
    let e := (r - 0x6000) / 0x40
    if r % 0x40 = 0x00 then
      let s1 := plainWrite off v s
      doIf (encType s1 e != encType s e) (encRestart e) s1
    else if r % 0x40 = 0x20 then doIf (bit v 1) (encFaultClear e) s
    else plainWrite off v s
  else if 0x7000 ≤ r && r < 0x7600 && r % 0x20 == 0x08 then
    stateOf s (execCalManualWrite 3 (Fin.ofNat 48 ((r - 0x7000) / 0x20)) (BitVec.ofNat 32 v) s)
  else if r = 0x7C08 then doIf (bit v 0) (ctlTableLoad (bits v 4 4) (bits v 1 1) (bits v 2 1)) s
  else plainWrite off v s

/-! ### ENG, MEM and MMU (08, 09) -/

/-- A write to ENG (R343, R345, R348): PC is taken in an EMPTY slot, for START, and in HALT. -/
def engWrite (off v : Nat) (s : State) : State :=
  let r := off % 0x2000
  let b := (off - 0x600000) / 0x2000
  if off < 0x700000 && r < 0x400 then
    let u := 4 * b + r / 0x100
    match r % 0x100 with
    | 0x00 => threadCmd u v s
    | 0x10 => if thState s u = 0 || thState s u = 4 then plainWrite off v s else s
    | 0x38 => dbgDataWrite u (BitVec.ofNat 64 v) s
    | _ => plainWrite off v s
  else plainWrite off v s

/-- A write to a channel's register (R389 to R393). -/
def chanWrite (c off v : Nat) (s : State) : State :=
  let r := off % 0x400
  if r = 0x000 then channelOnline c (bit v 0) s
  else if r = 0x010 then
    let s1 := doIf (bit v 0) (trnGo c (bits v 1 2) (bit v 3)) s
    doIf (bit v 5) (trnClrErr c) (doIf (bit v 4) (trnCancel c) s1)
  else if (r = 0x028 || r = 0x02C || (0x100 ≤ r && r < 0x190)) && (rowAt off).isSome then
    (match rowAt off with
     | some row => delayWrite c off (BitVec.ofNat 64 (afterWrite row (s.rdN off) v)) s
     | none => s)
  else plainWrite off v s

/-- A write to MEM. -/
def memWrite (off v : Nat) (s : State) : State :=
  let r := off % 0x100000
  if 0x010 ≤ r && r < 0x020 then parWrite .srIdle ((r - 0x010) / 4) v s
  else if 0x1000 ≤ r && r < 0x5000 then chanWrite ((r - 0x1000) / 0x400) off v s
  else plainWrite off v s

/-- A write of MMU_CMD (R360). -/
def mmuCommand (op : Nat) (s : State) : State :=
  match op with
  | 1 => stateOf s (execMap s)
  | 2 => stateOf s (execUnmap s)
  | 3 => stateOf s (execProtect s)
  | 4 => stateOf s (execPin s)
  | 5 => stateOf s (execUnpin s)
  | 6 => stateOf s (execTableAdd s)
  | 7 => stateOf s (execTableRemove s)
  | 8 => stateOf s (execCtxCreate s)
  | 9 => stateOf s (execCtxDestroy s)
  | 10 => stateOf s (execResolvePage s)
  | _ => unlessBusy s (endCommand 0 stBADDESC false)

/-- A write to MMU (R356, R360, R364). -/
def mmuWrite (off v : Nat) (s : State) : State :=
  match off % 0x100000 with
  | 0x008 => if anyCtxValid s then s else plainWrite off v s
  | 0x010 => mmuCommand (v % 16) s
  | 0x060 => resolveWrite v s
  | _ => plainWrite off v s

/-! ### QUE and LNK (10, 12) -/

/-- A write of QUE_Qq_CMD (R411, R413). -/
def queueCmdWrite (q v : Nat) (s : State) : State :=
  doIf (bit v 3) (queueDisable q) (doIf (bit v 2) (queueResume q) (doIf (bit v 1) (queueStop q) (doIf (bit v 0) (queueEnable q) s)))

/-- A write to QUE (R437, R439): what is configured only while DISABLED, commands, and the routes of events. -/
def queWrite (off v : Nat) (s : State) : State :=
  let r := off % 0x100000
  if r < 0x40000 then
    let q := r / 0x40
    let k := r % 0x40
    if k = 0x18 then queueCmdWrite q v s
    else if k < 0x14 && qState s q != 0 then s
    else if k = 0x14 then irqCheck false q (plainWrite off v s)
    else plainWrite off v s
  else if 0x40100 ≤ r then flushHeld (plainWrite off v s)
  else plainWrite off v s

/-- A write to LNK (R467, R472 to R492). -/
def lnkWrite (off v : Nat) (s : State) : State :=
  let r := off % 0x100000
  if r < 0x6000 then
    let n := r / 0x200
    let k := r % 0x200
    if k = 0x004 then laneCmd n v s
    else if k = 0x00C then txeqWrite n v s
    else if k = 0x020 || k = 0x000 then genWrite n (plainWrite off v) s
    else if k = 0x040 then scanWrite n v s
    else if 0x080 ≤ k && k < 0x0D0 then parWrite (.eq (Fin.ofNat 48 n) (Fin.ofNat 5 ((k - 0x080) / 0x10))) (k % 0x10 / 4) v s
    else plainWrite off v s
  else if 0x8000 ≤ r && r < 0x8800 then
    let k := (r - 0x8000) / 0x100
    match r % 0x100 with
    | 0x00 => linkCtl k v s
    | 0x04 => doIf (bit v 0) (linkRetry k) s
    | 0x14 => showPicot k (plainWrite off v s)
    | _ => plainWrite off v s
  else if r = 0x9000 then palisRateWrite v s
  else plainWrite off v s

/-! ### CAS, HKP, CAL, NVM and DBG (13 to 15) -/

/-- A write of CAS_SUBs_CTL (R535): a subscription that becomes active, or changes its stream, starts afresh. -/
def subCtlWrite (k off v : Nat) (s : State) : State :=
  let old := s.rdN off
  doIf (bits v 0 18 != bits old 0 18) (fun t => t.setSub k { t.sub k with last := none, skipping := false }) (plainWrite off v s)

/-- A write of the base of an axis's stream ring: a FOLLOW subscription that a failed fault stopped works again (R536, R537). -/
def followBase (n : Nat) (s : State) : State :=
  (List.range 16).foldl (fun t k => if t.flag (CAS_SUB_CTL_FOLLOW k) && t.fld (CAS_SUB_CTL_AXIS k) == n then ringBase (16 + k) t else t) s

/-- A write to CAS. -/
def casWrite (off v : Nat) (s : State) : State :=
  let r := off % 0x100000
  match r with
  | 0x000 => casCtl v s
  | 0x004 => doIf (bit v 0) reroot s
  | 0x040 => ringBase 0 (plainWrite off v s)
  | 0x060 => ringBase 1 (plainWrite off v s)
  | 0x800 => twinCtl v s
  | 0x804 => doIf (bit v 2) twinResync (doIf (bit v 1) twinForce (doIf (bit v 0) twinYield s))
  | _ =>
    if 0x100 ≤ r && r < 0x200 && r % 0x40 == 0 then casPortCtl ((r - 0x100) / 0x40) v s
    else if 0x400 ≤ r && r < 0x600 && r % 0x20 == 0 then subCtlWrite ((r - 0x400) / 0x20) off v s
    else if 0x400 ≤ r && r < 0x600 && r % 0x20 == 0x08 then ringBase (16 + (r - 0x400) / 0x20) (plainWrite off v s)
    else plainWrite off v s

/-- A write to HKP (R552, R554, R555). -/
def hkpWrite (off v : Nat) (s : State) : State :=
  match off % 0x100000 with
  | 0x000 => showThrot (plainWrite off v s)
  | 0x008 => showThrot (plainWrite off v s)
  | 0x00C => rateWrite v s
  | 0x020 => sensClr (v % 64) s
  | _ => plainWrite off v s

/-- A write of CAL_Tt_CMD (R560, R565): whether a target's conditions outside the block hold is a free value (log entry 4). -/
def calCmdWrite (t v : Nat) (s : State) : State :=
  let s1 := doIf (bit v 0) (fun z => let f := z.takeBit; calRun t f.1 f.2) s
  doIf (bit v 1) (calRelease t (bits v 8 6)) s1

/-- A write to CAL. -/
def calWrite (off v : Nat) (s : State) : State :=
  let r := off % 0x100000
  if 0x40 ≤ r && r < 0x280 && r % 0x40 == 0x0C then calCmdWrite (r / 0x40) v s else plainWrite off v s

/-- A write to DBG (R592, R599, R611). -/
def dbgWriteReg (off v : Nat) (s : State) : State :=
  match off % 0x100000 with
  | 0x004 => rstCmd v s
  | 0x040 => doIf (bit v 0) rcvGo s
  | _ => plainWrite off v s

/-! ### The whole block -/

/-- An access meets the plane sequencer and the light drive as they stand now: what had fallen due has taken place. -/
def settleFor (off : Nat) (s : State) : State :=
  if off / 0x100000 = 2 then settlePorts s else if off / 0x100000 = 4 then settleLight s
  else if off / 0x100000 = 12 && off % 0x100000 < 0x6000 then settleLane (off % 0x100000 / 0x200) s else s

/-- A register takes a whole new value (R6): the rules of its own, or its access codes alone. -/
def regWrite (off v : Nat) (s0 : State) : State :=
  let s := settleFor off s0
  match off / 0x100000 with
  | 1 => phsWrite off v s
  | 2 => seqWrite off v s
  | 3 => pixWrite off v s
  | 4 => ldrWrite off v s
  | 5 => if off % 0x100000 < 0x4000 && off == CTL_A_STREAM_BASE (off % 0x100000 / 0x400) then followBase (off % 0x100000 / 0x400) (ctlWrite off v s) else ctlWrite off v s
  | 6 => engWrite off v s
  | 7 => engWrite off v s
  | 8 => memWrite off v s
  | 9 => mmuWrite off v s
  | 10 => queWrite off v s
  | 12 => lnkWrite off v s
  | 13 => casWrite off v s
  | 14 => hkpWrite off v s
  | 15 => calWrite off v s
  | 16 => if off % 0x100000 = 0 then nvmCmd v s else plainWrite off v s
  | 17 => dbgWriteReg off v s
  | _ => plainWrite off v s

/-! ### What a register reads as -/

/-- The job that a compression unit runs (R463). -/
def unitJob (s : State) (u : Nat) : Option (Nat × Claim) :=
  (s.queues.flatMap (fun e => e.2.claims.map (fun c => (e.1, c)))).find? (fun x => decide (x.2.by_ = .cmp u))

/-- CMP_Uu_STAT (R463). -/
def unitStat (s : State) (u : Nat) : Nat :=
  match unitJob s u with
  | some (q, c) => pack [(0, 1, 1), (1, 1, b2n c.held), (2, 2, dOp c.desc % 4), (8, 12, q)]
  | none => 0

/-- One bit for each number below n that a test picks. -/
def maskOf (n : Nat) (f : Nat → Bool) : Nat := ((List.range n).map (fun i => b2n (f i) * 2 ^ i)).sum

/-- QUE_Qq_STAT (R413, R508): an ENABLED queue of a unit that does not drive its outputs reads STOPPED. -/
def queueStat (s : State) (q : Nat) : Nat :=
  let v := s.rdN (QUE_Q_STAT q)
  if qState s q = 1 && !s.driving then v + 1 else v

/-- QUE_Qq_OUTST (R437). -/
def queueOutst (s : State) (q : Nat) : Nat := if qType s q = 1 then cqReserved s q else (s.queue q).claims.length

/-- ENG_Bb_Tt_STAT (R349). -/
def threadStat (s : State) (u : Nat) : Nat :=
  let v := s.rdN (ENG_B_T_STAT (u / 4) (u % 4))
  pack [(0, 3, v % 8), (3, 1, b2n (s.th u).mailFull), (4, 4, (liveMoves s u).length), (8, 8, v / 256)]

/-- What a register of PHS, SEQ or PIX reads as. -/
def readShow (off : Nat) (s : State) : Option Nat :=
  let n := off / 0x1000 % 256
  if off = PHS_SHOW_TIME then some s.showTime
  else if off / 0x100000 = 1 && n < 4 && off % 0x1000 == 0x040 then some (s.phase n)
  else if off / 0x100000 = 2 && n < 4 && off % 0x1000 == 0x050 then some (portTol s n)
  else none

/-- What a register of CTL or ENG reads as, where the unit's record holds it. -/
def readUnits (off : Nat) (s : State) : Option Nat :=
  let b := (off - 0x600000) / 0x2000
  let r := off % 0x2000
  let k := (off - 0x700000) / 0x1000
  if off / 0x100000 = 5 && off % 0x100000 < 0x4000 && off % 0x400 == 0x020 then some (measured s (off % 0x100000 / 0x400)  % (2 ^ 64 : Nat)).toNat
  else if off / 0x100000 = 6 then
    (if r < 0x400 && r % 0x100 == 0x04 then some (threadStat s (4 * b + r / 0x100))
     else if r < 0x400 && r % 0x100 == 0x40 then some (thCycle s (4 * b + r / 0x100) % 2 ^ 64)
     else if r = 0x804 then some (maskOf 4 (fun t => thState s (4 * b + t) != 0) + 16 * maskOf 4 (fun t => thState s (4 * b + t) == 4))
     else none)
  else if off / 0x100000 = 7 && k < 8 && off % 0x1000 == 0 then some (maskOf 16 (fun i => !(s.barrier (16 * k + i)).arrived.isEmpty))
  else if off / 0x100000 = 7 && k < 8 && off % 0x1000 == 8 then some ((((List.range 64).map (fun u => (liveMoves s (64 * k + u)).length)).sum) % 256)
  else none

/-- What a register of MEM, QUE or CMP reads as. -/
def readMemQue (off : Nat) (s : State) : Option Nat :=
  let r := off % 0x100000
  if off = MEM_TOL_MIN then some (tolMin s)
  else if off = MEM_SR_TIME then some ((s.memc.asleepNs + (if s.fld MEM_STAT_SR_STATE = 2 then s.now - s.memc.srCmdAt else 0)) / 1000)
  else if off = MEM_STAT then some (s.rdN MEM_STAT % 8 + 65536 * maskOf 16 (fun c => s.flag (MEM_C_STAT_ONLINE c)))
  else if off / 0x100000 = 10 && r < 0x40000 then
    (if r % 0x40 = 0x1C then some (queueStat s (r / 0x40)) else if r % 0x40 = 0x28 then some (queueOutst s (r / 0x40)) else none)
  else if off = QUE_STAT then some ((s.queues.filter (fun e => qState s e.1 != 0)).length + dmaJobs s % 32 * 65536)
  else if off = CMP_STAT then
    some (maskOf 12 (fun u => (unitJob s u).isSome) + 65536 * maskOf 12 (fun u => match unitJob s u with | some x => x.2.held | none => false))
  else if off / 0x100000 = 11 && 0x1000 ≤ r && r < 0x1300 && r % 0x40 == 0 then some (unitStat s ((r - 0x1000) / 0x40))
  else none

/-- What a register of LNK, CAS or CAL reads as. -/
def readRest (off : Nat) (s : State) : Option Nat :=
  let r := off % 0x100000
  if off / 0x100000 = 13 then
    (if 0x100 ≤ r && r < 0x200 && r % 0x40 == 4 then some (s.rdN off / 4 * 4 + portRole s ((r - 0x100) / 0x40))
     else if off = CAS_TW_STAT then some ((showTwin s).rdN CAS_TW_STAT - bits ((showTwin s).rdN CAS_TW_STAT) 4 2 * 16 + b2n s.holdI * 16 + b2n s.demI * 32)
     else if off = CAS_TW_LAG then some ((showTwin s).rdN CAS_TW_LAG)
     else none)
  else if off / 0x100000 = 15 && 0x408 ≤ r && r < 0x420 then some ((calView s).rdN off)
  else none

/-- The bits of a register that reads return (R6): its fields but those written only. -/
def readMask (r : RegRow) : Nat := (r.fields.map (fun f => if f.acc == .wo then 0 else (2 ^ f.w - 1) * 2 ^ f.lo)).sum

/-- The whole value that a read of a register returns, and the state after it: DBG_DATA outside HALT reads a free value (R345). -/
def regRead (off : Nat) (s0 : State) : State × Word :=
  let s := settleFor off s0
  match readShow off s, readUnits off s, readMemQue off s, readRest off s with
  | some v, _, _, _ => (s, BitVec.ofNat 64 v)
  | _, some v, _, _ => (s, BitVec.ofNat 64 v)
  | _, _, some v, _ => (s, BitVec.ofNat 64 v)
  | _, _, _, some v => (s, BitVec.ofNat 64 v)
  | none, none, none, none =>
    if off / 0x100000 = 6 && off % 0x2000 < 0x400 && off % 0x100 == 0x38 then dbgDataRead (4 * ((off - 0x600000) / 0x2000) + off % 0x2000 / 0x100) s
    else
      match rowAt off with
      | some r => (s, s.rd off &&& BitVec.ofNat 64 (readMask r))
      | none => (s, if isTwin off then s.rd off else 0#64)

end Sys2Proof.Machine
end

