-- ==== Sys2Proof/Machine/Bus.lean ====
section
/-! DEFINITION. Machine/Bus.lean: accesses to BAR0 and BAR4 as they arrive: widths and alignment (R9, R617), halves (R10, R11), what is served
(R545, R594), the doorbell pages (R414), a virtual function's window (R407, R408) and the MSI-X tables (R402, R406), and the access of the TAP
(R611). -/

namespace Sys2Proof.Machine

/-! ### Accesses refused (R617, R408) -/

/-- Is an access of this size at this offset permitted (R9)? -/
def aligned (off size : Nat) : Bool := (size == 4 || size == 8) && off % size == 0

/-- A refused access is recorded (R617, R408): GLB_BAD_ADDR, GLB_BAD_CNT, and BAD_ACCESS at most once per 1 ms (R443). -/
def badAccess (fn off : Nat) (write : Bool) (size status : Nat) (s : State) : State :=
  let a := pack [(0, 26, off), (26, 1, b2n write), (28, 4, size), (32, 6, fn)]
  let s1 := (s.wrN GLB_BAD_ADDR a).bump GLB_BAD_CNT
  if msPassed s.hostIf.badAccessAt s.now then
    glbEvent 4 svWARNING (a + status * 2 ^ 40) { s1 with hostIf := { s1.hostIf with badAccessAt := some s.now } }
  else s1

/-- All ones in the bytes read. -/
def allOnes (size : Nat) : Nat := 2 ^ (8 * size) - 1

/-! ### Doorbell pages (R414) -/

/-- A write of 32 bits in the doorbell page of queue q, by a function. -/
def pageWrite (fn q r v : Nat) (s : State) : State :=
  if r = 0 then (if qType s q = 0 then sqDoorbell fn q v s else cqDoorbell fn q v s)
  else if r = 8 then abortEntry q v s
  else s

/-- The block whose registers stand at an offset: the doorbell pages belong to QUE. -/
def blockAt (off : Nat) : Nat := if 0x2000000 ≤ off then 10 else off / 0x100000

/-! ### Halves (R10, R11) -/

/-- The value in effect of a 64-bit register: DBG_DATA, in HALT, stands for the register it selects (R345). -/
def inEffect (off : Nat) (s : State) : Nat :=
  let u := 4 * ((off - 0x600000) / 0x2000) + off % 0x2000 / 0x100
  if off / 0x100000 = 6 && off % 0x2000 < 0x400 && off % 0x100 == 0x38 then (if thState s u = 4 then (dbgRead s u).toNat else 0) else s.rdN off

/-- The lower half that a write of the upper half alone completes (R10): RW fields keep their values in effect and SH fields their shadow; the
others act as if written 0. -/
def lowKept (off : Nat) (s : State) : Nat :=
  match rowAt off with
  | some r => ((r.fields.filter (fun f => f.acc == .rw || f.acc == .sh)).map (fun f => bits (inEffect off s) f.lo f.w * 2 ^ f.lo)).sum % 2 ^ 32
  | none => 0

/-- A register takes a whole value, and no lower half is held aside after that (R10). -/
def takeWhole (off v : Nat) (s : State) : State :=
  regWrite off v (dropAside off s)

/-- A lower half is held aside (R10). -/
def holdLow (off v : Nat) (s : State) : State :=
  { s with heldLow := kset (fun _ => none) s.heldLow off (some (BitVec.ofNat 32 v)) }

/-- A write of 32 bits to the upper half of the 64-bit register at an offset (R10). -/
def takeUpper (off v : Nat) (s : State) : State :=
  let lo := match kget (fun _ => none) s.heldLow off with
    | some h => h.toNat
    | none => lowKept off s
  takeWhole off (lo + v % 2 ^ 32 * 2 ^ 32) s

/-- Is this offset the upper half of a 64-bit register? -/
def isUpper (off : Nat) : Bool := off % 8 == 4 && isWide (off - 4)

/-- A write of 32 bits by the physical function, a bobbin or the TAP. -/
def write32 (off v : Nat) (s : State) : State :=
  if 0x3000000 ≤ off then s
  else if 0x2000000 ≤ off then pageWrite 0 (off / 0x1000 % 0x1000) (off % 0x1000) v s
  else if isWide off then holdLow off v s
  else if isUpper off then takeUpper (off - 4) v s
  else regWrite off (v % 2 ^ 32) s

/-- A write of 64 bits: a 64-bit register takes its whole value; elsewhere the lower half is written first (R10). -/
def write64 (off v : Nat) (s : State) : State :=
  if isWide off then takeWhole off v s else write32 (off + 4) (v / 2 ^ 32) (write32 off v s)

/-- The 64-bit RO counters and time stamps, whose lower half latches the upper as it is read (R11): the first offset, the count and the stride
of up to two indices. -/
def latchingRegs : List (Nat × Nat × Nat × Nat × Nat) :=
  [(PHS_TB_PHASE 0, 4, 0x1000, 1, 0), (PHS_SHOW_TIME, 1, 0, 1, 0), (SEQ_P_LAST_WORD 0, 4, 0x1000, 1, 0), (PIX_P_FRAME_CNT 0, 4, 0x4000, 1, 0),
   (PIX_P_FLIP_TIME 0, 4, 0x4000, 1, 0), (PIX_P_COMMIT_FRAME 0, 4, 0x4000, 1, 0), (PIX_P_COMMIT_TIME 0, 4, 0x4000, 1, 0), (CTL_A_POS 0, 16, 0x400, 1, 0),
   (CTL_A_PG_POS 0, 16, 0x400, 1, 0), (CTL_E_POS 0, 16, CTL_E_POS 1 - CTL_E_POS 0, 1, 0), (ENG_B_T_CYCLE 0 0, 128, 0x2000, 4, 0x100),
   (ENG_B_T_INSTRET 0 0, 128, 0x2000, 4, 0x100), (MEM_SR_TIME, 1, 0, 1, 0), (CMP_U_IN 0, 12, 0x40, 1, 0), (CMP_U_OUT 0, 12, 0x40, 1, 0),
   (LNK_L_CHK_BITS 0, 48, 0x200, 1, 0), (LNK_L_SCAN_ERR 0, 48, 0x200, 1, 0), (CAS_TW_LAST_HB, 1, 0, 1, 0), (HKP_LEDGER_EQ, 1, 0, 1, 0),
   (HKP_LEDGER_TIME, 1, 0, 1, 0), (HKP_ARR_EQ 0, 12, 8, 1, 0), (CAL_INST_LAST_OK, 1, 0, 1, 0), (MEM_SCRUB_POS, 1, 0, 1, 0), (NVM_DONE, 1, 0, 1, 0),
   (NVM_LOG_FIRST, 1, 0, 1, 0), (NVM_LOG_NEXT, 1, 0, 1, 0)]

/-- Does a 32-bit read of the lower half here latch the upper half (R11)? -/
def latching (off : Nat) : Bool :=
  latchingRegs.any (fun e => (List.range e.2.2.2.1).any (fun j =>
    let b := e.1 + j * e.2.2.2.2
    if e.2.1 = 1 then off == b
    else decide (b ≤ off) && (off - b) % e.2.2.1 == 0 && decide ((off - b) / e.2.2.1 < e.2.1)))

/-- A read of 32 bits by the physical function, a bobbin or the TAP. -/
def read32 (off : Nat) (s : State) : State × Nat :=
  if isWide off then
    let p := regRead off s
    (if latching off then { p.1 with latchedHi := kset (fun _ => none) p.1.latchedHi off (some (BitVec.ofNat 32 (p.2.toNat / 2 ^ 32))) } else p.1,
     p.2.toNat % 2 ^ 32)
  else if isUpper off then
    match kget (fun _ => none) s.latchedHi (off - 4) with
    | some h => ({ s with latchedHi := kset (fun _ => none) s.latchedHi (off - 4) none }, h.toNat)
    | none => let p := regRead (off - 4) s; (p.1, p.2.toNat / 2 ^ 32)
  else let p := regRead off s; (p.1, p.2.toNat % 2 ^ 32)

/-- A read of 64 bits. -/
def read64 (off : Nat) (s : State) : State × Nat :=
  if isWide off then let p := regRead off s; (p.1, p.2.toNat)
  else
    let p := read32 off s
    let q := read32 (off + 4) p.1
    (q.1, p.2 + q.2 * 2 ^ 32)

/-! ### A virtual function's window (R407, R408) -/

/-- The queues that function v owns, v not 0. -/
def ownedQueues (s : State) (v : Nat) : List Nat :=
  ((s.regs.filter (fun e => decide (QUE_Q_CTL 0 ≤ e.1) && decide (e.1 < QUE_STAT) && e.1 % 0x40 == 0)).map (fun e => (e.1 - QUE_Q_CTL 0) / 0x40)).filter
    (fun q => qOwner s q == v)

/-- The queue that VF v owns in its local slot: an enabled one before another (R411). -/
def slotQueue (s : State) (v slot : Nat) : Option Nat :=
  let qs := (ownedQueues s v).filter (fun q => s.fld (QUE_Q_LINK_LOCAL q) == slot)
  match qs.find? (fun q => qState s q != 0) with
  | some q => some q
  | none => qs.head?

/-- QUE_VF_STAT (R439). -/
def vfStat (s : State) (v : Nat) : Nat :=
  pack [(0, 9, (ownedQueues s v).length), (16, 1, b2n ((ownedQueues s v).any (fun q => qState s q == 3)))]

/-- A write of 32 bits by VF v: IRQ, and CMD with STOP or RESUME only, take effect in a view, and the registers of its doorbell pages. -/
def vfWrite32 (v off x : Nat) (s : State) : State :=
  if 0x100000 ≤ off && off < 0x200000 then
    match slotQueue s v (off / 0x1000 % 0x100) with
    | some q => pageWrite v q (off % 0x1000) x s
    | none => s
  else if 0x10000 ≤ off && off < 0x14000 then
    match slotQueue s v (off / 0x40 % 0x100) with
    | some q =>
      if off % 0x40 = 0x14 || (off % 0x40 == 0x18 && (x % 16 == 2 || x % 16 == 4 || x % 16 == 6)) then regWrite (QUE_Q_CTL q + off % 0x40) (x % 2 ^ 32) s
      else badAccess v off true 4 stNOTPERM s
    | none => s
  else s

/-- A write of 64 bits by VF v. A view's BASE is a 64-bit register, and its write is one write refused. -/
def vfWrite64 (v off x : Nat) (s : State) : State :=
  if 0x10000 ≤ off && off < 0x14000 && off % 0x40 == 8 then
    (if (slotQueue s v (off / 0x40 % 0x100)).isSome then badAccess v off true 8 stNOTPERM s else s)
  else vfWrite32 v (off + 4) (x / 2 ^ 32) (vfWrite32 v off x s)

/-- What 32 bits of VF v's window read as. -/
def vfRead32 (v off : Nat) (s : State) : State × Nat :=
  if off = 0 then (s, vfStat s v)
  else if 0x100000 ≤ off && off < 0x200000 then
    match slotQueue s v (off / 0x1000 % 0x100) with
    | some q => if off % 0x1000 = 0xC then read32 (QUE_ABORT_STAT q) s else (s, 0)
    | none => (s, 0)
  else if 0x10000 ≤ off && off < 0x14000 then
    match slotQueue s v (off / 0x40 % 0x100) with
    | some q => read32 (QUE_Q_CTL q + off % 0x40) s
    | none => (s, 0)
  else (s, 0)

/-! ### The whole access -/

/-- An aligned write that is served. -/
def write (fn off size v : Nat) (s : State) : State :=
  if fn = 0 then (if size = 8 then write64 off v s else write32 off v s)
  else (if size = 8 then vfWrite64 fn off v s else vfWrite32 fn off v s)

/-- An aligned read that is served. -/
def read (fn off size : Nat) (s : State) : State × Nat :=
  if fn = 0 then (if size = 8 then read64 off s else read32 off s)
  else
    let p := vfRead32 fn off s
    if size = 8 then (let q := vfRead32 fn (off + 4) p.1; (q.1, p.2 + q.2 * 2 ^ 32)) else p

/-- Is the block that an access of a function reaches served (R545, R594)? -/
def servedAt (fn off : Nat) (s : State) : Bool := s.served (if fn = 0 then blockAt off else 10)

/-- May a function reach BAR0: the physical function, and a VF that is enabled? -/
def fnOn (fn : Nat) (s : State) : Bool := fn == 0 || bit (s.rdN GLB_FN_EN) fn

/-- A write of BAR0 arrives (R9 to R11, R617). -/
def busWrite (fn off size v : Nat) (s : State) : State :=
  if !s.mainOn || !fnOn fn s then s
  else if !aligned off size then badAccess fn off true size stBADDESC s
  else if !servedAt fn off s then s
  else write fn off size v s

/-- A read of BAR0 arrives (R9 to R11, R617): the state after it and what it returns. -/
def busRead (fn off size : Nat) (s : State) : State × Nat :=
  if !s.mainOn || !fnOn fn s then (s, allOnes size)
  else if !aligned off size then (badAccess fn off false size stBADDESC s, allOnes size)
  else if !servedAt fn off s then (s, allOnes size)
  else read fn off size s

/-! ### MSI-X tables (R402, R406, R407) -/

/-- A write of 32 bits to an MSI-X table: a vector that is unmasked sends what is pending (R429). -/
def msixWrite32 (fn off v : Nat) (s : State) : State :=
  let vec := off / 16
  if vec < (if fn = 0 then 2048 else 32) then
    let k := fn * 2048 + vec
    let e := kget (fun _ => {}) s.msix k
    let r := off % 16
    let a := e.addr.toNat
    let e1 : MsixVec :=
      if r = 0 then { e with addr := BitVec.ofNat 64 (a / 2 ^ 32 * 2 ^ 32 + v % 2 ^ 32) }
      else if r = 4 then { e with addr := BitVec.ofNat 64 (a % 2 ^ 32 + v % 2 ^ 32 * 2 ^ 32) }
      else if r = 8 then { e with data := BitVec.ofNat 32 v }
      else { e with masked := bit v 0 }
    sendPending { s with msix := kset (fun _ => {}) s.msix k e1 }
  else s

/-- A write of BAR4: aligned words of 4 or 8 bytes of the table; the pending bits are read-only. -/
def msixWrite (fn off size v : Nat) (s : State) : State :=
  if !s.mainOn || !fnOn fn s || !aligned off size then s
  else if size = 8 then msixWrite32 fn (off + 4) (v / 2 ^ 32) (msixWrite32 fn off v s)
  else msixWrite32 fn off v s

/-- What a read of BAR4 returns: the table, and the pending bits. -/
def msixRead32 (fn off : Nat) (s : State) : Nat :=
  let n := if fn = 0 then 2048 else 32
  let pba := if fn = 0 then 0x8000 else 0x1000
  if off / 16 < n then
    let e := kget (fun _ => {}) s.msix (fn * 2048 + off / 16)
    let r := off % 16
    if r = 0 then e.addr.toNat % 2 ^ 32 else if r = 4 then e.addr.toNat / 2 ^ 32 else if r = 8 then e.data.toNat else b2n e.masked
  else if pba ≤ off && off < pba + n / 8 then
    maskOf 32 (fun i => (kget (fun _ => {}) s.msix (fn * 2048 + (off - pba) * 8 + i)).pending)
  else 0

/-- A read of BAR4. -/
def msixRead (fn off size : Nat) (s : State) : Nat :=
  if !s.mainOn || !fnOn fn s || !aligned off size then allOnes size
  else if size = 8 then msixRead32 fn off s + msixRead32 fn (off + 4) s * 2 ^ 32
  else msixRead32 fn off s

/-! ### The rows (R6 to R11, R41 to R46, R617) -/

/-- REGISTER_WRITE (R6): a write of BAR0, or of an MSI-X table in BAR4, of 4 or 8 bytes, by a function. -/
def execRegisterWrite (fn : Fin 64) (bar4 : Bool) (off : BitVec 26) (wide : Bool) (v : BitVec 64) (s : State) : Out :=
  .next (if bar4 then msixWrite fn off.toNat (if wide then 8 else 4) v.toNat s
    else busWrite fn off.toNat (if wide then 8 else 4) v.toNat s)

/-- BAD_WIDTH_ACCESS (R617): an access of `size` + 1 bytes, where that width or its alignment is not permitted. -/
def execBadWidthAccess (fn : Fin 64) (off : BitVec 26) (size : Fin 8) (write : Bool) (s : State) : Out :=
  let n := size.val + 1
  .next (if aligned off.toNat n then s
    else if write then busWrite fn off.toNat n 0 s
    else
      let p := busRead fn off.toNat n s
      { p.1 with lastRead := BitVec.ofNat 64 p.2 })

/-- LOWER_HALF_WRITE (R10): a 32-bit write of the lower half of a 64-bit register. -/
def execLowerHalfWrite (fn : Fin 64) (off : BitVec 26) (v : BitVec 32) (s : State) : Out :=
  .next (if fn != 0 || isWide off.toNat then busWrite fn off.toNat 4 v.toNat s else s)

/-- UPPER_HALF_WRITE (R10): a 32-bit write of the upper half of the 64-bit register at `off`. -/
def execUpperHalfWrite (fn : Fin 64) (off : BitVec 26) (v : BitVec 32) (s : State) : Out :=
  .next (if fn != 0 || isWide off.toNat then busWrite fn (off.toNat + 4) 4 v.toNat s else s)

/-- LOWER_HALF_READ (R11): a 32-bit read of the lower half of a 64-bit register; the row also stands for the reads of BAR0 and BAR4 that have
no row of their own. -/
def execLowerHalfRead (fn : Fin 64) (bar4 : Bool) (off : BitVec 26) (wide : Bool) (s : State) : Out :=
  let n := if wide then 8 else 4
  .next (
    if bar4 then { s with lastRead := BitVec.ofNat 64 (msixRead fn off.toNat n s) }
    else
      let p := busRead fn off.toNat n s
      { p.1 with lastRead := BitVec.ofNat 64 p.2 })

/-- ADAPT_VALUE_WRITE (R42). -/
def execAdaptValueWrite (a : AdaptPar) (v : BitVec 32) (s : State) : Out :=
  .next (if s.clocked then parValue a v.toNat s else s)

/-- ADAPT_RELEASE (R41). -/
def execAdaptRelease (a : AdaptPar) (s : State) : Out :=
  .next (if s.clocked then adaptRelease (paramOf a) s else s)

/-- ADAPT_BOUNDS_WRITE (R45, R46). -/
def execAdaptBoundsWrite (a : AdaptPar) (hi : Bool) (v : BitVec 32) (s : State) : Out :=
  .next (if s.clocked then parBound a hi v.toNat s else s)

/-! ### The TAP (R611) -/

/-- DBG_ACCESS_UPDATE (R611): Update-DR performs an access; the data register then holds its data and status. -/
def execDbgAccessUpdate (data : BitVec 64) (off : BitVec 26) (write wide : Bool) (s : State) : Out :=
  let n := if wide then 8 else 4
  let reg := fun (d st : Nat) => pack [(0, 64, d), (64, 26, off.toNat), (90, 1, b2n write), (91, 1, b2n wide), (92, 4, st)]
  .next (
    if !s.bankUp 6 || s.power.tap != 0x20 then s
    else if s.flag DBG_CTL_JTAG_LOCK then { s with power := { s.power with dbgReg := reg data.toNat 2 } }
    else
      let st := if aligned off.toNat n then 0 else 3
      if write then
        let t := busWrite 0 off.toNat n data.toNat s
        { t with power := { t.power with dbgReg := reg data.toNat st } }
      else
        let p := busRead 0 off.toNat n s
        { p.1 with power := { p.1.power with dbgReg := reg p.2 st } })

end Sys2Proof.Machine
end

