-- ==== Sys2Proof/Decode.lean ====
section
/-! DEFINITION. Decode.lean: the words of the Worfen instructions (R311 to R334), the command that a word spells, and the words of the opcode
table, which gives its rows no bits. -/

namespace Sys2Proof

/-! ### Fields of a word (R311) -/

/-- A word from its class, its d, a and b fields, and its function or immediate. -/
def wR (cls d a b f : Nat) : Nat := cls * 2 ^ 28 + d * 2 ^ 22 + a * 2 ^ 16 + b * 2 ^ 10 + f

/-- The sense bit of a branch. -/
def nb (n : Bool) : Nat := if n then 1 else 0

def fCls (w : Nat) : Nat := w / 2 ^ 28 % 16
def fD (w : Nat) : Nat := w / 2 ^ 22 % 64
def fA (w : Nat) : Nat := w / 2 ^ 16 % 64
def fB (w : Nat) : Nat := w / 2 ^ 10 % 64
def fF (w : Nat) : Nat := w % 1024

/-- A general register's number. -/
def r6 (n : Nat) : Fin 64 := Fin.ofNat 64 n
/-- A vector register's number, or another field of four bits. -/
def r4 (n : Nat) : Fin 16 := Fin.ofNat 16 n
def r3 (n : Nat) : Fin 8 := Fin.ofNat 8 n
def r5 (n : Nat) : Fin 32 := Fin.ofNat 32 n
def r2 (n : Nat) : Fin 4 := Fin.ofNat 4 n

/-- An instruction where a condition on its word holds: a reserved field that is not 0, and a register that is not there, are illegal (R311). -/
def legal (c : Bool) (i : Instr) : Option Instr := if c then some i else none

/-! ### Encoding -/

/-- The word of an instruction (R311 to R334); a command that is no Worfen instruction has none. Where the manual leaves a field of an
instruction without a use, it is 0 (log entry 31); TSTART's b stands at [11:6] (log entry 32). -/
def encodeW : Instr → Option Nat
  | .wAdd _ _ d a c => some (wR 0 d a c 0)
  | .wSub _ _ d a c => some (wR 0 d a c 1)
  | .wAnd _ _ d a c => some (wR 0 d a c 2)
  | .wOr _ _ d a c => some (wR 0 d a c 3)
  | .wXor _ _ d a c => some (wR 0 d a c 4)
  | .wAndn _ _ d a c => some (wR 0 d a c 5)
  | .wShl _ _ d a c => some (wR 0 d a c 6)
  | .wShr _ _ d a c => some (wR 0 d a c 7)
  | .wSar _ _ d a c => some (wR 0 d a c 8)
  | .wRor _ _ d a c => some (wR 0 d a c 9)
  | .wMin _ _ d a c => some (wR 0 d a c 10)
  | .wMax _ _ d a c => some (wR 0 d a c 11)
  | .wMinu _ _ d a c => some (wR 0 d a c 12)
  | .wMaxu _ _ d a c => some (wR 0 d a c 13)
  | .wClz _ _ d a => some (wR 0 d a 0 14)
  | .wPopc _ _ d a => some (wR 0 d a 0 15)
  | .wBrev _ _ d a => some (wR 0 d a 0 0x10)
  | .wBswap _ _ d a => some (wR 0 d a 0 0x11)
  | .wSelp _ _ d a c k => some (wR 0 d a c (0x18 + k))
  | .wAddi _ _ d a i => some (wR 1 d a 0 i.toNat)
  | .wAndi _ _ d a i => some (wR 1 d a 1 i.toNat)
  | .wOri _ _ d a i => some (wR 1 d a 2 i.toNat)
  | .wXori _ _ d a i => some (wR 1 d a 3 i.toNat)
  | .wShli _ _ d a i => some (wR 1 d a 4 i.toNat)
  | .wShri _ _ d a i => some (wR 1 d a 5 i.toNat)
  | .wSari _ _ d a i => some (wR 1 d a 6 i.toNat)
  | .wRori _ _ d a i => some (wR 1 d a 7 i.toNat)
  | .wMini _ _ d a i => some (wR 1 d a 8 i.toNat)
  | .wMaxi _ _ d a i => some (wR 1 d a 9 i.toNat)
  | .wConstSet _ _ d k v => some (wR 2 d (16 * k + 4 * 0) 0 0 + v.toNat)
  | .wConstIns _ _ d k v => some (wR 2 d (16 * k + 4 * 1) 0 0 + v.toNat)
  | .wConstSets _ _ d k v => some (wR 2 d (16 * k + 4 * 2) 0 0 + v.toNat)
  | .wMul _ _ d a c => some (wR 3 d a c 0)
  | .wMulh _ _ d a c => some (wR 3 d a c 1)
  | .wMulhu _ _ d a c => some (wR 3 d a c 2)
  | .wDiv _ _ d a c => some (wR 3 d a c 3)
  | .wDivu _ _ d a c => some (wR 3 d a c 4)
  | .wRem _ _ d a c => some (wR 3 d a c 5)
  | .wRemu _ _ d a c => some (wR 3 d a c 6)
  | .wMulq _ _ d a c => some (wR 3 d a c 7)
  | .wFadd _ _ d a c => some (wR 4 d a c 0)
  | .wFsub _ _ d a c => some (wR 4 d a c 1)
  | .wFmul _ _ d a c => some (wR 4 d a c 2)
  | .wFdiv _ _ d a c => some (wR 4 d a c 3)
  | .wFsqrt _ _ d a => some (wR 4 d a 0 4)
  | .wFma _ _ d a c => some (wR 4 d a c 5)
  | .wFmin _ _ d a c => some (wR 4 d a c 6)
  | .wFmax _ _ d a c => some (wR 4 d a c 7)
  | .wFabs _ _ d a => some (wR 4 d a 0 8)
  | .wFneg _ _ d a => some (wR 4 d a 0 9)
  | .wFcvtfi _ _ d a => some (wR 4 d a 0 10)
  | .wFcvtif _ _ d a => some (wR 4 d a 0 11)
  | .wFcvtfq _ _ d a => some (wR 4 d a 0 12)
  | .wFcvtqf _ _ d a => some (wR 4 d a 0 13)
  | .wEq _ _ d a c => some (wR 5 d a c 0)
  | .wNe _ _ d a c => some (wR 5 d a c 1)
  | .wLt _ _ d a c => some (wR 5 d a c 2)
  | .wGe _ _ d a c => some (wR 5 d a c 3)
  | .wLtu _ _ d a c => some (wR 5 d a c 4)
  | .wGeu _ _ d a c => some (wR 5 d a c 5)
  | .wFeq _ _ d a c => some (wR 5 d a c 6)
  | .wFlt _ _ d a c => some (wR 5 d a c 7)
  | .wFle _ _ d a c => some (wR 5 d a c 8)
  | .wPand _ _ d a c => some (wR 5 d a c 9)
  | .wPor _ _ d a c => some (wR 5 d a c 10)
  | .wPxor _ _ d a c => some (wR 5 d a c 11)
  | .wPnot _ _ d a => some (wR 5 d a 0 12)
  | .wB _ _ k n o => some (wR 6 (0 + 8 * nb n + k) 0 0 0 + o.toNat)
  | .wCall _ _ k n o => some (wR 6 (16 + 8 * nb n + k) 0 0 0 + o.toNat)
  | .wJr _ _ k n a => some (wR 6 (32 + 8 * nb n + k) a 0 0)
  | .wJalr _ _ k n a => some (wR 6 (48 + 8 * nb n + k) a 0 0)
  | .wLb _ _ d a o _ => some (wR 7 d a (0) 0 + o.toNat)
  | .wLbu _ _ d a o _ => some (wR 7 d a (4) 0 + o.toNat)
  | .wLh _ _ d a o _ => some (wR 7 d a (8) 0 + o.toNat)
  | .wLhu _ _ d a o _ => some (wR 7 d a (12) 0 + o.toNat)
  | .wLw _ _ d a o _ => some (wR 7 d a (16) 0 + o.toNat)
  | .wLwu _ _ d a o _ => some (wR 7 d a (20) 0 + o.toNat)
  | .wLd _ _ d a o _ => some (wR 7 d a (24) 0 + o.toNat)
  | .wLda _ _ d a o _ => some (wR 7 d a (28) 0 + o.toNat)
  | .wLwa _ _ d a o _ => some (wR 7 d a (32) 0 + o.toNat)
  | .wSb _ _ d a o => some (wR 8 d a (0) 0 + o.toNat)
  | .wSh _ _ d a o => some (wR 8 d a (4) 0 + o.toNat)
  | .wSw _ _ d a o => some (wR 8 d a (8) 0 + o.toNat)
  | .wSd _ _ d a o => some (wR 8 d a (12) 0 + o.toNat)
  | .wSwr _ _ d a o => some (wR 8 d a (16) 0 + o.toNat)
  | .wSdr _ _ d a o => some (wR 8 d a (20) 0 + o.toNat)
  | .wSwap _ _ d a c _ => some (wR 9 d a c 0)
  | .wAadd _ _ d a c _ => some (wR 9 d a c 1)
  | .wAand _ _ d a c _ => some (wR 9 d a c 2)
  | .wAor _ _ d a c _ => some (wR 9 d a c 3)
  | .wAmaxu _ _ d a c _ => some (wR 9 d a c 4)
  | .wCas _ _ d a c _ => some (wR 9 d a c 5)
  | .wAaddw _ _ d a c _ => some (wR 9 d a c 6)
  | .wCasw _ _ d a c _ => some (wR 9 d a c 7)
  | .wFenceR _ _ => some (wR 9 0 0 0 0x100)
  | .wFenceW _ _ => some (wR 9 0 0 0 0x101)
  | .wFenceRw _ _ => some (wR 9 0 0 0 0x102)
  | .wFenceIo _ _ => some (wR 9 0 0 0 0x103)
  | .wFenceI _ _ => some (wR 9 0 0 0 0x104)
  | .wVadd _ _ w d a c => some (wR 10 d a c (256 * w + 0))
  | .wVsub _ _ w d a c => some (wR 10 d a c (256 * w + 1))
  | .wVand _ _ w d a c => some (wR 10 d a c (256 * w + 2))
  | .wVor _ _ w d a c => some (wR 10 d a c (256 * w + 3))
  | .wVxor _ _ w d a c => some (wR 10 d a c (256 * w + 4))
  | .wVminu _ _ w d a c => some (wR 10 d a c (256 * w + 5))
  | .wVmaxu _ _ w d a c => some (wR 10 d a c (256 * w + 6))
  | .wVmin _ _ w d a c => some (wR 10 d a c (256 * w + 7))
  | .wVmax _ _ w d a c => some (wR 10 d a c (256 * w + 8))
  | .wVmul _ _ w d a c => some (wR 10 d a c (256 * w + 9))
  | .wVshl _ _ w d a c => some (wR 10 d a c (256 * w + 10))
  | .wVshr _ _ w d a c => some (wR 10 d a c (256 * w + 11))
  | .wVaddus _ _ w d a c => some (wR 10 d a c (256 * w + 12))
  | .wVcmpeq _ _ w d a c => some (wR 10 d a c (256 * w + 13))
  | .wVcmplt _ _ w d a c => some (wR 10 d a c (256 * w + 14))
  | .wVsel _ _ w d a c => some (wR 10 d a c (256 * w + 15))
  | .wVfadd _ _ d a c => some (wR 10 d a c 0x210)
  | .wVfmul _ _ d a c => some (wR 10 d a c 0x211)
  | .wVfma _ _ d a c => some (wR 10 d a c 0x212)
  | .wVsplat _ _ w d a => some (wR 10 d a 0 (256 * w + 0x13))
  | .wVext _ _ w d a k => some (wR 10 d a k (256 * w + 0x14))
  | .wVins _ _ w d a k => some (wR 10 d a k (256 * w + 0x15))
  | .wVredadd _ _ w d a => some (wR 10 d a 0 (256 * w + 0x16))
  | .wVperm _ _ d a c => some (wR 10 d a c 0x17)
  | .wVtrans _ _ d a => some (wR 10 d a 0 0x118)
  | .wVld _ _ v a o _ => some (wR 11 v a (0) 0 + o.toNat)
  | .wVst _ _ v a o => some (wR 11 v a (4) 0 + o.toNat)
  | .wMove _ _ l a e => some (wR 11 l a (8 + e / 16) (e % 16 * 64))
  | .wMwait _ _ d => some (wR 11 d 0 12 0)
  | .wQpop _ _ d a => some (wR 12 d a 0 0)
  | .wQwait _ _ d a => some (wR 12 d a 0 1)
  | .wQprog _ _ d a c => some (wR 12 d a c 2)
  | .wQdone _ _ d a c => some (wR 12 d a c 3)
  | .wQchk _ _ d a => some (wR 12 d a 0 4)
  | .wQpush _ _ d a c => some (wR 12 d a c 5)
  | .wQevent _ _ d a c => some (wR 12 d a c 6)
  | .wPhread _ _ d a => some (wR 13 d a 0 0)
  | .wPhwait _ _ d a c => some (wR 13 d a c 1)
  | .wPinpost _ _ d a c => some (wR 13 d a c 2)
  | .wShowtime _ _ d => some (wR 13 d 0 0 3)
  | .wWaitev _ _ d c => some (wR 13 d 0 c 4)
  | .wSignal _ _ d a c => some (wR 13 d a c 5)
  | .wBarrier _ _ d a c => some (wR 13 d a c 6)
  | .wCsrr _ _ d n => some (wR 14 d 0 0 n)
  | .wCsrw _ _ d a n => some (wR 14 d a 4 n)
  | .wCsrs _ _ d a n => some (wR 14 d a 8 n)
  | .wCsrc _ _ d a n => some (wR 14 d a 12 n)
  | .wYield _ _ => some (wR 14 0 0 16 0)
  | .wHalt _ _ => some (wR 14 0 0 20 0)
  | .wTrap _ _ v => some (wR 14 0 0 24 0 + v.toNat)
  | .wBkpt _ _ => some (wR 14 0 0 28 0)
  | .wTstart _ _ a c => some (wR 14 0 a (32 + c / 16) (c % 16 * 64))
  | .wTstop _ _ a => some (wR 14 0 a 36 0)
  | _ => none

/-- The word of an instruction, 0 for a command that is none. -/
def wordOf (i : Instr) : Nat := (encodeW i).getD 0

/-! ### Decoding -/

/-- Class 0x0 (R313). -/
def decAlu (b : Fin 128) (t : Fin 4) (w : Nat) : Option Instr :=
  match fF w with
  | 0 => some (.wAdd b t (r6 (fD w)) (r6 (fA w)) (r6 (fB w)))
  | 1 => some (.wSub b t (r6 (fD w)) (r6 (fA w)) (r6 (fB w)))
  | 2 => some (.wAnd b t (r6 (fD w)) (r6 (fA w)) (r6 (fB w)))
  | 3 => some (.wOr b t (r6 (fD w)) (r6 (fA w)) (r6 (fB w)))
  | 4 => some (.wXor b t (r6 (fD w)) (r6 (fA w)) (r6 (fB w)))
  | 5 => some (.wAndn b t (r6 (fD w)) (r6 (fA w)) (r6 (fB w)))
  | 6 => some (.wShl b t (r6 (fD w)) (r6 (fA w)) (r6 (fB w)))
  | 7 => some (.wShr b t (r6 (fD w)) (r6 (fA w)) (r6 (fB w)))
  | 8 => some (.wSar b t (r6 (fD w)) (r6 (fA w)) (r6 (fB w)))
  | 9 => some (.wRor b t (r6 (fD w)) (r6 (fA w)) (r6 (fB w)))
  | 10 => some (.wMin b t (r6 (fD w)) (r6 (fA w)) (r6 (fB w)))
  | 11 => some (.wMax b t (r6 (fD w)) (r6 (fA w)) (r6 (fB w)))
  | 12 => some (.wMinu b t (r6 (fD w)) (r6 (fA w)) (r6 (fB w)))
  | 13 => some (.wMaxu b t (r6 (fD w)) (r6 (fA w)) (r6 (fB w)))
  | 14 => legal (fB w == 0) (.wClz b t (r6 (fD w)) (r6 (fA w)))
  | 15 => legal (fB w == 0) (.wPopc b t (r6 (fD w)) (r6 (fA w)))
  | 0x10 => legal (fB w == 0) (.wBrev b t (r6 (fD w)) (r6 (fA w)))
  | 0x11 => legal (fB w == 0) (.wBswap b t (r6 (fD w)) (r6 (fA w)))
  | f => legal (decide (0x18 ≤ f) && decide (f < 0x20)) (.wSelp b t (r6 (fD w)) (r6 (fA w)) (r6 (fB w)) (r3 (f - 0x18)))

/-- Class 0x1 (R314). -/
def decAlui (b : Fin 128) (t : Fin 4) (w : Nat) : Option Instr :=
  match fB w with
  | 0 => some (.wAddi b t (r6 (fD w)) (r6 (fA w)) (BitVec.ofNat 10 w))
  | 1 => some (.wAndi b t (r6 (fD w)) (r6 (fA w)) (BitVec.ofNat 10 w))
  | 2 => some (.wOri b t (r6 (fD w)) (r6 (fA w)) (BitVec.ofNat 10 w))
  | 3 => some (.wXori b t (r6 (fD w)) (r6 (fA w)) (BitVec.ofNat 10 w))
  | 4 => some (.wShli b t (r6 (fD w)) (r6 (fA w)) (BitVec.ofNat 10 w))
  | 5 => some (.wShri b t (r6 (fD w)) (r6 (fA w)) (BitVec.ofNat 10 w))
  | 6 => some (.wSari b t (r6 (fD w)) (r6 (fA w)) (BitVec.ofNat 10 w))
  | 7 => some (.wRori b t (r6 (fD w)) (r6 (fA w)) (BitVec.ofNat 10 w))
  | 8 => some (.wMini b t (r6 (fD w)) (r6 (fA w)) (BitVec.ofNat 10 w))
  | 9 => some (.wMaxi b t (r6 (fD w)) (r6 (fA w)) (BitVec.ofNat 10 w))
  | _ => none

/-- Class 0x2 (R315). -/
def decConst (b : Fin 128) (t : Fin 4) (w : Nat) : Option Instr :=
  match fA w % 16 with
  | 0 => some (.wConstSet b t (r6 (fD w)) (r2 (fA w / 16)) (BitVec.ofNat 16 w))
  | 4 => some (.wConstIns b t (r6 (fD w)) (r2 (fA w / 16)) (BitVec.ofNat 16 w))
  | 8 => some (.wConstSets b t (r6 (fD w)) (r2 (fA w / 16)) (BitVec.ofNat 16 w))
  | _ => none

/-- Class 0x3 (R316). -/
def decMul (b : Fin 128) (t : Fin 4) (w : Nat) : Option Instr :=
  match fF w with
  | 0 => some (.wMul b t (r6 (fD w)) (r6 (fA w)) (r6 (fB w)))
  | 1 => some (.wMulh b t (r6 (fD w)) (r6 (fA w)) (r6 (fB w)))
  | 2 => some (.wMulhu b t (r6 (fD w)) (r6 (fA w)) (r6 (fB w)))
  | 3 => some (.wDiv b t (r6 (fD w)) (r6 (fA w)) (r6 (fB w)))
  | 4 => some (.wDivu b t (r6 (fD w)) (r6 (fA w)) (r6 (fB w)))
  | 5 => some (.wRem b t (r6 (fD w)) (r6 (fA w)) (r6 (fB w)))
  | 6 => some (.wRemu b t (r6 (fD w)) (r6 (fA w)) (r6 (fB w)))
  | 7 => some (.wMulq b t (r6 (fD w)) (r6 (fA w)) (r6 (fB w)))
  | _ => none

/-- Class 0x4 (R317). -/
def decFpu (b : Fin 128) (t : Fin 4) (w : Nat) : Option Instr :=
  match fF w with
  | 0 => some (.wFadd b t (r6 (fD w)) (r6 (fA w)) (r6 (fB w)))
  | 1 => some (.wFsub b t (r6 (fD w)) (r6 (fA w)) (r6 (fB w)))
  | 2 => some (.wFmul b t (r6 (fD w)) (r6 (fA w)) (r6 (fB w)))
  | 3 => some (.wFdiv b t (r6 (fD w)) (r6 (fA w)) (r6 (fB w)))
  | 4 => legal (fB w == 0) (.wFsqrt b t (r6 (fD w)) (r6 (fA w)))
  | 5 => some (.wFma b t (r6 (fD w)) (r6 (fA w)) (r6 (fB w)))
  | 6 => some (.wFmin b t (r6 (fD w)) (r6 (fA w)) (r6 (fB w)))
  | 7 => some (.wFmax b t (r6 (fD w)) (r6 (fA w)) (r6 (fB w)))
  | 8 => legal (fB w == 0) (.wFabs b t (r6 (fD w)) (r6 (fA w)))
  | 9 => legal (fB w == 0) (.wFneg b t (r6 (fD w)) (r6 (fA w)))
  | 10 => legal (fB w == 0) (.wFcvtfi b t (r6 (fD w)) (r6 (fA w)))
  | 11 => legal (fB w == 0) (.wFcvtif b t (r6 (fD w)) (r6 (fA w)))
  | 12 => legal (fB w == 0) (.wFcvtfq b t (r6 (fD w)) (r6 (fA w)))
  | 13 => legal (fB w == 0) (.wFcvtqf b t (r6 (fD w)) (r6 (fA w)))
  | _ => none

/-- Class 0x5 (R318). -/
def decCmp (b : Fin 128) (t : Fin 4) (w : Nat) : Option Instr :=
  match fF w with
  | 0 => legal (fD w / 8 == 0) (.wEq b t (r3 (fD w)) (r6 (fA w)) (r6 (fB w)))
  | 1 => legal (fD w / 8 == 0) (.wNe b t (r3 (fD w)) (r6 (fA w)) (r6 (fB w)))
  | 2 => legal (fD w / 8 == 0) (.wLt b t (r3 (fD w)) (r6 (fA w)) (r6 (fB w)))
  | 3 => legal (fD w / 8 == 0) (.wGe b t (r3 (fD w)) (r6 (fA w)) (r6 (fB w)))
  | 4 => legal (fD w / 8 == 0) (.wLtu b t (r3 (fD w)) (r6 (fA w)) (r6 (fB w)))
  | 5 => legal (fD w / 8 == 0) (.wGeu b t (r3 (fD w)) (r6 (fA w)) (r6 (fB w)))
  | 6 => legal (fD w / 8 == 0) (.wFeq b t (r3 (fD w)) (r6 (fA w)) (r6 (fB w)))
  | 7 => legal (fD w / 8 == 0) (.wFlt b t (r3 (fD w)) (r6 (fA w)) (r6 (fB w)))
  | 8 => legal (fD w / 8 == 0) (.wFle b t (r3 (fD w)) (r6 (fA w)) (r6 (fB w)))
  | 9 => legal (fD w / 8 == 0 && fA w / 8 == 0 && fB w / 8 == 0) (.wPand b t (r3 (fD w)) (r3 (fA w)) (r3 (fB w)))
  | 10 => legal (fD w / 8 == 0 && fA w / 8 == 0 && fB w / 8 == 0) (.wPor b t (r3 (fD w)) (r3 (fA w)) (r3 (fB w)))
  | 11 => legal (fD w / 8 == 0 && fA w / 8 == 0 && fB w / 8 == 0) (.wPxor b t (r3 (fD w)) (r3 (fA w)) (r3 (fB w)))
  | 12 => legal (fD w / 8 == 0 && fA w / 8 == 0 && fB w == 0) (.wPnot b t (r3 (fD w)) (r3 (fA w)))
  | _ => none

/-- Class 0x6 (R319). -/
def decBr (b : Fin 128) (t : Fin 4) (w : Nat) : Option Instr :=
  match fD w / 16 with
  | 0 => some (.wB b t (r3 (fD w)) (fD w / 8 % 2 == 1) (BitVec.ofNat 22 w))
  | 1 => some (.wCall b t (r3 (fD w)) (fD w / 8 % 2 == 1) (BitVec.ofNat 22 w))
  | 2 => legal (fB w == 0 && fF w == 0) (.wJr b t (r3 (fD w)) (fD w / 8 % 2 == 1) (r6 (fA w)))
  | 3 => legal (fB w == 0 && fF w == 0) (.wJalr b t (r3 (fD w)) (fD w / 8 % 2 == 1) (r6 (fA w)))
  | _ => none

/-- Class 0x7 (R320). -/
def decLd (b : Fin 128) (t : Fin 4) (x : Fin 5) (w : Nat) : Option Instr :=
  match fB w / 4 with
  | 0 => some (.wLb b t (r6 (fD w)) (r6 (fA w)) (BitVec.ofNat 12 w) x)
  | 1 => some (.wLbu b t (r6 (fD w)) (r6 (fA w)) (BitVec.ofNat 12 w) x)
  | 2 => some (.wLh b t (r6 (fD w)) (r6 (fA w)) (BitVec.ofNat 12 w) x)
  | 3 => some (.wLhu b t (r6 (fD w)) (r6 (fA w)) (BitVec.ofNat 12 w) x)
  | 4 => some (.wLw b t (r6 (fD w)) (r6 (fA w)) (BitVec.ofNat 12 w) x)
  | 5 => some (.wLwu b t (r6 (fD w)) (r6 (fA w)) (BitVec.ofNat 12 w) x)
  | 6 => some (.wLd b t (r6 (fD w)) (r6 (fA w)) (BitVec.ofNat 12 w) x)
  | 7 => some (.wLda b t (r6 (fD w)) (r6 (fA w)) (BitVec.ofNat 12 w) x)
  | 8 => some (.wLwa b t (r6 (fD w)) (r6 (fA w)) (BitVec.ofNat 12 w) x)
  | _ => none

/-- Class 0x8 (R320). -/
def decSt (b : Fin 128) (t : Fin 4) (w : Nat) : Option Instr :=
  match fB w / 4 with
  | 0 => some (.wSb b t (r6 (fD w)) (r6 (fA w)) (BitVec.ofNat 12 w))
  | 1 => some (.wSh b t (r6 (fD w)) (r6 (fA w)) (BitVec.ofNat 12 w))
  | 2 => some (.wSw b t (r6 (fD w)) (r6 (fA w)) (BitVec.ofNat 12 w))
  | 3 => some (.wSd b t (r6 (fD w)) (r6 (fA w)) (BitVec.ofNat 12 w))
  | 4 => some (.wSwr b t (r6 (fD w)) (r6 (fA w)) (BitVec.ofNat 12 w))
  | 5 => some (.wSdr b t (r6 (fD w)) (r6 (fA w)) (BitVec.ofNat 12 w))
  | _ => none

/-- Class 0x9 (R321). -/
def decAtom (b : Fin 128) (t : Fin 4) (x : Fin 5) (w : Nat) : Option Instr :=
  match fF w with
  | 0 => some (.wSwap b t (r6 (fD w)) (r6 (fA w)) (r6 (fB w)) x)
  | 1 => some (.wAadd b t (r6 (fD w)) (r6 (fA w)) (r6 (fB w)) x)
  | 2 => some (.wAand b t (r6 (fD w)) (r6 (fA w)) (r6 (fB w)) x)
  | 3 => some (.wAor b t (r6 (fD w)) (r6 (fA w)) (r6 (fB w)) x)
  | 4 => some (.wAmaxu b t (r6 (fD w)) (r6 (fA w)) (r6 (fB w)) x)
  | 5 => some (.wCas b t (r6 (fD w)) (r6 (fA w)) (r6 (fB w)) x)
  | 6 => some (.wAaddw b t (r6 (fD w)) (r6 (fA w)) (r6 (fB w)) x)
  | 7 => some (.wCasw b t (r6 (fD w)) (r6 (fA w)) (r6 (fB w)) x)
  | 0x100 => legal (fD w == 0 && fA w == 0 && fB w == 0) (.wFenceR b t)
  | 0x101 => legal (fD w == 0 && fA w == 0 && fB w == 0) (.wFenceW b t)
  | 0x102 => legal (fD w == 0 && fA w == 0 && fB w == 0) (.wFenceRw b t)
  | 0x103 => legal (fD w == 0 && fA w == 0 && fB w == 0) (.wFenceIo b t)
  | 0x104 => legal (fD w == 0 && fA w == 0 && fB w == 0) (.wFenceI b t)
  | _ => none

/-- Class 0xA (R322): the width, the operation and the three fields. -/
def decVec (b : Fin 128) (t : Fin 4) (w : Nat) : Option Instr :=
  let e := fF w / 256
  let vd := decide (fD w < 16)
  let va := decide (fA w < 16)
  let vc := decide (fB w < 16)
  match fF w % 256 with
  | 0 => legal (vd && va && vc) (.wVadd b t (r2 e) (r4 (fD w)) (r4 (fA w)) (r4 (fB w)))
  | 1 => legal (vd && va && vc) (.wVsub b t (r2 e) (r4 (fD w)) (r4 (fA w)) (r4 (fB w)))
  | 2 => legal (vd && va && vc) (.wVand b t (r2 e) (r4 (fD w)) (r4 (fA w)) (r4 (fB w)))
  | 3 => legal (vd && va && vc) (.wVor b t (r2 e) (r4 (fD w)) (r4 (fA w)) (r4 (fB w)))
  | 4 => legal (vd && va && vc) (.wVxor b t (r2 e) (r4 (fD w)) (r4 (fA w)) (r4 (fB w)))
  | 5 => legal (vd && va && vc) (.wVminu b t (r2 e) (r4 (fD w)) (r4 (fA w)) (r4 (fB w)))
  | 6 => legal (vd && va && vc) (.wVmaxu b t (r2 e) (r4 (fD w)) (r4 (fA w)) (r4 (fB w)))
  | 7 => legal (vd && va && vc) (.wVmin b t (r2 e) (r4 (fD w)) (r4 (fA w)) (r4 (fB w)))
  | 8 => legal (vd && va && vc) (.wVmax b t (r2 e) (r4 (fD w)) (r4 (fA w)) (r4 (fB w)))
  | 9 => legal (vd && va && vc && decide (e < 3)) (.wVmul b t (Fin.ofNat 3 e) (r4 (fD w)) (r4 (fA w)) (r4 (fB w)))
  | 10 => legal (vd && va && vc) (.wVshl b t (r2 e) (r4 (fD w)) (r4 (fA w)) (r4 (fB w)))
  | 11 => legal (vd && va && vc) (.wVshr b t (r2 e) (r4 (fD w)) (r4 (fA w)) (r4 (fB w)))
  | 12 => legal (vd && va && vc && decide (e < 2)) (.wVaddus b t (Fin.ofNat 2 e) (r4 (fD w)) (r4 (fA w)) (r4 (fB w)))
  | 13 => legal (vd && va && vc) (.wVcmpeq b t (r2 e) (r4 (fD w)) (r4 (fA w)) (r4 (fB w)))
  | 14 => legal (vd && va && vc) (.wVcmplt b t (r2 e) (r4 (fD w)) (r4 (fA w)) (r4 (fB w)))
  | 15 => legal (vd && va && vc) (.wVsel b t (r2 e) (r4 (fD w)) (r4 (fA w)) (r4 (fB w)))
  | 0x10 => legal (vd && va && vc && e == 2) (.wVfadd b t (r4 (fD w)) (r4 (fA w)) (r4 (fB w)))
  | 0x11 => legal (vd && va && vc && e == 2) (.wVfmul b t (r4 (fD w)) (r4 (fA w)) (r4 (fB w)))
  | 0x12 => legal (vd && va && vc && e == 2) (.wVfma b t (r4 (fD w)) (r4 (fA w)) (r4 (fB w)))
  | 0x13 => legal (vd && fB w == 0) (.wVsplat b t (r2 e) (r4 (fD w)) (r6 (fA w)))
  | 0x14 => legal (va && decide (fB w < 32 / 2 ^ e)) (.wVext b t (r2 e) (r6 (fD w)) (r4 (fA w)) (r5 (fB w)))
  | 0x15 => legal (vd && decide (fB w < 32 / 2 ^ e)) (.wVins b t (r2 e) (r4 (fD w)) (r6 (fA w)) (r5 (fB w)))
  | 0x16 => legal (va && fB w == 0) (.wVredadd b t (r2 e) (r6 (fD w)) (r4 (fA w)))
  | 0x17 => legal (vd && va && vc && e == 0) (.wVperm b t (r4 (fD w)) (r4 (fA w)) (r4 (fB w)))
  | 0x18 => legal (vd && va && fB w == 0 && e == 1) (.wVtrans b t (r4 (fD w)) (r4 (fA w)))
  | _ => none

/-- Class 0xB (R323). -/
def decVmem (b : Fin 128) (t : Fin 4) (x : Fin 5) (w : Nat) : Option Instr :=
  match fB w / 4 with
  | 0 => legal (decide (fD w < 16)) (.wVld b t (r4 (fD w)) (r6 (fA w)) (BitVec.ofNat 12 w) x)
  | 1 => legal (decide (fD w < 16)) (.wVst b t (r4 (fD w)) (r6 (fA w)) (BitVec.ofNat 12 w))
  | 2 => legal (w % 64 == 0) (.wMove b t (r6 (fD w)) (r6 (fA w)) (r6 (w / 64)))
  | 3 => legal (fA w == 0 && w % 4096 == 0) (.wMwait b t (r6 (fD w)))
  | _ => none

/-- Class 0xC (R325). -/
def decQue (b : Fin 128) (t : Fin 4) (w : Nat) : Option Instr :=
  match fF w with
  | 0 => legal (fB w == 0) (.wQpop b t (r6 (fD w)) (r6 (fA w)))
  | 1 => legal (fB w == 0) (.wQwait b t (r6 (fD w)) (r6 (fA w)))
  | 2 => some (.wQprog b t (r6 (fD w)) (r6 (fA w)) (r6 (fB w)))
  | 3 => some (.wQdone b t (r6 (fD w)) (r6 (fA w)) (r6 (fB w)))
  | 4 => legal (fB w == 0) (.wQchk b t (r6 (fD w)) (r6 (fA w)))
  | 5 => some (.wQpush b t (r6 (fD w)) (r6 (fA w)) (r6 (fB w)))
  | 6 => some (.wQevent b t (r6 (fD w)) (r6 (fA w)) (r6 (fB w)))
  | _ => none

/-- Class 0xD (R328). -/
def decPhs (b : Fin 128) (t : Fin 4) (w : Nat) : Option Instr :=
  match fF w with
  | 0 => legal (fB w == 0) (.wPhread b t (r6 (fD w)) (r6 (fA w)))
  | 1 => some (.wPhwait b t (r6 (fD w)) (r6 (fA w)) (r6 (fB w)))
  | 2 => some (.wPinpost b t (r6 (fD w)) (r6 (fA w)) (r6 (fB w)))
  | 3 => legal (fA w == 0 && fB w == 0) (.wShowtime b t (r6 (fD w)))
  | 4 => legal (fA w == 0) (.wWaitev b t (r6 (fD w)) (r6 (fB w)))
  | 5 => some (.wSignal b t (r6 (fD w)) (r6 (fA w)) (r6 (fB w)))
  | 6 => some (.wBarrier b t (r6 (fD w)) (r6 (fA w)) (r6 (fB w)))
  | _ => none

/-- Class 0xE (R333, R334). -/
def decSys (b : Fin 128) (t : Fin 4) (w : Nat) : Option Instr :=
  let n := w % 4096
  let csr := Fin.ofNat 11 n
  match fB w / 4 with
  | 0 => legal (fA w == 0 && decide (n < 11)) (.wCsrr b t (r6 (fD w)) csr)
  | 1 => legal (decide (n < 11)) (.wCsrw b t (r6 (fD w)) (r6 (fA w)) csr)
  | 2 => legal (decide (n < 11)) (.wCsrs b t (r6 (fD w)) (r6 (fA w)) csr)
  | 3 => legal (decide (n < 11)) (.wCsrc b t (r6 (fD w)) (r6 (fA w)) csr)
  | 4 => legal (fD w == 0 && fA w == 0 && n == 0) (.wYield b t)
  | 5 => legal (fD w == 0 && fA w == 0 && n == 0) (.wHalt b t)
  | 6 => legal (fD w == 0 && fA w == 0) (.wTrap b t (BitVec.ofNat 12 w))
  | 7 => legal (fD w == 0 && fA w == 0 && n == 0) (.wBkpt b t)
  | 8 => legal (fD w == 0 && n % 64 == 0) (.wTstart b t (r6 (fA w)) (r6 (w / 64)))
  | 9 => legal (fD w == 0 && n == 0) (.wTstop b t (r6 (fA w)))
  | _ => none

/-- The instruction that a word of 32 bits spells for a thread, or none where it is illegal (R311). `x` is what an error check of its access
finds, which is no part of the word. -/
def decodeW (b : Fin 128) (t : Fin 4) (x : Fin 5) (w : Nat) : Option Instr :=
  match fCls w with
  | 0 => decAlu b t w
  | 1 => decAlui b t w
  | 2 => decConst b t w
  | 3 => decMul b t w
  | 4 => decFpu b t w
  | 5 => decCmp b t w
  | 6 => decBr b t w
  | 7 => decLd b t x w
  | 8 => decSt b t w
  | 9 => decAtom b t x w
  | 10 => decVec b t w
  | 11 => decVmem b t x w
  | 12 => decQue b t w
  | 13 => decPhs b t w
  | 14 => decSys b t w
  | _ => none

/-! ### The opcode table -/

/-- The command that a word of the opcode table's bits spells: the table gives its rows no bits, so none. -/
def decodeTableWord (_nbits _w : Nat) : Option Instr := none

end Sys2Proof
end

