-- ==== Sys2Proof/Machine/WAlu.lean ====
section
/-! DEFINITION. Machine/WAlu.lean: the integer instructions (R311 to R316). -/

namespace Sys2Proof.Machine

/-! ### Shared operations -/

/-- Thread t of bobbin b issues an instruction (R307), while the ENG clock runs (R545): `k` is what it does for the thread's number. -/
def onThread (b : Fin 128) (t : Fin 4) (k : Nat → State → State) (s : State) : Out :=
  if !s.clocked then .next s else .next (issue (unitOf b t) (k (unitOf b t)) s)

/-- A result goes to a general register and the instruction retires. -/
def putG (u : Nat) (d : Fin 64) (v : Word) (s : State) : State := retire u (setG u d v s)

/-- An instruction that computes g_d from g_a. -/
def wrG1 (b : Fin 128) (t : Fin 4) (d a : Fin 64) (f : Word → Word) (s : State) : Out :=
  onThread b t (fun u z => putG u d (f (getG z u a)) z) s

/-- An instruction that computes g_d from g_a and g_b. -/
def wrG2 (b : Fin 128) (t : Fin 4) (d a c : Fin 64) (f : Word → Word → Word) (s : State) : Out :=
  onThread b t (fun u z => putG u d (f (getG z u a) (getG z u c)) z) s

/-- Signed minimum and maximum. -/
def minS (x y : Word) : Word := if x.slt y then x else y
def maxS (x y : Word) : Word := if x.slt y then y else x

/-- Leading zeros, 0 to 64. -/
def clz (x : Word) : Word := if x = 0#64 then 64#64 else BitVec.ofNat 64 (63 - Nat.log2 x.toNat)

/-- Bits set. -/
def popc (x : Word) : Word := BitVec.ofNat 64 (((List.range 64).map (fun i => b2n (bit x.toNat i))).sum)

/-- The 8 bytes in reverse order. -/
def bswap (x : Word) : Word := BitVec.ofNat 64 (leNat (leBytes 8 x.toNat).reverse)

/-- A division (R316): a divisor of 0 sets FPST.IDZ. -/
def divide (b : Fin 128) (t : Fin 4) (d a c : Fin 64) (f : Word → Word → Word) (s : State) : Out :=
  onThread b t (fun u z =>
    let y := getG z u c
    putG u d (f (getG z u a) y) (if y = 0#64 then raise u 32 z else z)) s

/-! ### The instructions -/

/-- ADD (R313): g_d = a + b. -/
def execWAdd (b : Fin 128) (t : Fin 4) (d a c : Fin 64) (s : State) : Out := wrG2 b t d a c (fun x y => x + y) s

/-- SUB (R313): g_d = a − b. -/
def execWSub (b : Fin 128) (t : Fin 4) (d a c : Fin 64) (s : State) : Out := wrG2 b t d a c (fun x y => x - y) s

/-- AND (R313): g_d = a & b. -/
def execWAnd (b : Fin 128) (t : Fin 4) (d a c : Fin 64) (s : State) : Out := wrG2 b t d a c (fun x y => x &&& y) s

/-- OR (R313): g_d = a | b. -/
def execWOr (b : Fin 128) (t : Fin 4) (d a c : Fin 64) (s : State) : Out := wrG2 b t d a c (fun x y => x ||| y) s

/-- XOR (R313): g_d = a ^ b. -/
def execWXor (b : Fin 128) (t : Fin 4) (d a c : Fin 64) (s : State) : Out := wrG2 b t d a c (fun x y => x ^^^ y) s

/-- ANDN (R313): g_d = a & ~b. -/
def execWAndn (b : Fin 128) (t : Fin 4) (d a c : Fin 64) (s : State) : Out := wrG2 b t d a c (fun x y => x &&& ~~~y) s

/-- SHL (R313): Shift left by b mod 64. -/
def execWShl (b : Fin 128) (t : Fin 4) (d a c : Fin 64) (s : State) : Out := wrG2 b t d a c (fun x y => x <<< (y.toNat % 64)) s

/-- SHR (R313): Logical shift right. -/
def execWShr (b : Fin 128) (t : Fin 4) (d a c : Fin 64) (s : State) : Out := wrG2 b t d a c (fun x y => x >>> (y.toNat % 64)) s

/-- SAR (R313): Arithmetic shift right. -/
def execWSar (b : Fin 128) (t : Fin 4) (d a c : Fin 64) (s : State) : Out := wrG2 b t d a c (fun x y => x.sshiftRight (y.toNat % 64)) s

/-- ROR (R313): Rotate right. -/
def execWRor (b : Fin 128) (t : Fin 4) (d a c : Fin 64) (s : State) : Out := wrG2 b t d a c (fun x y => x.rotateRight (y.toNat % 64)) s

/-- MIN (R313): Signed minimum. -/
def execWMin (b : Fin 128) (t : Fin 4) (d a c : Fin 64) (s : State) : Out := wrG2 b t d a c (fun x y => minS x y) s

/-- MAX (R313): Signed maximum. -/
def execWMax (b : Fin 128) (t : Fin 4) (d a c : Fin 64) (s : State) : Out := wrG2 b t d a c (fun x y => maxS x y) s

/-- MINU (R313): Unsigned minimum. -/
def execWMinu (b : Fin 128) (t : Fin 4) (d a c : Fin 64) (s : State) : Out := wrG2 b t d a c (fun x y => if x.ult y then x else y) s

/-- MAXU (R313): Unsigned maximum. -/
def execWMaxu (b : Fin 128) (t : Fin 4) (d a c : Fin 64) (s : State) : Out := wrG2 b t d a c (fun x y => if x.ult y then y else x) s

/-- CLZ (R313): Count leading zeros. -/
def execWClz (b : Fin 128) (t : Fin 4) (d a : Fin 64) (s : State) : Out := wrG1 b t d a (fun x => clz x) s

/-- POPC (R313): Count set bits. -/
def execWPopc (b : Fin 128) (t : Fin 4) (d a : Fin 64) (s : State) : Out := wrG1 b t d a (fun x => popc x) s

/-- BREV (R313): Reverse the 64 bits. -/
def execWBrev (b : Fin 128) (t : Fin 4) (d a : Fin 64) (s : State) : Out := wrG1 b t d a (fun x => x.reverse) s

/-- BSWAP (R313): Reverse the 8 bytes. -/
def execWBswap (b : Fin 128) (t : Fin 4) (d a : Fin 64) (s : State) : Out := wrG1 b t d a (fun x => bswap x) s

/-- SELP (R313): Select a or b by predicate p_k. -/
def execWSelp (b : Fin 128) (t : Fin 4) (d a c : Fin 64) (k : Fin 8) (s : State) : Out := onThread b t (fun u z => putG u d (if getP z u k then getG z u a else getG z u c) z) s

/-- ADDI (R314): Add a signed immediate. -/
def execWAddi (b : Fin 128) (t : Fin 4) (d a : Fin 64) (i : BitVec 10) (s : State) : Out := wrG1 b t d a (fun x => let y := i.signExtend 64; x + y) s

/-- ANDI (R314): AND with an immediate. -/
def execWAndi (b : Fin 128) (t : Fin 4) (d a : Fin 64) (i : BitVec 10) (s : State) : Out := wrG1 b t d a (fun x => let y := i.signExtend 64; x &&& y) s

/-- ORI (R314): OR with an immediate. -/
def execWOri (b : Fin 128) (t : Fin 4) (d a : Fin 64) (i : BitVec 10) (s : State) : Out := wrG1 b t d a (fun x => let y := i.signExtend 64; x ||| y) s

/-- XORI (R314): XOR with an immediate. -/
def execWXori (b : Fin 128) (t : Fin 4) (d a : Fin 64) (i : BitVec 10) (s : State) : Out := wrG1 b t d a (fun x => let y := i.signExtend 64; x ^^^ y) s

/-- SHLI (R314): Shift left by an immediate. -/
def execWShli (b : Fin 128) (t : Fin 4) (d a : Fin 64) (i : BitVec 10) (s : State) : Out := wrG1 b t d a (fun x => let y := i.signExtend 64; x <<< (y.toNat % 64)) s

/-- SHRI (R314): Logical shift right by an immediate. -/
def execWShri (b : Fin 128) (t : Fin 4) (d a : Fin 64) (i : BitVec 10) (s : State) : Out := wrG1 b t d a (fun x => let y := i.signExtend 64; x >>> (y.toNat % 64)) s

/-- SARI (R314): Arithmetic shift right by an immediate. -/
def execWSari (b : Fin 128) (t : Fin 4) (d a : Fin 64) (i : BitVec 10) (s : State) : Out := wrG1 b t d a (fun x => let y := i.signExtend 64; x.sshiftRight (y.toNat % 64)) s

/-- RORI (R314): Rotate right by an immediate. -/
def execWRori (b : Fin 128) (t : Fin 4) (d a : Fin 64) (i : BitVec 10) (s : State) : Out := wrG1 b t d a (fun x => let y := i.signExtend 64; x.rotateRight (y.toNat % 64)) s

/-- MINI (R314): Signed minimum with an immediate. -/
def execWMini (b : Fin 128) (t : Fin 4) (d a : Fin 64) (i : BitVec 10) (s : State) : Out := wrG1 b t d a (fun x => let y := i.signExtend 64; minS x y) s

/-- MAXI (R314): Signed maximum with an immediate. -/
def execWMaxi (b : Fin 128) (t : Fin 4) (d a : Fin 64) (i : BitVec 10) (s : State) : Out := wrG1 b t d a (fun x => let y := i.signExtend 64; maxS x y) s

/-- CONST_SET (R315): g_d = imm16 << 16k. -/
def execWConstSet (b : Fin 128) (t : Fin 4) (d : Fin 64) (k : Fin 4) (v : BitVec 16) (s : State) : Out := onThread b t (fun u z => putG u d (v.setWidth 64 <<< (16 * k.val)) z) s

/-- CONST_INS (R315): Insert imm16 into slot k of g_d. -/
def execWConstIns (b : Fin 128) (t : Fin 4) (d : Fin 64) (k : Fin 4) (v : BitVec 16) (s : State) : Out := onThread b t (fun u z => putG u d ((getG z u d &&& ~~~(0xFFFF#64 <<< (16 * k.val))) ||| (v.setWidth 64 <<< (16 * k.val))) z) s

/-- CONST_SETS (R315): Place a sign-extended imm16 at slot k. -/
def execWConstSets (b : Fin 128) (t : Fin 4) (d : Fin 64) (k : Fin 4) (v : BitVec 16) (s : State) : Out := onThread b t (fun u z => putG u d (v.signExtend 64 <<< (16 * k.val)) z) s

/-- MUL (R316): Low 64 bits of a × b. -/
def execWMul (b : Fin 128) (t : Fin 4) (d a c : Fin 64) (s : State) : Out := wrG2 b t d a c (fun x y => x * y) s

/-- MULH (R316): Signed high 64 bits of a × b. -/
def execWMulh (b : Fin 128) (t : Fin 4) (d a c : Fin 64) (s : State) : Out := wrG2 b t d a c (fun x y => BitVec.ofInt 64 ((x.toInt * y.toInt).fdiv (2 ^ 64))) s

/-- MULHU (R316): Unsigned high 64 bits of a × b. -/
def execWMulhu (b : Fin 128) (t : Fin 4) (d a c : Fin 64) (s : State) : Out := wrG2 b t d a c (fun x y => BitVec.ofNat 64 (x.toNat * y.toNat / 2 ^ 64)) s

/-- DIV (R316): Signed division; division by zero sets IDZ. -/
def execWDiv (b : Fin 128) (t : Fin 4) (d a c : Fin 64) (s : State) : Out := divide b t d a c (fun x y => if y = 0#64 then BitVec.allOnes 64 else x.sdiv y) s

/-- DIVU (R316): Unsigned division. -/
def execWDivu (b : Fin 128) (t : Fin 4) (d a c : Fin 64) (s : State) : Out := divide b t d a c (fun x y => if y = 0#64 then BitVec.allOnes 64 else x / y) s

/-- REM (R316): Signed remainder. -/
def execWRem (b : Fin 128) (t : Fin 4) (d a c : Fin 64) (s : State) : Out := divide b t d a c (fun x y => if y = 0#64 then x else x.srem y) s

/-- REMU (R316): Unsigned remainder. -/
def execWRemu (b : Fin 128) (t : Fin 4) (d a c : Fin 64) (s : State) : Out := divide b t d a c (fun x y => if y = 0#64 then x else x % y) s

/-- MULQ (R316): Q32.32 multiply, truncated. -/
def execWMulq (b : Fin 128) (t : Fin 4) (d a c : Fin 64) (s : State) : Out := wrG2 b t d a c (fun x y => BitVec.ofInt 64 ((x.toInt * y.toInt).fdiv (2 ^ 32))) s

end Sys2Proof.Machine
end

