-- ==== Sys2Proof/Machine/WFpu.lean ====
section
/-! DEFINITION. Machine/WFpu.lean: binary32 arithmetic, compares, predicates and branches (R317 to R319). -/

namespace Sys2Proof.Machine

/-! ### Shared operations -/

/-- The binary32 value that a register holds. -/
def lo32 (x : Word) : Nat := x.toNat % 2 ^ 32

/-- A floating-point instruction (R317): the result clears bits [63:32] where it is a binary32, and its exceptions are sticky. -/
def fpu (b : Fin 128) (t : Fin 4) (d : Fin 64) (f : State → Nat → FR) (s : State) : Out :=
  onThread b t (fun u z => let r := f z u; putG u d (BitVec.ofNat 64 r.v) (raise u r.ex z)) s

/-- An operation on the sign of a value: a NaN result is the canonical one (R317). -/
def canon (f : Nat → Nat) (x : Nat) : Nat := if isNaN x then qNaN else f x

/-- FMIN and FMAX (R317): `first` says that x is the result. Of two zeros of unlike sign either may be: a free value. -/
def fpuPick (b : Fin 128) (t : Fin 4) (d a c : Fin 64) (first : Nat → Nat → Bool) (s : State) : Out :=
  onThread b t (fun u z =>
    let x := lo32 (getG z u a)
    let y := lo32 (getG z u c)
    let ex := fsnan x ||| fsnan y
    if isNaN x || isNaN y then putG u d (BitVec.ofNat 64 (if isNaN x then (if isNaN y then qNaN else y) else x)) (raise u ex z)
    else if feq0 x y && x != y then
      let f := z.takeBit
      putG u d (BitVec.ofNat 64 (if f.1 then x else y)) f.2
    else putG u d (BitVec.ofNat 64 (if first x y then x else y)) (raise u ex z)) s

/-- An instruction that computes a predicate (R318). -/
def wrP (b : Fin 128) (t : Fin 4) (d : Fin 8) (f : State → Nat → Bool) (s : State) : Out :=
  onThread b t (fun u z => retire u (setP u d (f z u) z)) s

/-- A floating compare (R318): a NaN operand gives 0, and sets INV for FLT and FLE only. -/
def fcmp (b : Fin 128) (t : Fin 4) (d : Fin 8) (a c : Fin 64) (inv : Bool) (f : Nat → Nat → Bool) (s : State) : Out :=
  onThread b t (fun u z =>
    let x := lo32 (getG z u a)
    let y := lo32 (getG z u c)
    if isNaN x || isNaN y then retire u (setP u d false (if inv then raise u fxINV z else z))
    else retire u (setP u d (f x y) z)) s

/-- A branch (R319): it acts only when its predicate differs from the sense. -/
def branch (b : Fin 128) (t : Fin 4) (k : Fin 8) (n : Bool) (f : Nat → State → State) (s : State) : Out :=
  onThread b t (fun u z => if getP z u k != n then f u z else retire u z) s

/-- The target of a branch: its own address and four times its offset (R319). -/
def relPc (s : State) (u : Nat) (o : BitVec 22) : Nat := ((BitVec.ofNat 64 (thPc s u)) + 4#64 * o.signExtend 64).toNat

/-- g63 takes the address of the next instruction (R319). -/
def linkPc (u : Nat) (s : State) : State := setG u 63 (BitVec.ofNat 64 (thPc s u + 4)) s

/-- A jump to a register's value (R319): a target that is not a multiple of 4 faults. -/
def jump (u pc : Nat) (link : Bool) (word : Nat) (s : State) : State :=
  if pc % 4 != 0 then threadFault u tcMISALIGN 0 pc word s
  else retireTo u pc (if link then linkPc u s else s)

/-! ### The instructions -/

/-- FADD (R317): binary32 a + b. -/
def execWFadd (b : Fin 128) (t : Fin 4) (d a c : Fin 64) (s : State) : Out := fpu b t d (fun z u => fadd (lo32 (getG z u a)) (lo32 (getG z u c))) s

/-- FSUB (R317): binary32 a − b. -/
def execWFsub (b : Fin 128) (t : Fin 4) (d a c : Fin 64) (s : State) : Out := fpu b t d (fun z u => fsub (lo32 (getG z u a)) (lo32 (getG z u c))) s

/-- FMUL (R317): binary32 a × b. -/
def execWFmul (b : Fin 128) (t : Fin 4) (d a c : Fin 64) (s : State) : Out := fpu b t d (fun z u => fmul (lo32 (getG z u a)) (lo32 (getG z u c))) s

/-- FDIV (R317): binary32 a / b. -/
def execWFdiv (b : Fin 128) (t : Fin 4) (d a c : Fin 64) (s : State) : Out := fpu b t d (fun z u => fdiv (lo32 (getG z u a)) (lo32 (getG z u c))) s

/-- FSQRT (R317): binary32 square root. -/
def execWFsqrt (b : Fin 128) (t : Fin 4) (d a : Fin 64) (s : State) : Out := fpu b t d (fun z u => fsqrt (lo32 (getG z u a))) s

/-- FMA (R317): binary32 fused d + a × b. -/
def execWFma (b : Fin 128) (t : Fin 4) (d a c : Fin 64) (s : State) : Out := fpu b t d (fun z u => fma (lo32 (getG z u d)) (lo32 (getG z u a)) (lo32 (getG z u c))) s

/-- FMIN (R317): binary32 minimum. -/
def execWFmin (b : Fin 128) (t : Fin 4) (d a c : Fin 64) (s : State) : Out := fpuPick b t d a c (fun x y => flt0 x y) s

/-- FMAX (R317): binary32 maximum. -/
def execWFmax (b : Fin 128) (t : Fin 4) (d a c : Fin 64) (s : State) : Out := fpuPick b t d a c (fun x y => flt0 y x) s

/-- FABS (R317): binary32 absolute value. -/
def execWFabs (b : Fin 128) (t : Fin 4) (d a : Fin 64) (s : State) : Out := fpu b t d (fun z u => ⟨canon fabs (lo32 (getG z u a)), 0⟩) s

/-- FNEG (R317): binary32 negation. -/
def execWFneg (b : Fin 128) (t : Fin 4) (d a : Fin 64) (s : State) : Out := fpu b t d (fun z u => ⟨canon fneg (lo32 (getG z u a)), 0⟩) s

/-- FCVTFI (R317): Signed integer to binary32. -/
def execWFcvtfi (b : Fin 128) (t : Fin 4) (d a : Fin 64) (s : State) : Out := fpu b t d (fun z u => froundI (getG z u a).toInt 0 false) s

/-- FCVTIF (R317): binary32 to signed integer, saturating. -/
def execWFcvtif (b : Fin 128) (t : Fin 4) (d a : Fin 64) (s : State) : Out := fpu b t d (fun z u => fcvtInt (lo32 (getG z u a)) 0) s

/-- FCVTFQ (R317): Q32.32 to binary32. -/
def execWFcvtfq (b : Fin 128) (t : Fin 4) (d a : Fin 64) (s : State) : Out := fpu b t d (fun z u => froundI (getG z u a).toInt (-32) false) s

/-- FCVTQF (R317): binary32 to Q32.32. -/
def execWFcvtqf (b : Fin 128) (t : Fin 4) (d a : Fin 64) (s : State) : Out := fpu b t d (fun z u => fcvtInt (lo32 (getG z u a)) 32) s

/-- EQ (R318): p_d = a = b. -/
def execWEq (b : Fin 128) (t : Fin 4) (d : Fin 8) (a c : Fin 64) (s : State) : Out := wrP b t d (fun z u => let x := getG z u a; let y := getG z u c; x == y) s

/-- NE (R318): p_d = a ≠ b. -/
def execWNe (b : Fin 128) (t : Fin 4) (d : Fin 8) (a c : Fin 64) (s : State) : Out := wrP b t d (fun z u => let x := getG z u a; let y := getG z u c; x != y) s

/-- LT (R318): Signed less than. -/
def execWLt (b : Fin 128) (t : Fin 4) (d : Fin 8) (a c : Fin 64) (s : State) : Out := wrP b t d (fun z u => let x := getG z u a; let y := getG z u c; x.slt y) s

/-- GE (R318): Signed greater or equal. -/
def execWGe (b : Fin 128) (t : Fin 4) (d : Fin 8) (a c : Fin 64) (s : State) : Out := wrP b t d (fun z u => let x := getG z u a; let y := getG z u c; !x.slt y) s

/-- LTU (R318): Unsigned less than. -/
def execWLtu (b : Fin 128) (t : Fin 4) (d : Fin 8) (a c : Fin 64) (s : State) : Out := wrP b t d (fun z u => let x := getG z u a; let y := getG z u c; x.ult y) s

/-- GEU (R318): Unsigned greater or equal. -/
def execWGeu (b : Fin 128) (t : Fin 4) (d : Fin 8) (a c : Fin 64) (s : State) : Out := wrP b t d (fun z u => let x := getG z u a; let y := getG z u c; !x.ult y) s

/-- FEQ (R318): binary32 equal. -/
def execWFeq (b : Fin 128) (t : Fin 4) (d : Fin 8) (a c : Fin 64) (s : State) : Out := fcmp b t d a c false feq0 s

/-- FLT (R318): binary32 less than. -/
def execWFlt (b : Fin 128) (t : Fin 4) (d : Fin 8) (a c : Fin 64) (s : State) : Out := fcmp b t d a c true flt0 s

/-- FLE (R318): binary32 less or equal. -/
def execWFle (b : Fin 128) (t : Fin 4) (d : Fin 8) (a c : Fin 64) (s : State) : Out := fcmp b t d a c true (fun x y => !flt0 y x) s

/-- PAND (R318): Predicate AND. -/
def execWPand (b : Fin 128) (t : Fin 4) (d a c : Fin 8) (s : State) : Out := wrP b t d (fun z u => getP z u a && getP z u c) s

/-- POR (R318): Predicate OR. -/
def execWPor (b : Fin 128) (t : Fin 4) (d a c : Fin 8) (s : State) : Out := wrP b t d (fun z u => getP z u a || getP z u c) s

/-- PXOR (R318): Predicate XOR. -/
def execWPxor (b : Fin 128) (t : Fin 4) (d a c : Fin 8) (s : State) : Out := wrP b t d (fun z u => getP z u a != getP z u c) s

/-- PNOT (R318): Predicate NOT. -/
def execWPnot (b : Fin 128) (t : Fin 4) (d a : Fin 8) (s : State) : Out := wrP b t d (fun z u => !getP z u a) s

/-- B (R319): Conditional PC-relative branch. -/
def execWB (b : Fin 128) (t : Fin 4) (k : Fin 8) (n : Bool) (o : BitVec 22) (s : State) : Out := branch b t k n (fun u z => retireTo u (relPc z u o) z) s

/-- CALL (R319): Branch and link in g63. -/
def execWCall (b : Fin 128) (t : Fin 4) (k : Fin 8) (n : Bool) (o : BitVec 22) (s : State) : Out := branch b t k n (fun u z => retireTo u (relPc z u o) (linkPc u z)) s

/-- JR (R319): Jump to g_a. -/
def execWJr (b : Fin 128) (t : Fin 4) (k : Fin 8) (n : Bool) (a : Fin 64) (s : State) : Out := branch b t k n (fun u z => jump u (getG z u a).toNat false (wordOf (.wJr b t k n a)) z) s

/-- JALR (R319): Jump to g_a and link. -/
def execWJalr (b : Fin 128) (t : Fin 4) (k : Fin 8) (n : Bool) (a : Fin 64) (s : State) : Out := branch b t k n (fun u z => jump u (getG z u a).toNat true (wordOf (.wJalr b t k n a)) z) s

end Sys2Proof.Machine
end

