-- ==== Sys2Proof/Machine/WMem.lean ====
section
/-! DEFINITION. Machine/WMem.lean: loads, stores, atomics, fences, vector memory and moves (R309, R310, R320, R321, R323, R324, R336 to R339). -/

namespace Sys2Proof.Machine

/-! ### Shared operations -/

/-- The bytes of a pad or of a pillow's shared memory, as a number. -/
def localNat (pad : Bool) (a n : Nat) (s : State) : Nat := readNat (if pad then s.padMem else s.pilMem) a n

/-- Store a number in a pad or in a pillow's shared memory. -/
def localPut (pad : Bool) (a n v : Nat) (s : State) : State :=
  localClear pad a n (if pad then { s with padMem := writeNat s.padMem a n v } else { s with pilMem := writeNat s.pilMem a n v })

/-- What a read of a pad or of a shared memory finds (R339, R352): 1 to 3 corrected, 4 uncorrectable. -/
def localRead (u : Nat) (pad : Bool) (va a n x word : Nat) (k : Nat → State → State) (s : State) : State :=
  if x = 4 || localBad pad a n s then threadFault u tcECC 0 va word (if localBad pad a n s then s else localMark pad a s)
  else k (localNat pad a n s) (if x = 0 then s else engCorrected u pad a s)

/-- What a read at a target finds (R376, R377, R339): host memory has no check of the block's. -/
def targetRead (u va : Nat) (g : Target) (n x word : Nat) (k : Nat → State → State) (s : State) : State :=
  if g.host then k (leNat (loadAt s g n)) (keepXlat (thAsid s u) va s)
  else
    let z := eccFind g.addr x (pilSource u) (activate g.addr s)
    if readsBad z g n then threadFault u tcECC 0 va word z else k (leNat (loadAt z g n)) z

/-- A load of n bytes, naturally aligned (R309, R310, R320, R337): `k` takes the value. -/
def loadBytes (u va n : Nat) (x : Fin 5) (word : Nat) (k : Nat → State → State) (s : State) : State :=
  if va % n != 0 then threadFault u tcMISALIGN 0 va word s
  else match place s u va akREAD with
    | .bad c => threadFault u c 0 va word s
    | .miss c l h => enterXlate u va akREAD word c l h s
    | .stall => s
    | .io off => let p := busRead 0 off n s; k p.2 p.1
    | .pil a => localRead u false va a n x word k s
    | .pad a => localRead u true va a n x word k s
    | .mem g => targetRead u va g n x word k s

/-- A store of n bytes, naturally aligned (R309, R310, R320, R337). -/
def storeBytes (u va n v word : Nat) (s : State) : State :=
  if va % n != 0 then threadFault u tcMISALIGN 0 va word s
  else match place s u va akWRITE with
    | .bad c => threadFault u c 0 va word s
    | .miss c l h => enterXlate u va akWRITE word c l h s
    | .stall => s
    | .io off => retire u (busWrite 0 off n (v % 2 ^ (8 * n)) s)
    | .pil a => retire u (localPut false a n v s)
    | .pad a => retire u (localPut true a n v s)
    | .mem g => retire u (storeAt g (leBytes n v) (if g.host then keepXlat (thAsid s u) va s else activate g.addr s))

/-- The address of a load or a store: g_a and a signed offset (R320). -/
def ea (s : State) (u : Nat) (a : Fin 64) (o : BitVec 12) : Nat := (getG s u a + o.signExtend 64).toNat

/-- A load into a general register (R320). -/
def loadG (b : Fin 128) (t : Fin 4) (d a : Fin 64) (o : BitVec 12) (n : Nat) (x : Fin 5) (f : Nat → Word) (word : Nat) (s : State) : Out :=
  onThread b t (fun u z => loadBytes u (ea z u a o) n x word (fun v y => putG u d (f v) y) z) s

/-- A store of a general register (R320). -/
def storeG (b : Fin 128) (t : Fin 4) (d a : Fin 64) (o : BitVec 12) (n word : Nat) (s : State) : Out :=
  onThread b t (fun u z => storeBytes u (ea z u a o) n (getG z u d).toNat word z) s

/-- The value that an atomic leaves, and the old one in g_d (R321). -/
def atomStep (u : Nat) (d c : Fin 64) (n : Nat) (f : Nat → Nat → Nat → Nat) (m : Nat) (put : Nat → State → State) (s : State) : State :=
  putG u d (BitVec.ofNat 64 m) (put (f m ((getG s u c).toNat % 2 ^ (8 * n)) ((getG s u d).toNat % 2 ^ (8 * n)) % 2 ^ (8 * n)) s)

/-- An atomic of n bytes (R321): in the I/O window and in host memory it faults with cause ATOM_SPACE. -/
def atomic (b : Fin 128) (t : Fin 4) (d a c : Fin 64) (n : Nat) (x : Fin 5) (f : Nat → Nat → Nat → Nat) (word : Nat) (s : State) : Out :=
  onThread b t (fun u z =>
    let va := (getG z u a).toNat
    if va % n != 0 then threadFault u tcMISALIGN 0 va word z
    else match place z u va akATOMIC with
      | .bad e => threadFault u e 0 va word z
      | .stall => z
      | .io _ => threadFault u tcATOMSPACE 0 va word z
      | .miss e l h => if h then threadFault u tcATOMSPACE 0 va word z else enterXlate u va akATOMIC word e l h z
      | .pil p => localRead u false va p n x word (fun m y => atomStep u d c n f m (localPut false p n) y) z
      | .pad p => localRead u true va p n x word (fun m y => atomStep u d c n f m (localPut true p n) y) z
      | .mem g =>
        if g.host then threadFault u tcATOMSPACE 0 va word z
        else targetRead u va g n x word (fun m y => atomStep u d c n f m (fun v q => storeAt g (leBytes n v) q) y) z) s

/-- A thread waits (R308). -/
def waitFor (u : Nat) (w : Waiting) (s : State) : State := setThState u 2 (updTh u (fun r => { r with wait := w }) s)

/-- MOVE (R324): a ninth waits for a slot; a bad length ends at once. -/
def moveIssue (u src dst len : Nat) (s : State) : State :=
  if (liveMoves s u).length < 8 || len = 0 || 2 ^ 24 < len then retire u (startMove u src dst len s)
  else waitFor u (.slot src dst len) s

/-- MWAIT with no move outstanding (R323): the status of the first failed move, or OK. -/
def movesDone (u : Nat) (d : Fin 64) (s : State) : State :=
  let st := (s.th u).moveFail.getD stOK
  putG u d (BitVec.ofNat 64 st) (setOpst u st (updTh u (fun r => { r with moveFail := none }) s))

/-! ### The instructions -/

/-- LB (R320): Load a sign-extended byte. -/
def execWLb (b : Fin 128) (t : Fin 4) (d a : Fin 64) (o : BitVec 12) (x : Fin 5) (s : State) : Out := loadG b t d a o 1 x (fun v => BitVec.ofInt 64 (sext v 8)) (wordOf (.wLb b t d a o x)) s

/-- LBU (R320): Load a zero-extended byte. -/
def execWLbu (b : Fin 128) (t : Fin 4) (d a : Fin 64) (o : BitVec 12) (x : Fin 5) (s : State) : Out := loadG b t d a o 1 x (fun v => BitVec.ofNat 64 v) (wordOf (.wLbu b t d a o x)) s

/-- LH (R320): Load a sign-extended 16 bits. -/
def execWLh (b : Fin 128) (t : Fin 4) (d a : Fin 64) (o : BitVec 12) (x : Fin 5) (s : State) : Out := loadG b t d a o 2 x (fun v => BitVec.ofInt 64 (sext v 16)) (wordOf (.wLh b t d a o x)) s

/-- LHU (R320): Load a zero-extended 16 bits. -/
def execWLhu (b : Fin 128) (t : Fin 4) (d a : Fin 64) (o : BitVec 12) (x : Fin 5) (s : State) : Out := loadG b t d a o 2 x (fun v => BitVec.ofNat 64 v) (wordOf (.wLhu b t d a o x)) s

/-- LW (R320): Load a sign-extended 32 bits. -/
def execWLw (b : Fin 128) (t : Fin 4) (d a : Fin 64) (o : BitVec 12) (x : Fin 5) (s : State) : Out := loadG b t d a o 4 x (fun v => BitVec.ofInt 64 (sext v 32)) (wordOf (.wLw b t d a o x)) s

/-- LWU (R320): Load a zero-extended 32 bits. -/
def execWLwu (b : Fin 128) (t : Fin 4) (d a : Fin 64) (o : BitVec 12) (x : Fin 5) (s : State) : Out := loadG b t d a o 4 x (fun v => BitVec.ofNat 64 v) (wordOf (.wLwu b t d a o x)) s

/-- LD (R320): Load 64 bits. -/
def execWLd (b : Fin 128) (t : Fin 4) (d a : Fin 64) (o : BitVec 12) (x : Fin 5) (s : State) : Out := loadG b t d a o 8 x (fun v => BitVec.ofNat 64 v) (wordOf (.wLd b t d a o x)) s

/-- LDA (R320): Load 64 bits with acquire. -/
def execWLda (b : Fin 128) (t : Fin 4) (d a : Fin 64) (o : BitVec 12) (x : Fin 5) (s : State) : Out := loadG b t d a o 8 x (fun v => BitVec.ofNat 64 v) (wordOf (.wLda b t d a o x)) s

/-- LWA (R320): Load 32 bits with acquire. -/
def execWLwa (b : Fin 128) (t : Fin 4) (d a : Fin 64) (o : BitVec 12) (x : Fin 5) (s : State) : Out := loadG b t d a o 4 x (fun v => BitVec.ofNat 64 v) (wordOf (.wLwa b t d a o x)) s

/-- SB (R320): Store 8 bits. -/
def execWSb (b : Fin 128) (t : Fin 4) (d a : Fin 64) (o : BitVec 12) (s : State) : Out := storeG b t d a o 1 (wordOf (.wSb b t d a o)) s

/-- SH (R320): Store 16 bits. -/
def execWSh (b : Fin 128) (t : Fin 4) (d a : Fin 64) (o : BitVec 12) (s : State) : Out := storeG b t d a o 2 (wordOf (.wSh b t d a o)) s

/-- SW (R320): Store 32 bits. -/
def execWSw (b : Fin 128) (t : Fin 4) (d a : Fin 64) (o : BitVec 12) (s : State) : Out := storeG b t d a o 4 (wordOf (.wSw b t d a o)) s

/-- SD (R320): Store 64 bits. -/
def execWSd (b : Fin 128) (t : Fin 4) (d a : Fin 64) (o : BitVec 12) (s : State) : Out := storeG b t d a o 8 (wordOf (.wSd b t d a o)) s

/-- SWR (R320): Store 32 bits with release. -/
def execWSwr (b : Fin 128) (t : Fin 4) (d a : Fin 64) (o : BitVec 12) (s : State) : Out := storeG b t d a o 4 (wordOf (.wSwr b t d a o)) s

/-- SDR (R320): Store 64 bits with release. -/
def execWSdr (b : Fin 128) (t : Fin 4) (d a : Fin 64) (o : BitVec 12) (s : State) : Out := storeG b t d a o 8 (wordOf (.wSdr b t d a o)) s

/-- SWAP (R321): Atomic swap at memory. -/
def execWSwap (b : Fin 128) (t : Fin 4) (d a c : Fin 64) (x : Fin 5) (s : State) : Out := atomic b t d a c 8 x (fun _ y _ => y) (wordOf (.wSwap b t d a c x)) s

/-- AADD (R321): Atomic 64-bit add. -/
def execWAadd (b : Fin 128) (t : Fin 4) (d a c : Fin 64) (x : Fin 5) (s : State) : Out := atomic b t d a c 8 x (fun m y _ => m + y) (wordOf (.wAadd b t d a c x)) s

/-- AAND (R321): Atomic AND. -/
def execWAand (b : Fin 128) (t : Fin 4) (d a c : Fin 64) (x : Fin 5) (s : State) : Out := atomic b t d a c 8 x (fun m y _ => m &&& y) (wordOf (.wAand b t d a c x)) s

/-- AOR (R321): Atomic OR. -/
def execWAor (b : Fin 128) (t : Fin 4) (d a c : Fin 64) (x : Fin 5) (s : State) : Out := atomic b t d a c 8 x (fun m y _ => m ||| y) (wordOf (.wAor b t d a c x)) s

/-- AMAXU (R321): Atomic unsigned maximum. -/
def execWAmaxu (b : Fin 128) (t : Fin 4) (d a c : Fin 64) (x : Fin 5) (s : State) : Out := atomic b t d a c 8 x (fun m y _ => max m y) (wordOf (.wAmaxu b t d a c x)) s

/-- CAS (R321): Atomic compare-and-swap. -/
def execWCas (b : Fin 128) (t : Fin 4) (d a c : Fin 64) (x : Fin 5) (s : State) : Out := atomic b t d a c 8 x (fun m y e => if m = e then y else m) (wordOf (.wCas b t d a c x)) s

/-- AADDW (R321): Atomic 32-bit add. -/
def execWAaddw (b : Fin 128) (t : Fin 4) (d a c : Fin 64) (x : Fin 5) (s : State) : Out := atomic b t d a c 4 x (fun m y _ => m + y) (wordOf (.wAaddw b t d a c x)) s

/-- CASW (R321): Atomic 32-bit compare-and-swap. -/
def execWCasw (b : Fin 128) (t : Fin 4) (d a c : Fin 64) (x : Fin 5) (s : State) : Out := atomic b t d a c 4 x (fun m y e => if m = e then y else m) (wordOf (.wCasw b t d a c x)) s

/-- FENCE_R (R321): Later loads wait for earlier loads. -/
def execWFenceR (b : Fin 128) (t : Fin 4) (s : State) : Out := onThread b t (fun u z => retire u z) s

/-- FENCE_W (R321): Later stores wait for earlier stores. -/
def execWFenceW (b : Fin 128) (t : Fin 4) (s : State) : Out := onThread b t (fun u z => retire u z) s

/-- FENCE_RW (R321): Full load and store fence. -/
def execWFenceRw (b : Fin 128) (t : Fin 4) (s : State) : Out := onThread b t (fun u z => retire u z) s

/-- FENCE_IO (R321): Wait for I/O-window writes to reach their blocks. -/
def execWFenceIo (b : Fin 128) (t : Fin 4) (s : State) : Out := onThread b t (fun u z => retire u z) s

/-- FENCE_I (R321): Invalidate the instruction cache. -/
def execWFenceI (b : Fin 128) (t : Fin 4) (s : State) : Out := onThread b t (fun u z => retire u z) s

/-- VLD (R323): Load 32 B into a vector register. -/
def execWVld (b : Fin 128) (t : Fin 4) (v : Fin 16) (a : Fin 64) (o : BitVec 12) (x : Fin 5) (s : State) : Out := onThread b t (fun u z => loadBytes u ((getG z u a) + 32#64 * o.signExtend 64).toNat 32 x (wordOf (.wVld b t v a o x)) (fun r y => retire u (setV u v (BitVec.ofNat 256 r) y)) z) s

/-- VST (R323): Store a vector register. -/
def execWVst (b : Fin 128) (t : Fin 4) (v : Fin 16) (a : Fin 64) (o : BitVec 12) (s : State) : Out := onThread b t (fun u z => storeBytes u ((getG z u a) + 32#64 * o.signExtend 64).toNat 32 (getV z u v).toNat (wordOf (.wVst b t v a o)) z) s

/-- MOVE (R324): Start an asynchronous copy on the pillow's move engine. -/
def execWMove (b : Fin 128) (t : Fin 4) (l a e : Fin 64) (s : State) : Out := onThread b t (fun u z => moveIssue u (getG z u a).toNat (getG z u e).toNat (getG z u l).toNat z) s

/-- MWAIT (R323): Wait until all of the thread's moves have ended. -/
def execWMwait (b : Fin 128) (t : Fin 4) (d : Fin 64) (s : State) : Out := onThread b t (fun u z => if (liveMoves z u).isEmpty then movesDone u d z else waitFor u (.moves d) z) s

end Sys2Proof.Machine
end

