-- ==== Sys2Proof/Machine/WQue.lean ====
section
/-! DEFINITION. Machine/WQue.lean: the queue instructions (R325 to R327, R431, R432). -/

namespace Sys2Proof.Machine

/-! ### Shared operations -/

/-- An operation ends with a status in OPST. -/
def opDone (u st : Nat) (s : State) : State := retire u (setOpst u st s)

/-- An operation ends with a value and a status. -/
def opVal (u : Nat) (d : Fin 64) (v : Word) (st : Nat) (s : State) : State := opDone u st (setG u d v s)

/-- Does a queue's context grant it to the thread's pillow (R325, R438)? -/
def granted (s : State) (u q : Nat) : Bool := bit (s.fld (QUE_Q_CTL_PILLOWS q)) (u / 64)

/-- QPOP and QWAIT: a queue that is no SQ returns 0 with BAD_DESC (R326) where it is granted; one not granted is left alone (R325). -/
def queueUse (u q : Nat) (s good : State) : State :=
  if qType s q = 0 && (qServer s q != 2 || !granted s u q) then opDone u stNOTPERM s else good

/-- The device virtual address of an entry. -/
def entryVa (s : State) (q idx : Nat) : Word := BitVec.ofNat 64 (qBase s q + 64 * idx)

/-- Claim the oldest unclaimed entry for a thread (R325, R422): entries that end as they are met are passed over. -/
def claimLoop (q u : Nat) : Nat → State → State × Option Nat
  | 0, s => (s, none)
  | n + 1, s =>
    let p := claimStep q (fun _ _ => some (.thread u)) s
    match p.2 with
    | .got idx _ => (p.1, some idx)
    | .ended => claimLoop q u n p.1
    | .none => (p.1, none)

/-- QPOP (R325, R326). -/
def qpop (u q : Nat) (d : Fin 64) (s : State) : State :=
  if qType s q != 0 then opVal u d 0#64 stBADDESC s
  else
    let p := claimLoop q u (qPresent s q + 1) s
    match p.2 with
    | some idx => opVal u d (entryVa s q idx) stOK p.1
    | none => opVal u d 0#64 stOK p.1

/-- QWAIT (R325): as QPOP, but it waits until an entry is available. -/
def qwait (u q : Nat) (d : Fin 64) (s : State) : State :=
  if qType s q != 0 then opVal u d 0#64 stBADDESC s
  else
    let p := claimLoop q u (qPresent s q + 1) s
    match p.2 with
    | some idx => opVal u d (entryVa s q idx) stOK p.1
    | none => waitFor u (.queue q d) p.1

/-- The claims of pillow threads: the queue and the claim. -/
def threadClaims (s : State) : List (Nat × Claim) :=
  s.queues.flatMap (fun e => (e.2.claims.filter (fun c => match c.by_ with | .thread _ => true | _ => false)).map (fun c => (e.1, c)))

/-- An entry of a granted queue that has ended by a forced abort (R432), by its address. -/
def forcedEntry (s : State) (u va : Nat) : Option Nat :=
  (s.queues.filter (fun e => qServer s e.1 == 2 && granted s u e.1 && e.2.ended.any (fun x => match x.2 with
    | some y => qBase s e.1 + 64 * x.1 == va && y.2 == stABORTED
    | none => false))).head?.map (fun e => e.1)

/-- Find a claimed entry by its address among the queues granted (R325, R326): `k` works on it; `miss` on one that is not claimed, with the
queue in which it was aborted by force, if it was. An entry of a queue not granted is left alone. -/
def withEntry (u va : Nat) (s : State) (k : Nat → Claim → State) (miss : Option Nat → State) : State :=
  let cs := (threadClaims s).filter (fun x => qBase s x.1 + 64 * x.2.idx == va)
  match cs.find? (fun x => granted s u x.1) with
  | some x => k x.1 x.2
  | none => if cs.isEmpty then miss (forcedEntry s u va) else opDone u stNOTPERM s

/-- QDONE (R325 to R327, R431, R432): the queue manager settles the race with an abort. -/
def qdone (u va st : Nat) (d : Fin 64) (s : State) : State :=
  if 0x10 ≤ st then opDone u stBADDESC s
  else withEntry u va s
    (fun q c =>
      if c.aborted.isSome then opVal u d (BitVec.ofNat 64 stABORTED) stOK (commit q c.idx c.desc stABORTED c.prog [] s)
      else opVal u d (BitVec.ofNat 64 st) stOK (commit q c.idx c.desc st (if st = stABORTED || st = stFAULT then c.prog else 0) [] s))
    (fun o => if o.isSome then opVal u d (BitVec.ofNat 64 stABORTED) stOK s else opDone u stBADDESC s)

/-- Read n bytes at an address for an operation that takes a block of memory: the bytes, or the state in which the access faulted. -/
def readBlock (u word : Nat) : Nat → Nat → State → Except State (List Byte)
  | _, 0, _ => .ok []
  | va, n + 1, s =>
    let rest := fun b : Byte => (readBlock u word (va + 1) n s).map (fun l => b :: l)
    match place s u va akREAD with
    | .bad c => .error (threadFault u c 0 va word s)
    | .miss c l h => .error (enterXlate u va akREAD word c l h s)
    | .stall => .error s
    | .io _ => .error (opDone u stBADDESC s)
    | .pil a => if localBad false a 1 s then .error (threadFault u tcECC 0 va word s) else rest (kget unwritten s.pilMem a)
    | .pad a => if localBad true a 1 s then .error (threadFault u tcECC 0 va word s) else rest (kget unwritten s.padMem a)
    | .mem g => if readsBad s g 1 then .error (threadFault u tcECC 0 va word (targetTouch g 1 (pilSource u) s)) else rest ((loadAt s g 1).headD 0#8)

/-- Work on n bytes of memory, or fault. -/
def withBlock (u va n word : Nat) (s : State) (k : List Byte → State) : State :=
  match readBlock u word va n s with
  | .ok l => k l
  | .error z => z

/-- QPUSH (R325, R411, R412): it appends an entry and rings the queue's doorbell. -/
def qpush (u q va word : Nat) (s : State) : State :=
  if qType s q != 0 || !s.flag (QUE_Q_CTL_PRODUCER q) || !granted s u q then opDone u stNOTPERM s
  else if !qLive s q then opDone u stPRECOND s
  else if qSize s q - 1 ≤ qPresent s q then opDone u stBUSY s
  else withBlock u va 64 word s (fun bs =>
    let idx := qTail s q
    let p := ringStore q idx bs s
    opDone u stOK (emitAll p.2 (p.1.setFld (QUE_Q_TAIL_TAIL q) ((idx + 1) % qSize s q))))

/-- QEVENT (R325, R15): the record's block, severity, code, location and argument; the queue manager fills SHOW_TIME and SEQ. DESIGN CHOICE
(log entry 50): the manual states no check of the record's BLOCK and SEVERITY, so bytes outside the tables of R16 and R17 are written as given. -/
def qevent (u q va word : Nat) (s : State) : State :=
  if qType s q != 2 then opDone u stBADDESC s
  else if !granted s u q then opDone u stNOTPERM s
  else if !qLive s q then opDone u stPRECOND s
  else withBlock u va 32 word s (fun bs =>
    let p := eqPut q { time := s.showTime, block := natAt bs 8 1, sev := natAt bs 9 1, code := natAt bs 10 2, loc := natAt bs 12 4, arg := natAt bs 16 8 } s
    opDone u stOK (emitAll p.2 p.1))

/-! ### The instructions -/

/-- QPOP (R325): Claim the oldest unclaimed entry of a submission queue. -/
def execWQpop (b : Fin 128) (t : Fin 4) (d a : Fin 64) (s : State) : Out := onThread b t (fun u z => let q := (getG z u a).toNat % 4096; queueUse u q z (qpop u q d z)) s

/-- QWAIT (R325): Claim an entry, waiting until one is available. -/
def execWQwait (b : Fin 128) (t : Fin 4) (d a : Fin 64) (s : State) : Out := onThread b t (fun u z => let q := (getG z u a).toNat % 4096; queueUse u q z (qwait u q d z)) s

/-- QPROG (R325): Record an entry's resume offset. -/
def execWQprog (b : Fin 128) (t : Fin 4) (_d a c : Fin 64) (s : State) : Out := onThread b t (fun u z => withEntry u (getG z u a).toNat z (fun q e => opDone u stOK (updClaim q e.idx (fun r => { r with prog := (getG z u c).toNat }) z)) (fun _ => opDone u stBADDESC z)) s

/-- QDONE (R327): Complete an entry, the queue manager settling the race with an abort. -/
def execWQdone (b : Fin 128) (t : Fin 4) (d a c : Fin 64) (s : State) : Out := onThread b t (fun u z => qdone u (getG z u a).toNat ((getG z u c).toNat % 256) d z) s

/-- QCHK (R325): Return whether an abort was requested for an entry. -/
def execWQchk (b : Fin 128) (t : Fin 4) (d a : Fin 64) (s : State) : Out := onThread b t (fun u z => withEntry u (getG z u a).toNat z (fun _ e => opVal u d (BitVec.ofNat 64 (b2n e.aborted.isSome)) stOK z) (fun o => if o.isSome then opVal u d 1#64 stOK z else opDone u stBADDESC z)) s

/-- QPUSH (R325): Append an entry and ring the queue's doorbell. -/
def execWQpush (b : Fin 128) (t : Fin 4) (d a c : Fin 64) (s : State) : Out := onThread b t (fun u z => qpush u ((getG z u a).toNat % 4096) (getG z u c).toNat (wordOf (.wQpush b t d a c)) z) s

/-- QEVENT (R325): Write an event record to an event ring. -/
def execWQevent (b : Fin 128) (t : Fin 4) (d a c : Fin 64) (s : State) : Out := onThread b t (fun u z => qevent u ((getG z u a).toNat % 4096) (getG z u c).toNat (wordOf (.wQevent b t d a c)) z) s

/-- QWAIT_WAKE (R325): an entry has become available, and the thread's QWAIT claims it. -/
def execQwaitWake (b : Fin 128) (t : Fin 4) (s : State) : Out :=
  if !s.clocked then .next s else
  let u := unitOf b t
  match (s.th u).wait with
  | .queue q d =>
    if thState s u != 2 then .next s
    else
      let p := claimLoop q u (qPresent s q + 1) s
      .next (match p.2 with
        | some idx => endWait u (setOpst u stOK (setG u d (entryVa s q idx) p.1))
        | none => p.1)
  | _ => .next s

end Sys2Proof.Machine
end

