-- ==== Sys2Proof/Machine/WPhs.lean ====
section
/-! DEFINITION. Machine/WPhs.lean: phase, pins and synchronisation between threads (R306, R328 to R332). -/

namespace Sys2Proof.Machine

/-! ### Shared operations -/

/-- An operand out of its range, of which the manual states no outcome: the operation completes; OPST holds a free code of R14's sixteen,
and the value returned is free (log entry 28). -/
def opFree (u : Nat) (d : Option (Fin 64)) (s : State) : State :=
  let f := s.takeFree
  match d with
  | some r =>
    let g := f.2.takeFree
    opVal u r g.1 (f.1.toNat % 16) g.2
  | none => opDone u (f.1.toNat % 16) f.2

/-- A timebase operation (R328): the timebase's number is g_a[1:0], and its other bits must be 0. -/
def onTb (u : Nat) (v : Word) (d : Option (Fin 64)) (s : State) (k : Nat → State) : State :=
  if v.toNat < 4 then k v.toNat else opFree u d s

/-- Nanoseconds until a timebase's phase reaches a target at its present increment (R328). -/
def toPhase (s : State) (n target : Nat) : Nat :=
  let d := (BitVec.ofNat 64 target - BitVec.ofNat 64 (s.phase n)).toInt * 2 ^ 24 - (((s.tb n).acc % 2 ^ 24 : Nat) : Int)
  ceilDiv d.toNat (max 1 (s.incEff n))

/-- Has a timebase's phase reached a target (R328): is (target − phase), as a signed 64-bit value, 0 or less? -/
def reached (s : State) (n target : Nat) : Bool := decide ((BitVec.ofNat 64 target - BitVec.ofNat 64 (s.phase n)).toInt ≤ 0)

/-- PHWAIT (R328, R329). -/
def phwait (u n : Nat) (target : Word) (d : Fin 64) (s : State) : State :=
  if !s.tbOn n then opVal u d (BitVec.allOnes 64) stPRECOND s
  else if reached s n target.toNat then opVal u d (BitVec.ofNat 64 (s.phase n)) stOK s
  else waitFor u (.phase n target.toNat d) s

/-- May a pin be posted (R330)? -/
def postable (s : State) (n : Nat) (p : Pin) : Bool :=
  (p.action == 5 || p.action == 6 || p.action == 11 || p.action == 12 || ((p.action == 2 || p.action == 3 || p.action == 4) && bit p.flags 3)) &&
    (pinFails s n [p] 0 p).isNone

/-- PINPOST (R330): an accepted pin may fire from 2 µs on. -/
def pinpost (u n va word : Nat) (s : State) : State :=
  if !s.tbOn n then opDone u stPRECOND s
  else withBlock u va 16 word s (fun bs =>
    let p := pinOf bs
    if !postable s n p then opDone u stBADDESC s
    else if 64 ≤ (s.tb n).posted.length + ((s.tb n).dispatched.filter (fun d => d.posted)).length then opDone u stBUSY s
    else opDone u stOK (updTb n (fun x => { x with posted := x.posted ++ [(s.now + 2000, p)] }) s))

/-- WAITEV (R328, R331): a full mailbox is emptied; else the thread waits, with a deadline unless the timeout is 0. -/
def waitev (u : Nat) (d : Fin 64) (timeout : Nat) (s : State) : State :=
  if (s.th u).mailFull then opVal u d (s.th u).mail stOK (updTh u (fun x => { x with mailFull := false, lossRun := false }) s)
  else waitFor u (.mail d (if timeout = 0 then none else some (s.now + timeout))) s

/-- SIGNAL (R306, R331): a bobbin above 127 is refused. -/
def signal (u target : Nat) (v : Word) (s : State) : State :=
  if 512 ≤ target then opDone u stBADDESC s
  else opDone u stOK (deliverMail (4 * (target % 128) + target / 128) v s)

/-- BARRIER (R328, R332): all the waiting threads leave WAIT together. -/
def barrier (u k count : Nat) (s : State) : State :=
  if 16 ≤ k || count = 0 || 64 < count then opFree u none s
  else
    let j := 16 * (u / 64) + k
    let x := s.barrier j
    if !x.arrived.isEmpty && x.count != count then opDone u stBADDESC s
    else if x.arrived.length + 1 = count then
      opDone u stOK (x.arrived.foldl (fun z w => endWait w (setOpst w stOK z)) (s.setBarrier j {}))
    else waitFor u (.barrier j) (s.setBarrier j { count := count, arrived := x.arrived ++ [u] })

/-! ### The instructions -/

/-- PHREAD (R328): Read a timebase's phase. -/
def execWPhread (b : Fin 128) (t : Fin 4) (d a : Fin 64) (s : State) : Out := onThread b t (fun u z => onTb u (getG z u a) (some d) z (fun n => opVal u d (BitVec.ofNat 64 (z.phase n)) stOK z)) s

/-- PHWAIT (R329): Wait until a timebase reaches a phase. -/
def execWPhwait (b : Fin 128) (t : Fin 4) (d a c : Fin 64) (s : State) : Out := onThread b t (fun u z => onTb u (getG z u a) (some d) z (fun n => phwait u n (getG z u c) d z)) s

/-- PINPOST (R330): Post a one-shot pin to a timebase. -/
def execWPinpost (b : Fin 128) (t : Fin 4) (_d a c : Fin 64) (s : State) : Out := onThread b t (fun u z => onTb u (getG z u a) none z (fun n => pinpost u n (getG z u c).toNat (wordOf (.wPinpost b t _d a c)) z)) s

/-- SHOWTIME (R328): Read show time. -/
def execWShowtime (b : Fin 128) (t : Fin 4) (d : Fin 64) (s : State) : Out := onThread b t (fun u z => opVal u d (BitVec.ofNat 64 z.showTime) stOK z) s

/-- WAITEV (R328): Wait for the thread's mailbox. -/
def execWWaitev (b : Fin 128) (t : Fin 4) (d c : Fin 64) (s : State) : Out := onThread b t (fun u z => waitev u d (getG z u c).toNat z) s

/-- SIGNAL (R331): Deliver a value to a thread's mailbox. -/
def execWSignal (b : Fin 128) (t : Fin 4) (_d a c : Fin 64) (s : State) : Out := onThread b t (fun u z => signal u (getG z u a).toNat (getG z u c) z) s

/-- BARRIER (R332): Arrive at a pillow barrier, releasing all waiting threads when the count is reached. -/
def execWBarrier (b : Fin 128) (t : Fin 4) (_d a c : Fin 64) (s : State) : Out := onThread b t (fun u z => barrier u (getG z u a).toNat (getG z u c).toNat z) s

/-- PHWAIT_WAKE (R328, R329): the phase reaches the target in the cycle that runs, and within `lag` of it, at most 100 ns, the thread is in
RUN. A target beyond the next boundary is reached after that boundary's command. -/
def execPhwaitWake (b : Fin 128) (t : Fin 4) (lag : Fin 101) (s0 : State) : Out :=
  let u := unitOf b t
  if !s0.clocked || thState s0 u != 2 then .next s0
  else match (s0.th u).wait with
    | .phase n target d =>
      let dt := if reached s0 n target then 0 else toPhase s0 n target
      if !s0.tbOn n || (decide (0 < dt) && decide (toBoundary s0 n < dt)) then .next s0
      else
        let s := passTime (dt + lag.val) s0
        .next (endWait u (setOpst u stOK (setG u d (BitVec.ofNat 64 (s.phase n)) s)))
    | _ => .next s0

/-- WAITEV_TIMEOUT (R328): time passes to the timeout of a WAITEV with no delivery; the value it returns is free. -/
def execWaitevTimeout (b : Fin 128) (t : Fin 4) (s0 : State) : Out :=
  let u := unitOf b t
  if !s0.clocked || thState s0 u != 2 then .next s0
  else match (s0.th u).wait with
    | .mail d (some dl) =>
      let f := (passTime (dl - s0.now) s0).takeFree
      .next (endWait u (setOpst u stTIMEOUT (setG u d f.1 f.2)))
    | _ => .next s0

end Sys2Proof.Machine
end

