-- ==== Sys2Proof/Machine/WSys.lean ====
section
/-! DEFINITION. Machine/WSys.lean: control registers, thread operations and illegal instructions (R311, R333, R334, R339, R347, R352). -/

namespace Sys2Proof.Machine

/-! ### Shared operations -/

/-- An operation on a control register (R333, R334): g_d takes the old value. -/
def csrOp (u : Nat) (n : Fin 11) (d : Fin 64) (f : Word → State → State) (s : State) : State :=
  let old := (csrRead s u n).getD 0#64
  putG u d old (f old s)

/-- YIELD (R333): the thread waits for every sibling in RUN of equal priority to issue once. -/
def yieldTh (u : Nat) (s : State) : State :=
  let b := u / 4
  let l := ([0, 1, 2, 3].map (fun k => 4 * b + k)).filter (fun w => w != u && thState s w == 1 && (s.th w).tpri == (s.th u).tpri)
  updTh u (fun x => { x with yieldFor := l }) s

/-- An operation for a thread whose PRIV is 1 (R333). -/
def privOp (u word : Nat) (s good : State) : State :=
  if thPriv s u then good else threadFault u tcNOTPERM 0 (thPc s u) word s

/-- TSTART (R333, R343): the slot takes the caller's CFG. -/
def tstart (u v pc : Nat) (s : State) : State :=
  if thState s v != 0 then retire u (setOpst u stBUSY s)
  else
    let s1 := s.wr (ENG_B_T_CFG (v / 4) (v % 4)) (s.rd (ENG_B_T_CFG (u / 4) (u % 4)))
    retire u (setOpst u stOK (startThread v pc s1))

/-- TSTOP (R333, R343): as CMD.STOP; a thread may stop itself. -/
def tstop (u v : Nat) (s : State) : State := if v = u then cmdStop u s else retire u (cmdStop v s)

/-- A corrected error in a bobbin's instruction cache (macro 0) or registers (2), counted and written as R350 and R352 say. -/
def macroCorrected (b macro_ off : Nat) (s : State) : State :=
  let s1 := s.bump (ENG_B_ECC_CNT b)
  if msPassed (kget (fun _ => none) s.engEccAt b) s.now then
    emit blkENG 7 svNOTICE (bobLoc b - 0x20000000 + macro_) off { s1 with engEccAt := kset (fun _ => none) s1.engEccAt b (some s.now) }
  else s1

/-! ### The instructions -/

/-- CSRR (R333): Read a control register. -/
def execWCsrr (b : Fin 128) (t : Fin 4) (d : Fin 64) (n : Fin 11) (s : State) : Out := onThread b t (fun u z => csrOp u n d (fun _ y => y) z) s

/-- CSRW (R333): Write a control register. -/
def execWCsrw (b : Fin 128) (t : Fin 4) (d a : Fin 64) (n : Fin 11) (s : State) : Out := onThread b t (fun u z => csrOp u n d (fun _ y => csrWrite u n (getG z u a) y) z) s

/-- CSRS (R333): Set bits in a control register. -/
def execWCsrs (b : Fin 128) (t : Fin 4) (d a : Fin 64) (n : Fin 11) (s : State) : Out := onThread b t (fun u z => csrOp u n d (fun old y => csrWrite u n (old ||| getG z u a) y) z) s

/-- CSRC (R333): Clear bits in a control register. -/
def execWCsrc (b : Fin 128) (t : Fin 4) (d a : Fin 64) (n : Fin 11) (s : State) : Out := onThread b t (fun u z => csrOp u n d (fun old y => csrWrite u n (old &&& ~~~getG z u a) y) z) s

/-- YIELD (R333): Give up issue until each equal-priority thread has issued. -/
def execWYield (b : Fin 128) (t : Fin 4) (s : State) : Out := onThread b t (fun u z => yieldTh u (retire u z)) s

/-- HALT (R333): The thread enters HALT. -/
def execWHalt (b : Fin 128) (t : Fin 4) (s : State) : Out := onThread b t (fun u z => haltThread u 0 (retire u z)) s

/-- TRAP (R333): The thread enters FAULT with cause TRAP. -/
def execWTrap (b : Fin 128) (t : Fin 4) (v : BitVec 12) (s : State) : Out := onThread b t (fun u z => threadFault u tcTRAP v.toNat (thPc z u) (wordOf (.wTrap b t v)) z) s

/-- BKPT (R333): Halt before itself when DBG_EN is 1. -/
def execWBkpt (b : Fin 128) (t : Fin 4) (s : State) : Out := onThread b t (fun u z => if z.flag (ENG_B_CTL_DBG_EN b) && !(z.th u).bpPass then haltThread u 3 z else retire u z) s

/-- TSTART (R333): Start another thread of this bobbin. -/
def execWTstart (b : Fin 128) (t : Fin 4) (a c : Fin 64) (s : State) : Out := onThread b t (fun u z => privOp u (wordOf (.wTstart b t a c)) z (tstart u (4 * b.val + (getG z u a).toNat % 4) (getG z u c).toNat z)) s

/-- TSTOP (R333): Stop another thread of this bobbin. -/
def execWTstop (b : Fin 128) (t : Fin 4) (a : Fin 64) (s : State) : Out := onThread b t (fun u z => privOp u (wordOf (.wTstop b t a)) z (tstop u (4 * b.val + (getG z u a).toNat % 4) z)) s

/-- ILLEGAL_INSTRUCTION (R311, R339): a word that spells no instruction faults the thread. The row also stands for what the check of an
instruction cache line (`finding` 1 corrected, 3 uncorrectable) or of a register read (2, 4) finds (R339, R352): `off` is the offset in the
macro. -/
def execIllegalInstruction (b : Fin 128) (t : Fin 4) (w : BitVec 32) (finding : Fin 5) (off : BitVec 17) (s : State) : Out :=
  if !s.clocked then .next s
  else if finding = 1 || finding = 2 then .next (macroCorrected b (if finding = 1 then 0 else 2) off.toNat s)
  else onThread b t (fun u z =>
    if finding = 3 || finding = 4 then threadFault u tcECC 0 (thPc z u) w.toNat z
    else if (decodeW b t 0 w.toNat).isNone then threadFault u tcILLEGAL 0 (thPc z u) w.toNat z
    else z) s

end Sys2Proof.Machine
end

