-- ==== Sys2Proof/Machine/WVec.lean ====
section
/-! DEFINITION. Machine/WVec.lean: the vector instructions (R322). -/

namespace Sys2Proof.Machine

/-! ### Shared operations -/

/-- The bits of an element of width code W (R322). -/
def eWidth (w : Nat) : Nat := 8 * 2 ^ w

/-- Element i of a vector register. -/
def elem (w : Nat) (v : Vec) (i : Nat) : Nat := v.toNat / 2 ^ (eWidth w * i) % 2 ^ eWidth w

/-- A vector register from its elements, each modulo its width. -/
def vecOf (w : Nat) (f : Nat → Nat) : Vec :=
  BitVec.ofNat 256 ((List.range (256 / eWidth w)).map (fun i => f i % 2 ^ eWidth w * 2 ^ (eWidth w * i))).sum

/-- A result goes to a vector register and the instruction retires. -/
def putV (u : Nat) (d : Fin 16) (v : Vec) (s : State) : State := retire u (setV u d v s)

/-- An instruction that computes each element of v_d from those of v_a and v_b. -/
def wrV2 (b : Fin 128) (t : Fin 4) (w : Nat) (d a c : Fin 16) (f : Nat → Nat → Nat) (s : State) : Out :=
  onThread b t (fun u z => putV u d (vecOf w (fun i => f (elem w (getV z u a) i) (elem w (getV z u c) i))) z) s

/-- A vector floating-point instruction (R317, R322): every element's exceptions are sticky. -/
def vfpu (b : Fin 128) (t : Fin 4) (d : Fin 16) (f : State → Nat → Nat → FR) (s : State) : Out :=
  onThread b t (fun u z => putV u d (vecOf 2 (fun i => (f z u i).v)) (raise u ((List.range 8).foldl (fun e i => e ||| (f z u i).ex) 0) z)) s

/-- An element's index at or beyond 256 / w is illegal (R322). -/
def ifElem (u w : Nat) (k : Fin 32) (word : Nat) (good s : State) : State :=
  if k.val < 256 / eWidth w then good else threadFault u tcILLEGAL 0 (thPc s u) word s

/-! ### The instructions -/

/-- VADD (R322): Vector add. -/
def execWVadd (b : Fin 128) (t : Fin 4) (w : Fin 4) (d a c : Fin 16) (s : State) : Out := wrV2 b t w.val d a c (fun x y => x + y) s

/-- VSUB (R322): Vector subtract. -/
def execWVsub (b : Fin 128) (t : Fin 4) (w : Fin 4) (d a c : Fin 16) (s : State) : Out := wrV2 b t w.val d a c (fun x y => x + (2 ^ eWidth w - y)) s

/-- VAND (R322): Vector AND. -/
def execWVand (b : Fin 128) (t : Fin 4) (w : Fin 4) (d a c : Fin 16) (s : State) : Out := wrV2 b t w.val d a c (fun x y => x &&& y) s

/-- VOR (R322): Vector OR. -/
def execWVor (b : Fin 128) (t : Fin 4) (w : Fin 4) (d a c : Fin 16) (s : State) : Out := wrV2 b t w.val d a c (fun x y => x ||| y) s

/-- VXOR (R322): Vector XOR. -/
def execWVxor (b : Fin 128) (t : Fin 4) (w : Fin 4) (d a c : Fin 16) (s : State) : Out := wrV2 b t w.val d a c (fun x y => x ^^^ y) s

/-- VMINU (R322): Vector unsigned minimum. -/
def execWVminu (b : Fin 128) (t : Fin 4) (w : Fin 4) (d a c : Fin 16) (s : State) : Out := wrV2 b t w.val d a c (fun x y => min x y) s

/-- VMAXU (R322): Vector unsigned maximum. -/
def execWVmaxu (b : Fin 128) (t : Fin 4) (w : Fin 4) (d a c : Fin 16) (s : State) : Out := wrV2 b t w.val d a c (fun x y => max x y) s

/-- VMIN (R322): Vector signed minimum. -/
def execWVmin (b : Fin 128) (t : Fin 4) (w : Fin 4) (d a c : Fin 16) (s : State) : Out := wrV2 b t w.val d a c (fun x y => if sext x (eWidth w) < sext y (eWidth w) then x else y) s

/-- VMAX (R322): Vector signed maximum. -/
def execWVmax (b : Fin 128) (t : Fin 4) (w : Fin 4) (d a c : Fin 16) (s : State) : Out := wrV2 b t w.val d a c (fun x y => if sext x (eWidth w) < sext y (eWidth w) then y else x) s

/-- VMUL (R322): Vector multiply, low half. -/
def execWVmul (b : Fin 128) (t : Fin 4) (w : Fin 3) (d a c : Fin 16) (s : State) : Out := wrV2 b t w.val d a c (fun x y => x * y) s

/-- VSHL (R322): Vector shift left. -/
def execWVshl (b : Fin 128) (t : Fin 4) (w : Fin 4) (d a c : Fin 16) (s : State) : Out := wrV2 b t w.val d a c (fun x y => x * 2 ^ (y % eWidth w)) s

/-- VSHR (R322): Vector logical shift right. -/
def execWVshr (b : Fin 128) (t : Fin 4) (w : Fin 4) (d a c : Fin 16) (s : State) : Out := wrV2 b t w.val d a c (fun x y => x / 2 ^ (y % eWidth w)) s

/-- VADDUS (R322): Vector unsigned saturating add. -/
def execWVaddus (b : Fin 128) (t : Fin 4) (w : Fin 2) (d a c : Fin 16) (s : State) : Out := wrV2 b t w.val d a c (fun x y => min (x + y) (2 ^ eWidth w - 1)) s

/-- VCMPEQ (R322): Vector compare equal. -/
def execWVcmpeq (b : Fin 128) (t : Fin 4) (w : Fin 4) (d a c : Fin 16) (s : State) : Out := wrV2 b t w.val d a c (fun x y => if x = y then 2 ^ eWidth w - 1 else 0) s

/-- VCMPLT (R322): Vector compare signed less than. -/
def execWVcmplt (b : Fin 128) (t : Fin 4) (w : Fin 4) (d a c : Fin 16) (s : State) : Out := wrV2 b t w.val d a c (fun x y => if sext x (eWidth w) < sext y (eWidth w) then 2 ^ eWidth w - 1 else 0) s

/-- VSEL (R322): Vector select by d. -/
def execWVsel (b : Fin 128) (t : Fin 4) (w : Fin 4) (d a c : Fin 16) (s : State) : Out := onThread b t (fun u z => putV u d (vecOf w.val (fun i => if elem w.val (getV z u d) i != 0 then elem w.val (getV z u a) i else elem w.val (getV z u c) i)) z) s

/-- VFADD (R322): Vector binary32 add. -/
def execWVfadd (b : Fin 128) (t : Fin 4) (d a c : Fin 16) (s : State) : Out := vfpu b t d (fun z u i => fadd (elem 2 (getV z u a) i) (elem 2 (getV z u c) i)) s

/-- VFMUL (R322): Vector binary32 multiply. -/
def execWVfmul (b : Fin 128) (t : Fin 4) (d a c : Fin 16) (s : State) : Out := vfpu b t d (fun z u i => fmul (elem 2 (getV z u a) i) (elem 2 (getV z u c) i)) s

/-- VFMA (R322): Vector binary32 fused multiply-add. -/
def execWVfma (b : Fin 128) (t : Fin 4) (d a c : Fin 16) (s : State) : Out := vfpu b t d (fun z u i => fma (elem 2 (getV z u d) i) (elem 2 (getV z u a) i) (elem 2 (getV z u c) i)) s

/-- VSPLAT (R322): Broadcast g_a to every element. -/
def execWVsplat (b : Fin 128) (t : Fin 4) (w : Fin 4) (d : Fin 16) (a : Fin 64) (s : State) : Out := onThread b t (fun u z => putV u d (vecOf w.val (fun _ => (getG z u a).toNat)) z) s

/-- VEXT (R322): Extract an element to g_d. -/
def execWVext (b : Fin 128) (t : Fin 4) (w : Fin 4) (d : Fin 64) (a : Fin 16) (k : Fin 32) (s : State) : Out := onThread b t (fun u z => ifElem u w.val k (wordOf (.wVext b t w d a k)) (putG u d (BitVec.ofNat 64 (elem w.val (getV z u a) k)) z) z) s

/-- VINS (R322): Insert g_a into an element. -/
def execWVins (b : Fin 128) (t : Fin 4) (w : Fin 4) (d : Fin 16) (a : Fin 64) (k : Fin 32) (s : State) : Out := onThread b t (fun u z => ifElem u w.val k (wordOf (.wVins b t w d a k)) (putV u d (vecOf w.val (fun i => if i = k.val then (getG z u a).toNat else elem w.val (getV z u d) i)) z) z) s

/-- VREDADD (R322): Sum the elements into g_d. -/
def execWVredadd (b : Fin 128) (t : Fin 4) (w : Fin 4) (d : Fin 64) (a : Fin 16) (s : State) : Out := onThread b t (fun u z => putG u d (BitVec.ofNat 64 ((List.range (256 / eWidth w)).map (fun i => elem w.val (getV z u a) i)).sum) z) s

/-- VPERM (R322): Byte permute. -/
def execWVperm (b : Fin 128) (t : Fin 4) (d a c : Fin 16) (s : State) : Out := onThread b t (fun u z => putV u d (vecOf 0 (fun i => elem 0 (getV z u a) (elem 0 (getV z u c) i % 32))) z) s

/-- VTRANS (R322): Transpose a 16 × 16 bit matrix. -/
def execWVtrans (b : Fin 128) (t : Fin 4) (d a : Fin 16) (s : State) : Out := onThread b t (fun u z => putV u d (vecOf 1 (fun j => ((List.range 16).map (fun i => b2n (bit (elem 1 (getV z u a) i) j) * 2 ^ i)).sum)) z) s

end Sys2Proof.Machine
end

