-- ==== Sys2Proof/Machine/Dispatch.lean ====
section
/-! DEFINITION. Machine/Dispatch.lean: which meaning each command has. -/

namespace Sys2Proof.Machine

def exec (i : Instr) (s : State) : Host.Outcome State Fault Refusal :=
  match i with
  | .registerWrite fn bar4 off wide v => Sys2Proof.Machine.execRegisterWrite fn bar4 off wide v s
  | .badWidthAccess fn off size write => Sys2Proof.Machine.execBadWidthAccess fn off size write s
  | .lowerHalfWrite fn off v => Sys2Proof.Machine.execLowerHalfWrite fn off v s
  | .upperHalfWrite fn off v => Sys2Proof.Machine.execUpperHalfWrite fn off v s
  | .lowerHalfRead fn bar4 off wide => Sys2Proof.Machine.execLowerHalfRead fn bar4 off wide s
  | .adaptValueWrite a v => Sys2Proof.Machine.execAdaptValueWrite a v s
  | .adaptRelease a => Sys2Proof.Machine.execAdaptRelease a s
  | .adaptBoundsWrite a hi v => Sys2Proof.Machine.execAdaptBoundsWrite a hi v s
  | .bindingWrite kind i1 tb => Sys2Proof.Machine.execBindingWrite kind i1 tb s
  | .bindingEffect kind i1 => Sys2Proof.Machine.execBindingEffect kind i1 s
  | .cycleBoundary n => Sys2Proof.Machine.execCycleBoundary n s
  | .tbEnable n => Sys2Proof.Machine.execTbEnable n s
  | .tbDisable n => Sys2Proof.Machine.execTbDisable n s
  | .tbStop n => Sys2Proof.Machine.execTbStop n s
  | .incBaseWrite n v => Sys2Proof.Machine.execIncBaseWrite n v s
  | .srcWrite n v => Sys2Proof.Machine.execSrcWrite n v s
  | .phase0Reference n dt q sample => Sys2Proof.Machine.execPhase0Reference n dt q sample s
  | .subcycleReference n dt q pos => Sys2Proof.Machine.execSubcycleReference n dt q pos s
  | .referenceMissed n => Sys2Proof.Machine.execReferenceMissed n s
  | .cycleCountSet n => Sys2Proof.Machine.execCycleCountSet n s
  | .cycleStep n => Sys2Proof.Machine.execCycleStep n s
  | .cmdAlign n => Sys2Proof.Machine.execCmdAlign n s
  | .alignment n dt q => Sys2Proof.Machine.execAlignment n dt q s
  | .armGo n v => Sys2Proof.Machine.execArmGo n v s
  | .armValidationDone n dt => Sys2Proof.Machine.execArmValidationDone n dt s
  | .cancelArm n => Sys2Proof.Machine.execCancelArm n s
  | .bankSwap n => Sys2Proof.Machine.execBankSwap n s
  | .pinReadahead n dt coming finding => Sys2Proof.Machine.execPinReadahead n dt coming finding s
  | .pinDispatch n => Sys2Proof.Machine.execPinDispatch n s
  | .nop n => Sys2Proof.Machine.execNop n s
  | .blockLoad n => Sys2Proof.Machine.execBlockLoad n s
  | .mirrorReset n => Sys2Proof.Machine.execMirrorReset n s
  | .levelLo n => Sys2Proof.Machine.execLevelLo n s
  | .levelHi n => Sys2Proof.Machine.execLevelHi n s
  | .shunt n => Sys2Proof.Machine.execShunt n s
  | .pdWindow n => Sys2Proof.Machine.execPdWindow n s
  | .loopTrigger n => Sys2Proof.Machine.execLoopTrigger n s
  | .vbLatch n => Sys2Proof.Machine.execVbLatch n s
  | .parkAtLatch p => Sys2Proof.Machine.execParkAtLatch p s
  | .unparkAtLatch p => Sys2Proof.Machine.execUnparkAtLatch p s
  | .tripRelease p => Sys2Proof.Machine.execTripRelease p s
  | .calSlot n ok => Sys2Proof.Machine.execCalSlot n ok s
  | .beamSweep n => Sys2Proof.Machine.execBeamSweep n s
  | .wake n => Sys2Proof.Machine.execWake n s
  | .mark n => Sys2Proof.Machine.execMark n s
  | .cwWrite w reg v => Sys2Proof.Machine.execCwWrite w reg v s
  | .cwChangeEffect w => Sys2Proof.Machine.execCwChangeEffect w s
  | .shutterOpenEdge k dt => Sys2Proof.Machine.execShutterOpenEdge k dt s
  | .shutterCloseEdge k dt => Sys2Proof.Machine.execShutterCloseEdge k dt s
  | .setReadyWrite p v => Sys2Proof.Machine.execSetReadyWrite p v s
  | .planeFetchStart p => Sys2Proof.Machine.execPlaneFetchStart p s
  | .planeFetchData p b dt cnt => Sys2Proof.Machine.execPlaneFetchData p b dt cnt s
  | .loadQueuedStart p => Sys2Proof.Machine.execLoadQueuedStart p s
  | .loadStreamDone p => Sys2Proof.Machine.execLoadStreamDone p s
  | .seqPortEnable p => Sys2Proof.Machine.execSeqPortEnable p s
  | .seqPortDisable p => Sys2Proof.Machine.execSeqPortDisable p s
  | .statusWord p a parked floating flags => Sys2Proof.Machine.execStatusWord p a parked floating flags s
  | .ack p a blk lseq result group => Sys2Proof.Machine.execAck p a blk lseq result group s
  | .ackTimeout p => Sys2Proof.Machine.execAckTimeout p s
  | .tempWord p a k dt temp => Sys2Proof.Machine.execTempWord p a k dt temp s
  | .tempStale p a k dt => Sys2Proof.Machine.execTempStale p a k dt s
  | .resetNak p a rseq blocks reason => Sys2Proof.Machine.execResetNak p a rseq blocks reason s
  | .echoWord p arg dt => Sys2Proof.Machine.execEchoWord p arg dt s
  | .capWord p a index value => Sys2Proof.Machine.execCapWord p a index value s
  | .backWordDiscard p => Sys2Proof.Machine.execBackWordDiscard p s
  | .cmdPark p => Sys2Proof.Machine.execCmdPark p s
  | .cmdUnpark p => Sys2Proof.Machine.execCmdUnpark p s
  | .cmdClearTrip p => Sys2Proof.Machine.execCmdClearTrip p s
  | .cmdRecap p => Sys2Proof.Machine.execCmdRecap p s
  | .facetCapsDone p => Sys2Proof.Machine.execFacetCapsDone p s
  | .tlimWrite p a v => Sys2Proof.Machine.execTlimWrite p a v s
  | .tempIntWrite p v => Sys2Proof.Machine.execTempIntWrite p v s
  | .cloneWrite p en src => Sys2Proof.Machine.execCloneWrite p en src s
  | .commitGo p => Sys2Proof.Machine.execCommitGo p s
  | .commitCancel p => Sys2Proof.Machine.execCommitCancel p s
  | .renderDone p dt => Sys2Proof.Machine.execRenderDone p dt s
  | .fenceRead p l => Sys2Proof.Machine.execFenceRead p l s
  | .fenceReadReturn p l dt => Sys2Proof.Machine.execFenceReadReturn p l dt s
  | .tableLoad p kind b => Sys2Proof.Machine.execTableLoad p kind b s
  | .tableLoadDone p kind dt => Sys2Proof.Machine.execTableLoadDone p kind dt s
  | .stringModeOff n => Sys2Proof.Machine.execStringModeOff n s
  | .stringModePlane n => Sys2Proof.Machine.execStringModePlane n s
  | .stringModeFree n => Sys2Proof.Machine.execStringModeFree n s
  | .bandThreshold n dt code => Sys2Proof.Machine.execBandThreshold n dt code s
  | .hystAdapt n => Sys2Proof.Machine.execHystAdapt n s
  | .updatePointEvaluation pt => Sys2Proof.Machine.execUpdatePointEvaluation pt s
  | .fadeGo g curve => Sys2Proof.Machine.execFadeGo g curve s
  | .fadeCancel g => Sys2Proof.Machine.execFadeCancel g s
  | .groupVWrite g v => Sys2Proof.Machine.execGroupVWrite g v s
  | .freePeriodStart n => Sys2Proof.Machine.execFreePeriodStart n s
  | .freeShuntEdge n => Sys2Proof.Machine.execFreeShuntEdge n s
  | .pdSegmentDone i1 code => Sys2Proof.Machine.execPdSegmentDone i1 code s
  | .pdWindowClose i1 => Sys2Proof.Machine.execPdWindowClose i1 s
  | .interlockOpen i1 w => Sys2Proof.Machine.execInterlockOpen i1 w s
  | .stringOvercurrent n i1 => Sys2Proof.Machine.execStringOvercurrent n i1 s
  | .stringOpen n => Sys2Proof.Machine.execStringOpen n s
  | .safeClr v => Sys2Proof.Machine.execSafeClr v s
  | .derateFallTimeout b => Sys2Proof.Machine.execDerateFallTimeout b s
  | .diagWindowEnd n => Sys2Proof.Machine.execDiagWindowEnd n s
  | .probeReq mask => Sys2Proof.Machine.execProbeReq mask s
  | .probeStart n => Sys2Proof.Machine.execProbeStart n s
  | .probeMiss n => Sys2Proof.Machine.execProbeMiss n s
  | .vgdLow b dt mv => Sys2Proof.Machine.execVgdLow b dt mv s
  | .axisEn n => Sys2Proof.Machine.execAxisEn n s
  | .axisRunStart n dt => Sys2Proof.Machine.execAxisRunStart n dt s
  | .axisDisable n => Sys2Proof.Machine.execAxisDisable n s
  | .axisClear n => Sys2Proof.Machine.execAxisClear n s
  | .axisGo n => Sys2Proof.Machine.execAxisGo n s
  | .limitWrite n which v => Sys2Proof.Machine.execLimitWrite n which v s
  | .carrierPeriodStart n => Sys2Proof.Machine.execCarrierPeriodStart n s
  | .carrierPeak n => Sys2Proof.Machine.execCarrierPeak n s
  | .tileSampleStart t fs => Sys2Proof.Machine.execTileSampleStart t fs s
  | .tileOutput t => Sys2Proof.Machine.execTileOutput t s
  | .deadlineMiss t => Sys2Proof.Machine.execDeadlineMiss t s
  | .axisOvercurrent k f => Sys2Proof.Machine.execAxisOvercurrent k f s
  | .quadratureEdge e dt kind => Sys2Proof.Machine.execQuadratureEdge e dt kind s
  | .encoderIndex e => Sys2Proof.Machine.execEncoderIndex e s
  | .encoderIdleRequest e => Sys2Proof.Machine.execEncoderIdleRequest e s
  | .encoderFrameDone e dt data err noData => Sys2Proof.Machine.execEncoderFrameDone e dt data err noData s
  | .encFaultClear e => Sys2Proof.Machine.execEncFaultClear e s
  | .streamStarved n dt => Sys2Proof.Machine.execStreamStarved n dt s
  | .ctlTableLoad n kind b => Sys2Proof.Machine.execCtlTableLoad n kind b s
  | .ctlTableLoadDone dt => Sys2Proof.Machine.execCtlTableLoadDone dt s
  | .illegalInstruction b t w finding off => Sys2Proof.Machine.execIllegalInstruction b t w finding off s
  | .wAdd b t d a c => Sys2Proof.Machine.execWAdd b t d a c s
  | .wSub b t d a c => Sys2Proof.Machine.execWSub b t d a c s
  | .wAnd b t d a c => Sys2Proof.Machine.execWAnd b t d a c s
  | .wOr b t d a c => Sys2Proof.Machine.execWOr b t d a c s
  | .wXor b t d a c => Sys2Proof.Machine.execWXor b t d a c s
  | .wAndn b t d a c => Sys2Proof.Machine.execWAndn b t d a c s
  | .wShl b t d a c => Sys2Proof.Machine.execWShl b t d a c s
  | .wShr b t d a c => Sys2Proof.Machine.execWShr b t d a c s
  | .wSar b t d a c => Sys2Proof.Machine.execWSar b t d a c s
  | .wRor b t d a c => Sys2Proof.Machine.execWRor b t d a c s
  | .wMin b t d a c => Sys2Proof.Machine.execWMin b t d a c s
  | .wMax b t d a c => Sys2Proof.Machine.execWMax b t d a c s
  | .wMinu b t d a c => Sys2Proof.Machine.execWMinu b t d a c s
  | .wMaxu b t d a c => Sys2Proof.Machine.execWMaxu b t d a c s
  | .wClz b t d a => Sys2Proof.Machine.execWClz b t d a s
  | .wPopc b t d a => Sys2Proof.Machine.execWPopc b t d a s
  | .wBrev b t d a => Sys2Proof.Machine.execWBrev b t d a s
  | .wBswap b t d a => Sys2Proof.Machine.execWBswap b t d a s
  | .wSelp b t d a c k => Sys2Proof.Machine.execWSelp b t d a c k s
  | .wAddi b t d a i1 => Sys2Proof.Machine.execWAddi b t d a i1 s
  | .wAndi b t d a i1 => Sys2Proof.Machine.execWAndi b t d a i1 s
  | .wOri b t d a i1 => Sys2Proof.Machine.execWOri b t d a i1 s
  | .wXori b t d a i1 => Sys2Proof.Machine.execWXori b t d a i1 s
  | .wShli b t d a i1 => Sys2Proof.Machine.execWShli b t d a i1 s
  | .wShri b t d a i1 => Sys2Proof.Machine.execWShri b t d a i1 s
  | .wSari b t d a i1 => Sys2Proof.Machine.execWSari b t d a i1 s
  | .wRori b t d a i1 => Sys2Proof.Machine.execWRori b t d a i1 s
  | .wMini b t d a i1 => Sys2Proof.Machine.execWMini b t d a i1 s
  | .wMaxi b t d a i1 => Sys2Proof.Machine.execWMaxi b t d a i1 s
  | .wConstSet b t d k v => Sys2Proof.Machine.execWConstSet b t d k v s
  | .wConstIns b t d k v => Sys2Proof.Machine.execWConstIns b t d k v s
  | .wConstSets b t d k v => Sys2Proof.Machine.execWConstSets b t d k v s
  | .wMul b t d a c => Sys2Proof.Machine.execWMul b t d a c s
  | .wMulh b t d a c => Sys2Proof.Machine.execWMulh b t d a c s
  | .wMulhu b t d a c => Sys2Proof.Machine.execWMulhu b t d a c s
  | .wDiv b t d a c => Sys2Proof.Machine.execWDiv b t d a c s
  | .wDivu b t d a c => Sys2Proof.Machine.execWDivu b t d a c s
  | .wRem b t d a c => Sys2Proof.Machine.execWRem b t d a c s
  | .wRemu b t d a c => Sys2Proof.Machine.execWRemu b t d a c s
  | .wMulq b t d a c => Sys2Proof.Machine.execWMulq b t d a c s
  | .wFadd b t d a c => Sys2Proof.Machine.execWFadd b t d a c s
  | .wFsub b t d a c => Sys2Proof.Machine.execWFsub b t d a c s
  | .wFmul b t d a c => Sys2Proof.Machine.execWFmul b t d a c s
  | .wFdiv b t d a c => Sys2Proof.Machine.execWFdiv b t d a c s
  | .wFsqrt b t d a => Sys2Proof.Machine.execWFsqrt b t d a s
  | .wFma b t d a c => Sys2Proof.Machine.execWFma b t d a c s
  | .wFmin b t d a c => Sys2Proof.Machine.execWFmin b t d a c s
  | .wFmax b t d a c => Sys2Proof.Machine.execWFmax b t d a c s
  | .wFabs b t d a => Sys2Proof.Machine.execWFabs b t d a s
  | .wFneg b t d a => Sys2Proof.Machine.execWFneg b t d a s
  | .wFcvtfi b t d a => Sys2Proof.Machine.execWFcvtfi b t d a s
  | .wFcvtif b t d a => Sys2Proof.Machine.execWFcvtif b t d a s
  | .wFcvtfq b t d a => Sys2Proof.Machine.execWFcvtfq b t d a s
  | .wFcvtqf b t d a => Sys2Proof.Machine.execWFcvtqf b t d a s
  | .wEq b t d a c => Sys2Proof.Machine.execWEq b t d a c s
  | .wNe b t d a c => Sys2Proof.Machine.execWNe b t d a c s
  | .wLt b t d a c => Sys2Proof.Machine.execWLt b t d a c s
  | .wGe b t d a c => Sys2Proof.Machine.execWGe b t d a c s
  | .wLtu b t d a c => Sys2Proof.Machine.execWLtu b t d a c s
  | .wGeu b t d a c => Sys2Proof.Machine.execWGeu b t d a c s
  | .wFeq b t d a c => Sys2Proof.Machine.execWFeq b t d a c s
  | .wFlt b t d a c => Sys2Proof.Machine.execWFlt b t d a c s
  | .wFle b t d a c => Sys2Proof.Machine.execWFle b t d a c s
  | .wPand b t d a c => Sys2Proof.Machine.execWPand b t d a c s
  | .wPor b t d a c => Sys2Proof.Machine.execWPor b t d a c s
  | .wPxor b t d a c => Sys2Proof.Machine.execWPxor b t d a c s
  | .wPnot b t d a => Sys2Proof.Machine.execWPnot b t d a s
  | .wB b t k n o => Sys2Proof.Machine.execWB b t k n o s
  | .wCall b t k n o => Sys2Proof.Machine.execWCall b t k n o s
  | .wJr b t k n a => Sys2Proof.Machine.execWJr b t k n a s
  | .wJalr b t k n a => Sys2Proof.Machine.execWJalr b t k n a s
  | .wLb b t d a o x => Sys2Proof.Machine.execWLb b t d a o x s
  | .wLbu b t d a o x => Sys2Proof.Machine.execWLbu b t d a o x s
  | .wLh b t d a o x => Sys2Proof.Machine.execWLh b t d a o x s
  | .wLhu b t d a o x => Sys2Proof.Machine.execWLhu b t d a o x s
  | .wLw b t d a o x => Sys2Proof.Machine.execWLw b t d a o x s
  | .wLwu b t d a o x => Sys2Proof.Machine.execWLwu b t d a o x s
  | .wLd b t d a o x => Sys2Proof.Machine.execWLd b t d a o x s
  | .wLda b t d a o x => Sys2Proof.Machine.execWLda b t d a o x s
  | .wLwa b t d a o x => Sys2Proof.Machine.execWLwa b t d a o x s
  | .wSb b t d a o => Sys2Proof.Machine.execWSb b t d a o s
  | .wSh b t d a o => Sys2Proof.Machine.execWSh b t d a o s
  | .wSw b t d a o => Sys2Proof.Machine.execWSw b t d a o s
  | .wSd b t d a o => Sys2Proof.Machine.execWSd b t d a o s
  | .wSwr b t d a o => Sys2Proof.Machine.execWSwr b t d a o s
  | .wSdr b t d a o => Sys2Proof.Machine.execWSdr b t d a o s
  | .wSwap b t d a c x => Sys2Proof.Machine.execWSwap b t d a c x s
  | .wAadd b t d a c x => Sys2Proof.Machine.execWAadd b t d a c x s
  | .wAand b t d a c x => Sys2Proof.Machine.execWAand b t d a c x s
  | .wAor b t d a c x => Sys2Proof.Machine.execWAor b t d a c x s
  | .wAmaxu b t d a c x => Sys2Proof.Machine.execWAmaxu b t d a c x s
  | .wCas b t d a c x => Sys2Proof.Machine.execWCas b t d a c x s
  | .wAaddw b t d a c x => Sys2Proof.Machine.execWAaddw b t d a c x s
  | .wCasw b t d a c x => Sys2Proof.Machine.execWCasw b t d a c x s
  | .wFenceR b t => Sys2Proof.Machine.execWFenceR b t s
  | .wFenceW b t => Sys2Proof.Machine.execWFenceW b t s
  | .wFenceRw b t => Sys2Proof.Machine.execWFenceRw b t s
  | .wFenceIo b t => Sys2Proof.Machine.execWFenceIo b t s
  | .wFenceI b t => Sys2Proof.Machine.execWFenceI b t s
  | .wVadd b t w d a c => Sys2Proof.Machine.execWVadd b t w d a c s
  | .wVsub b t w d a c => Sys2Proof.Machine.execWVsub b t w d a c s
  | .wVand b t w d a c => Sys2Proof.Machine.execWVand b t w d a c s
  | .wVor b t w d a c => Sys2Proof.Machine.execWVor b t w d a c s
  | .wVxor b t w d a c => Sys2Proof.Machine.execWVxor b t w d a c s
  | .wVminu b t w d a c => Sys2Proof.Machine.execWVminu b t w d a c s
  | .wVmaxu b t w d a c => Sys2Proof.Machine.execWVmaxu b t w d a c s
  | .wVmin b t w d a c => Sys2Proof.Machine.execWVmin b t w d a c s
  | .wVmax b t w d a c => Sys2Proof.Machine.execWVmax b t w d a c s
  | .wVmul b t w d a c => Sys2Proof.Machine.execWVmul b t w d a c s
  | .wVshl b t w d a c => Sys2Proof.Machine.execWVshl b t w d a c s
  | .wVshr b t w d a c => Sys2Proof.Machine.execWVshr b t w d a c s
  | .wVaddus b t w d a c => Sys2Proof.Machine.execWVaddus b t w d a c s
  | .wVcmpeq b t w d a c => Sys2Proof.Machine.execWVcmpeq b t w d a c s
  | .wVcmplt b t w d a c => Sys2Proof.Machine.execWVcmplt b t w d a c s
  | .wVsel b t w d a c => Sys2Proof.Machine.execWVsel b t w d a c s
  | .wVfadd b t d a c => Sys2Proof.Machine.execWVfadd b t d a c s
  | .wVfmul b t d a c => Sys2Proof.Machine.execWVfmul b t d a c s
  | .wVfma b t d a c => Sys2Proof.Machine.execWVfma b t d a c s
  | .wVsplat b t w d a => Sys2Proof.Machine.execWVsplat b t w d a s
  | .wVext b t w d a k => Sys2Proof.Machine.execWVext b t w d a k s
  | .wVins b t w d a k => Sys2Proof.Machine.execWVins b t w d a k s
  | .wVredadd b t w d a => Sys2Proof.Machine.execWVredadd b t w d a s
  | .wVperm b t d a c => Sys2Proof.Machine.execWVperm b t d a c s
  | .wVtrans b t d a => Sys2Proof.Machine.execWVtrans b t d a s
  | .wVld b t v a o x => Sys2Proof.Machine.execWVld b t v a o x s
  | .wVst b t v a o => Sys2Proof.Machine.execWVst b t v a o s
  | .wMove b t l a e => Sys2Proof.Machine.execWMove b t l a e s
  | .moveDone b t k dt => Sys2Proof.Machine.execMoveDone b t k dt s
  | .wMwait b t d => Sys2Proof.Machine.execWMwait b t d s
  | .wQpop b t d a => Sys2Proof.Machine.execWQpop b t d a s
  | .wQwait b t d a => Sys2Proof.Machine.execWQwait b t d a s
  | .qwaitWake b t => Sys2Proof.Machine.execQwaitWake b t s
  | .wQprog b t _d a c => Sys2Proof.Machine.execWQprog b t _d a c s
  | .wQdone b t d a c => Sys2Proof.Machine.execWQdone b t d a c s
  | .wQchk b t d a => Sys2Proof.Machine.execWQchk b t d a s
  | .wQpush b t d a c => Sys2Proof.Machine.execWQpush b t d a c s
  | .wQevent b t d a c => Sys2Proof.Machine.execWQevent b t d a c s
  | .wPhread b t d a => Sys2Proof.Machine.execWPhread b t d a s
  | .wPhwait b t d a c => Sys2Proof.Machine.execWPhwait b t d a c s
  | .phwaitWake b t lag => Sys2Proof.Machine.execPhwaitWake b t lag s
  | .wPinpost b t _d a c => Sys2Proof.Machine.execWPinpost b t _d a c s
  | .wShowtime b t d => Sys2Proof.Machine.execWShowtime b t d s
  | .wWaitev b t d c => Sys2Proof.Machine.execWWaitev b t d c s
  | .waitevTimeout b t => Sys2Proof.Machine.execWaitevTimeout b t s
  | .wSignal b t _d a c => Sys2Proof.Machine.execWSignal b t _d a c s
  | .wBarrier b t _d a c => Sys2Proof.Machine.execWBarrier b t _d a c s
  | .wCsrr b t d n => Sys2Proof.Machine.execWCsrr b t d n s
  | .wCsrw b t d a n => Sys2Proof.Machine.execWCsrw b t d a n s
  | .wCsrs b t d a n => Sys2Proof.Machine.execWCsrs b t d a n s
  | .wCsrc b t d a n => Sys2Proof.Machine.execWCsrc b t d a n s
  | .wYield b t => Sys2Proof.Machine.execWYield b t s
  | .wHalt b t => Sys2Proof.Machine.execWHalt b t s
  | .wTrap b t v => Sys2Proof.Machine.execWTrap b t v s
  | .wBkpt b t => Sys2Proof.Machine.execWBkpt b t s
  | .wTstart b t a c => Sys2Proof.Machine.execWTstart b t a c s
  | .wTstop b t a => Sys2Proof.Machine.execWTstop b t a s
  | .breakpoint b t => Sys2Proof.Machine.execBreakpoint b t s
  | .cmdStart b t => Sys2Proof.Machine.execCmdStart b t s
  | .cmdStop b t => Sys2Proof.Machine.execCmdStop b t s
  | .cmdPreempt b t => Sys2Proof.Machine.execCmdPreempt b t s
  | .contextSaveDone b t => Sys2Proof.Machine.execContextSaveDone b t s
  | .cmdRestore b t => Sys2Proof.Machine.execCmdRestore b t s
  | .contextRestoreDone b t => Sys2Proof.Machine.execContextRestoreDone b t s
  | .cmdHalt b t => Sys2Proof.Machine.execCmdHalt b t s
  | .cmdRun b t => Sys2Proof.Machine.execCmdRun b t s
  | .cmdStep b t => Sys2Proof.Machine.execCmdStep b t s
  | .stepDone b t => Sys2Proof.Machine.execStepDone b t s
  | .debugRegAccess b t write v => Sys2Proof.Machine.execDebugRegAccess b t write v s
  | .icacheInvalidate _b => Sys2Proof.Machine.execIcacheInvalidate _b s
  | .map => Sys2Proof.Machine.execMap s
  | .unmap => Sys2Proof.Machine.execUnmap s
  | .protect => Sys2Proof.Machine.execProtect s
  | .pin => Sys2Proof.Machine.execPin s
  | .unpin => Sys2Proof.Machine.execUnpin s
  | .tableAdd => Sys2Proof.Machine.execTableAdd s
  | .tableRemove => Sys2Proof.Machine.execTableRemove s
  | .ctxCreate => Sys2Proof.Machine.execCtxCreate s
  | .ctxDestroy => Sys2Proof.Machine.execCtxDestroy s
  | .resolvePage => Sys2Proof.Machine.execResolvePage s
  | .mmuCommandComplete => Sys2Proof.Machine.execMmuCommandComplete s
  | .resolve v => Sys2Proof.Machine.execResolve v s
  | .pageRequestResponse asid page code => Sys2Proof.Machine.execPageRequestResponse asid page code s
  | .priTimeout asid page => Sys2Proof.Machine.execPriTimeout asid page s
  | .atsInvalidate asid page count => Sys2Proof.Machine.execAtsInvalidate asid page count s
  | .bar2Write off bs => Sys2Proof.Machine.execBar2Write off bs s
  | .bar2Read off len finding => Sys2Proof.Machine.execBar2Read off len finding s
  | .scrubRead finding => Sys2Proof.Machine.execScrubRead finding s
  | .refresh c die => Sys2Proof.Machine.execRefresh c die s
  | .neighbourRefresh c => Sys2Proof.Machine.execNeighbourRefresh c s
  | .dramTempReport c die t => Sys2Proof.Machine.execDramTempReport c die t s
  | .srEntryStart => Sys2Proof.Machine.execSrEntryStart s
  | .srCommand => Sys2Proof.Machine.execSrCommand s
  | .srExitStart dt => Sys2Proof.Machine.execSrExitStart dt s
  | .srExitDone => Sys2Proof.Machine.execSrExitDone s
  | .keepAwake => Sys2Proof.Machine.execKeepAwake s
  | .channelOnlineWrite c on => Sys2Proof.Machine.execChannelOnlineWrite c on s
  | .trnWrite c live => Sys2Proof.Machine.execTrnWrite c live s
  | .trnRead c live => Sys2Proof.Machine.execTrnRead c live s
  | .trnWriteRead c live => Sys2Proof.Machine.execTrnWriteRead c live s
  | .trnCancel c => Sys2Proof.Machine.execTrnCancel c s
  | .trnClrErr c => Sys2Proof.Machine.execTrnClrErr c s
  | .trainDone c dt done noise => Sys2Proof.Machine.execTrainDone c dt done noise s
  | .trainLiveTimeout c dt => Sys2Proof.Machine.execTrainLiveTimeout c dt s
  | .memDelayWrite c k v => Sys2Proof.Machine.execMemDelayWrite c k v s
  | .hostReset kind => Sys2Proof.Machine.execHostReset kind s
  | .vfReset v flr => Sys2Proof.Machine.execVfReset v flr s
  | .queueDrained q => Sys2Proof.Machine.execQueueDrained q s
  | .queueEnable q => Sys2Proof.Machine.execQueueEnable q s
  | .queueStop q => Sys2Proof.Machine.execQueueStop q s
  | .queueResume q => Sys2Proof.Machine.execQueueResume q s
  | .queueDisable q => Sys2Proof.Machine.execQueueDisable q s
  | .sqDoorbell fn q v => Sys2Proof.Machine.execSqDoorbell fn q v s
  | .cqDoorbell fn q v => Sys2Proof.Machine.execCqDoorbell fn q v s
  | .abort q v => Sys2Proof.Machine.execAbort q v s
  | .descriptorClaim q => Sys2Proof.Machine.execDescriptorClaim q s
  | .dmaNop q idx => Sys2Proof.Machine.execDmaNop q idx s
  | .copy q idx bursts => Sys2Proof.Machine.execCopy q idx bursts s
  | .fill q idx bursts => Sys2Proof.Machine.execFill q idx bursts s
  | .write64 q idx => Sys2Proof.Machine.execWrite64 q idx s
  | .dmaJobDone q idx => Sys2Proof.Machine.execDmaJobDone q idx s
  | .irqTimer q => Sys2Proof.Machine.execIrqTimer q s
  | .abortTimeout q idx => Sys2Proof.Machine.execAbortTimeout q idx s
  | .pcieLinkUp width speed flit => Sys2Proof.Machine.execPcieLinkUp width speed flit s
  | .pcieLinkDown => Sys2Proof.Machine.execPcieLinkDown s
  | .compress q idx blocks => Sys2Proof.Machine.execCompress q idx blocks s
  | .decompress q idx blocks => Sys2Proof.Machine.execDecompress q idx blocks s
  | .verify q idx blocks => Sys2Proof.Machine.execVerify q idx blocks s
  | .cmpJobDone q idx => Sys2Proof.Machine.execCmpJobDone q idx s
  | .linkEnable k => Sys2Proof.Machine.execLinkEnable k s
  | .linkDisable k => Sys2Proof.Machine.execLinkDisable k s
  | .linkRetry k => Sys2Proof.Machine.execLinkRetry k s
  | .detectPoll k dt heard rate => Sys2Proof.Machine.execDetectPoll k dt heard rate s
  | .trainComplete k => Sys2Proof.Machine.execTrainComplete k s
  | .lockComplete k => Sys2Proof.Machine.execLockComplete k s
  | .capsComplete k => Sys2Proof.Machine.execCapsComplete k s
  | .stageTimeout k => Sys2Proof.Machine.execStageTimeout k s
  | .lossOfSignal n => Sys2Proof.Machine.execLossOfSignal n s
  | .blockLock n => Sys2Proof.Machine.execBlockLock n s
  | .blockLockLost n dt errs => Sys2Proof.Machine.execBlockLockLost n dt errs s
  | .tsWord n dt stage lane ready req => Sys2Proof.Machine.execTsWord n dt stage lane ready req s
  | .alignWord n dt count skew => Sys2Proof.Machine.execAlignWord n dt count skew s
  | .eidleWord k dt => Sys2Proof.Machine.execEidleWord k dt s
  | .eidleEnter k dt => Sys2Proof.Machine.execEidleEnter k dt s
  | .picotStart k dt => Sys2Proof.Machine.execPicotStart k dt s
  | .picotDone k => Sys2Proof.Machine.execPicotDone k s
  | .idleLosWindowEnd k => Sys2Proof.Machine.execIdleLosWindowEnd k s
  | .beamLockDone k => Sys2Proof.Machine.execBeamLockDone k s
  | .lstatWord k lane cnt => Sys2Proof.Machine.execLstatWord k lane cnt s
  | .slip n => Sys2Proof.Machine.execSlip n s
  | .inj n => Sys2Proof.Machine.execInj n s
  | .chkClr n => Sys2Proof.Machine.execChkClr n s
  | .scanGo n => Sys2Proof.Machine.execScanGo n s
  | .scanStop n => Sys2Proof.Machine.execScanStop n s
  | .scanDone n cnt => Sys2Proof.Machine.execScanDone n cnt s
  | .eqAdaptStep n k want => Sys2Proof.Machine.execEqAdaptStep n k want s
  | .txeqWrite n v => Sys2Proof.Machine.execTxeqWrite n v s
  | .beacon p dt w ws => Sys2Proof.Machine.execBeacon p dt w ws s
  | .beaconSend => Sys2Proof.Machine.execBeaconSend s
  | .upstreamLost => Sys2Proof.Machine.execUpstreamLost s
  | .reroot => Sys2Proof.Machine.execReroot s
  | .delayReqSend p => Sys2Proof.Machine.execDelayReqSend p s
  | .delayReq p dt w ws => Sys2Proof.Machine.execDelayReq p dt w ws s
  | .delayResp p dt w ws => Sys2Proof.Machine.execDelayResp p dt w ws s
  | .join p dt w ws => Sys2Proof.Machine.execJoin p dt w ws s
  | .roster p dt w ws => Sys2Proof.Machine.execRoster p dt w ws s
  | .presence p dt w ws => Sys2Proof.Machine.execPresence p dt w ws s
  | .presenceSend => Sys2Proof.Machine.execPresenceSend s
  | .content p dt w ws => Sys2Proof.Machine.execContent p dt w ws s
  | .msg p dt w ws => Sys2Proof.Machine.execMsg p dt w ws s
  | .follow p dt w ws => Sys2Proof.Machine.execFollow p dt w ws s
  | .capsPacket p dt w ws => Sys2Proof.Machine.execCapsPacket p dt w ws s
  | .txRingSend => Sys2Proof.Machine.execTxRingSend s
  | .twinEnable en => Sys2Proof.Machine.execTwinEnable en s
  | .aloneTimeout => Sys2Proof.Machine.execAloneTimeout s
  | .heartbeatSend => Sys2Proof.Machine.execHeartbeatSend s
  | .heartbeat dt w ws => Sys2Proof.Machine.execHeartbeat dt w ws s
  | .heartbeatMiss => Sys2Proof.Machine.execHeartbeatMiss s
  | .mirrorCommit seq p id _time => Sys2Proof.Machine.execMirrorCommit seq p id _time s
  | .mirrorSwap seq n _bank count => Sys2Proof.Machine.execMirrorSwap seq n _bank count s
  | .mirrorAxis seq n ws => Sys2Proof.Machine.execMirrorAxis seq n ws s
  | .mirrorLight seq g ws => Sys2Proof.Machine.execMirrorLight seq g ws s
  | .mirrorQueue seq i1 head tail q => Sys2Proof.Machine.execMirrorQueue seq i1 head tail q s
  | .mirrorEntry seq i1 idx ended => Sys2Proof.Machine.execMirrorEntry seq i1 idx ended s
  | .fullBegin seq => Sys2Proof.Machine.execFullBegin seq s
  | .fullEnd seq => Sys2Proof.Machine.execFullEnd seq s
  | .twinYield => Sys2Proof.Machine.execTwinYield s
  | .twinForce => Sys2Proof.Machine.execTwinForce s
  | .twinResync => Sys2Proof.Machine.execTwinResync s
  | .handoverStart => Sys2Proof.Machine.execHandoverStart s
  | .tkovrDemIAssert dt => Sys2Proof.Machine.execTkovrDemIAssert dt s
  | .tkovrHoldIChange level dt => Sys2Proof.Machine.execTkovrHoldIChange level dt s
  | .holdOAssert => Sys2Proof.Machine.execHoldOAssert s
  | .holdAcquired => Sys2Proof.Machine.execHoldAcquired s
  | .takeoverStuck => Sys2Proof.Machine.execTakeoverStuck s
  | .hkpConversion code value => Sys2Proof.Machine.execHkpConversion code value s
  | .housekeepingRound lag rpm0 rpm1 rpm2 rpm3 => Sys2Proof.Machine.execHousekeepingRound lag rpm0 rpm1 rpm2 rpm3 s
  | .shutdownClockStop => Sys2Proof.Machine.execShutdownClockStop s
  | .privilegedShutdown z dt temp => Sys2Proof.Machine.execPrivilegedShutdown z dt temp s
  | .islandRestart dt => Sys2Proof.Machine.execIslandRestart dt s
  | .fanFail f => Sys2Proof.Machine.execFanFail f s
  | .sensClr i1 => Sys2Proof.Machine.execSensClr i1 s
  | .sramScrub mem off uncorr dt => Sys2Proof.Machine.execSramScrub mem off uncorr dt s
  | .calRun t ok => Sys2Proof.Machine.execCalRun t ok s
  | .calRelease t i1 => Sys2Proof.Machine.execCalRelease t i1 s
  | .calRunDone t broken err residual value => Sys2Proof.Machine.execCalRunDone t broken err residual value s
  | .calStale t i1 => Sys2Proof.Machine.execCalStale t i1 s
  | .calManualWrite which n v => Sys2Proof.Machine.execCalManualWrite which n v s
  | .nvmWrite o => Sys2Proof.Machine.execNvmWrite o s
  | .nvmPageDone lag misread => Sys2Proof.Machine.execNvmPageDone lag misread s
  | .nvmRead o => Sys2Proof.Machine.execNvmRead o s
  | .nvmReadDone lag bad => Sys2Proof.Machine.execNvmReadDone lag bad s
  | .logAppend => Sys2Proof.Machine.execLogAppend s
  | .logRead => Sys2Proof.Machine.execLogRead s
  | .ledgerSave => Sys2Proof.Machine.execLedgerSave s
  | .svnBump => Sys2Proof.Machine.execSvnBump s
  | .ledgerPeriodicSave => Sys2Proof.Machine.execLedgerPeriodicSave s
  | .powerOnReset dt => Sys2Proof.Machine.execPowerOnReset dt s
  | .refclkPresent dt khz => Sys2Proof.Machine.execRefclkPresent dt khz s
  | .bootReadDone dt misA misB => Sys2Proof.Machine.execBootReadDone dt misA misB s
  | .rcvGo dt => Sys2Proof.Machine.execRcvGo dt s
  | .vinPf dt => Sys2Proof.Machine.execVinPf dt s
  | .brownOut dt => Sys2Proof.Machine.execBrownOut dt s
  | .overvolt dt => Sys2Proof.Machine.execOvervolt dt s
  | .railFault dt => Sys2Proof.Machine.execRailFault dt s
  | .refclkLoss dt => Sys2Proof.Machine.execRefclkLoss dt s
  | .brownoutRecovery dt => Sys2Proof.Machine.execBrownoutRecovery dt s
  | .islandStop dt => Sys2Proof.Machine.execIslandStop dt s
  | .bankDown v dt mv => Sys2Proof.Machine.execBankDown v dt mv s
  | .warmReset dt => Sys2Proof.Machine.execWarmReset dt s
  | .rstCmd v => Sys2Proof.Machine.execRstCmd v s
  | .warmResetRelease dt => Sys2Proof.Machine.execWarmResetRelease dt s
  | .extest => Sys2Proof.Machine.execExtest s
  | .idcode => Sys2Proof.Machine.execIdcode s
  | .samplePreload => Sys2Proof.Machine.execSamplePreload s
  | .highz => Sys2Proof.Machine.execHighz s
  | .clamp => Sys2Proof.Machine.execClamp s
  | .dbgAccess => Sys2Proof.Machine.execDbgAccess s
  | .bypass => Sys2Proof.Machine.execBypass s
  | .dbgAccessUpdate data off write wide => Sys2Proof.Machine.execDbgAccessUpdate data off write wide s
  | .jtagLock => Sys2Proof.Machine.execJtagLock s
  | .furtherPark p a => Sys2Proof.Machine.execFurtherPark p a s
  | .interlockHealthy i1 => Sys2Proof.Machine.execInterlockHealthy i1 s
  | .tkovrDemIDeassert dt => Sys2Proof.Machine.execTkovrDemIDeassert dt s
  | .vgdRecovery b dt => Sys2Proof.Machine.execVgdRecovery b dt s
  | .vfEnable mask => Sys2Proof.Machine.execVfEnable mask s
  | .priEnable => Sys2Proof.Machine.execPriEnable s

end Sys2Proof.Machine
end

