-- ==== Sys2Proof/WellFormed.lean ====
section
/-! DEFINITION. WellFormed.lean: which commands the block can be sent: operands that its agents' formats admit. -/

namespace Sys2Proof

/-- The words after a packet's first: at most 1,024 data words and the CRC word (R500, R501). -/
def packetOk (ws : List (BitVec 64)) : Bool := decide (ws.length ≤ 1025)

/-- Is a command one that its sender's format admits? Where a row names the fault it stands for, the operands must show that fault. -/
def wellFormed (i : Instr) : Bool :=
  match i with
  -- R322: an element's index lies below 256 / w
  | .wVext _ _ w _ _ k => decide (k.val < 32 / 2 ^ w.val)
  | .wVins _ _ w _ _ k => decide (k.val < 32 / 2 ^ w.val)
  -- R311: the word spells no instruction, unless the row stands for a finding
  | .illegalInstruction b t w x _ => x != 0 || (decodeW b t 0 w.toNat).isNone
  -- R9, R617: the width or the alignment is not permitted
  | .badWidthAccess _ off size _ => !((size.val + 1 == 4 || size.val + 1 == 8) && off.toNat % (size.val + 1) == 0)
  -- R10: the lower half of a 64-bit register stands at a multiple of 8
  | .lowerHalfWrite _ off _ => off.toNat % 8 == 0
  | .upperHalfWrite _ off _ => off.toNat % 8 == 0
  -- R402, R404: the widths at which the link trains, and the speeds
  | .pcieLinkUp width speed _ => [1, 2, 4, 8, 16].contains width && speed.val != 0
  -- R500, R501: at most 1,024 data words and a CRC word
  | .beacon _ _ _ ws => packetOk ws
  | .delayReq _ _ _ ws => packetOk ws
  | .delayResp _ _ _ ws => packetOk ws
  | .join _ _ _ ws => packetOk ws
  | .roster _ _ _ ws => packetOk ws
  | .presence _ _ _ ws => packetOk ws
  | .content _ _ _ ws => packetOk ws
  | .msg _ _ _ ws => packetOk ws
  | .follow _ _ _ ws => packetOk ws
  | .capsPacket _ _ _ ws => packetOk ws
  | .heartbeat _ _ ws => packetOk ws
  -- R402: a request carries at least one byte, and at most the maximum payload or read request
  | .bar2Write _ bs => decide (1 ≤ bs.length) && decide (bs.length ≤ 512)
  | .bar2Read _ len _ => decide (1 ≤ len) && decide (len ≤ 4096)
  -- R411, R433: VF 0 is none
  | .vfReset v _ => v != 0
  | _ => true

end Sys2Proof
end

