-- ==== Sys2Proof/Machine/Step.lean ====
section
/-! DEFINITION. Machine/Step.lean: a step of the block: the command at the front of its queue, or a nanosecond in which none is commanded. -/

namespace Sys2Proof.Machine

/-- A step takes the command at the front of the queue and runs it on the state that holds the queue's rest. With no command waiting, one
nanosecond passes (DESIGN CHOICE, log entry 6). -/
def step (s : State) : Host.Outcome State Fault Refusal :=
  match s.pending with
  | [] => .next (passTime 1 s)
  | c :: rest => exec c { s with pending := rest }

/-- The state with the command that a word of the opcode table spells put at the front of its queue; the table's rows have no bits, so the
state itself. -/
def State.withFetchWord (s : State) (nbits w : Nat) : State :=
  match decodeTableWord nbits w with
  | some c => { s with pending := c :: s.pending }
  | none => s

end Sys2Proof.Machine
end

