-- ==== Sys2Proof/Safety.lean ====
section
/-! DEFINITION. Safety.lean: what the claims speak of: when a thread issues, what a state leaves as it was, and the invariant of the memories. -/

namespace Sys2Proof.Machine

/-! ### Memories -/

/-- Every memory of a state is in its canonical form (log entry 2). -/
def MemoriesWf (s : State) : Prop :=
  Memory.wf s.dram = true ∧ Memory.wf s.host = true ∧ Memory.wf s.padMem = true ∧ Memory.wf s.pilMem = true ∧ Memory.wf s.store = true

/-- A byte of each memory. -/
def dramByte (s : State) (a : Nat) : Byte := kget unwritten s.dram a
def hostByte (s : State) (a : Nat) : Byte := kget unwritten s.host a
def padByte (s : State) (a : Nat) : Byte := kget unwritten s.padMem a
def pilByte (s : State) (a : Nat) : Byte := kget unwritten s.pilMem a
def storeByte (s : State) (a : Nat) : Byte := kget unwritten s.store a

/-- Every byte of every memory reads as before. -/
def SameBytes (s t : State) : Prop :=
  ∀ a, dramByte t a = dramByte s a ∧ hostByte t a = hostByte s a ∧ padByte t a = padByte s a ∧ pilByte t a = pilByte s a ∧
    storeByte t a = storeByte s a

/-- Every register but those named reads as before. -/
def SameRegs (s t : State) (but : List Nat) : Prop := ∀ r, r ∉ but → t.rd r = s.rd r

/-- Every register but those named, and but those of MEM that an access of device memory can move, reads as before. -/
def SameOutsideMem (s t : State) (but : List Nat) : Prop := ∀ r, r ∉ but → r / 0x100000 ≠ 8 → t.rd r = s.rd r

/-- Every register but those named, and but those of MEM, MMU and QUE that a delivered event can move, reads as before. -/
def SameOutsideRings (s t : State) (but : List Nat) : Prop :=
  ∀ r, r ∉ but → r / 0x100000 ≠ 8 → r / 0x100000 ≠ 9 → r / 0x100000 ≠ 10 → t.rd r = s.rd r

/-! ### Threads (R307, R308, R337, R347) -/

/-- Can a thread fetch at its PC: a window of its own, or a page that translates, whose channels serve and whose words are good? -/
def FetchOk (s : State) (u : Nat) : Prop :=
  match place s u (thPc s u) akFETCH with
  | .mem g => readsBad s g 4 = false
  | .bad _ => False
  | .miss _ _ _ => False
  | .stall => False
  | _ => True

/-- Thread t of bobbin b issues the instruction at its PC: the ENG clock runs, the slot is in RUN and not at the end of a step, no sibling is
owed its turn, no breakpoint holds it, and the fetch succeeds. -/
def Issues (s : State) (b : Fin 128) (t : Fin 4) : Prop :=
  s.clocked = true ∧ thState s (unitOf b t) = 1 ∧ (s.th (unitOf b t)).stepDone = false ∧ yields s (unitOf b t) = false ∧
    bpHit s (unitOf b t) = false ∧ FetchOk s (unitOf b t)

/-- The registers, predicates and vectors of a thread. -/
def SameFiles (s t : State) (u : Nat) : Prop :=
  (∀ k, getG t u k = getG s u k) ∧ (∀ k, getV t u k = getV s u k) ∧ (∀ k, getP t u k = getP s u k)

/-- The oldest entry of SQ q, at g, can be claimed by thread u now (R325, R418, R419, R422): the queue runs, its CQ has room, and the entry can be
read and is well formed. -/
def Claimable (s : State) (u q : Nat) (g : Target) : Prop :=
  qType s q = 0 ∧ qServer s q = 2 ∧ granted s u q = true ∧ qState s q = 1 ∧ s.driving = true ∧ (s.queue q).readHeld = false ∧
    (s.queue q).skip = [] ∧ qPresent s q ≠ 0 ∧ cqRoom s (qCq s q) = true ∧
    xlate s (qAsid s q) (qOwner s q) (qBase s q + 64 * qHead s q) akREAD = .ok g ∧
    accessServed s (qAsid s q) (qOwner s q) (qBase s q + 64 * qHead s q) 64 akREAD = true ∧
    (g.host = false → s.flag MEM_CTL_NB_EN = false ∧ readsBad s g 64 = false) ∧
    badHeader 2 (loadAt s g 64) = false ∧ bit (dFlags (loadAt s g 64)) 2 = false

/-- Entry idx of queue q has been claimed by thread u, and HEAD has passed it: nothing else that a program sees has changed. -/
def ClaimedBy (s y : State) (u q : Nat) (g : Target) : Prop :=
  (y.queue q).claims = (s.queue q).claims ++ [{ idx := qHead s q, desc := loadAt s g 64, by_ := .thread u }] ∧
    qHead y q = (qHead s q + 1) % qSize s q ∧ y.threads = s.threads ∧ SameBytes s y ∧
    SameOutsideMem s y [QUE_Q_HEAD q]

/-! ### Pins (R72, R76, R83 to R85, R89) -/

/-- Dispatched pin d of timebase n takes effect next: it is the first in order, with this action; the clocks and the timebase run, and no boundary
comes before its placed time; its PARITY allows its cycle, it lies in the gaps if it is BLIND, and it duplicates no pin that has fired. -/
def FiresNext (s : State) (n action : Nat) (d : Placed) : Prop :=
  nextPlaced s n = some d ∧ d.pin.action = action ∧ s.clocked = true ∧ s.tbOn n = true ∧
    (d.placed / 4 ≤ s.now ∨ d.placed / 4 - s.now < toBoundary s n) ∧ mayFire (passTime (d.placed / 4 - s.now) s) n d = true ∧ d.dup = false

/-- State z is s at the time at which pin d has fired: time has passed to its placed time, and besides the timebase, and what its stamp and its
event can move, everything is as it was. -/
def Fired (s z : State) (d : Placed) : Prop :=
  z.now = max s.now (d.placed / 4) ∧ z.threads = s.threads ∧ z.ports = s.ports ∧ z.strings = s.strings ∧ z.groups = s.groups ∧ z.pds = s.pds ∧
    z.axes = s.axes ∧ z.tiles = s.tiles ∧ z.cals = s.cals ∧ z.pipes = s.pipes ∧
    ∀ r, r / 0x100000 ≠ 1 → r / 0x100000 ≠ 8 → r / 0x100000 ≠ 9 → r / 0x100000 ≠ 10 → z.rd r = s.rd r

/-- Nothing that is due at string n is overdue (R226, R231, R233). -/
def NothingDue (s : State) (n : Nat) : Prop := ∀ e ∈ (s.str n).due, 4 * s.now < e.at_

/-- The entry at address va is one that a thread claimed, of a queue granted to thread u. -/
def EntryOf (s : State) (u va q : Nat) (c : Claim) : Prop :=
  (threadClaims s).filter (fun x => qBase s x.1 + 64 * x.2.idx == va) = [(q, c)] ∧ granted s u q = true

/-- The n bytes at address va of thread u lie in a pad from p, and can be read. -/
def PadBlock (s : State) (u va p n : Nat) : Prop :=
  ∀ k, k < n → place s u (va + k) akREAD = .pad (p + k) ∧ localBad true (p + k) 1 s = false

end Sys2Proof.Machine
end

