-- ==== Sys2Proof/Certificates/Slice0/Obligations.lean ====
section
/-! DEFINITION. Certificates/Slice0/Obligations.lean: the statements for the provers. -/

open Sys2Proof Sys2Proof.Machine

/-- IntegerResults: The results of the integer, bit-count, immediate and multiply or divide instructions. -/
def Obligations.IntegerResults : Prop :=
  -- the register operations of class 0x0 (R313) retire with their result in g_d, for a thread that issues.
  (∀ (s : State) (b : Fin 128) (t : Fin 4) (d a c : Fin 64) (k : Fin 8), Issues s b t →
    let u := unitOf b t
    let x := getG s u a
    let y := getG s u c
    let gives := fun (v : Word) => Host.Outcome.next (φ := Fault) (ρ := Refusal) (retire u (setG u d v s))
    exec (.wAdd b t d a c) s = gives (x + y) ∧ exec (.wSub b t d a c) s = gives (x - y) ∧ exec (.wAnd b t d a c) s = gives (x &&& y) ∧
    exec (.wOr b t d a c) s = gives (x ||| y) ∧ exec (.wXor b t d a c) s = gives (x ^^^ y) ∧ exec (.wAndn b t d a c) s = gives (x &&& ~~~y) ∧
    exec (.wShl b t d a c) s = gives (x <<< (y.toNat % 64)) ∧ exec (.wShr b t d a c) s = gives (x >>> (y.toNat % 64)) ∧
    exec (.wSar b t d a c) s = gives (x.sshiftRight (y.toNat % 64)) ∧ exec (.wRor b t d a c) s = gives (x.rotateRight (y.toNat % 64)) ∧
    exec (.wMin b t d a c) s = gives (if x.toInt < y.toInt then x else y) ∧ exec (.wMax b t d a c) s = gives (if x.toInt < y.toInt then y else x) ∧
    exec (.wMinu b t d a c) s = gives (if x.toNat < y.toNat then x else y) ∧ exec (.wMaxu b t d a c) s = gives (if x.toNat < y.toNat then y else x) ∧
    exec (.wSelp b t d a c k) s = gives (if getP s u k then x else y)) ∧
  -- CLZ, POPC, BREV and BSWAP (R313) retire with their result in g_d, said bit by bit and byte by byte.
  (∀ (s : State) (b : Fin 128) (t : Fin 4) (d a : Fin 64), Issues s b t →
    let u := unitOf b t
    let x := getG s u a
    let gives := fun (i : Instr) (v : Word) => exec i s = .next (retire u (setG u d v s))
    (∃ n : Nat, n ≤ 64 ∧ gives (.wClz b t d a) (BitVec.ofNat 64 n) ∧ (∀ i, 64 - n ≤ i → x.getLsbD i = false) ∧ (n < 64 → x.getLsbD (63 - n) = true)) ∧
    gives (.wPopc b t d a) (BitVec.ofNat 64 ((List.range 64).filter (fun i => x.getLsbD i)).length) ∧
    (∃ v : Word, gives (.wBrev b t d a) v ∧ ∀ i, i < 64 → v.getLsbD i = x.getLsbD (63 - i)) ∧
    (∃ v : Word, gives (.wBswap b t d a) v ∧ ∀ i, i < 8 → v.toNat / 256 ^ i % 256 = x.toNat / 256 ^ (7 - i) % 256)) ∧
  -- classes 0x1 and 0x2 (R314, R315) retire with their result in g_d.
  (∀ (s : State) (b : Fin 128) (t : Fin 4) (d a : Fin 64) (i : BitVec 10) (k : Fin 4) (v : BitVec 16), Issues s b t →
    let u := unitOf b t
    let x := getG s u a
    let y : Word := i.signExtend 64
    let n := y.toNat % 64
    let gives := fun (w : Word) => Host.Outcome.next (φ := Fault) (ρ := Refusal) (retire u (setG u d w s))
    exec (.wAddi b t d a i) s = gives (x + y) ∧ exec (.wAndi b t d a i) s = gives (x &&& y) ∧ exec (.wOri b t d a i) s = gives (x ||| y) ∧
    exec (.wXori b t d a i) s = gives (x ^^^ y) ∧ exec (.wShli b t d a i) s = gives (x <<< n) ∧ exec (.wShri b t d a i) s = gives (x >>> n) ∧
    exec (.wSari b t d a i) s = gives (x.sshiftRight n) ∧ exec (.wRori b t d a i) s = gives (x.rotateRight n) ∧
    exec (.wMini b t d a i) s = gives (if x.toInt < y.toInt then x else y) ∧ exec (.wMaxi b t d a i) s = gives (if x.toInt < y.toInt then y else x) ∧
    exec (.wConstSet b t d k v) s = gives (v.setWidth 64 <<< (16 * k.val)) ∧ exec (.wConstSets b t d k v) s = gives (v.signExtend 64 <<< (16 * k.val)) ∧
    ∃ w : Word, exec (.wConstIns b t d k v) s = gives w ∧
      ∀ j, j < 64 → w.getLsbD j = if 16 * k.val ≤ j ∧ j < 16 * k.val + 16 then v.getLsbD (j - 16 * k.val) else (getG s u d).getLsbD j) ∧
  -- class 0x3 (R316) retires with its result in g_d, and a divisor of 0 sets FPST.IDZ.
  (∀ (s : State) (b : Fin 128) (t : Fin 4) (d a c : Fin 64), Issues s b t →
    let u := unitOf b t
    let x := getG s u a
    let y := getG s u c
    let gives := fun (v : Word) => Host.Outcome.next (φ := Fault) (ρ := Refusal) (retire u (setG u d v s))
    let toZ := fun (v : Word) => Host.Outcome.next (φ := Fault) (ρ := Refusal) (retire u (setG u d v (raise u 32 s)))
    exec (.wMul b t d a c) s = gives (BitVec.ofInt 64 (x.toInt * y.toInt)) ∧
    exec (.wMulh b t d a c) s = gives (BitVec.ofInt 64 ((x.toInt * y.toInt).fdiv (2 ^ 64))) ∧
    exec (.wMulhu b t d a c) s = gives (BitVec.ofNat 64 (x.toNat * y.toNat / 2 ^ 64)) ∧
    exec (.wMulq b t d a c) s = gives (BitVec.ofInt 64 ((x.toInt * y.toInt).fdiv (2 ^ 32))) ∧
    (y ≠ 0#64 → exec (.wDiv b t d a c) s = gives (BitVec.ofInt 64 (x.toInt.tdiv y.toInt)) ∧ exec (.wDivu b t d a c) s = gives (BitVec.ofNat 64 (x.toNat / y.toNat)) ∧
      exec (.wRem b t d a c) s = gives (x - y * BitVec.ofInt 64 (x.toInt.tdiv y.toInt)) ∧ exec (.wRemu b t d a c) s = gives (BitVec.ofNat 64 (x.toNat % y.toNat))) ∧
    (y = 0#64 → exec (.wDiv b t d a c) s = toZ (BitVec.allOnes 64) ∧ exec (.wDivu b t d a c) s = toZ (BitVec.allOnes 64) ∧
      exec (.wRem b t d a c) s = toZ x ∧ exec (.wRemu b t d a c) s = toZ x))

/-- FloatAndCompareResults: The results of the floating-point and compare instructions. -/
def Obligations.FloatAndCompareResults : Prop :=
  -- class 0x4 (R317) retires with a binary32 result in g_d[31:0] and its exceptions sticky in FPST; a minimum or maximum of zeros of unlike sign is a free value, of which nothing more is said. Where the spec leaves a corner of this open, what it says is the model's choice (log entries 30, 33).
  (∀ (s : State) (b : Fin 128) (t : Fin 4) (d a c : Fin 64), Issues s b t →
    let u := unitOf b t
    let x := lo32 (getG s u a)
    let y := lo32 (getG s u c)
    let gives := fun (r : FR) => Host.Outcome.next (φ := Fault) (ρ := Refusal) (retire u (setG u d (BitVec.ofNat 64 r.v) (raise u r.ex s)))
    exec (.wFadd b t d a c) s = gives (fadd x y) ∧ exec (.wFsub b t d a c) s = gives (fsub x y) ∧ exec (.wFmul b t d a c) s = gives (fmul x y) ∧
    exec (.wFdiv b t d a c) s = gives (fdiv x y) ∧ exec (.wFsqrt b t d a) s = gives (fsqrt x) ∧ exec (.wFma b t d a c) s = gives (fma (lo32 (getG s u d)) x y) ∧
    exec (.wFabs b t d a) s = gives ⟨if isNaN x then qNaN else x % 2 ^ 31, 0⟩ ∧
    exec (.wFneg b t d a) s = gives ⟨if isNaN x then qNaN else (x + 2 ^ 31) % 2 ^ 32, 0⟩ ∧
    exec (.wFcvtfi b t d a) s = gives (froundI (getG s u a).toInt 0 false) ∧ exec (.wFcvtfq b t d a) s = gives (froundI (getG s u a).toInt (-32) false) ∧
    exec (.wFcvtif b t d a) s = gives (fcvtInt x 0) ∧ exec (.wFcvtqf b t d a) s = gives (fcvtInt x 32) ∧
    (isNaN x = true → isNaN y = false → ∃ e, exec (.wFmin b t d a c) s = gives ⟨y, e⟩ ∧ exec (.wFmax b t d a c) s = gives ⟨y, e⟩) ∧
    (isNaN x = false → isNaN y = true → ∃ e, exec (.wFmin b t d a c) s = gives ⟨x, e⟩ ∧ exec (.wFmax b t d a c) s = gives ⟨x, e⟩) ∧
    (isNaN x = true → isNaN y = true → ∃ e, exec (.wFmin b t d a c) s = gives ⟨qNaN, e⟩ ∧ exec (.wFmax b t d a c) s = gives ⟨qNaN, e⟩) ∧
    (flt0 x y = true → exec (.wFmin b t d a c) s = gives ⟨x, 0⟩ ∧ exec (.wFmax b t d a c) s = gives ⟨y, 0⟩) ∧
    (flt0 y x = true → exec (.wFmin b t d a c) s = gives ⟨y, 0⟩ ∧ exec (.wFmax b t d a c) s = gives ⟨x, 0⟩)) ∧
  -- class 0x5 (R318) retires with its predicate, and a NaN operand of a floating compare gives 0 and sets INV only for FLT and FLE.
  (∀ (s : State) (b : Fin 128) (t : Fin 4) (d e f : Fin 8) (a c : Fin 64), Issues s b t →
    let u := unitOf b t
    let x := getG s u a
    let y := getG s u c
    let p := lo32 x
    let q := lo32 y
    let gives := fun (v : Bool) => Host.Outcome.next (φ := Fault) (ρ := Refusal) (retire u (setP u d v s))
    exec (.wEq b t d a c) s = gives (decide (x = y)) ∧ exec (.wNe b t d a c) s = gives (decide (x ≠ y)) ∧
    exec (.wLt b t d a c) s = gives (decide (x.toInt < y.toInt)) ∧ exec (.wGe b t d a c) s = gives (decide (y.toInt ≤ x.toInt)) ∧
    exec (.wLtu b t d a c) s = gives (decide (x.toNat < y.toNat)) ∧ exec (.wGeu b t d a c) s = gives (decide (y.toNat ≤ x.toNat)) ∧
    exec (.wPand b t d e f) s = gives (getP s u e && getP s u f) ∧ exec (.wPor b t d e f) s = gives (getP s u e || getP s u f) ∧
    exec (.wPxor b t d e f) s = gives (getP s u e != getP s u f) ∧ exec (.wPnot b t d e) s = gives (!getP s u e) ∧
    (isNaN p = false → isNaN q = false → exec (.wFeq b t d a c) s = gives (feq0 p q) ∧ exec (.wFlt b t d a c) s = gives (flt0 p q) ∧
      exec (.wFle b t d a c) s = gives (!flt0 q p)) ∧
    (isNaN p = true ∨ isNaN q = true → exec (.wFeq b t d a c) s = gives false ∧
      exec (.wFlt b t d a c) s = .next (retire u (setP u d false (raise u 1 s))) ∧ exec (.wFle b t d a c) s = .next (retire u (setP u d false (raise u 1 s)))))

/-- BranchesAndThreadControl: Where a branch or call goes, what a retired instruction counts, and what the system instructions and faults do to a thread. -/
def Obligations.BranchesAndThreadControl : Prop :=
  -- class 0x6 (R319) acts only when its predicate differs from the sense; a jump to a target that is no multiple of 4 faults with cause MISALIGN, and else goes there. Where the spec leaves a corner of this open, what it says is the model's choice (log entry 51).
  (∀ (s : State) (b : Fin 128) (t : Fin 4) (k : Fin 8) (n : Bool) (o : BitVec 22) (a : Fin 64), Issues s b t →
    let u := unitOf b t
    let pc := thPc s u
    let rel := ((pc : Int) + 4 * o.toInt) % (2 ^ 64 : Int)
    let link := setG u 63 (BitVec.ofNat 64 (pc + 4)) s
    let x := (getG s u a).toNat
    (getP s u k = n → exec (.wB b t k n o) s = .next (retire u s) ∧ exec (.wCall b t k n o) s = .next (retire u s) ∧
      exec (.wJr b t k n a) s = .next (retire u s) ∧ exec (.wJalr b t k n a) s = .next (retire u s)) ∧
    (getP s u k ≠ n → exec (.wB b t k n o) s = .next (retireTo u rel.toNat s) ∧ exec (.wCall b t k n o) s = .next (retireTo u rel.toNat link)) ∧
    (getP s u k ≠ n → x % 4 = 0 → exec (.wJr b t k n a) s = .next (retireTo u x s) ∧ exec (.wJalr b t k n a) s = .next (retireTo u x link)) ∧
    (getP s u k ≠ n → x % 4 ≠ 0 → ∃ w v, exec (.wJr b t k n a) s = .next (threadFault u 2 0 x w s) ∧ exec (.wJalr b t k n a) s = .next (threadFault u 2 0 x v s))) ∧
  -- what retiring does (R312, R319, R334): the PC moves, INSTRET advances by one, and no other register and no byte of memory changes; the thread's own files stay as the instruction left them, those of every other thread as they were; a result to g0 is discarded and one to another register is what that register then holds.
  (∀ (s : State) (b : Fin 128) (t : Fin 4) (d : Fin 64) (v : Word) (pc : Nat),
    let u := unitOf b t
    let r := retireTo u pc s
    thPc r u = pc % 2 ^ 64 ∧ r.rdN (ENG_B_T_INSTRET b t) = (s.rdN (ENG_B_T_INSTRET b t) + 1) % 2 ^ 64 ∧
    SameRegs s r [ENG_B_T_PC b t, ENG_B_T_INSTRET b t] ∧ SameBytes s r ∧ (∀ w, SameFiles s r w) ∧
    retire u s = retireTo u (thPc s u + 4) s ∧
    (∀ k, getG (setG u d v s) u k = if k = 0 then 0#64 else if k = d.val then v else getG s u k) ∧
    (∀ w, w ≠ u → SameFiles s (setG u d v s) w) ∧ SameBytes s (setG u d v s) ∧ SameRegs s (setG u d v s) []) ∧
  -- TSTART and TSTOP (R333, R343) of a thread whose PRIV is 1 start an EMPTY slot of its bobbin at g_b with its own CFG, find another slot BUSY, and stop a slot; without PRIV they fault with cause NOT_PERMITTED. Where the spec leaves a corner of this open, what it says is the model's choice (log entries 29, 51).
  (∀ (s : State) (b : Fin 128) (t : Fin 4) (a c : Fin 64), Issues s b t →
    let u := unitOf b t
    let v := 4 * b.val + (getG s u a).toNat % 4
    let k := (getG s u a).toNat % 4
    (thPriv s u = false → ∃ w w', exec (.wTstart b t a c) s = .next (threadFault u 3 0 (thPc s u) w s) ∧ exec (.wTstop b t a) s = .next (threadFault u 3 0 (thPc s u) w' s)) ∧
    (thPriv s u = true → thState s v ≠ 0 → exec (.wTstart b t a c) s = .next (retire u (setOpst u 4 s))) ∧
    (thPriv s u = true → thState s v = 0 →
      exec (.wTstart b t a c) s = .next (retire u (setOpst u 0 (startThread v (getG s u c).toNat (s.wr (ENG_B_T_CFG b k) (s.rd (ENG_B_T_CFG b t))))))) ∧
    (thPriv s u = true → v ≠ u → exec (.wTstop b t a) s = .next (retire u (cmdStop v s))) ∧
    (thPriv s u = true → v = u → exec (.wTstop b t a) s = .next (cmdStop u s))) ∧
  -- a word that decodes to no instruction faults the thread with cause ILLEGAL and FADDR its PC (R311, R339; that FADDR is the PC is the model's reading, log entry 51).
  (∀ (s : State) (b : Fin 128) (t : Fin 4) (w : BitVec 32) (off : BitVec 17), Issues s b t → decodeW b t 0 w.toNat = none →
    exec (.illegalInstruction b t w 0 off) s = .next (threadFault (unitOf b t) 1 0 (thPc s (unitOf b t)) w.toNat s)) ∧
  -- a faulting thread stands in FAULT with its cause and address recorded; its PC, its files, the pads and the shared memories are as they were (R339).
  (∀ (s : State) (b : Fin 128) (t : Fin 4) (cause trap addr word : Nat), cause < 16 → trap < 4096 → addr < 2 ^ 64 →
    let u := unitOf b t
    let y := threadFault u cause trap addr word s
    thState y u = 5 ∧ y.rdN (ENG_B_T_FAULT b t) = cause + 16 * trap ∧ y.rdN (ENG_B_T_FADDR b t) = addr ∧ thPc y u = thPc s u ∧
      (∀ w, SameFiles s y w) ∧ y.padMem = s.padMem ∧ y.pilMem = s.pilMem)

/-- LoadAndStoreResults: What a load writes, what a store writes and where, and when each faults. -/
def Obligations.LoadAndStoreResults : Prop :=
  -- a load (R320) of an aligned address in a pad, a pillow's shared memory, host memory or good device memory retires with what stands there in g_d, sign- or zero-extended; device memory sees a request. A load of a misaligned address faults with cause MISALIGN.
  (∀ (s : State) (b : Fin 128) (t : Fin 4) (d a : Fin 64) (o : BitVec 12), Issues s b t →
    let u := unitOf b t
    let va := (getG s u a + o.signExtend 64).toNat
    let forms : List (Instr × Nat × (Nat → Word)) :=
      [(.wLb b t d a o 0, 1, fun v => BitVec.ofInt 64 (sext v 8)), (.wLbu b t d a o 0, 1, fun v => BitVec.ofNat 64 v),
       (.wLh b t d a o 0, 2, fun v => BitVec.ofInt 64 (sext v 16)), (.wLhu b t d a o 0, 2, fun v => BitVec.ofNat 64 v),
       (.wLw b t d a o 0, 4, fun v => BitVec.ofInt 64 (sext v 32)), (.wLwu b t d a o 0, 4, fun v => BitVec.ofNat 64 v),
       (.wLd b t d a o 0, 8, fun v => BitVec.ofNat 64 v), (.wLda b t d a o 0, 8, fun v => BitVec.ofNat 64 v), (.wLwa b t d a o 0, 4, fun v => BitVec.ofNat 64 v)]
    ∀ i n f, (i, n, f) ∈ forms →
      (va % n ≠ 0 → ∃ w, exec i s = .next (threadFault u 2 0 va w s)) ∧
      (va % n = 0 → ∀ p, place s u va akREAD = .pad p → localBad true p n s = false → exec i s = .next (retire u (setG u d (f (readNat s.padMem p n)) s))) ∧
      (va % n = 0 → ∀ p, place s u va akREAD = .pil p → localBad false p n s = false → exec i s = .next (retire u (setG u d (f (readNat s.pilMem p n)) s))) ∧
      (va % n = 0 → ∀ g, place s u va akREAD = .mem g → (g.host = false → badBurst s g.addr = false ∧ readsBad s g n = false ∧ s.flag MEM_CTL_NB_EN = false) →
        exec i s = .next (retire u (setG u d (f (leNat (loadAt s g n))) (if g.host then keepXlat (thAsid s u) va s else memArrive s)))) ∧
      (va % n = 0 → ∀ off, place s u va akREAD = .io off →
        exec i s = .next (retire u (setG u d (f (busRead 0 off n s).2) (busRead 0 off n s).1)))) ∧
  -- a store (R320) of an aligned address in a pad, a pillow's shared memory, host or device memory, or the I/O window leaves the low bytes of g_d there and retires, and in device memory may end an entry into self-refresh; one of a misaligned address faults with cause MISALIGN.
  (∀ (s : State) (b : Fin 128) (t : Fin 4) (d a : Fin 64) (o : BitVec 12), Issues s b t →
    let u := unitOf b t
    let va := (getG s u a + o.signExtend 64).toNat
    let v := (getG s u d).toNat
    let forms : List (Instr × Nat) := [(.wSb b t d a o, 1), (.wSh b t d a o, 2), (.wSw b t d a o, 4), (.wSd b t d a o, 8), (.wSwr b t d a o, 4), (.wSdr b t d a o, 8)]
    ∀ i n, (i, n) ∈ forms →
      (va % n ≠ 0 → ∃ w, exec i s = .next (threadFault u 2 0 va w s)) ∧
      (va % n = 0 → ∀ p, place s u va akWRITE = .pad p → ∃ y, exec i s = .next (retire u y) ∧ y.padMem = writeMem s.padMem p (leBytes n v) ∧ y.pilMem = s.pilMem ∧
        y.dram = s.dram ∧ y.host = s.host ∧ y.regs = s.regs ∧ y.threads = s.threads) ∧
      (va % n = 0 → ∀ p, place s u va akWRITE = .pil p → ∃ y, exec i s = .next (retire u y) ∧ y.pilMem = writeMem s.pilMem p (leBytes n v) ∧ y.padMem = s.padMem ∧
        y.dram = s.dram ∧ y.host = s.host ∧ y.regs = s.regs ∧ y.threads = s.threads) ∧
      (va % n = 0 → ∀ g, place s u va akWRITE = .mem g → (g.host = false → s.flag MEM_CTL_NB_EN = false) → ∃ y, exec i s = .next (retire u y) ∧
        y.dram = (if g.host then s.dram else writeMem s.dram g.addr (leBytes n v)) ∧ y.host = (if g.host then writeMem s.host g.addr (leBytes n v) else s.host) ∧
        y.padMem = s.padMem ∧ y.pilMem = s.pilMem ∧ (∀ r, r / 0x100000 ≠ 8 → y.rd r = s.rd r) ∧ y.threads = s.threads) ∧
      (va % n = 0 → ∀ off, place s u va akWRITE = .io off → exec i s = .next (retire u (busWrite 0 off n (v % 2 ^ (8 * n)) s))))

/-- AtomicsAndFences: What the atomic, fence and CSR instructions do. -/
def Obligations.AtomicsAndFences : Prop :=
  -- an atomic (R321) on an aligned address of a pad leaves the new value there and retires with the old one in g_d; in the I/O window and in host memory it faults with cause ATOM_SPACE, and at a misaligned address with cause MISALIGN. Where the spec leaves a corner of this open, what it says is the model's choice (log entry 29).
  (∀ (s : State) (b : Fin 128) (t : Fin 4) (d a c : Fin 64), Issues s b t →
    let u := unitOf b t
    let va := (getG s u a).toNat
    let y := (getG s u c).toNat
    let e := (getG s u d).toNat
    let forms : List (Instr × Nat × (Nat → Nat)) :=
      [(.wSwap b t d a c 0, 8, fun _ => y), (.wAadd b t d a c 0, 8, fun m => (m + y) % 2 ^ 64), (.wAand b t d a c 0, 8, fun m => m &&& y),
       (.wAor b t d a c 0, 8, fun m => m ||| y), (.wAmaxu b t d a c 0, 8, fun m => max m y), (.wCas b t d a c 0, 8, fun m => if m = e then y else m),
       (.wAaddw b t d a c 0, 4, fun m => (m + y) % 2 ^ 32), (.wCasw b t d a c 0, 4, fun m => if m = e % 2 ^ 32 then y % 2 ^ 32 else m)]
    ∀ i n f, (i, n, f) ∈ forms →
      (va % n ≠ 0 → ∃ w, exec i s = .next (threadFault u 2 0 va w s)) ∧
      (va % n = 0 → ∀ p, place s u va akATOMIC = .pad p → localBad true p n s = false → ∃ z, exec i s = .next (retire u (setG u d (BitVec.ofNat 64 (readNat s.padMem p n)) z)) ∧
        z.padMem = writeMem s.padMem p (leBytes n (f (readNat s.padMem p n))) ∧ z.pilMem = s.pilMem ∧ z.dram = s.dram ∧ z.host = s.host ∧ z.regs = s.regs ∧ z.threads = s.threads) ∧
      (va % n = 0 → ∀ p, place s u va akATOMIC = .pil p → localBad false p n s = false → ∃ z, exec i s = .next (retire u (setG u d (BitVec.ofNat 64 (readNat s.pilMem p n)) z)) ∧
        z.pilMem = writeMem s.pilMem p (leBytes n (f (readNat s.pilMem p n))) ∧ z.padMem = s.padMem ∧ z.dram = s.dram ∧ z.host = s.host ∧ z.regs = s.regs ∧ z.threads = s.threads) ∧
      (va % n = 0 → ∀ off, place s u va akATOMIC = .io off → ∃ w, exec i s = .next (threadFault u 4 0 va w s)) ∧
      (va % n = 0 → ∀ c l, place s u va akATOMIC = .miss c l true → ∃ w, exec i s = .next (threadFault u 4 0 va w s)) ∧
      (va % n = 0 → ∀ g, place s u va akATOMIC = .mem g → (g.host = false → badBurst s g.addr = false ∧ readsBad s g n = false ∧ s.flag MEM_CTL_NB_EN = false) → ∃ w z,
        exec i s = .next (if g.host then threadFault u 4 0 va w s else retire u (setG u d (BitVec.ofNat 64 (readNat s.dram g.addr n)) z)) ∧
        z.dram = writeMem s.dram g.addr (leBytes n (f (readNat s.dram g.addr n))) ∧ z.padMem = s.padMem ∧ z.pilMem = s.pilMem ∧ z.host = s.host ∧ (∀ r, r / 0x100000 ≠ 8 → z.rd r = s.rd r) ∧ z.threads = s.threads)) ∧
  -- the fences complete and change nothing else (R321); control registers return their old value and take the new (R333, R334); HALT halts after itself, TRAP faults with its code, BKPT does nothing where DBG_EN is 0 and halts before itself where it is 1; YIELD retires (R333, R347). Where the spec leaves a corner of this open, what it says is the model's choice (log entries 29, 51).
  (∀ (s : State) (b : Fin 128) (t : Fin 4) (d a : Fin 64) (n : Fin 11) (v : BitVec 12), Issues s b t →
    let u := unitOf b t
    let x := getG s u a
    (∀ i ∈ [Instr.wFenceR b t, .wFenceW b t, .wFenceRw b t, .wFenceIo b t, .wFenceI b t], exec i s = .next (retire u s)) ∧
    (∃ old, csrRead s u n = some old ∧ exec (.wCsrr b t d n) s = .next (retire u (setG u d old s)) ∧
      exec (.wCsrw b t d a n) s = .next (retire u (setG u d old (csrWrite u n x s))) ∧
      exec (.wCsrs b t d a n) s = .next (retire u (setG u d old (csrWrite u n (old ||| x) s))) ∧
      exec (.wCsrc b t d a n) s = .next (retire u (setG u d old (csrWrite u n (old &&& ~~~x) s)))) ∧
    exec (.wHalt b t) s = .next (haltThread u 0 (retire u s)) ∧
    (∃ w, exec (.wTrap b t v) s = .next (threadFault u 6 v.toNat (thPc s u) w s)) ∧
    (s.flag (ENG_B_CTL_DBG_EN b) = false → exec (.wBkpt b t) s = .next (retire u s)) ∧
    (s.flag (ENG_B_CTL_DBG_EN b) = true → (s.th u).bpPass = false → exec (.wBkpt b t) s = .next (haltThread u 3 s)) ∧
    (∃ l, exec (.wYield b t) s = .next (updTh u (fun z => { z with yieldFor := l }) (retire u s)) ∧
      ∀ w, w ∈ l ↔ (w / 4 = u / 4 ∧ w ≠ u ∧ thState s w = 1 ∧ (s.th w).tpri = (s.th u).tpri)))

/-- VectorResults: What the vector, vector-memory and move instructions do. -/
def Obligations.VectorResults : Prop :=
  -- the element-wise vector operations (R322) retire with each element of v_d as the manual gives it.
  (∀ (s : State) (b : Fin 128) (t : Fin 4) (w : Fin 4) (d a c : Fin 16), Issues s b t →
    let u := unitOf b t
    let width := 8 * 2 ^ w.val
    let el := fun (r : Fin 16) (i : Nat) => (getV s u r).toNat / 2 ^ (width * i) % 2 ^ width
    let gives := fun (j : Instr) (f : Nat → Nat → Nat → Nat) =>
      ∃ v : Vec, exec j s = .next (retire u (setV u d v s)) ∧
        ∀ i, i < 256 / width → v.toNat / 2 ^ (width * i) % 2 ^ width = f (el a i) (el c i) (el d i) % 2 ^ width
    let sg := fun (x : Nat) => if x < 2 ^ (width - 1) then (x : Int) else (x : Int) - 2 ^ width
    gives (.wVadd b t w d a c) (fun x y _ => x + y) ∧ gives (.wVsub b t w d a c) (fun x y _ => x + (2 ^ width - y)) ∧
    gives (.wVand b t w d a c) (fun x y _ => x &&& y) ∧ gives (.wVor b t w d a c) (fun x y _ => x ||| y) ∧ gives (.wVxor b t w d a c) (fun x y _ => x ^^^ y) ∧
    gives (.wVminu b t w d a c) (fun x y _ => min x y) ∧ gives (.wVmaxu b t w d a c) (fun x y _ => max x y) ∧
    gives (.wVmin b t w d a c) (fun x y _ => if sg x < sg y then x else y) ∧ gives (.wVmax b t w d a c) (fun x y _ => if sg x < sg y then y else x) ∧
    gives (.wVshl b t w d a c) (fun x y _ => x * 2 ^ (y % width)) ∧ gives (.wVshr b t w d a c) (fun x y _ => x / 2 ^ (y % width)) ∧
    gives (.wVcmpeq b t w d a c) (fun x y _ => if x = y then 2 ^ width - 1 else 0) ∧ gives (.wVcmplt b t w d a c) (fun x y _ => if sg x < sg y then 2 ^ width - 1 else 0) ∧
    gives (.wVsel b t w d a c) (fun x y z => if z ≠ 0 then x else y) ∧
    (∀ h : w.val < 3, gives (.wVmul b t ⟨w.val, h⟩ d a c) (fun x y _ => x * y)) ∧
    (∀ h : w.val < 2, gives (.wVaddus b t ⟨w.val, h⟩ d a c) (fun x y _ => min (x + y) (2 ^ width - 1)))) ∧
  -- VSPLAT, VEXT, VINS, VREDADD, VPERM, VTRANS and the vector floating-point operations (R322) retire with their result; an index at or beyond 256 / w is illegal. Where the spec leaves a corner of this open, what it says is the model's choice (log entry 51).
  (∀ (s : State) (b : Fin 128) (t : Fin 4) (w : Fin 4) (k : Fin 32) (g : Fin 64) (d a c : Fin 16), Issues s b t →
    let u := unitOf b t
    let width := 8 * 2 ^ w.val
    let at_ := fun (v : Vec) (wd i : Nat) => v.toNat / 2 ^ (wd * i) % 2 ^ wd
    (∃ v : Vec, exec (.wVsplat b t w d g) s = .next (retire u (setV u d v s)) ∧ ∀ i, i < 256 / width → at_ v width i = (getG s u g).toNat % 2 ^ width) ∧
    (k.val < 256 / width → exec (.wVext b t w g a k) s = .next (retire u (setG u g (BitVec.ofNat 64 (at_ (getV s u a) width k)) s))) ∧
    (k.val < 256 / width → ∃ v : Vec, exec (.wVins b t w d g k) s = .next (retire u (setV u d v s)) ∧
      ∀ i, i < 256 / width → at_ v width i = if i = k.val then (getG s u g).toNat % 2 ^ width else at_ (getV s u d) width i) ∧
    (256 / width ≤ k.val → ∃ x y, exec (.wVext b t w g a k) s = .next (threadFault u 1 0 (thPc s u) x s) ∧ exec (.wVins b t w d g k) s = .next (threadFault u 1 0 (thPc s u) y s)) ∧
    exec (.wVredadd b t w g a) s = .next (retire u (setG u g (BitVec.ofNat 64 ((List.range (256 / width)).map (at_ (getV s u a) width)).sum) s)) ∧
    (∃ v : Vec, exec (.wVperm b t d a c) s = .next (retire u (setV u d v s)) ∧ ∀ i, i < 32 → at_ v 8 i = at_ (getV s u a) 8 (at_ (getV s u c) 8 i % 32)) ∧
    (∃ v : Vec, exec (.wVtrans b t d a) s = .next (retire u (setV u d v s)) ∧
      ∀ i j, i < 16 → j < 16 → v.getLsbD (16 * j + i) = (getV s u a).getLsbD (16 * i + j)) ∧
    (∃ v e, exec (.wVfadd b t d a c) s = .next (retire u (setV u d v (raise u e s))) ∧ ∀ i, i < 8 → at_ v 32 i = (fadd (at_ (getV s u a) 32 i) (at_ (getV s u c) 32 i)).v % 2 ^ 32) ∧
    (∃ v e, exec (.wVfmul b t d a c) s = .next (retire u (setV u d v (raise u e s))) ∧ ∀ i, i < 8 → at_ v 32 i = (fmul (at_ (getV s u a) 32 i) (at_ (getV s u c) 32 i)).v % 2 ^ 32) ∧
    (∃ v e, exec (.wVfma b t d a c) s = .next (retire u (setV u d v (raise u e s))) ∧
      ∀ i, i < 8 → at_ v 32 i = (fma (at_ (getV s u d) 32 i) (at_ (getV s u a) 32 i) (at_ (getV s u c) 32 i)).v % 2 ^ 32)) ∧
  -- VLD and VST (R323) in a pad; MOVE starts a move while fewer than 8 are outstanding, and a ninth waits (R324); MWAIT with none outstanding returns the status of the first failed move, or OK, and else waits (R323). Where the spec leaves a corner of this open, what it says is the model's choice (log entry 34).
  (∀ (s : State) (b : Fin 128) (t : Fin 4) (v : Fin 16) (l a e d : Fin 64) (o : BitVec 12), Issues s b t →
    let u := unitOf b t
    let va := (getG s u a + 32#64 * o.signExtend 64).toNat
    let src := (getG s u a).toNat
    let dst := (getG s u e).toNat
    let len := (getG s u l).toNat
    (va % 32 ≠ 0 → ∃ w w', exec (.wVld b t v a o 0) s = .next (threadFault u 2 0 va w s) ∧ exec (.wVst b t v a o) s = .next (threadFault u 2 0 va w' s)) ∧
    (va % 32 = 0 → ∀ p, place s u va akREAD = .pad p → localBad true p 32 s = false →
      exec (.wVld b t v a o 0) s = .next (retire u (setV u v (BitVec.ofNat 256 (readNat s.padMem p 32)) s))) ∧
    (va % 32 = 0 → ∀ p, place s u va akWRITE = .pad p → ∃ y, exec (.wVst b t v a o) s = .next (retire u y) ∧
      y.padMem = writeMem s.padMem p (leBytes 32 (getV s u v).toNat) ∧ y.pilMem = s.pilMem ∧ y.dram = s.dram ∧ y.host = s.host ∧ y.regs = s.regs) ∧
    ((liveMoves s u).length < 8 → 1 ≤ len → len ≤ 2 ^ 24 → ∃ k, k < 8 ∧ (getMove s u k).valid = false ∧
      exec (.wMove b t l a e) s = .next (retire u (setMove u k { valid := true, src := src, dst := dst, left := len } s))) ∧
    (8 ≤ (liveMoves s u).length → 1 ≤ len → len ≤ 2 ^ 24 →
      exec (.wMove b t l a e) s = .next (setThState u 2 (updTh u (fun r => { r with wait := .slot src dst len }) s))) ∧
    (len = 0 ∨ 2 ^ 24 < len → exec (.wMove b t l a e) s = .next (retire u (updTh u (fun r => { r with moveFail := some (r.moveFail.getD 12) }) s))) ∧
    ((liveMoves s u) = [] → ∃ st, st = (s.th u).moveFail.getD 0 ∧
      exec (.wMwait b t d) s = .next (retire u (setG u d (BitVec.ofNat 64 st) (setOpst u st (updTh u (fun r => { r with moveFail := none }) s))))) ∧
    ((liveMoves s u) ≠ [] → exec (.wMwait b t d) s = .next (setThState u 2 (updTh u (fun r => { r with wait := .moves d }) s))))

/-- QueueInstructions: What QPOP, QWAIT, QPROG, QDONE, QCHK, QPUSH and QEVENT do (in part the model's choice: log entry 50). -/
def Obligations.QueueInstructions : Prop :=
  -- QPOP, QWAIT and QWAIT_WAKE (R325, R326) give the address of the oldest unclaimed entry to one thread, which then holds the claim; a queue that the pillow may not use gives NOT_PERMITTED and does nothing, one that is no submission queue gives 0 and BAD_DESC; with no entry QPOP returns 0 (its OPST there is the model's choice, log entry 50) and QWAIT waits. Where the spec leaves a corner of this open, what it says is the model's choice (log entry 50).
  (∀ (s : State) (b : Fin 128) (t : Fin 4) (d a : Fin 64) (g : Target),
    let u := unitOf b t
    let q := (getG s u a).toNat % 4096
    let entry := BitVec.ofNat 64 (qBase s q + 64 * qHead s q)
    (Issues s b t → Claimable s u q g → ∃ y, ClaimedBy s y u q g ∧
      exec (.wQpop b t d a) s = .next (retire u (setOpst u 0 (setG u d entry y))) ∧ exec (.wQwait b t d a) s = .next (retire u (setOpst u 0 (setG u d entry y)))) ∧
    (Issues s b t → qType s q = 0 → (qServer s q ≠ 2 ∨ granted s u q = false) →
      exec (.wQpop b t d a) s = .next (retire u (setOpst u 13 s)) ∧ exec (.wQwait b t d a) s = .next (retire u (setOpst u 13 s))) ∧
    (Issues s b t → qType s q ≠ 0 → exec (.wQpop b t d a) s = .next (retire u (setOpst u 12 (setG u d 0#64 s)))) ∧
    (Issues s b t → qType s q = 0 → qServer s q = 2 → granted s u q = true → qPresent s q = 0 →
      exec (.wQpop b t d a) s = .next (retire u (setOpst u 0 (setG u d 0#64 s))) ∧
      exec (.wQwait b t d a) s = .next (setThState u 2 (updTh u (fun r => { r with wait := .queue q d }) s))) ∧
    (∀ (p e : Nat), s.clocked = true → (s.th u).wait = .queue p e → thState s u = 2 → Claimable s u p g → ∃ y, ClaimedBy s y u p g ∧
      exec (.qwaitWake b t) s = .next (retire u (setThState u 1 (setOpst u 0 (setG u e (BitVec.ofNat 64 (qBase s p + 64 * qHead s p)) y)))))) ∧
  -- QPROG records the resume offset, QCHK tells whether an abort was requested, and QDONE completes the entry with its status, or with ABORTED and the recorded offset where the abort came first (R325 to R327); a status of 0x10 or above does nothing. Where the spec leaves a corner of this open, what it says is the model's choice (log entry 50).
  (∀ (s : State) (b : Fin 128) (t : Fin 4) (d a e : Fin 64) (q : Nat) (c : Claim), Issues s b t →
    let u := unitOf b t
    let va := (getG s u a).toNat
    let st := (getG s u e).toNat % 256
    (EntryOf s u va q c → exec (.wQprog b t d a e) s = .next (retire u (setOpst u 0 (updClaim q c.idx (fun r => { r with prog := (getG s u e).toNat }) s)))) ∧
    (EntryOf s u va q c → exec (.wQchk b t d a) s = .next (retire u (setOpst u 0 (setG u d (if c.aborted = none then 0#64 else 1#64) s)))) ∧
    (st < 16 → EntryOf s u va q c → c.aborted ≠ none →
      exec (.wQdone b t d a e) s = .next (retire u (setOpst u 0 (setG u d 2#64 (commit q c.idx c.desc 2 c.prog [] s))))) ∧
    (st < 16 → EntryOf s u va q c → c.aborted = none → ∃ r, (st ≠ 2 → st ≠ 5 → r = 0) ∧
      exec (.wQdone b t d a e) s = .next (retire u (setOpst u 0 (setG u d (BitVec.ofNat 64 st) (commit q c.idx c.desc st r [] s))))) ∧
    (16 ≤ st → exec (.wQdone b t d a e) s = .next (retire u (setOpst u 12 s)))) ∧
  -- a committed entry is claimed no longer and its outcome stands; the thread's own files, the pads and the shared memories are as they were (R327, R423). In a queue that drains, nothing is written (R433).
  (∀ (s : State) (q idx st resume : Nat) (d res : List Byte),
    let y := commit q idx d st resume res s
    y.threads = s.threads ∧ y.padMem = s.padMem ∧ y.pilMem = s.pilMem ∧ y.store = s.store ∧
    (qState s q = 3 → (y.queue q).claims = (s.queue q).claims.filter (fun c => c.idx != idx) ∧
      kget (fun _ => none) (y.queue q).ended idx = some (dTag d, st) ∧ SameBytes s y ∧ SameRegs s y [QUE_ABORT_STAT q])) ∧
  -- QPUSH of 64 bytes of the pad appends them at TAIL and moves it (R325, R411, R412); a full ring gives BUSY, a queue that is no SQ with PRODUCER, or not granted, NOT_PERMITTED. QEVENT writes a record with the block's fields (R325, R15), and to a ring of another kind gives BAD_DESC. Where the spec leaves a corner of this open, what it says is the model's choice (log entry 50).
  (∀ (s : State) (b : Fin 128) (t : Fin 4) (d a c : Fin 64) (p : Nat) (g : Target), Issues s b t →
    let u := unitOf b t
    let q := (getG s u a).toNat % 4096
    let va := (getG s u c).toNat
    let usable := qType s q = 0 ∧ s.flag (QUE_Q_CTL_PRODUCER q) = true ∧ granted s u q = true
    (¬ usable → exec (.wQpush b t d a c) s = .next (retire u (setOpst u 13 s))) ∧
    (usable → qLive s q = true → qSize s q - 1 ≤ qPresent s q → exec (.wQpush b t d a c) s = .next (retire u (setOpst u 4 s))) ∧
    (usable → qLive s q = true → qPresent s q < qSize s q - 1 → PadBlock s u va p 64 →
      xlate s (qAsid s q) (qOwner s q) (qBase s q + 64 * qTail s q) akWRITE = .ok g →
      ∃ y, exec (.wQpush b t d a c) s = .next (retire u (setOpst u 0 y)) ∧ qTail y q = (qTail s q + 1) % qSize s q ∧ SameOutsideMem s y [QUE_Q_TAIL q] ∧ y.threads = s.threads ∧
        (g.host = true → y.host = writeMem s.host g.addr (readMem s.padMem p 64) ∧ y.dram = s.dram) ∧
        (g.host = false → y.dram = writeMem s.dram g.addr (readMem s.padMem p 64) ∧ y.host = s.host)) ∧
    (qType s q ≠ 2 → exec (.wQevent b t d a c) s = .next (retire u (setOpst u 12 s))) ∧
    (qType s q = 2 → granted s u q = true → qLive s q = true → PadBlock s u va p 32 → ∃ e : EventRec, ∃ r : State × List EventRec,
      e.time = s.showTime ∧ e.block = readNat s.padMem (p + 8) 1 ∧ e.sev = readNat s.padMem (p + 9) 1 ∧ e.code = readNat s.padMem (p + 10) 2 ∧
      e.loc = readNat s.padMem (p + 12) 4 ∧ e.arg = readNat s.padMem (p + 16) 8 ∧ r = eqPut q e s ∧
      exec (.wQevent b t d a c) s = .next (retire u (setOpst u 0 (emitAll r.2 r.1)))))

/-- PhaseAndMailboxes: What the phase instructions, mailboxes and barriers do, and when a wait ends. -/
def Obligations.PhaseAndMailboxes : Prop :=
  -- PHREAD, PHWAIT, SHOWTIME and PINPOST (R328 to R330) on timebase g_a, and the waking of a PHWAIT (R329). Where the spec leaves a corner of this open, what it says is the model's choice (log entry 34).
  (∀ (s : State) (b : Fin 128) (t : Fin 4) (d a c : Fin 64) (p : Nat), Issues s b t →
    let u := unitOf b t
    let n := (getG s u a).toNat
    let target := getG s u c
    let now := BitVec.ofNat 64 (s.phase n)
    let gives := fun (v : Word) (st : Nat) => Host.Outcome.next (φ := Fault) (ρ := Refusal) (retire u (setOpst u st (setG u d v s)))
    exec (.wShowtime b t d) s = gives (BitVec.ofNat 64 s.showTime) 0 ∧
    (n < 4 → exec (.wPhread b t d a) s = gives now 0) ∧
    (n < 4 → s.tbState n = 0 → exec (.wPhwait b t d a c) s = gives (BitVec.allOnes 64) 7) ∧
    (n < 4 → s.tbState n ≠ 0 → (target - now).toInt ≤ 0 → exec (.wPhwait b t d a c) s = gives now 0) ∧
    (n < 4 → s.tbState n ≠ 0 → 0 < (target - now).toInt →
      exec (.wPhwait b t d a c) s = .next (setThState u 2 (updTh u (fun r => { r with wait := .phase n target.toNat d }) s))) ∧
    (n < 4 → s.tbState n = 0 → exec (.wPinpost b t d a c) s = .next (retire u (setOpst u 7 s))) ∧
    (n < 4 → s.tbState n ≠ 0 → PadBlock s u target.toNat p 16 →
      let pin := pinOf (readMem s.padMem p 16)
      let full := 64 ≤ (s.tb n).posted.length + ((s.tb n).dispatched.filter (fun x => x.posted)).length
      (postable s n pin = false → exec (.wPinpost b t d a c) s = .next (retire u (setOpst u 12 s))) ∧
      (postable s n pin = true → full → exec (.wPinpost b t d a c) s = .next (retire u (setOpst u 4 s))) ∧
      (postable s n pin = true → ¬ full →
        exec (.wPinpost b t d a c) s = .next (retire u (setOpst u 0 (s.setTb n { s.tb n with posted := (s.tb n).posted ++ [(s.now + 2000, pin)] })))))) ∧
  -- a PHWAIT returns to RUN as its phase is reached, within 100 ns, with the phase then and OK; a WAITEV whose time comes returns with TIMEOUT and a free value (R328, R329). A boundary that comes before the phase is passed first (CYCLE_BOUNDARY). Where the spec leaves a corner of this open, what it says is the model's choice (log entries 6, 34).
  (∀ (s : State) (b : Fin 128) (t : Fin 4) (lag : Fin 101) (n target d dl : Nat), s.clocked = true →
    let u := unitOf b t
    let dt := if reached s n target then 0 else toPhase s n target
    let z := passTime (dt + lag.val) s
    thState s u = 2 →
    ((s.th u).wait = .phase n target d → s.tbState n ≠ 0 → dt ≤ toBoundary s n →
      exec (.phwaitWake b t lag) s = .next (retire u (setThState u 1 (setOpst u 0 (setG u d (BitVec.ofNat 64 (z.phase n)) z))))) ∧
    ((s.th u).wait = .mail d (some dl) → ∃ v x, x = passTime (dl - s.now) s ∧
      exec (.waitevTimeout b t) s = .next (retire u (setThState u 1 (setOpst u 11 (setG u d v { x with freeCtr := x.freeCtr + 1 })))))) ∧
  -- WAITEV, SIGNAL and BARRIER (R328, R331, R332): a full mailbox is emptied, an empty one is waited for; a bobbin above 127 is refused; the first to arrive fixes the count, another count is refused, and the last lets all of them run. Where the spec leaves a corner of this open, what it says is the model's choice (log entry 34).
  (∀ (s : State) (b : Fin 128) (t : Fin 4) (d a c : Fin 64), Issues s b t →
    let u := unitOf b t
    let x := (getG s u a).toNat
    let y := (getG s u c).toNat
    let j := 16 * (u / 64) + x
    let l := (s.barrier j).arrived
    let waits := fun (w : Waiting) (z : State) => Host.Outcome.next (φ := Fault) (ρ := Refusal) (setThState u 2 (updTh u (fun r => { r with wait := w }) z))
    ((s.th u).mailFull = true →
      exec (.wWaitev b t d c) s = .next (retire u (setOpst u 0 (setG u d (s.th u).mail (updTh u (fun r => { r with mailFull := false, lossRun := false }) s))))) ∧
    ((s.th u).mailFull = false → y = 0 → exec (.wWaitev b t d c) s = waits (.mail d none) s) ∧
    ((s.th u).mailFull = false → y ≠ 0 → exec (.wWaitev b t d c) s = waits (.mail d (some (s.now + y))) s) ∧
    (512 ≤ x → exec (.wSignal b t d a c) s = .next (retire u (setOpst u 12 s))) ∧
    (x < 512 → exec (.wSignal b t d a c) s = .next (retire u (setOpst u 0 (deliverMail (4 * (x % 128) + x / 128) (getG s u c) s)))) ∧
    (x < 16 → 1 ≤ y → y ≤ 64 →
      (l = [] → y = 1 → exec (.wBarrier b t d a c) s = .next (retire u (setOpst u 0 (s.setBarrier j {})))) ∧
      (l = [] → y ≠ 1 → exec (.wBarrier b t d a c) s = waits (.barrier j) (s.setBarrier j { count := y, arrived := [u] })) ∧
      (l ≠ [] → (s.barrier j).count ≠ y → exec (.wBarrier b t d a c) s = .next (retire u (setOpst u 12 s))) ∧
      (l ≠ [] → (s.barrier j).count = y → l.length + 1 < y → exec (.wBarrier b t d a c) s = waits (.barrier j) (s.setBarrier j { count := y, arrived := l ++ [u] })) ∧
      (l ≠ [] → (s.barrier j).count = y → l.length + 1 = y → (∀ w ∈ l, w < 512) → ∃ z, exec (.wBarrier b t d a c) s = .next (retire u (setOpst u 0 z)) ∧
        z.barrier j = {} ∧ ∀ w ∈ l, thState z w = 1))) ∧
  -- a delivery to an EMPTY slot is dropped, one to a full mailbox replaces the value, and each advances WAKE_LOST; else the value goes to the thread that waits for it, or stays in the mailbox (R331). A WAKE pin that fires delivers its argument to the thread its target names. Where the spec leaves a corner of this open, what it says is the model's choice (log entry 10).
  (∀ (s : State) (u : Nat) (v : Word) (n : Fin 4) (p : Placed), u < 512 →
    let y := deliverMail u v s
    let lost := ENG_B_T_WAKE_LOST (u / 4) (u % 4)
    let w := 4 * (p.pin.target % 128) + p.pin.target / 128 % 4
    (thState s u = 0 → (y.th u).mail = (s.th u).mail ∧ (y.th u).mailFull = (s.th u).mailFull ∧ (s.rdN lost < 0xFFFFFFFF → y.rdN lost = s.rdN lost + 1)) ∧
    (thState s u ≠ 0 → thState s u ≠ 7 → (s.th u).mailFull = true → (y.th u).mail = v ∧ (y.th u).mailFull = true ∧
      (s.rdN lost < 0xFFFFFFFF → y.rdN lost = s.rdN lost + 1)) ∧
    (thState s u ≠ 0 → thState s u ≠ 7 → (s.th u).mailFull = false →
      (∀ d dl, (s.th u).wait = .mail d dl → thState y u = 1 ∧ (y.th u).mailFull = false ∧ (y.th u).opst = 0 ∧ (d ≠ 0 → getG y u d = v) ∧ y.rdN lost = s.rdN lost) ∧
      ((∀ d dl, (s.th u).wait ≠ .mail d dl) → (y.th u).mail = v ∧ (y.th u).mailFull = true ∧ y.rdN lost = s.rdN lost)) ∧
    (FiresNext s n 11 p → ∃ z, exec (.wake n) s = .next (deliverMail w (BitVec.ofNat 64 p.pin.arg) z) ∧ Fired s z p))

/-- RegisterAccesses: How a BAR0 access is answered or refused: the register page, MSI-X table, and test access. -/
def Obligations.RegisterAccesses : Prop :=
  -- a write of a whole register leaves each of its fields as its access code says (R6, R8), whatever the register and the value: RW and SH take the value, W1C clears the bits written 1, W1S sets them, RO keeps its own.
  (∀ (off old v : Nat) (r : RegRow) (f : RegField), rowAt off = some r → f ∈ r.fields → old < 2 ^ 64 →
    bits (afterWrite r old v) f.lo f.w = fieldAfter old v f ∧ (f.acc = .rw ∨ f.acc = .sh → fieldAfter old v f = bits v f.lo f.w) ∧
      (f.acc = .ro → fieldAfter old v f = bits old f.lo f.w) ∧ (f.acc = .wo → fieldAfter old v f = 0) ∧
      (∀ k, k < f.w → (f.acc = .w1c → bit (fieldAfter old v f) k = (bit old (f.lo + k) && !bit v (f.lo + k))) ∧
        (f.acc = .w1s → bit (fieldAfter old v f) k = (bit old (f.lo + k) || bit v (f.lo + k))))) ∧
  -- a 32-bit read of the lower half of show time latches the upper half, and the next read of the upper half returns it however much time has passed between (R11); a read of 64 bits returns it whole.
  (∀ (s : State) (dt : Nat), s.clocked = true →
    let off : BitVec 26 := BitVec.ofNat 26 PHS_SHOW_TIME
    let v := s.showTime
    (∃ t, exec (.lowerHalfRead 0 false off true) s = .next t ∧ t.lastRead = BitVec.ofNat 64 v ∧ t.regs = s.regs) ∧
    (∃ t z, exec (.lowerHalfRead 0 false off false) s = .next t ∧ t.lastRead = BitVec.ofNat 64 (v % 2 ^ 32) ∧
      exec (.lowerHalfRead 0 false (off + 4) false) (passTime dt t) = .next z ∧ z.lastRead = BitVec.ofNat 64 (v / 2 ^ 32))) ∧
  -- an access of another width, or not aligned, is recorded in GLB_BAD_ADDR and counted, a read of it returns all ones, and nothing else changes but the event's own record (R617). Where the spec leaves a corner of this open, what it says is the model's choice (log entry 18).
  (∀ (s : State) (fn : Fin 64) (off : BitVec 26) (size : Fin 8) (w : Bool), s.mainOn = true → fnOn fn.val s = true → aligned off.toNat (size.val + 1) = false →
    ∃ t, exec (.badWidthAccess fn off size w) s = .next t ∧
      t.rdN GLB_BAD_ADDR = off.toNat + b2n w * 2 ^ 26 + (size.val + 1) * 2 ^ 28 + fn.val * 2 ^ 32 ∧
      (s.rdN GLB_BAD_CNT < 0xFFFFFFFF → t.rdN GLB_BAD_CNT = s.rdN GLB_BAD_CNT + 1) ∧
      (w = false → t.lastRead = BitVec.ofNat 64 (2 ^ (8 * (size.val + 1)) - 1)) ∧
      SameOutsideRings s t [GLB_BAD_ADDR, GLB_BAD_CNT] ∧ t.threads = s.threads ∧ t.padMem = s.padMem ∧ t.pilMem = s.pilMem) ∧
  -- a write of a vector's data in BAR4 is taken, and a read returns it (R402, R406); a 32-bit write of a 32-bit register of BAR0 by the physical function does what that register does with the value (R6, R9).
  (∀ (s : State) (vec : Fin 2048) (v : BitVec 32) (off : BitVec 26), s.mainOn = true →
    let a : BitVec 26 := BitVec.ofNat 26 (16 * vec.val + 8)
    (∃ t, exec (.registerWrite 0 true a false (v.setWidth 64)) s = .next t ∧ (kget (fun _ => {}) t.msix vec.val).data = v ∧ t.regs = s.regs ∧ t.dram = s.dram ∧
      ∃ z, exec (.lowerHalfRead 0 true a false) t = .next z ∧ z.lastRead = v.setWidth 64) ∧
    (off.toNat % 4 = 0 → off.toNat < 0x2000000 → s.served (blockAt off.toNat) = true → isWide off.toNat = false → isUpper off.toNat = false →
      exec (.registerWrite 0 false off false (v.setWidth 64)) s = .next (regWrite off.toNat v.toNat s))) ∧
  -- an access through the TAP (R611): with the lock set nothing is reached and the status is 2; else a read returns what the PF would read, and a write does what the PF's would.
  (∀ (s : State) (d : BitVec 64) (off : BitVec 26) (w wide : Bool), s.bankUp 6 = true → s.power.tap = 0x20 →
    let n := if wide then 8 else 4
    let st := if aligned off.toNat n then 0 else 3
    let reg := fun (v st : Nat) => v % 2 ^ 64 + off.toNat * 2 ^ 64 + b2n w * 2 ^ 90 + b2n wide * 2 ^ 91 + st * 2 ^ 92
    let put := fun (r : Nat) (z : State) => Host.Outcome.next (φ := Fault) (ρ := Refusal) { z with power := { z.power with dbgReg := r } }
    (s.flag DBG_CTL_JTAG_LOCK = true → exec (.dbgAccessUpdate d off w wide) s = put (reg d.toNat 2) s) ∧
    (s.flag DBG_CTL_JTAG_LOCK = false → w = true → exec (.dbgAccessUpdate d off w wide) s = put (reg d.toNat st) (busWrite 0 off.toNat n d.toNat s)) ∧
    (s.flag DBG_CTL_JTAG_LOCK = false → w = false →
      exec (.dbgAccessUpdate d off w wide) s = put (reg (busRead 0 off.toNat n s).2 st) (busRead 0 off.toNat n s).1))

/-- HalfWrites: the halves of a 64-bit register (R10). A write of the lower half holds it aside and changes nothing else; the write of the upper half gives the register the whole value, after which nothing is held aside; a write of the upper half with nothing held aside completes it with the lower half in effect; and a 64-bit write is the one followed by the other. -/
def Obligations.HalfWrites : Prop :=
  ∀ (s : State) (off : BitVec 26) (lo hi : BitVec 32), s.mainOn = true → s.served (blockAt off.toNat) = true → isWide off.toNat = true → off.toNat % 8 = 0 →
    off.toNat + 4 < 0x2000000 →
    let k := off.toNat
    let held := { s with heldLow := kset (fun _ => none) s.heldLow k (some lo) }
    exec (.lowerHalfWrite 0 off lo) s = .next held ∧
    (∀ r, held.rd r = s.rd r) ∧
    exec (.upperHalfWrite 0 off hi) held = .next (takeWhole k (lo.toNat + hi.toNat * 2 ^ 32) held) ∧
    (kget (fun _ => none) s.heldLow k = none → exec (.upperHalfWrite 0 off hi) s = .next (takeWhole k (lowKept k s + hi.toNat * 2 ^ 32) s)) ∧
    exec (.registerWrite 0 false off true (BitVec.ofNat 64 (lo.toNat + hi.toNat * 2 ^ 32))) s = .next (takeWhole k (lo.toNat + hi.toNat * 2 ^ 32) s) ∧
    takeWhole k (lo.toNat + hi.toNat * 2 ^ 32) held = takeWhole k (lo.toNat + hi.toNat * 2 ^ 32) s ∧
    (∀ r f j, rowAt k = some r → f ∈ r.fields → j < 32 → f.lo ≤ j → j < f.lo + f.w →
      bit (lowKept k s) j = ((f.acc == .rw || f.acc == .sh) && bit (s.rdN k) j)) ∧
    (∃ z, takeWhole k (lo.toNat + hi.toNat * 2 ^ 32) held = regWrite k (lo.toNat + hi.toNat * 2 ^ 32) z ∧ kget (fun _ => none) z.heldLow k = none ∧ z.regs = s.regs)

/-- AdaptationGate: an adaptation step is taken only while AEN is 1 and HOLD, OVR and BOUNDS_BAD are 0 (R43); else the parameter, and every other register, keeps its value; a step taken that moves the parameter counts in STEPS. -/
def Obligations.AdaptationGate : Prop :=
  ∀ (s : State) (a : AdaptPar) (want : Int),
    let p := paramOf a
    let t := adaptStep p want s
    let free := s.fld (adpAEN p.adp) = 1 ∧ s.fld (adpHOLD p.adp) = 0 ∧ s.fld (adpOVR p.adp) = 0 ∧ s.fld (adpBOUNDS_BAD p.adp) = 0
    (¬ free → t = s) ∧
    (free → aval t p p.val ≠ aval s p p.val → t.fld (adpSTEPS p.adp) = (s.fld (adpSTEPS p.adp) + 1) % 65536)

/-- Adaptation: What a step of adaptation moves, and what its commands do. -/
def Obligations.Adaptation : Prop :=
  -- a step that would go past a bound leaves the parameter at the bound and sets PINNED; a value found outside its bounds goes to the nearer one; a step inside takes the value asked for and clears PINNED (R44, R45).
  (∀ (s : State) (a : AdaptPar) (want : Int),
    let p := paramOf a
    let t := adaptStep p want s
    let cur := aval s p p.val
    let lo := aval s p p.lo
    let hi := aval s p p.hi
    mayAdapt s p = true → lo ≤ hi →
    (cur < lo → aval t p p.val = lo ∧ t.flag (adpPINNED p.adp) = true ∧ t.flag (adpAT_HI p.adp) = false) ∧
    (hi < cur → aval t p p.val = hi ∧ t.flag (adpPINNED p.adp) = true ∧ t.flag (adpAT_HI p.adp) = true) ∧
    (lo ≤ cur → cur ≤ hi → hi < want → aval t p p.val = hi ∧ t.flag (adpPINNED p.adp) = true ∧ t.flag (adpAT_HI p.adp) = true) ∧
    (lo ≤ cur → cur ≤ hi → want < lo → aval t p p.val = lo ∧ t.flag (adpPINNED p.adp) = true ∧ t.flag (adpAT_HI p.adp) = false) ∧
    (lo ≤ cur → cur ≤ hi → lo ≤ want → want ≤ hi → want ≠ cur → aval t p p.val = want ∧ t.flag (adpPINNED p.adp) = false) ∧
    SameOutsideRings s t [p.val, p.adp]) ∧
  -- a software write of a parameter is taken as written, whatever its bounds, and sets HOLD (R42); RELEASE clears HOLD (R41); after a write of a bound BOUNDS_BAD is 1 exactly while the lower bound exceeds the upper, and the parameter keeps its value (R46).
  (∀ (s : State) (a : AdaptPar) (v : BitVec 32) (hi : Bool), s.clocked = true →
    let p := paramOf a
    (∃ t, exec (.adaptValueWrite a v) s = .next t ∧ t.rdN p.val = v.toNat % 2 ^ p.w ∧ t.flag (adpHOLD p.adp) = true) ∧
    (∃ t, exec (.adaptRelease a) s = .next t ∧ t.flag (adpHOLD p.adp) = false ∧ SameRegs s t [p.adp] ∧ t.rdN p.val = s.rdN p.val) ∧
    (∃ t, exec (.adaptBoundsWrite a hi v) s = .next t ∧ t.rdN (if hi then p.hi else p.lo) = v.toNat % 2 ^ p.w ∧ t.rd p.val = s.rd p.val ∧
      (t.flag (adpBOUNDS_BAD p.adp) = true ↔ aval t p p.hi < aval t p p.lo)))

/-- InvertedBounds: while the lower bound of a parameter exceeds the upper, BOUNDS_BAD is 1, no step is taken and the parameter keeps its value (R46). -/
def Obligations.InvertedBounds : Prop :=
  ∀ (s : State) (a : AdaptPar) (v : BitVec 32) (hi : Bool) (want : Int), s.clocked = true →
    let p := paramOf a
    ∃ t, exec (.adaptBoundsWrite a hi v) s = .next t ∧ (aval t p p.hi < aval t p p.lo →
      t.flag (adpBOUNDS_BAD p.adp) = true ∧ t.rd p.val = s.rd p.val ∧ adaptStep p want t = t)

/-- IncBaseRange: a timebase that is OFF is refused with PRECOND while INC_BASE lies outside 0x0112E0BE to 0x068DB8BAC711 (R50), and stays OFF. -/
def Obligations.IncBaseRange : Prop :=
  ∀ (s : State) (n : Fin 4), s.clocked = true → s.tbState n.val = 0 → s.flag (PHS_TB_STAT_STOP_PEND n.val) = false →
    (s.incBase n.val < 0x0112E0BE ∨ 0x068DB8BAC711 < s.incBase n.val) →
    ∃ t, exec (.tbEnable n) s = .next t ∧ t.fld (PHS_TB_STAT_CMD_STATUS n.val) = 7 ∧ t.tbState n.val = 0 ∧ SameRegs s t [PHS_TB_STAT n.val]

/-- TimebaseStates: How timebases are bound, started, stopped and carried over a cycle boundary. -/
def Obligations.TimebaseStates : Prop :=
  -- a change of binding waits for the next boundary of the timebase named, and takes effect at once where that one is OFF; at the boundary it takes effect (R21). Where the spec leaves a corner of this open, what it says is the model's choice (log entry 24).
  (∀ (s : State) (kind : Fin 5) (i : Fin 48) (tb : Fin 4) (n since : Nat), s.clocked = true → i.val < bindCount kind.val →
    let f := bindFld kind.val i.val
    let k := bindKey kind.val i.val
    (s.tbState tb.val ≠ 0 → exec (.bindingWrite kind i tb) s = .next { s with bindPend := kset (fun _ => none) s.bindPend k (some (tb.val, (s.tb tb.val).wraps)) }) ∧
    (s.tbState tb.val = 0 → ∃ t, exec (.bindingWrite kind i tb) s = .next t ∧ t.fld f = tb.val ∧ kget (fun _ => none) t.bindPend k = none) ∧
    (kget (fun _ => none) s.bindPend k = some (n, since) → n < 4 → boundaryAfter s n since = true → ∃ t, exec (.bindingEffect kind i) s = .next t ∧ t.fld f = n ∧
      kget (fun _ => none) t.bindPend k = none) ∧
    (kget (fun _ => none) s.bindPend k = some (n, since) → n < 4 → boundaryAfter s n since = false → s.tbState n ≠ 0 → exec (.bindingEffect kind i) s = .next s)) ∧
  -- an enabled timebase starts at cycle 0 and fraction 0 in the state its source calls for; clearing EN leaves it running with STOP_PEND until the next boundary, where it becomes OFF, and its bank and its pins are dropped; setting EN again before that withdraws the stop (R52, R59). Where the spec leaves a corner of this open, what it says is the model's choice (log entry 112).
  (∀ (s : State) (n : Fin 4), s.clocked = true →
    let en := PHS_TB_CTL_EN n.val
    let pend := PHS_TB_STAT_STOP_PEND n.val
    (s.flag pend = true → ∃ t, exec (.tbEnable n) s = .next t ∧ t.flag pend = false ∧ t.flag en = true ∧ t.fld (PHS_TB_STAT_CMD_STATUS n.val) = 0 ∧
      t.tbState n.val = s.tbState n.val ∧ t.tbs = s.tbs) ∧
    (s.flag pend = false → s.tbState n.val = 0 → incInRange (s.incBase n.val) = true → namesPickup s (s.rdN (PHS_TB_SRC n.val)) = false →
      ∃ t, exec (.tbEnable n) s = .next t ∧ t.flag en = true ∧ (t.tb n.val).acc = 0 ∧ t.fld (PHS_TB_STAT_CMD_STATUS n.val) = 0 ∧
        t.tbState n.val = (if s.fld (PHS_TB_SRC_TYPE n.val) = 0 then 1 else 2)) ∧
    (s.tbState n.val ≠ 0 → ∃ t, exec (.tbDisable n) s = .next t ∧ t.flag en = false ∧ t.flag pend = true ∧ t.tbState n.val = s.tbState n.val ∧
      (t.tb n.val).acc = (s.tb n.val).acc) ∧
    (s.flag pend = false → s.tbState n.val ≠ 0 → ∃ t, exec (.tbEnable n) s = .next t ∧ t.fld (PHS_TB_STAT_CMD_STATUS n.val) = 0 ∧ t.tbs = s.tbs ∧
      SameRegs s t [PHS_TB_STAT n.val]) ∧
    (s.tbState n.val = 0 → ∃ t, exec (.tbDisable n) s = .next t ∧ t.flag en = false ∧ t.fld (PHS_TB_STAT_CMD_STATUS n.val) = 0 ∧ t.tbState n.val = 0 ∧ t.tbs = s.tbs) ∧
    (s.flag pend = true → boundaryAfter s n.val (s.tb n.val).stopFrom = true → ∃ t, exec (.tbStop n) s = .next t ∧ t.tbState n.val = 0 ∧ t.flag pend = false ∧
      t.flag (PHS_TB_STAT_ACTIVE n.val) = false ∧ (t.tb n.val).arm = none ∧ (t.tb n.val).dispatched = [] ∧ (t.tb n.val).posted = []) ∧
    (s.flag pend = false → exec (.tbStop n) s = .next (settlePorts s))) ∧
  -- CYCLE_BOUNDARY passes the time to the next carry out of the fraction: the count has advanced by one, and less than one increment of the new cycle has passed (R49). Where the spec leaves a corner of this open, what it says is the model's choice (log entry 6).
  (∀ (s : State) (n : Fin 4), s.mainOn = true → s.tbState n.val ≠ 0 → s.incEff n.val ≠ 0 → s.incEff n.val < 2 ^ 48 →
    ∃ t, exec (.cycleBoundary n) s = .next t ∧ t.cycle n.val = (s.cycle n.val + 1) % 2 ^ 32 ∧ t.frac56 n.val < s.incEff n.val ∧
      (t.now - s.now - 1) * s.incEff n.val + s.frac56 n.val < 2 ^ 56 ∧ s.now < t.now ∧ atBoundary t n.val = true)

/-- TimebaseRates: How the rate of a timebase is written, sourced and corrected. -/
def Obligations.TimebaseRates : Prop :=
  -- how a write of INC_BASE is handled (R51): OFF, out of range, under a bank, and taken at once with the correction in force.
  (∀ (s : State) (n : Fin 4) (v : BitVec 64), s.clocked = true →
    let x := v.toNat % 2 ^ 48
    let base := PHS_TB_INC_BASE n.val
    let on := s.tbState n.val ≠ 0
    let inRange := 0x0112E0BE ≤ x ∧ x ≤ 0x068DB8BAC711
    let scanner := s.fld (PHS_TB_SRC_TYPE n.val) = 5
    let refused := fun (st : Nat) => ∃ t, exec (.incBaseWrite n v) s = .next t ∧ t.fld (PHS_TB_STAT_CMD_STATUS n.val) = st ∧ SameRegs s t [PHS_TB_STAT n.val]
    (¬ on → ∃ t, exec (.incBaseWrite n v) s = .next t ∧ t.rdN base = x) ∧
    (on → ¬ inRange → refused 7) ∧
    (on → inRange → ¬ scanner → bankBusy s n.val = true → refused 13) ∧
    (on → inRange → ¬ scanner → bankBusy s n.val = false → ∃ t, exec (.incBaseWrite n v) s = .next t ∧ t.rdN base = x ∧
      t.incEff n.val = ((x : Int) + ((x : Int) * sext (s.rdN (PHS_TB_CORR n.val)) 32).fdiv (2 ^ 32)).toNat % 2 ^ 48 ∧ t.rd (PHS_TB_CORR n.val) = s.rd (PHS_TB_CORR n.val)) ∧
    (on → inRange → scanner → ∃ t, exec (.incBaseWrite n v) s = .next t ∧ t.rdN base = x ∧ t.rd (PHS_TB_INC_EFF n.val) = s.rd (PHS_TB_INC_EFF n.val) ∧
      (t.tb n.val).scanCentre = x)) ∧
  -- a source is taken, and a running timebase enters FREE or ACQUIRE with it; a pickup as a source of a timebase that is enabled is refused with PRECOND, and a reserved TYPE is ignored (R54, R55, R70).
  (∀ (s : State) (n : Fin 4) (v : BitVec 32), s.clocked = true →
    let x := v.toNat % 2 ^ 16
    let en := s.flag (PHS_TB_CTL_EN n.val)
    (6 ≤ x % 8 → exec (.srcWrite n v) s = .next s) ∧
    (x % 8 < 6 → en = true → namesPickup s x = true → ∃ t, exec (.srcWrite n v) s = .next t ∧ t.fld (PHS_TB_STAT_CMD_STATUS n.val) = 7 ∧ SameRegs s t [PHS_TB_STAT n.val]) ∧
    (x % 8 < 6 → en = false → ∃ t, exec (.srcWrite n v) s = .next t ∧ t.rdN (PHS_TB_SRC n.val) = x ∧ t.tbState n.val = s.tbState n.val) ∧
    (x % 8 < 6 → en = true → namesPickup s x = false → ∃ t, exec (.srcWrite n v) s = .next t ∧ t.rdN (PHS_TB_SRC n.val) = x ∧ t.tbState n.val = (if x % 8 = 0 then 1 else 2))) ∧
  -- an accepted reference updates the correction as the manual's pseudocode does, within the slew limit, and INC_EFF follows it (R63, R64); RANGE clears when the integrator leaves the limit and is set by the 64th reference in a row that leaves it there (R65).
  (∀ (s : State) (n : Fin 4) (e : Int),
    let t := correct n.val e s
    let lim : Int := ((if s.fld (PHS_TB_SLEW_SLEW_PPM n.val) = 0 ∨ 50 < s.fld (PHS_TB_SLEW_SLEW_PPM n.val) then 50 else s.fld (PHS_TB_SLEW_SLEW_PPM n.val)) * 4295 : Nat)
    let i := clampI ((s.tb n.val).integ + (e * (s.fld (PHS_TB_LOOP_KI n.val) : Nat)).fdiv 256) (-lim) lim
    let c := clampI (e * (s.fld (PHS_TB_LOOP_KP n.val) : Nat) + i) (-lim) lim
    let railed := i = lim ∨ i = -lim
    sext (t.rdN (PHS_TB_CORR n.val)) 32 = c ∧ -lim ≤ c ∧ c ≤ lim ∧ (t.tb n.val).integ = i ∧
      t.incEff n.val = ((s.incBase n.val : Int) + ((s.incBase n.val : Int) * c).fdiv (2 ^ 32)).toNat % 2 ^ 48 ∧
      (¬ railed → t.flag (PHS_TB_STAT_RANGE n.val) = false ∧ (t.tb n.val).railCnt = 0) ∧
      (railed → (t.tb n.val).railCnt = (s.tb n.val).railCnt + 1 ∧ t.flag (PHS_TB_STAT_RANGE n.val) = (decide ((s.tb n.val).railCnt = 63) || s.flag (PHS_TB_STAT_RANGE n.val))))

/-- ReferencesAndCounts: What references, cycle counts and alignments do to a timebase. -/
def Obligations.ReferencesAndCounts : Prop :=
  -- what a phase-0 reference does (R54, R58, R60, R61, R66, R94). Unheard, it does nothing. In SLEWING and LOCKED one within WIN is accepted: its error reads in ERR, the correction takes it up (R63), and LOCK_CNT of them in a row that agree, or that do not, move between SLEWING and LOCKED; one outside is counted in REJECT_CNT alone. ACQUIRE gathers eight periods, and takes their mean if it lies in the capture range. HOLDOVER ends at a period within WIN of the expected one. Where the spec leaves a corner of this open, what it says is the model's choice (log entries 41, 43).
  (∀ (s : State) (n : Fin 4) (dt e0 : Nat) (q : Fin 4) (v : BitVec 64), s.mainOn = true →
    let z := passTime dt s
    let ty := s.fld (PHS_TB_SRC_TYPE n.val)
    let st := s.tbState n.val
    let win := 4 * (s.rdN (PHS_TB_WIN n.val) % 2 ^ 20)
    let r := if ty = 4 then beaconError z n.val v.toNat 0 else refError z n.val q.val 0 1 false
    let stamp := if ty = 4 then 4 * z.now else 4 * z.now + q.val - 16
    let rej := PHS_TB_REJECT_CNT n.val
    let hears := hearsSource z n.val = true
    let edge := hears ∧ 1 ≤ ty ∧ ty ≤ 3 ∧ (s.tb n.val).lastEdge = some e0
    let loop := hears ∧ (st = 3 ∨ st = 4) ∧ ¬ ((s.tb n.val).alignPend = true ∧ bankBusy s n.val = false)
    let tol := 4 * s.fld (PHS_TB_LOCK_LOCK_TOL n.val)
    let cnt := max 1 (s.fld (PHS_TB_LOCK_LOCK_CNT n.val))
    let p := stamp - e0
    let ps := (s.tb n.val).periods ++ [p]
    let rp := refPeriod s n.val (s.incEff n.val)
    let near := ((p * rp.2 : Nat) - (rp.1 : Nat) : Int).natAbs ≤ win * rp.2
    let gives := fun P : State → Prop => ∃ t, exec (.phase0Reference n dt q v) s = .next t ∧ (t.tb n.val).lastEdge = some stamp ∧ P t
    (¬ hears → exec (.phase0Reference n dt q v) s = .next z) ∧
    (loop → r.near.natAbs ≤ win → gives (fun t => t.rdN (PHS_TB_ERR n.val) = ofInt r.e 32 ∧ t.rd rej = s.rd rej ∧ (t.tb n.val).missCnt = 0 ∧
      t.rd (PHS_TB_CORR n.val) = (correct n.val r.e z).rd (PHS_TB_CORR n.val) ∧
      (st = 3 → t.tbState n.val = if r.e.natAbs ≤ tol ∧ cnt ≤ (s.tb n.val).agreeCnt + 1 then 4 else 3) ∧
      (st = 4 → t.tbState n.val = if 4 * tol < r.e.natAbs ∧ cnt ≤ (s.tb n.val).badCnt + 1 then 3 else 4))) ∧
    (loop → win < r.near.natAbs → s.rdN rej < 0xFFFFFFFF → ty ≠ 5 → gives (fun t => t.rdN rej = s.rdN rej + 1 ∧ t.tbState n.val = st ∧ SameRegs s t [rej])) ∧
    (edge → st = 2 → ps.length < 8 → gives (fun t => t.tbState n.val = 2 ∧ (t.tb n.val).periods = ps ∧ t.rdN (PHS_TB_ERR n.val) = ofInt r.e 32)) ∧
    (edge → st = 2 → 8 ≤ ps.length → inCapture s n.val (s.incBase n.val) ps.sum 8 = false → gives (fun t => t.tbState n.val = 2 ∧ (t.tb n.val).periods = [])) ∧
    (edge → st = 2 → 8 ≤ ps.length → inCapture s n.val (s.incBase n.val) ps.sum 8 = true → gives (fun t => t.tbState n.val = 3 ∧ (t.tb n.val).integ = 0 ∧
      t.fld ⟨PHS_TB_CORR n.val, 0, 32⟩ = 0 ∧ t.incBase n.val = (if bankBusy s n.val then s.incBase n.val else incFromPeriods s n.val ps.sum 8))) ∧
    (edge → st = 5 → near → gives (fun t => t.tbState n.val = 3 ∧ t.rdN (PHS_TB_ERR n.val) = ofInt r.e 32)) ∧
    (edge → st = 5 → ¬ near → s.rdN rej < 0xFFFFFFFF → gives (fun t => t.tbState n.val = 5 ∧ t.rdN rej = s.rdN rej + 1)) ∧
    (hears → ty = 5 → 3 ≤ st → st ≤ 5 → (s.tb n.val).lastEdge = some e0 → inCapture s n.val (s.tb n.val).scanCentre p 1 = true →
      gives (fun t => t.incBase n.val = incFromPeriods s n.val p 1 ∧ t.flag (PHS_TB_STAT_BASE_UPD n.val) = true))) ∧
  -- the cycle count is set at the boundary after the first lock, and stepped at one of a LOCKED BEACON timebase; neither moves the fraction (R53, R62). CMD.ALIGN is refused under a bank and in OFF and FREE; a pending alignment moves the fraction at the next phase-0 reference in SLEWING or LOCKED, leaves the count, and leaves ERR 0 (R69). Where the spec leaves a corner of this open, what it says is the model's choice (log entries 39, 42).
  (∀ (s : State) (n : Fin 4) (dt d since : Nat) (q : Fin 4), s.clocked = true →
    let z := passTime dt s
    let c := s.cycle n.val
    let due := boundaryAfter s n.val since = true
    let r := refError z n.val q.val 0 1 false
    let meets := (s.tb n.val).alignPend = true ∧ bankBusy s n.val = false ∧ hearsSource z n.val = true ∧ (s.tbState n.val = 3 ∨ s.tbState n.val = 4) ∧
      s.fld (PHS_TB_SRC_TYPE n.val) ≠ 4
    ((s.tb n.val).countPend = some (d, since) → s.tbState n.val ≠ 0 → due → ∃ t, exec (.cycleCountSet n) s = .next t ∧
      t.cycle n.val = (if s.fld (PHS_TB_SRC_TYPE n.val) = 4 then (c + d) % 2 ^ 32 else 0) ∧ t.frac56 n.val = s.frac56 n.val ∧ (t.tb n.val).countPend = none ∧ t.regs = s.regs) ∧
    ((s.tb n.val).countPend = some (d, since) → ¬ due → exec (.cycleCountSet n) s = .next s) ∧
    ((s.tb n.val).stepPend = some (d, since) → s.tbState n.val = 4 → due → ∃ t, exec (.cycleStep n) s = .next t ∧
      t.cycle n.val = (c + d) % 2 ^ 32 ∧ t.frac56 n.val = s.frac56 n.val ∧ (t.tb n.val).stepPend = none) ∧
    ((s.tb n.val).stepPend = some (d, since) → (s.tbState n.val ≠ 4 ∨ ¬ due) → exec (.cycleStep n) s = .next s) ∧
    (bankBusy s n.val = true → ∃ t, exec (.cmdAlign n) s = .next t ∧ t.fld (PHS_TB_STAT_CMD_STATUS n.val) = 13 ∧ t.tbs = s.tbs) ∧
    (bankBusy s n.val = false → s.tbState n.val < 2 → ∃ t, exec (.cmdAlign n) s = .next t ∧ t.fld (PHS_TB_STAT_CMD_STATUS n.val) = 7 ∧ t.tbs = s.tbs) ∧
    (bankBusy s n.val = false → 2 ≤ s.tbState n.val → ∃ t, exec (.cmdAlign n) s = .next t ∧ t.fld (PHS_TB_STAT_CMD_STATUS n.val) = 0 ∧ (t.tb n.val).alignPend = true) ∧
    (meets → ∃ t, exec (.alignment n dt q) s = .next t ∧ t.rdN (PHS_TB_ERR n.val) = 0 ∧ (t.tb n.val).alignPend = false ∧ t.tbState n.val = s.tbState n.val ∧
      t.cycle n.val = z.cycle n.val ∧ (t.frac56 n.val : Int) = ((z.frac56 n.val : Int) + rndDiv r.e58 4) % 2 ^ 56) ∧
    (¬ meets → exec (.alignment n dt q) s = .next z))

/-- SubcycleAndMissed: a sub-cycle reference is heard in LOCKED, and in SLEWING once the error lay within WIN; within WIN of its expected position it is accepted as a phase-0 reference is, else counted in REJECT_CNT (R54, R60). As the window of an expected reference passes in SLEWING or LOCKED a miss is counted, and LOS_N in a row lead to HOLDOVER (R60, R66). Where the spec leaves a corner of this open, what it says is the model's choice (log entries 43, 112). -/
def Obligations.SubcycleAndMissed : Prop :=
  ∀ (s : State) (n : Fin 4) (dt : Nat) (q : Fin 4) (pos : BitVec 32) (r : RefErr), s.mainOn = true →
    let z := passTime dt s
    let st := s.tbState n.val
    let win := 4 * (s.rdN (PHS_TB_WIN n.val) % 2 ^ 20)
    let rej := PHS_TB_REJECT_CNT n.val
    let heard := hearsSource z n.val = true ∧ (st = 4 ∨ (st = 3 ∧ (s.tb n.val).subOk = true))
    let misses := (s.tb n.val).missCnt + 1
    let los := max 1 (s.fld (PHS_TB_LOCK_LOS_N n.val))
    ((¬ heard ∨ subError z n.val q.val pos.toNat = none) → exec (.subcycleReference n dt q pos) s = .next z) ∧
    (heard → subError z n.val q.val pos.toNat = some r → r.near.natAbs ≤ win → ∃ t, exec (.subcycleReference n dt q pos) s = .next t ∧
      t.rdN (PHS_TB_ERR n.val) = ofInt r.e 32 ∧ t.rd (PHS_TB_CORR n.val) = (correct n.val r.e z).rd (PHS_TB_CORR n.val) ∧ t.tbState n.val = st) ∧
    (heard → subError z n.val q.val pos.toNat = some r → win < r.near.natAbs → s.rdN rej < 0xFFFFFFFF → ∃ t, exec (.subcycleReference n dt q pos) s = .next t ∧
      t.rdN rej = s.rdN rej + 1 ∧ SameRegs s t [rej]) ∧
    (st ≠ 3 → st ≠ 4 → exec (.referenceMissed n) s = .next s) ∧
    (st = 3 ∨ st = 4 → misses < los → ∃ t, exec (.referenceMissed n) s = .next t ∧ (t.tb n.val).missCnt = misses ∧ t.regs = s.regs ∧
      t.now = s.now + missAfter s n.val) ∧
    (st = 3 ∨ st = 4 → los ≤ misses → s.rdN (PHS_TB_HOLD_CNT n.val) < 0xFFFFFFFF → ∃ t, exec (.referenceMissed n) s = .next t ∧ t.tbState n.val = 5 ∧
      t.rdN (PHS_TB_HOLD_CNT n.val) = s.rdN (PHS_TB_HOLD_CNT n.val) + 1 ∧ t.now = s.now + missAfter s n.val)

/-- PinBanks: How a pin bank is armed and swapped. -/
def Obligations.PinBanks : Prop :=
  -- GO on the active bank, under a pending arm or with EN 0 is refused (R77, R78); else the arm is pending; a bank with a bad pin is rejected with the reason and index of the first, and a good one waits for its boundary; CANCEL drops a pending arm, but at its swap boundary it is too late (R80). Where the spec leaves a corner of this open, what it says is the model's choice (log entry 112).
  (∀ (s : State) (n : Fin 4) (v : BitVec 32) (dt : Nat) (a : Arm), s.clocked = true →
    let b := v.toNat % 2
    let stat := PHS_TB_ARM_STAT n.val
    let active := s.flag (PHS_TB_STAT_ACTIVE n.val) = true ∧ s.fld (PHS_TB_STAT_ACTIVE_BANK n.val) = b
    let pend := PHS_TB_STAT_ARM_PEND n.val
    let go := bit v.toNat 2 = true
    let z := passTime dt s
    let ps := (List.range (bankCount z n.val a.bank)).map (readPin z n.val a.bank)
    let ready := (s.tb n.val).arm = some a ∧ a.validAt = none ∧ a.refFail = none ∧ bankCount s n.val a.bank ≤ 65536 ∧ bankBase s n.val a.bank % 16 = 0
    (¬ go → exec (.armGo n v) s = .next s) ∧
    (go → active → ∃ t, exec (.armGo n v) s = .next t ∧ t.rdN stat = 13 ∧ t.tbs = s.tbs) ∧
    (go → ¬ active → s.flag pend = true → ∃ t, exec (.armGo n v) s = .next t ∧ t.rdN stat = 4 ∧ t.tbs = s.tbs) ∧
    (go → ¬ active → s.flag pend = false → s.flag (PHS_TB_CTL_EN n.val) = false → ∃ t, exec (.armGo n v) s = .next t ∧ t.rdN stat = 7 ∧ t.tbs = s.tbs) ∧
    (go → ¬ active → s.flag pend = false → s.flag (PHS_TB_CTL_EN n.val) = true → ∃ t x, exec (.armGo n v) s = .next t ∧ t.flag pend = true ∧
      (t.tb n.val).arm = some x ∧ x.bank = b ∧ x.atCycle = bit v.toNat 1 ∧ x.validAt = none) ∧
    (∀ r i, ready → firstFail z n.val ps 0 ps = some (r, i) → r < 16 → i < 65536 → ∃ t, exec (.armValidationDone n dt) s = .next t ∧ t.rdN stat = 12 + r * 256 + i * 65536 ∧
      t.flag pend = false ∧ (t.tb n.val).arm = none) ∧
    (ready → firstFail z n.val ps 0 ps = none → a.atCycle = false → ∃ t, exec (.armValidationDone n dt) s = .next t ∧ t.rdN stat = 0 ∧
      t.rdN (PHS_TB_TOL n.val) = bankTol z n.val ps ∧ (t.tb n.val).arm = some { a with validAt := some z.now }) ∧
    ((s.tb n.val).arm = some a → swapNow s n.val a = true → ∃ t, exec (.cancelArm n) s = .next t ∧ t.fld (PHS_TB_STAT_CMD_STATUS n.val) = 3 ∧ t.tbs = s.tbs ∧
      SameRegs s t [PHS_TB_STAT n.val]) ∧
    ((s.tb n.val).arm = some a → swapNow s n.val a = false → ∃ t, exec (.cancelArm n) s = .next t ∧ t.flag pend = false ∧ (t.tb n.val).arm = none ∧ t.fld (PHS_TB_STAT_CMD_STATUS n.val) = 0) ∧
    ((s.tb n.val).arm = none → ∃ t, exec (.cancelArm n) s = .next t ∧ t.fld (PHS_TB_STAT_CMD_STATUS n.val) = 3 ∧ SameRegs s t [PHS_TB_STAT n.val])) ∧
  -- at a boundary, an arm validated 8 µs before makes its bank the active one; an AT_CYCLE arm does at its cycle, and lapses with TIMEOUT once the count has passed it (R79, R80).
  (∀ (s : State) (n : Fin 4) (a : Arm) (v : Nat), s.clocked = true → (s.tb n.val).arm = some a → a.validAt = some v → atBoundary s n.val = true → s.tbState n.val ≠ 0 →
    let past := sext (s.cycle n.val + 2 ^ 32 - s.rdN (PHS_TB_SWAP_CYCLE n.val)) 32
    let due := (a.atCycle = false ∧ v + 8000 ≤ s.now) ∨ (a.atCycle = true ∧ s.cycle n.val = s.rdN (PHS_TB_SWAP_CYCLE n.val))
    (due → ∃ t, exec (.bankSwap n) s = .next t ∧ t.flag (PHS_TB_STAT_ACTIVE n.val) = true ∧ t.fld (PHS_TB_STAT_ACTIVE_BANK n.val) = a.bank % 2 ∧
      t.flag (PHS_TB_STAT_ARM_PEND n.val) = false ∧ (t.tb n.val).arm = none ∧ (t.tb n.val).lastSwap = some (s.cycle n.val)) ∧
    (a.atCycle = true → 0 < past → ∃ t, exec (.bankSwap n) s = .next t ∧ t.rdN (PHS_TB_ARM_STAT n.val) = 11 ∧ (t.tb n.val).arm = none ∧
      t.flag (PHS_TB_STAT_ACTIVE n.val) = s.flag (PHS_TB_STAT_ACTIVE n.val)) ∧
    (a.atCycle = true → past < 0 → exec (.bankSwap n) s = .next s) ∧
    (a.atCycle = false → s.now < v + 8000 → exec (.bankSwap n) s = .next s))

/-- PinsAndWindows: How pins are read ahead, dispatched and fire, and how camera windows open. -/
def Obligations.PinsAndWindows : Prop :=
  -- PIN_READAHEAD brings the next pin of the active bank into the buffer (R81); PIN_DISPATCH passes time to the cycle in which the next pin may go, no more than 127 ns ahead, and hands it over with its placed time, 64 ns on for a late one (R83, R85); a pin with EN 0, of the other parity or read uncorrectably is passed over (R72, R377). Where the spec leaves a corner of this open, what it says is the model's choice (log entries 6, 45, 46).
  (∀ (s : State) (n : Fin 4) (dt i : Nat) (l : Leaf) (c0 c : Cand), s.clocked = true →
    let x := passTime dt s
    let b := s.fld (PHS_TB_STAT_ACTIVE_BANK n.val)
    let va := bankBase x n.val b + 16 * i
    let wait := dispatchTime s n.val c0 - s.now
    let z := passTime wait s
    let due := s.tbState n.val ≠ 0 ∧ nextCand s n.val = some c0 ∧ (wait = 0 ∨ wait < toBoundary s n.val) ∧ nextCand z n.val = some c ∧ dispatchTime z n.val c ≤ z.now
    let fires := (c.posted = true ∨ (z.tb n.val).eccSkip.contains (c.bank * 65536 + c.index) = false) ∧ pinDueIn c.pin (cycleAt z n.val c.ahead) = true
    let late := placedAt z n.val c.ahead < ((4 * z.now + 256 : Nat) : Int)
    (s.flag (PHS_TB_STAT_ACTIVE n.val) = true → nextRead x n.val b (bankCount x n.val b) = some i → walk x (sysAsid x) va = .ok l → sysServed x va 16 = true →
      badBurst x (l.at_ va) = false → s.flag MEM_CTL_NB_EN = false → ∃ t, exec (.pinReadahead n dt false 0) s = .next t ∧ heldPin t n.val b i = some (readPin x n.val b i)) ∧
    (due → ¬ fires → ∃ t, exec (.pinDispatch n) s = .next t ∧ (t.tb n.val).dispatched = (s.tb n.val).dispatched) ∧
    (due → fires → ∃ t d, exec (.pinDispatch n) s = .next t ∧ (t.tb n.val).dispatched = (s.tb n.val).dispatched ++ [d] ∧ d.pin = c.pin ∧
      d.late = decide late ∧ (late → d.placed = 4 * (z.now + 64)) ∧ (¬ late → (d.placed : Int) = placedAt z n.val c.ahead) ∧ (t.tb n.val).lastDispatch = z.now + 1)) ∧
  -- a NOP and a MARK pin fire at their placed time with no effect but their stamp and event (R72, R73, R76); another pin that is next keeps its place; a BLIND pin outside the gaps is counted in BLIND_SUP_CNT in place of firing (R89); a stamp goes to the head of the timebase's ring, or is lost (R92, R93). Where the spec leaves a corner of this open, what it says is the model's choice (log entries 10, 44).
  (∀ (s : State) (n : Fin 4) (d : Placed) (bs : List Byte) (y : State), s.clocked = true →
    let plain := bit d.pin.flags 1 = false ∧ bit d.pin.flags 2 = false ∧ s.flag (PHS_TB_CTL_STAMP_ALL n.val) = false
    let z := passTime (d.placed / 4 - s.now) s
    let comes := nextPlaced s n.val = some d ∧ s.tbOn n.val = true ∧ (d.placed / 4 ≤ s.now ∨ d.placed / 4 - s.now < toBoundary s n.val)
    let sup := PHS_TB_BLIND_SUP_CNT n.val
    let size := s.rdN (PHS_TB_STAMP_SIZE n.val)
    let head := s.rdN (PHS_TB_STAMP_HEAD n.val)
    (∀ i a, (i, a) ∈ [(Instr.nop n, 0), (Instr.mark n, 12)] →
      (nextPlaced s n.val = none → exec i s = .next s) ∧
      (nextPlaced s n.val = some d → d.pin.action ≠ a → exec i s = .next s) ∧
      (FiresNext s n.val a d → ∃ t, exec i s = .next t ∧ Fired s t d ∧ (t.tb n.val).dispatched.length + 1 = (s.tb n.val).dispatched.length ∧
        (plain → t.regs = s.regs ∧ t.dram = s.dram ∧ t.host = s.host)) ∧
      (comes → d.pin.action = a → pinDueIn d.pin (dueCount z n.val d) = true → mayFire z n.val d = false → s.rdN sup < 0xFFFFFFFF →
        ∃ t, exec i s = .next t ∧ t.rdN sup = s.rdN sup + 1 ∧ SameRegs s t [sup])) ∧
    (ringSizeOk size = true → (head + size - s.rdN (PHS_TB_STAMP_TAIL n.val) % size) % size ≠ size - 1 →
      sysStore 2 n.val (s.rdN (PHS_TB_STAMP_BASE n.val) + 16 * head) bs s = (y, true) → head < 65536 →
      putStamp n.val bs s = y.wrN (PHS_TB_STAMP_HEAD n.val) ((head + 1) % size)) ∧
    (ringSizeOk size = true → (head + size - s.rdN (PHS_TB_STAMP_TAIL n.val) % size) % size = size - 1 → s.rdN (PHS_TB_STAMP_LOST_CNT n.val) < 0xFFFFFFFF →
      (putStamp n.val bs s).rdN (PHS_TB_STAMP_LOST_CNT n.val) = s.rdN (PHS_TB_STAMP_LOST_CNT n.val) + 1 ∧ (putStamp n.val bs s).rdN (PHS_TB_STAMP_HEAD n.val) = head)) ∧
  -- a window's write waits for the next boundary of its timebase, and takes effect there, or at once where that is OFF (R89); a shutter's open edge begins an interval at the windows that listen to it, and its close edge ends it: MEAS takes the interval of the first instance, and one that leaves its widened instance is a mismatch (R91; with LEN 0 the first interval of a cycle is measured). Where the spec leaves a corner of this open, what it says is the model's choice (log entries 44, 112).
  (∀ (s : State) (w k : Fin 4) (v : BitVec 32) (dt o : Nat), s.clocked = true →
    let n := s.fld (PHS_CW_CTL_TB w.val)
    let z := passTime dt s
    let due := boundaryAfter s n (s.cw w.val).pendFrom
    let hears := shutWindows z k.val = [w.val]
    let sp := cwSpans z w.val
    let i := cwInstance sp.1 sp.2 o
    let off := (o + 2 ^ 32 - sp.1[i.1]?.getD 0) % 2 ^ 32
    let long := sp.2 < off + (z.frac n + 2 ^ 32 - o) % 2 ^ 32
    let cnt := PHS_CW_MISMATCH_CNT w.val
    (s.tbState n ≠ 0 → ∃ t, exec (.cwWrite w 1 v) s = .next t ∧ t.flag (PHS_CW_CTL_PEND w.val) = true ∧ (1, v.toNat) ∈ (t.cw w.val).pend ∧
      t.rd (PHS_CW_START w.val) = s.rd (PHS_CW_START w.val)) ∧
    (s.tbState n = 0 → (s.cw w.val).pend = [] → ∃ t, exec (.cwWrite w 1 v) s = .next t ∧ t.rdN (PHS_CW_START w.val) = v.toNat ∧ (t.cw w.val).pend = [] ∧ t.flag (PHS_CW_CTL_PEND w.val) = false) ∧
    ((s.cw w.val).pend = [(2, v.toNat)] → due = true → ∃ t, exec (.cwChangeEffect w) s = .next t ∧ t.rdN (PHS_CW_LEN w.val) = v.toNat ∧ (t.cw w.val).pend = [] ∧
      t.flag (PHS_CW_CTL_PEND w.val) = false) ∧
    ((s.cw w.val).pend ≠ [] → due = false → s.tbState n ≠ 0 → exec (.cwChangeEffect w) s = .next s) ∧
    (hears → (s.cw w.val).openFrac = none → ∃ t, exec (.shutterOpenEdge k dt) s = .next t ∧ (t.cw w.val).openFrac = some (z.frac n) ∧ t.regs = s.regs) ∧
    (hears → (s.cw w.val).openFrac = some o → o < 2 ^ 32 → s.rdN (PHS_CW_LEN w.val) = 0 → (s.cw w.val).measured = false →
      ∃ t, exec (.shutterCloseEdge k dt) s = .next t ∧ t.rdN (PHS_CW_MEAS w.val) = o + z.frac n * 2 ^ 32 ∧ (t.cw w.val).openFrac = none ∧ (t.cw w.val).measured = true) ∧
    (hears → (s.cw w.val).openFrac = some o → o < 2 ^ 32 → s.rdN (PHS_CW_LEN w.val) ≠ 0 → s.rdN cnt < 0xFFFFFFFF →
      ∃ t, exec (.shutterCloseEdge k dt) s = .next t ∧ (t.cw w.val).openFrac = none ∧
        t.rdN (PHS_CW_MEAS w.val) = (if i.1 = 0 then o + z.frac n * 2 ^ 32 else s.rdN (PHS_CW_MEAS w.val)) ∧
        t.rdN cnt = s.rdN cnt + (if i.2 = false ∨ long then 1 else 0)))

/-- BlocksAndMirrors: What block loads and mirror resets do. -/
def Obligations.BlocksAndMirrors : Prop :=
  -- a BLOCK_LOAD pin that its port may not take is counted where the manual says and loads nothing (R74, R95, R159, R163, R174). Else the words due before its placed time enter; on a free link its load begins at the first row boundary 6 ns later, behind another it waits, and the fifth to wait is dropped and counted (R142, R115, R153). A load that waited begins when its row comes, and a load alone on its link frees it as its last word enters (R115, R619). Where the spec leaves a corner of this open, what it says is the model's choice (log entries 10, 113).
  (∀ (s : State) (n p : Fin 4) (d : Placed) (r o : Nat) (l : Load), s.clocked = true →
    let k := d.pin.target % 4
    let a := d.pin.target / 4 % 4
    let mask := d.pin.arg % 2 ^ 16
    let plane := d.pin.arg / 2 ^ 16 % 2 ^ 8
    let drops := SEQ_P_LOAD_DROP_CNT k
    let gate := portGate s n.val k a
    let gives := fun P : State → Prop => ∃ t, exec (.blockLoad n) s = .next t ∧ P t
    let stays := fun t : State => (t.port k).cur = (s.port k).cur ∧ (t.port k).queue = (s.port k).queue ∧ (t.port k).sent = (s.port k).sent
    let y := advance p.val (4 * s.now) s
    (FiresNext s n.val 1 d → gate = some (some r) → s.rdN r < 0xFFFFFFFF → gives (fun t => t.rdN r = s.rdN r + 1 ∧ stays t)) ∧
    (FiresNext s n.val 1 d → gate = some none → gives stays) ∧
    (FiresNext s n.val 1 d → gate = none → loadOf s k a mask plane = none → s.rdN drops < 0xFFFFFFFF → (s.port k).cur = none → (s.port k).due = [] →
      gives (fun t => t.rdN drops = s.rdN drops + 1 ∧ stays t)) ∧
    (FiresNext s n.val 1 d → gate = none → loadOf s k a mask plane = some l → mask ≠ 0 → (s.port k).cur = none → (s.port k).due = [] →
      gives (fun t => (t.port k).queue = (s.port k).queue ∧ ∃ x, (t.port k).cur = some x ∧ x = { l with ready := d.placed + 24, next := x.next } ∧ x.next % 10 = 0 ∧
        (s.port k).nextPos ≤ x.next ∧ 10 * rowCyc s k (d.placed + 24) ≤ x.next)) ∧
    (FiresNext s n.val 1 d → gate = none → loadOf s k a mask plane = some l → mask ≠ 0 → ∃ z, z.now = max s.now (d.placed / 4) ∧
      (∀ i, { z.port i with notices := [] } = { s.port i with notices := [] }) ∧ gives (fun t =>
        let x := advance k d.placed z
        let l1 := { l with ready := d.placed + 24 }
        ((x.port k).cur = none → (t.port k).cur = some { l1 with next := loadStart x k l1.ready } ∧ (t.port k).queue = (x.port k).queue) ∧
        ((x.port k).cur ≠ none → (x.port k).queue.length < 4 → (t.port k).queue = (x.port k).queue ++ [{ l1 with queued := true }] ∧ (t.port k).cur = (x.port k).cur) ∧
        ((x.port k).cur ≠ none → 4 ≤ (x.port k).queue.length → (t.port k).queue = (x.port k).queue ∧ (t.port k).cur = (x.port k).cur ∧
          t.rdN drops = min (x.rdN drops + 1) 0xFFFFFFFF))) ∧
    ((y.port p.val).cur = some l → openFrom y p.val = some o → l.queued = true → l.sent = 0 → ∃ t, exec (.loadQueuedStart p) s = .next t ∧
      t = passToPos p.val (loadPos y p.val o l) y ∧ t.now = max s.now (rowTime y p.val (loadPos y p.val o l / 10) / 4 + 1)) ∧
    ((y.port p.val).cur = some l → openFrom y p.val = some o → (y.port p.val).due = [] → (y.port p.val).queue = [] → l.sent < loadTotal y p.val l →
      (y.port p.val).nextPos ≤ loadPos y p.val o l → ∃ t, exec (.loadStreamDone p) s = .next t ∧
      (t.port p.val).cur = none ∧ t.now = max s.now (rowTime y p.val ((loadPos y p.val o l + loadTotal y p.val l - l.sent - 1) / 10) / 4 + 1))) ∧
  -- a MIRROR_RESET pin that its port takes has a RESET word fall due 6 ns after its placed time (R73, R154), and a kind above 3 is counted in its place; a pin that its port may not take is counted where the manual says. A RESET word with no block under MIN_DWELL and none whose load is streaming enters at its position with its kind, its blocks and the array's sequence number, which advances (R113, R114, R154, R155). Where the spec leaves a corner of this open, what it says is the model's choice (log entries 10, 52).
  (∀ (s : State) (n : Fin 4) (d : Placed) (r pos due : Nat), s.clocked = true →
    let p := d.pin.target % 4
    let a := d.pin.target / 4 % 4
    let mask := d.pin.arg % 2 ^ 16
    let kind := d.pin.arg / 2 ^ 16 % 16
    let rs := ((s.port p).arr a).rseq
    let drops := SEQ_P_LOAD_DROP_CNT p
    let gives := fun P : State → Prop => ∃ t, exec (.mirrorReset n) s = .next t ∧ P t
    let y := enterReset p pos a kind mask d.placed due false s
    (FiresNext s n.val 2 d → portGate s n.val p a = some (some r) → s.rdN r < 0xFFFFFFFF → gives (fun t => t.rdN r = s.rdN r + 1 ∧ t.ports = s.ports)) ∧
    (FiresNext s n.val 2 d → portGate s n.val p a = some none → gives (fun t => t.ports = s.ports)) ∧
    (FiresNext s n.val 2 d → portGate s n.val p a = none → 4 ≤ kind → s.rdN drops < 0xFFFFFFFF → gives (fun t => t.rdN drops = s.rdN drops + 1 ∧ t.ports = s.ports)) ∧
    (FiresNext s n.val 2 d → portGate s n.val p a = none → kind < 4 → linkCarries s p = true →
      gives (fun t => (t.port p).due = insDue (.reset a kind mask d.placed (d.placed + 24) false) (s.port p).due ∧ (t.port p).sent = (s.port p).sent)) ∧
    (a < 3 → mask ≠ 0 → dwellBlocks s p a mask d.placed = 0 → streamingBlock s p a = none →
      pos / 10 * 264000 ≤ (due + 1023 - (s.port p).rowFrom) * fwdRate s p →
      (y.port p).sent = (s.port p).sent ++ [(pos, ctlWord 0xC3 (pack [(0, 2, a), (2, 4, kind), (6, 16, mask), (22, 10, rowTime s p (pos / 10) - due), (32, 8, rs)]))] ∧
      ((y.port p).arr a).rseq = (rs + 1) % 256 ∧ ∀ b, b < 16 → bit mask b = true → kget (fun _ => none) ((y.port p).arr a).lastReset b = some d.placed))

/-- PlaneSetsAndFetch: What plane sets and plane fetches do. -/
def Obligations.PlaneSetsAndFetch : Prop :=
  -- a set is marked ready once its pages are locked (R107, R373), and the next latch of the port shows the newest set that was ready before it, or repeats the one on screen (R106); a latch of a port that its timebase does not drive, or of a clone, is counted (R95, R174). A port is enabled with a geometry and capabilities that agree, a beam port with a SCANNER timebase, and disabling it drops what it shows (R128, R129, R135, R167, R172). Where the spec leaves a corner of this open, what it says is the model's choice (log entries 10, 49, 53).
  (∀ (s : State) (n p : Fin 4) (k : Fin 4) (d : Placed) (r : Nat) (y : State) (f : Nat × Nat × Nat), s.clocked = true →
    let v := d.pin.target % 4
    let en := SEQ_P_CTL_EN p.val
    let alone := s.flag (SEQ_F_CTL_CLONE_EN p.val) = false
    let ready := SEQ_P_SET_READY p.val
    let rep := SEQ_P_SET_REPEAT_CNT v
    let beam := s.flag (SEQ_P_CTL_MODE p.val) = true
    let fits := geomOk s p.val = true ∧ otherArrays s p.val + pArrays s p.val ≤ 4
    let takes := FiresNext s n.val 8 d ∧ latchGate s n.val v = none ∧ s.flag (SEQ_P_CTL_EN v) = true
    (alone → bit (s.rdN ready) k.val = false → takeLocked (.set p.val k.val) (s.rdN (SEQ_P_SET_BASE p.val k.val)) (setBytes s p.val) false s = .ok y →
      ∃ t, exec (.setReadyWrite p (BitVec.ofNat 32 (2 ^ k.val))) s = .next t ∧ t.fld ⟨ready, k.val, 1⟩ = 1 ∧ (k.val, 4 * s.now) ∈ (t.port p.val).ready ∧ t.mmu.holders = y.mmu.holders) ∧
    (bit (s.rdN ready) k.val = true → exec (.setReadyWrite p (BitVec.ofNat 32 (2 ^ k.val))) s = .next s) ∧
    (FiresNext s n.val 8 d → latchGate s n.val v = some r → s.rdN r < 0xFFFFFFFF → ∃ t, exec (.vbLatch n) s = .next t ∧ t.rdN r = s.rdN r + 1 ∧
      t.ports = s.ports ∧ t.pipes = s.pipes) ∧
    (takes → s.flag (SEQ_P_SET_STAT_SHOWING v) = false → (s.port v).ready = [(k.val, r)] → r < d.placed → ∃ t, exec (.vbLatch n) s = .next t ∧
      t.fld (SEQ_P_SET_STAT_SHOWN v) = k.val ∧ t.flag (SEQ_P_SET_STAT_SHOWING v) = true ∧ (t.port v).lastLatch = some d.placed) ∧
    (takes → s.flag (SEQ_P_SET_STAT_SHOWING v) = true → (s.port v).ready = [] → s.rdN rep < 0xFFFFFFFF → ∃ t, exec (.vbLatch n) s = .next t ∧ t.rdN rep = s.rdN rep + 1 ∧
      t.fld (SEQ_P_SET_STAT_SHOWN v) = s.fld (SEQ_P_SET_STAT_SHOWN v) ∧ (t.port v).lastLatch = some d.placed) ∧
    (s.flag en = false → alone → ¬ beam →
      (capFault s p.val = none → fits → ∃ t, exec (.seqPortEnable p) s = .next t ∧ t.flag en = true ∧ SameRegs s t [SEQ_P_CTL p.val, SEQ_F_STAT p.val]) ∧
      (capFault s p.val = none → ¬ fits → exec (.seqPortEnable p) s = .next s) ∧
      (capFault s p.val = some f → ∃ t, exec (.seqPortEnable p) s = .next t ∧ t.flag en = false ∧ t.flag (SEQ_F_STAT_CAP_MISMATCH p.val) = true)) ∧
    (s.flag en = false → alone → beam →
      (geomOk s p.val = true → s.fld (PHS_TB_SRC_TYPE (s.fld (SEQ_P_CTL_TB p.val))) = 5 → ∃ t, exec (.seqPortEnable p) s = .next t ∧ t.flag en = true ∧ SameRegs s t [SEQ_P_CTL p.val]) ∧
      (geomOk s p.val = false ∨ s.fld (PHS_TB_SRC_TYPE (s.fld (SEQ_P_CTL_TB p.val))) ≠ 5 → exec (.seqPortEnable p) s = .next s)) ∧
    (s.flag en = true → ∃ t, exec (.seqPortDisable p) s = .next t ∧ t.flag en = false ∧ t.flag (SEQ_P_SET_STAT_SHOWING p.val) = false ∧ (t.port p.val).queue = [] ∧ (t.port p.val).ready = [])) ∧
  -- at a port whose stream rests, the earliest announced load that no buffer serves has its plane fetched, block by block as its mask names them (R111), and its words arrive as memory holds them; words that come after the load's time are counted as late (R382). A beam port fetches its next line into a free line buffer (R133; which one is the model's choice, log entry 113). Where the spec leaves a corner of this open, what it says is the model's choice (log entries 5, 59, 113).
  (∀ (s : State) (p : Fin 4) (b : Fin 2) (dt cnt dl set a plane : Nat) (x : Notice) (l : Nat × Nat) (rest : List (Nat × Nat)), s.clocked = true →
    (s.port p.val).cur = none → (s.port p.val).due = [] → (s.port p.val).beam = none →
    let z := passTime dt s
    let pt := s.port p.val
    let beam := s.flag (SEQ_P_CTL_MODE p.val) = true
    let id := noticePlane s p.val x
    let bf := pt.buf b.val
    let lb := pt.lineBuf b.val
    let w := blkW s p.val
    let ix := fun g : Nat => (bf.blocks[g / w]?.getD 0) * w + g % w
    let m := min cnt (bf.blocks.length * w - bf.got)
    let base := planeAddr s p.val set a plane
    let j := min cnt (s.fld (SEQ_P_BEAM_GEOM_COLS p.val) - lb.got)
    let lineAt := fun c : Nat => s.rdN (SEQ_P_SET_BASE p.val l.1) + l.2 * s.rdN (SEQ_P_BEAM_STRIDE p.val) + 8 * c
    (s.flag (SEQ_P_CTL_EN p.val) = true → ¬ beam → s.flag (SEQ_P_SET_STAT_SHOWING p.val) = true → pendingLoads s p.val = [x] → pt.buf0.plane ≠ some id → pt.buf1.plane ≠ some id →
      latchBefore s p.val x.placed = false → bufFor s p.val [] x = some b.val → ∃ t, exec (.planeFetchStart p) s = .next t ∧
      (t.port p.val).buf b.val = { plane := some id, fetching := some x.placed, blocks := maskBlocks x.mask, got := 0, words := [] } ∧ t.regs = s.regs) ∧
    (s.flag (SEQ_P_CTL_EN p.val) = true → beam → nextLines s p.val = l :: rest → pt.line0.line = none → pt.line1.line = none → ∃ t, exec (.planeFetchStart p) s = .next t ∧
      (t.port p.val).line0 = { line := some l, got := 0, words := [] } ∧ t.regs = s.regs) ∧
    (¬ beam → bf.plane = some (set, a, plane) → bf.fetching = some dl → sysServed z (base + 8 * ix bf.got) (8 * m) = true → ∃ t, exec (.planeFetchData p b dt cnt) s = .next t ∧
      ((t.port p.val).buf b.val).got = bf.got + m ∧ ((t.port p.val).buf b.val).fetching = (if bf.got + m = bf.blocks.length * w then none else some dl) ∧
      (∀ i, i < m → kget (fun _ => 0#64) ((t.port p.val).buf b.val).words (ix (bf.got + i)) = BitVec.ofNat 64 (leNat (sysRead z (base + 8 * ix (bf.got + i)) 8))) ∧
      (s.rdN (MEM_SRC_LATE_CNT p.val) < 0xFFFFFFFF → t.rdN (MEM_SRC_LATE_CNT p.val) = s.rdN (MEM_SRC_LATE_CNT p.val) + (if dl < 4 * z.now then 1 else 0))) ∧
    (beam → lb.line = some l → sysServed z (lineAt lb.got) (8 * j) = true → ∃ t, exec (.planeFetchData p b dt cnt) s = .next t ∧ ((t.port p.val).lineBuf b.val).got = lb.got + j ∧
      ∀ i, i < j → kget (fun _ => 0#64) ((t.port p.val).lineBuf b.val).words (lb.got + i) = BitVec.ofNat 64 (leNat (sysRead z (lineAt (lb.got + i)) 8))))

/-- ParkingAndBackChannel: What parking and the back channel do. -/
def Obligations.ParkingAndBackChannel : Prop :=
  -- PARK and UNPARK are refused with PRECOND on a port that takes no latches and with BUSY while one waits (R159, R177); else they wait for a latch, which puts the port in or out of the parked hold: it asks for a RESET of every block, and those under MIN_DWELL are parked as soon as R113 permits (R159). Where the spec leaves a corner of this open, what it says is the model's choice (log entries 57, 113).
  (∀ (s : State) (p : Fin 4) (a : Fin 3) (placed q : Nat), s.clocked = true →
    let st := SEQ_F_STAT_CMD_STATUS p.val
    let pend := SEQ_F_STAT_PARK_PEND p.val
    let pt := s.port p.val
    let waits := pt.parkPend ≠ none ∨ pt.parkDue ≠ none
    let z := passTime (ceilDiv q 4 - s.now) s
    let at_ := max q (4 * z.now)
    let again := (pt.arr a.val).parkAgain
    let now := again - dwellBlocks s p.val a.val again at_
    (∀ i on, (i, on) ∈ [(Instr.cmdPark p, true), (.cmdUnpark p, false)] →
      (parkRefused s p.val = true → ∃ t, exec i s = .next t ∧ t.fld st = 7 ∧ t.ports = s.ports) ∧
      (parkRefused s p.val = false → waits → ∃ t, exec i s = .next t ∧ t.fld st = 4 ∧ t.ports = s.ports) ∧
      (parkRefused s p.val = false → ¬ waits → ∃ t, exec i s = .next t ∧ t.fld st = 0 ∧ t.flag pend = true ∧ (t.port p.val).parkPend = some on)) ∧
    (pt.parkDue = some (true, placed) → ∃ t, exec (.parkAtLatch p) s = .next t ∧ (t.port p.val).parkHold = true ∧ (t.port p.val).parkDue = none ∧ t.flag pend = false ∧
      (a.val < pArrays s p.val → ((t.port p.val).arr a.val).parkAgain = dwellBlocks s p.val a.val 0xFFFF placed ∧
        (linkCarries s p.val = true → DueWord.reset a.val 1 0xFFFF placed (placed + 24) false ∈ (t.port p.val).due))) ∧
    (pt.parkDue = some (false, placed) → ∃ t, exec (.unparkAtLatch p) s = .next t ∧ (t.port p.val).parkHold = false ∧ (t.port p.val).parkDue = none ∧ t.flag pend = false ∧
      t.flag (SEQ_F_STAT_PARKED p.val) = false) ∧
    (pt.parkDue = none → exec (.parkAtLatch p) s = .next s ∧ exec (.unparkAtLatch p) s = .next s) ∧
    (furtherAt s p.val a.val = some q → pt.parkHold = true → ∃ t, exec (.furtherPark p a) s = .next t ∧ ((t.port p.val).arr a.val).parkAgain = again - now ∧ t.now = z.now ∧
      (linkCarries s p.val = true → DueWord.reset a.val 1 now at_ (at_ + 24) false ∈ (t.port p.val).due)) ∧
    (furtherAt s p.val a.val = some q → pt.parkHold = false → exec (.furtherPark p a) s = .next z) ∧
    (furtherAt s p.val a.val = none → exec (.furtherPark p a) s = .next s)) ∧
  -- what the words of a facet module do while its link is up (R141, R149 to R151, R157, R160, R165): STATUS shows the blocks parked and floating, ACK releases the load that it names, with the counter of its result and the frame's taint, one that does not come in ACK_TO is counted, and CAP and ECHO words are kept for the exchange. Nothing is heard while the link is down. Where the spec leaves a corner of this open, what it says is the model's choice (log entry 113).
  (∀ (s : State) (p : Fin 4) (a : Fin 3) (blk : Fin 16) (v w : BitVec 16) (f g : BitVec 8) (res : Fin 8) (reason : Fin 16) (ix : Fin 7) (val : BitVec 32) (arg : BitVec 40) (dt tq : Nat)
    (x : AwaitAck) (e : Nat × Nat), s.clocked = true →
    let z := passTime dt s
    let pt := s.port p.val
    let up := linkCarries s p.val = true
    let quiet := pt.cur = none ∧ pt.due = []
    let more := fun (t : State) (r : Nat) => s.rdN r < 0xFFFFFFFF → t.rdN r = s.rdN r + 1
    let tainted := fun t : State => pt.lastLatch ∈ (t.port p.val).taints
    let acked := pt.await.find? (fun y => y.arr == a.val && y.lseq == v.toNat)
    (¬ up → ∀ i ∈ [Instr.statusWord p a v w f, .ack p a blk v res g, .resetNak p a g v reason, .backWordDiscard p, .capWord p a ix val], exec i s = .next s) ∧
    (¬ up → exec (.echoWord p arg dt) s = .next z) ∧
    (up → ∃ t, exec (.statusWord p a v w f) s = .next t ∧ t.fld (SEQ_F_A_BSTATE_PARKED p.val a.val) = v.toNat ∧ t.fld (SEQ_F_A_BSTATE_FLOATING p.val a.val) = w.toNat ∧
      ((t.port p.val).arr a.val).flags = f.toNat) ∧
    (up → quiet → acked = none → ∃ t, exec (.ack p a blk v res g) s = .next t ∧ more t (SEQ_F_BAD_WORD_CNT p.val) ∧ t.ports = s.ports) ∧
    (up → quiet → acked = some x → ∃ t, exec (.ack p a blk v res g) s = .next t ∧ (t.port p.val).await = pt.await.filter (fun y => y != x) ∧
      (res = 1 → more t (SEQ_F_A_CRC_ERR_CNT p.val a.val) ∧ tainted t) ∧ (res = 2 ∨ res = 3 ∨ res = 4 → more t (SEQ_F_A_NAK_CNT p.val a.val) ∧ tainted t) ∧
      (res = 0 → t.ports = (s.setPort p.val { pt with await := pt.await.filter (fun y => y != x) }).ports)) ∧
    (quiet → nextTimeout pt = some (x, tq) → x.arr < 3 → ∃ t, exec (.ackTimeout p) s = .next t ∧ t.now = max s.now (ceilDiv tq 4 + ackTo s p.val) ∧
      more t (SEQ_F_A_ACK_MISS_CNT p.val x.arr) ∧ tainted t ∧ (t.port p.val).await = pt.await.filter (fun y => y != x)) ∧
    (quiet → nextTimeout pt = none → exec (.ackTimeout p) s = .next s) ∧
    (up → ∃ t, exec (.resetNak p a g v reason) s = .next t ∧ t.rdN (SEQ_F_A_RESET_NAK_CNT p.val a.val) =
      min (s.rdN (SEQ_F_A_RESET_NAK_CNT p.val a.val) + ((List.range 16).filter (fun i => v.getLsbD i)).length) 0xFFFFFFFF) ∧
    (up → ∃ t, exec (.backWordDiscard p) s = .next t ∧ more t (SEQ_F_BAD_WORD_CNT p.val) ∧ SameRegs s t [SEQ_F_BAD_WORD_CNT p.val] ∧ t.ports = s.ports) ∧
    (up → ∃ t, exec (.capWord p a ix val) s = .next t ∧ kget (fun _ => 0#32) ((t.port p.val).arr a.val).caps ix.val = val ∧ bit ((t.port p.val).arr a.val).capsSeen ix.val = true) ∧
    (up → quiet → pt.echoSent.find? (fun y => y.1 == arg.toNat) = some e → ∃ t, exec (.echoWord p arg dt) s = .next t ∧ (t.port p.val).echoes = pt.echoes ++ [4 * z.now - e.2] ∧
      (t.port p.val).echoSent = pt.echoSent.filter (fun y => y != e)))

/-- FacetEvents: What facet commands and facet temperatures do. -/
def Obligations.FacetEvents : Prop :=
  -- the capability exchange ends as the eighth echo is back, with the flight time and the reset latency that the manual computes, and may be repeated (R165, R167, R170); the limits, the interval and the clone of a port (R164, R168, R175), and the release of a trip, refused while an array is hot (R163). Where the spec leaves a corner of this open, what it says is the model's choice (log entries 55, 57).
  (∀ (s : State) (p src : Fin 4) (a : Fin 3) (v : BitVec 32) (i : BitVec 8) (en : Bool), s.clocked = true →
    let pt := s.port p.val
    let st := SEQ_F_STAT_CMD_STATUS p.val
    let off := s.flag (SEQ_P_CTL_EN p.val) = false
    let rep := ((s.port p.val).arr a.val).tlimRep
    let low := fun (k : Nat) => min (sext (v.toNat / 2 ^ (16 * k)) 16) (sext (rep / 2 ^ (16 * k)) 16)
    let hot := ∃ b k, b < 3 ∧ k < 4 ∧ bit (s.fld (SEQ_F_STAT_TRIP p.val)) b = true ∧ bit (pt.arr b).reported k = true ∧
      sext (s.fld (SEQ_F_A_TLIM_WARN p.val b)) 16 ≤ sext (kget (fun _ => 0) (pt.arr b).tempVal k) 16
    let done := linkCarries s p.val = true ∧ pt.capsBusy = true ∧ capsComplete pt = true ∧ 8 ≤ pt.echoes.length
    let n := capHalf pt 0 0 1
    let lat := s.rdN (LNK_L_LAT (10 * p.val))
    let mean := (rndDiv ((pt.echoes.sum : Nat) : Int) (pt.echoes.length : Nat)).toNat
    let flight := (mean - lat % 65536 - lat / 65536 - 4 * capHalf pt 0 6 1) / 2
    let far := (List.range n).foldl (fun m b => max m (hopSum pt b + 4 * capHalf pt b 3 0)) 0
    let recap := off ∧ s.flag (SEQ_F_STAT_ACTIVE p.val) = true ∧ s.flag (SEQ_P_CTL_MODE p.val) = false
    (done → ∃ t, exec (.facetCapsDone p) s = .next t ∧ t.fld (SEQ_F_STAT_FOUND p.val) = n ∧ (t.port p.val).capsDone = true ∧ (t.port p.val).capsBusy = false ∧
      t.rdN (SEQ_F_A_GEOM p.val 0) = (kget (fun _ => 0#32) pt.arr0.caps 1).toNat ∧ t.rd (SEQ_F_FLIGHT p.val) = BitVec.ofNat 64 flight ∧
      t.rd (SEQ_P_RST_LAT p.val) = BitVec.ofNat 64 (ceilDiv (24 + lat % 65536 + flight + far) 40 * 10)) ∧
    (¬ done → exec (.facetCapsDone p) s = .next s) ∧
    (¬ recap → ∃ t, exec (.cmdRecap p) s = .next t ∧ t.fld st = 7 ∧ t.ports = s.ports) ∧
    (recap → pt.capsBusy = true → ∃ t, exec (.cmdRecap p) s = .next t ∧ t.fld st = 4 ∧ t.ports = s.ports) ∧
    (recap → pt.capsBusy = false → ∃ t, exec (.cmdRecap p) s = .next t ∧ t.fld st = 0 ∧ (t.port p.val).capsBusy = true ∧ (t.port p.val).echoes = [] ∧ (t.port p.val).arr0.capsSeen = 0) ∧
    (∃ t, exec (.tlimWrite p a v) s = .next t ∧ sext (t.fld (SEQ_F_A_TLIM_WARN p.val a.val)) 16 = low 0 ∧ sext (t.fld (SEQ_F_A_TLIM_TRIP p.val a.val)) 16 = low 1 ∧ SameRegs s t [SEQ_F_A_TLIM p.val a.val]) ∧
    (∃ t, exec (.tempIntWrite p i) s = .next t ∧ t.fld (SEQ_F_CTL_TEMP_INT p.val) = i.toNat ∧ SameRegs s t [SEQ_F_CTL p.val] ∧
      (s.flag (SEQ_F_STAT_ACTIVE p.val) = true → linkCarries s p.val = true → ∀ b, b < s.fld (SEQ_F_STAT_FOUND p.val) →
        DueWord.cmd 3 b (max 1 i.toNat) (4 * s.now) ∈ (t.port p.val).due)) ∧
    (off → s.flag (SEQ_P_CTL_EN src.val) = false → ∃ t, exec (.cloneWrite p en src) s = .next t ∧ t.flag (SEQ_F_CTL_CLONE_EN p.val) = en ∧ t.fld (SEQ_F_CTL_CLONE_SRC p.val) = src.val) ∧
    (¬ off ∨ s.flag (SEQ_P_CTL_EN src.val) = true → exec (.cloneWrite p en src) s = .next s) ∧
    (hot → ∃ t, exec (.cmdClearTrip p) s = .next t ∧ t.fld st = 7 ∧ t.ports = s.ports) ∧
    (¬ hot → pt.clearPend ≠ 0 → ∃ t, exec (.cmdClearTrip p) s = .next t ∧ t.fld st = 4 ∧ t.ports = s.ports) ∧
    (¬ hot → pt.clearPend = 0 → ∃ t, exec (.cmdClearTrip p) s = .next t ∧ t.fld st = 0 ∧ (t.port p.val).clearPend = s.fld (SEQ_F_STAT_TRIP p.val)) ∧
    (pt.tripDue ≠ 0 → ∃ t, exec (.tripRelease p) s = .next t ∧ (t.port p.val).tripDue = 0 ∧
      ∀ b, b < 3 → bit (t.fld (SEQ_F_STAT_TRIP p.val)) b = (bit (s.fld (SEQ_F_STAT_TRIP p.val)) b && !bit pt.tripDue b)) ∧
    (pt.tripDue = 0 → exec (.tripRelease p) s = .next s)) ∧
  -- a reading reaches its register, and one at or above TRIP trips its array (R161, R163); a sensor that the array has and that is silent for 16 intervals makes its array STALE and trips it (R162). Where the spec leaves a corner of this open, what it says is the model's choice (log entries 54, 57).
  (∀ (s : State) (p : Fin 4) (a : Fin 3) (k : Fin 4) (dt : Nat) (temp : BitVec 16), s.clocked = true →
    let z := passTime dt s
    let r := (s.port p.val).arr a.val
    let silent := s.flag (SEQ_F_STAT_ACTIVE p.val) = true ∧ s.flag (SEQ_P_CTL_MODE p.val) = false ∧ (s.port p.val).capsDone = true ∧ a.val < s.fld (SEQ_F_STAT_FOUND p.val) ∧
      k.val < sensors s p.val a.val ∧ bit r.late k.val = false ∧ kget (fun _ => 0) r.tempAt k.val + 16 * tempInt s p.val ≤ z.now
    (linkCarries s p.val = false → exec (.tempWord p a k dt temp) s = .next z) ∧
    (linkCarries s p.val = true → ∃ t, exec (.tempWord p a k dt temp) s = .next t ∧
      t.fld ⟨(if k.val < 2 then SEQ_F_A_TEMP01 p.val a.val else SEQ_F_A_TEMP23 p.val a.val), 16 * (k.val % 2), 16⟩ = temp.toNat ∧
      (sext (s.fld (SEQ_F_A_TLIM_TRIP p.val a.val)) 16 ≤ temp.toInt → bit (t.fld (SEQ_F_STAT_TRIP p.val)) a.val = true) ∧
      (temp.toInt < sext (s.fld (SEQ_F_A_TLIM_TRIP p.val a.val)) 16 → t.fld (SEQ_F_STAT_TRIP p.val) = s.fld (SEQ_F_STAT_TRIP p.val))) ∧
    (silent → ∃ t, exec (.tempStale p a k dt) s = .next t ∧ bit (t.fld (SEQ_F_STAT_TRIP p.val)) a.val = true ∧ bit (t.fld (SEQ_F_STAT_STALE p.val)) a.val = true) ∧
    (¬ silent → exec (.tempStale p a k dt) s = .next z))

/-- BeamSweeps: a BEAM_SWEEP pin begins the next line of a beam port, forwards or, with BIDIR, backwards, its first sample 6 ns after the placed time (R73, R131); one of another timebase, or to a mirror port of a SCANNER timebase, is counted as a miss (R95), one for a port whose link is not up as dropped (R169), and one after the last line does nothing. Where the spec leaves a corner of this open, what it says is the model's choice (log entries 10, 22). -/
def Obligations.BeamSweeps : Prop :=
  ∀ (s : State) (n : Fin 4) (d : Placed), s.clocked = true → FiresNext s n.val 10 d →
    let v := d.pin.target % 4
    let line := s.fld (SEQ_P_BEAM_LINE_LINE v)
    let miss := PHS_TB_BIND_MISS_CNT n.val
    let misses := s.fld (SEQ_P_CTL_TB v) ≠ n.val ∨ (s.fld (PHS_TB_SRC_TYPE n.val) = 5 ∧ s.flag (SEQ_P_CTL_MODE v) = false)
    let up := s.flag (SEQ_F_STAT_ACTIVE v) = true
    let rev := bit d.pin.arg 0
    let begins := (rev = false ∨ s.flag (SEQ_P_BEAM_CTL_BIDIR v) = true) ∧ line < s.fld (SEQ_P_BEAM_GEOM_LINES v)
    let gives := fun P : State → Prop => ∃ t, exec (.beamSweep n) s = .next t ∧ P t
    (misses → gives (fun t => t.ports = s.ports ∧ (s.rdN miss < 0xFFFFFFFF → t.rdN miss = s.rdN miss + 1))) ∧
    (¬ misses → beamDraws s v = false → gives (fun t => t.ports = s.ports ∧ t.rdN miss = s.rdN miss)) ∧
    (¬ misses → beamDraws s v = true → ¬ up → gives (fun t => t.ports = s.ports ∧ (s.rdN (SEQ_F_LINK_DROP_CNT v) < 0xFFFFFFFF → t.rdN (SEQ_F_LINK_DROP_CNT v) = s.rdN (SEQ_F_LINK_DROP_CNT v) + 1))) ∧
    (¬ misses → beamDraws s v = true → up → begins → gives (fun t => t.fld (SEQ_P_BEAM_LINE_LINE v) = line + 1 ∧ t.flag (SEQ_P_BEAM_LINE_ACTIVE v) = true ∧
      t.flag (SEQ_P_BEAM_LINE_DIR v) = rev ∧ ∃ x, (t.port v).beam = some x ∧ x.rev = rev ∧ x.line = line ∧ x.next = d.placed + 24 ∧ x.n = 0)) ∧
    (¬ misses → beamDraws s v = true → up → ¬ begins → gives (fun t => t.fld (SEQ_P_BEAM_LINE_LINE v) = line ∧ t.rdN miss = s.rdN miss))

/-- PixelUnit: What commits, tables and renders of the pixel unit do. -/
def Obligations.PixelUnit : Prop :=
  -- GO makes a commit pending and CANCEL withdraws it, or finds NOTHING (R203, R208); a layer's fence is read 4 µs before the latch of its port, once for each, and its return is timed (R209). A latch counts the frame and, of a pending commit, rejects one that fails a check, defers one whose table is still loading, and takes any other whole (R204 to R207, R215). Where the spec leaves a corner of this open, what it says is the model's choice (log entry 62).
  (∀ (s : State) (p : Fin 4) (l : Fin 8) (dt placed flags c st at_ : Nat) (bad : Option Nat), s.clocked = true →
    let go := PIX_P_COMMIT_GO p.val
    let status := PIX_P_COMMIT_STATUS_CMD_STATUS p.val
    let z := passTime (ceilDiv at_ 4 - 4000 - s.now) s
    let ls := shadowLayer z p.val l.val
    let a := lw ls 13 0 64
    let x := pixLatch p.val placed flags s
    let due := s.flag go = true ∧ (s.pipe p.val).render = none
    (∃ t, exec (.commitGo p) s = .next t ∧ t.flag go = true ∧ SameOutsideRings s t [PIX_P_COMMIT p.val]) ∧
    (s.flag go = true → ∃ t, exec (.commitCancel p) s = .next t ∧ t.flag go = false ∧ t.fld status = 0 ∧ ∀ f ∈ ((t.pipe p.val).layer l.val).fences, f.go = false) ∧
    (s.flag go = false → ∃ t, exec (.commitCancel p) s = .next t ∧ t.fld status = 3 ∧ t.flag go = false ∧ t.mmu = s.mmu) ∧
    (latchDue s p.val = none → exec (.fenceRead p l) s = .next s) ∧
    (latchDue s p.val = some at_ → s.flag go = true → lyWAIT ls = true → fenceRead z p.val l.val true ls at_ = false → ((s.pipe p.val).layer l.val).carried = none →
      ∃ t, exec (.fenceRead p l) s = .next t ∧ { go := true, addr := a, issued := 4 * z.now, value := (sysLoad blkPIX p.val a 8 z).2.map leNat } ∈ ((t.pipe p.val).layer l.val).fences) ∧
    (latchDue s p.val = some at_ → ((s.pipe p.val).layer l.val).carried = none → s.flag go = false ∨ lyWAIT ls = false ∨ fenceRead z p.val l.val true ls at_ = true →
      exec (.fenceRead p l) s = .next z) ∧
    (∃ t, exec (.fenceReadReturn p l dt) s = .next t ∧ ((t.pipe p.val).layer l.val).fences =
      ((s.pipe p.val).layer l.val).fences.map (fun f => if f.back = none then { f with back := some (4 * (s.now + dt)) } else f)) ∧
    x.rdN (PIX_P_FRAME_CNT p.val) = (s.rdN (PIX_P_FRAME_CNT p.val) + 1) % 2 ^ 64 ∧ x.rdN (PIX_P_FLIP_TIME p.val) = showAtQ s placed % 2 ^ 64 ∧
    (due → commitCheck s p.val = some (c, st, bad) → s.rdN (PIX_P_REJECT_CNT p.val) < 0xFFFFFFFF →
      x.flag go = false ∧ x.rdN (PIX_P_REJECT_CNT p.val) = s.rdN (PIX_P_REJECT_CNT p.val) + 1 ∧ x.fld status = st) ∧
    (due → commitCheck s p.val = none → loadingBanks s p.val = 0 → x.flag go = false ∧ x.fld status = 0 ∧ x.rd (PIX_P_COMMIT_FRAME p.val) = x.rd (PIX_P_FRAME_CNT p.val) ∧
      x.rd (PIX_P_COMMIT_TIME p.val) = x.rd (PIX_P_FLIP_TIME p.val) ∧ ∀ r ∈ pipeRegs p.val, x.rd (r + 0x800) = s.rd r) ∧
    (due → commitCheck s p.val = none → loadingBanks s p.val ≠ 0 → s.rdN (PIX_P_DEFER_CNT p.val) < 0xFFFFFFFF →
      x.flag go = true ∧ x.rdN (PIX_P_DEFER_CNT p.val) = s.rdN (PIX_P_DEFER_CNT p.val) + 1)) ∧
  -- a table's load is refused for the bank in effect and while one runs, else it begins, and it ends with the bank holding the bytes at TBL_ADDR (R198). A render is done no sooner than its pixels can be made; then its set is READY on the ports it drew (R199). Where the spec leaves a corner of this open, what it says is the model's choice (log entry 61).
  (∀ (s : State) (p q : Fin 4) (kind b : Fin 2) (dt a : Nat) (k : Fin 4) (placed : Nat) (r : Render) (y : State), s.clocked = true →
    let z := passTime dt s
    let mesh := kind.val = 0
    let stat := PIX_P_TBL_STAT_CMD_STATUS p.val
    let inUse := if mesh then s.fld (eff (PIX_P_WARP_MESH_BANK p.val)) else s.fld (eff (PIX_P_COLOUR_LUT_BANK p.val))
    let busy := if mesh then PIX_P_TBL_STAT_MESH_BUSY p.val else PIX_P_TBL_STAT_LUT_BUSY p.val
    let n := if mesh then 19240 else 287496
    let load := fun t : State => if mesh then (t.pipe p.val).meshLoad else (t.pipe p.val).lutLoad
    let held := fun t : State => if mesh then (if b.val = 0 then (t.pipe p.val).mesh0 else (t.pipe p.val).mesh1) else (if b.val = 0 then (t.pipe p.val).lut0 else (t.pipe p.val).lut1)
    let good := sysServed z a n = true ∧ s.flag MEM_CTL_NB_EN = false ∧ s.memc.uncorr = [] ∧ ∀ i, i < n → ∃ g, xlate z (sysAsid z) 0 (a + i) akREAD = .ok g
    let w := z.setPipe p.val { z.pipe p.val with render := none }
    (b.val = inUse → ∃ t, exec (.tableLoad p kind b) s = .next t ∧ t.fld stat = 13 ∧ t.pipes = s.pipes) ∧
    (b.val ≠ inUse → s.flag busy = true → ∃ t, exec (.tableLoad p kind b) s = .next t ∧ t.fld stat = 4 ∧ t.pipes = s.pipes) ∧
    (b.val ≠ inUse → s.flag busy = false → ∃ t, exec (.tableLoad p kind b) s = .next t ∧ t.fld stat = 0 ∧ t.flag busy = true ∧ load t = some (b.val, s.rdN (PIX_P_TBL_ADDR p.val))) ∧
    (load s = none → exec (.tableLoadDone p kind dt) s = .next z) ∧
    (load s = some (b.val, a) → sysServed z a n = false → exec (.tableLoadDone p kind dt) s = .next z) ∧
    (load s = some (b.val, a) → good → ∃ t, exec (.tableLoadDone p kind dt) s = .next t ∧ t.flag busy = false ∧ load t = none ∧ held t = sysRead z a n ∧
      t.flag ⟨PIX_P_TBL_STAT p.val, 2 + 2 * kind.val + b.val, 1⟩ = true) ∧
    ((s.pipe p.val).render = none → exec (.renderDone p dt) s = .next z) ∧
    ((s.pipe p.val).render = some r → 4 * z.now < renderEnd z p.val r → exec (.renderDone p dt) s = .next z) ∧
    ((s.pipe p.val).render = some r → renderEnd z p.val r ≤ 4 * z.now → r.shown = [] → ∃ t, exec (.renderDone p dt) s = .next t ∧ (t.pipe p.val).render = none) ∧
    ((s.pipe p.val).render = some { slot := k.val, ports := [q.val], placed := placed, shown := [] } → (∀ x ∈ effRoutes z p.val, x.1 ≠ q.val) →
      renderEnd z p.val { slot := k.val, ports := [q.val], placed := placed, shown := [] } ≤ 4 * z.now →
      s.flag (eff (PIX_P_WARP_EN p.val)) = false → s.flag (SEQ_F_CTL_CLONE_EN q.val) = false →
      takeLocked (.set q.val k.val) (s.rdN (SEQ_P_SET_BASE q.val k.val)) (setBytes s q.val) false w = .ok y →
      ∃ t, exec (.renderDone p dt) s = .next t ∧ t.fld ⟨SEQ_P_SET_READY q.val, k.val, 1⟩ = 1))

/-- StringModesAndFaults: What modes a string takes and what puts it dark. -/
def Obligations.StringModesAndFaults : Prop :=
  -- MODE OFF closes the shunt and turns the gates off; PLANE and FREE start from OFF at level 0, unless the electrical settings refuse them; a mode that stands is OK (R223, R235). Where the spec leaves a corner of this open, what it says is the model's choice (log entry 114).
  (∀ (s : State) (n : Fin 24), s.clocked = true →
    let y := settleStr n.val (senseInterlocks s)
    let mode := strMode s n.val
    let st := LDR_S_STAT_CMD_STATUS n.val
    (∃ t, exec (.stringModeOff n) s = .next t ∧ strMode t n.val = 0 ∧ strClosed t n.val = true ∧ (t.str n.val).hs = false ∧ (t.str n.val).ls = false ∧
      (t.str n.val).iref = 0 ∧ (t.str n.val).due = [] ∧ t.fld st = 0) ∧
    (∀ i m, (i, m) ∈ [(Instr.stringModePlane n, 1), (.stringModeFree n, 2)] →
      let refused := modeRefused s n.val || (m == 2 && freeRefused s n.val)
      (mode = 0 → refused = false → ∃ t, exec i s = .next t ∧ strMode t n.val = m ∧ t.fld (LDR_S_STAT_LVL_IDX n.val) = 0 ∧ t.fld st = 0) ∧
      (mode ≠ m → (mode ≠ 0 ∨ refused = true) → ∃ t, exec i s = .next t ∧ t.fld st = 7 ∧ SameRegs y t [LDR_S_STAT n.val] ∧ strMode t n.val = mode ∧ t.strings = y.strings) ∧
      (mode = m → ∃ t, exec i s = .next t ∧ t.fld st = 0 ∧ SameRegs y t [LDR_S_STAT n.val] ∧ strMode t n.val = mode ∧ t.strings = y.strings))) ∧
  -- an interlock low for long enough, an overcurrent and an open string hold strings dark with their cause, the shunt closed (R39, R249, R250); a healthy input reads high again (R250), and SAFE_CLR clears the causes named, unless one persists (R252). Where the spec leaves a corner of this open, what it says is the model's choice (log entries 66, 114).
  (∀ (s : State) (n : Fin 24) (i : Fin 4) (w : Nat) (cur : BitVec 22) (v : BitVec 32), s.mainOn = true →
    let y := settleLight s
    let z := settleStr n.val (senseInterlocks s)
    let held := fun (was t : State) (k c : Nat) => hasCause t k c = true ∧ (hasCause was k c = false → strDark t k = true ∧ strClosed t k = true ∧ (t.str k).hs = false)
    let low := bit (y.fld LDR_INTLK_STAT_LEVEL) i.val = false ∧ bit (y.fld LDR_INTLK_STAT_LATCHED) i.val = true
    let passes := if s.clocked = true then 10 ≤ w else 8 ≤ w
    let ilim := s.rdN (LDR_S_ILIM n.val) % 2 ^ 20
    let dark := strMode s n.val = 0 ∨ strDark z n.val = true
    let cnt := if (z.str n.val).overThis = true then (z.str n.val).overCnt else (z.str n.val).overCnt + 1
    let trips := 5 * ilim < 4 * cur.toNat ∨ max 1 (s.fld (LDR_S_PROT_OC_N n.val)) ≤ cnt
    let lit := (z.str n.val).hs = true ∧ litOn z n.val = true
    let end_ := max (z.str n.val).hsAt (z.str n.val).litAt + 4 * s.fld (LDR_S_PROT_OPEN_NS n.val)
    let causes := v.toNat / 2 ^ 24 % 32
    (passes → ¬ low → ∃ t, exec (.interlockOpen i w) s = .next t ∧ bit (t.fld LDR_INTLK_STAT_LEVEL) i.val = false ∧ bit (t.fld LDR_INTLK_STAT_LATCHED) i.val = true ∧
      ∀ k, k < 24 → held y t k 1) ∧
    (passes → low → exec (.interlockOpen i w) s = .next y) ∧
    (¬ passes → s.clocked = true → exec (.interlockOpen i w) s = .next y) ∧
    (¬ passes → s.clocked = false → ∃ t, exec (.interlockOpen i w) s = .next t ∧ (w = 0 → SameRegs y t [] ∧ t.strings = y.strings)) ∧
    (s.bankUp 0 = true → ∃ t, exec (.interlockHealthy i) s = .next t ∧ bit (t.fld LDR_INTLK_STAT_LEVEL) i.val = true ∧ SameRegs y t [LDR_INTLK_STAT]) ∧
    (s.bankUp 0 = false → exec (.interlockHealthy i) s = .next y) ∧
    (s.clocked = true → dark ∨ cur.toNat ≤ ilim → exec (.stringOvercurrent n cur) s = .next z) ∧
    (s.clocked = true → ¬ dark → ilim < cur.toNat → trips → ∃ t, exec (.stringOvercurrent n cur) s = .next t ∧ held z t n.val 2) ∧
    (s.clocked = true → ¬ dark → ilim < cur.toNat → ¬ trips → NothingDue z n.val → ∃ t, exec (.stringOvercurrent n cur) s = .next t ∧ (t.str n.val).overCnt = cnt ∧
      (t.str n.val).overThis = true ∧ (t.str n.val).hs = false ∧ hasCause t n.val 2 = hasCause z n.val 2) ∧
    (s.clocked = true → ¬ lit → exec (.stringOpen n) s = .next z) ∧
    (s.clocked = true → lit → (z.str n.val).due = [] → ∃ t, exec (.stringOpen n) s = .next t ∧ held z t n.val 4 ∧ (t.str n.val).openSeen = true ∧
      t.now = z.now + ceilDiv (end_ - 4 * z.now) 4) ∧
    (s.clocked = true → causes = 1 → y.fld LDR_INTLK_STAT_LEVEL ≠ 15 → hasCause y n.val 1 = true →
      ∃ t, exec (.safeClr v) s = .next t ∧ t.fld LDR_SAFE_STAT_CMD_STATUS = 7 ∧ SameRegs y t [LDR_SAFE_STAT]) ∧
    (s.clocked = true → causes = 1 → y.fld LDR_INTLK_STAT_LEVEL = 15 → ∃ t, exec (.safeClr v) s = .next t ∧ t.fld LDR_SAFE_STAT_CMD_STATUS = 0 ∧
      t.fld LDR_INTLK_STAT_LATCHED = 0 ∧ ∀ k, k < 24 → hasCause t k 1 = false) ∧
    (s.clocked = true → causes = 2 ∨ causes = 4 → bit v.toNat n.val = true → y.flag HKP_STAT_LATCHED = false → ∃ t, exec (.safeClr v) s = .next t ∧
      t.fld LDR_SAFE_STAT_CMD_STATUS = 0 ∧ hasCause t n.val causes = false ∧ (y.fld (LDR_S_STAT_CAUSE n.val) = causes → strDark t n.val = false)))

/-- StringDrive: What string pins, bands and free-running strings do. -/
def Obligations.StringDrive : Prop :=
  -- a level pin gives a PLANE string that its timebase drives its level, in force from the first LDR edge 10 ns later (R231), and a SHUNT pin its shunt, whose edge falls 10 ns later (R233); a string in another mode, or bound elsewhere, is counted instead (R74, R251). A shunt edge moves the land, but does not open a string held dark (R249, R251). Where the spec leaves a corner of this open, what it says is the model's choice (log entries 10, 66, 114).
  (∀ (s : State) (n : Fin 4) (d : Placed) (x : Fin 24) (at_ : Nat) (f : Bool), s.clocked = true →
    let alone := ∀ e ∈ (s.tb n.val).dispatched.erase d, e.placed ≠ d.placed
    let bound := strTb s x.val = n.val ∧ s.fld (PHS_TB_SRC_TYPE n.val) ≠ 5
    let ign := LDR_S_MODE_IGN_CNT x.val
    let early := 4 * s.now < d.placed + 40
    let calm := ∀ e ∈ (s.str x.val).due, e.probe = none
    let lo := x.val < 16 ∧ bit d.pin.target x.val = true
    let hi := 16 ≤ x.val ∧ bit d.pin.target (x.val - 16) = true
    let level := d.pin.arg / 2 ^ (4 * (x.val % 16)) % 16
    let shut := bit d.pin.arg (24 + x.val)
    let u := fun c : Bool => shuntAct x.val at_ c f s
    (∀ i act mine, (i, act, mine) ∈ [(Instr.levelLo n, 3, lo), (.levelHi n, 4, hi)] → FiresNext s n.val act d → alone → mine →
      (bound → strMode s x.val = 1 → calm → ∃ t, exec i s = .next t ∧ t.fld (LDR_S_STAT_LVL_IDX x.val) = level ∧
        (early → { at_ := ldrEdge (d.placed + 40), act := .level level } ∈ (t.str x.val).due)) ∧
      (bound → strMode s x.val ≠ 1 → s.rdN ign < 0xFFFFFFFF → ∃ t, exec i s = .next t ∧ t.rdN ign = s.rdN ign + 1 ∧ (calm → t.fld (LDR_S_STAT_LVL_IDX x.val) = s.fld (LDR_S_STAT_LVL_IDX x.val))) ∧
      (¬ bound → s.fld (PHS_TB_SRC_TYPE n.val) ≠ 5 ∨ strMode s x.val = 1 → s.rdN (PHS_TB_BIND_MISS_CNT n.val) < 0xFFFFFFFF →
        ∃ t, exec i s = .next t ∧ t.rdN (PHS_TB_BIND_MISS_CNT n.val) = s.rdN (PHS_TB_BIND_MISS_CNT n.val) + 1 ∧ t.rdN ign = s.rdN ign)) ∧
    (FiresNext s n.val 5 d → alone → bit d.pin.arg x.val = true →
      (bound → strMode s x.val = 1 → early → ∃ t, exec (.shunt n) s = .next t ∧ { at_ := d.placed + 40, act := .shunt shut false } ∈ (t.str x.val).due) ∧
      (bound → strMode s x.val ≠ 1 → s.rdN ign < 0xFFFFFFFF → ∃ t, exec (.shunt n) s = .next t ∧ t.rdN ign = s.rdN ign + 1) ∧
      (strTb s x.val ≠ n.val → s.rdN (PHS_TB_BIND_MISS_CNT n.val) < 0xFFFFFFFF →
        ∃ t, exec (.shunt n) s = .next t ∧ t.rdN (PHS_TB_BIND_MISS_CNT n.val) = s.rdN (PHS_TB_BIND_MISS_CNT n.val) + 1 ∧ t.rdN ign = s.rdN ign)) ∧
    ((strMode s x.val ≠ 0 → strDark s x.val = false → strClosed s x.val = false → strClosed (u true) x.val = true ∧ (u true).shdEdges = s.shdEdges ++ [⟨x.val, true, at_⟩]) ∧
      (strMode s x.val ≠ 0 → strDark s x.val = false → strClosed s x.val = true → s.driving = true → (s.bank (x.val / 6)).vgdLow = false →
        strClosed (u false) x.val = false ∧ (u false).shdEdges = s.shdEdges ++ [⟨x.val, false, at_⟩]) ∧
      (strMode s x.val ≠ 0 → strDark s x.val = true → s.rdN (LDR_S_SAFE_IGN_CNT x.val) < 0xFFFFFFFF →
        (u false).rdN (LDR_S_SAFE_IGN_CNT x.val) = s.rdN (LDR_S_SAFE_IGN_CNT x.val) + 1 ∧ (u false).shdEdges = s.shdEdges))) ∧
  -- the gates follow the band's thresholds within their least and dead times (R226), the hysteresis steps by the mean frequency of 256 periods (R227), and a FREE string takes its level and its shunt as its slot says at each period and edge (R229, R234, R235). Where the spec leaves a corner of this open, what it says is the model's choice (log entry 114).
  (∀ (s : State) (n : Fin 24) (dt k : Nat) (code : BitVec 12) (use sum : Nat), s.clocked = true →
    let y := settleStr n.val (senseInterlocks (passTime dt s))
    let r := y.str n.val
    let c := bandCodes y n.val
    let idle := NothingDue y n.val ∧ ∀ e ∈ r.due, e.act.isGate = false
    let band := Instr.bandThreshold n dt code
    let downAt := max (4 * y.now) (r.hsAt + 5 * y.fld (LDR_S_TMIN_MIN_ON n.val))
    let upFrom := max (4 * y.now) (r.lsAt + 5 * y.fld (LDR_S_TMIN_MIN_ON n.val))
    let upAt := max upFrom (hsEarliest y n.val upFrom r.hsAt)
    let a := settleStr n.val s
    let h := a.rdN (LDR_S_HYST n.val) % 65536
    let step := max 1 (h / 64)
    let fast := a.fld (LDR_S_SW_FSW n.val) * sum * 103 < use * 40000000
    let slow := use * 40000000 < a.fld (LDR_S_SW_FSW n.val) * sum * 97
    let took := a.setStr n.val { a.str n.val with meanDue := none }
    let w := settleLight s
    let tb := strTb s n.val
    let free := strMode s n.val = 2 ∧ s.tbOn tb = true
    let start := nextPeriod w n.val
    let reach := fun e : Nat => slotPlaced w n.val e / 4 ≤ w.now ∨ slotPlaced w n.val e / 4 - w.now < toBoundary w tb
    let begun := fun e : Nat => settleStr n.val (passTime (slotPlaced w n.val e / 4 - w.now) w)
    let early := fun e : Nat => 4 * w.now < slotPlaced w n.val e + 40
    let calm := ∀ e ∈ (s.str n.val).due, e.probe = none
    let bits_ := (w.str n.val).freeBits
    let duty := min (s.fld (LDR_S_FREE_DUTY n.val)) (2 ^ bits_)
    let lit := slotLit bits_ (w.str n.val).freeDuty (k % 2 ^ bits_)
    (r.iref = 0 → exec band s = .next y) ∧
    (r.iref ≠ 0 → NothingDue y n.val → c.1 ≤ code.toNat → code.toNat ≤ c.2 → ∃ t, exec band s = .next t ∧ (t.str n.val).stepFrom = none) ∧
    (r.iref ≠ 0 → c.1 < code.toNat → code.toNat < c.2 → ∃ t, exec band s = .next t ∧ (t.str n.val).hs = r.hs ∧ (t.str n.val).ls = r.ls ∧ (t.str n.val).due = r.due) ∧
    (r.iref ≠ 0 → idle → r.hs = true → c.2 ≤ code.toNat → ∃ t, exec band s = .next t ∧
      if downAt ≤ 4 * y.now then (t.str n.val).hs = false else (t.str n.val).hs = true ∧ { at_ := downAt, act := .hs false } ∈ (t.str n.val).due) ∧
    (r.iref ≠ 0 → idle → r.hs = false → r.ls = true → code.toNat ≤ c.1 → ∃ t, exec band s = .next t ∧
      if upAt ≤ 4 * y.now then (t.str n.val).hs = true ∧ (t.str n.val).ls = false else (t.str n.val).hs = false ∧ { at_ := upAt, act := .hs true } ∈ (t.str n.val).due) ∧
    ((a.str n.val).meanDue = none → exec (.hystAdapt n) s = .next a) ∧
    ((a.str n.val).meanDue = some (use, sum) → use ≠ 0 → fast → exec (.hystAdapt n) s = .next (adaptStep (hystParam n.val) ((h + step : Nat) : Int) took)) ∧
    ((a.str n.val).meanDue = some (use, sum) → use ≠ 0 → ¬ fast → slow → exec (.hystAdapt n) s = .next (adaptStep (hystParam n.val) ((h : Int) - step) took)) ∧
    ((a.str n.val).meanDue = some (use, sum) → use = 0 ∨ (¬ fast ∧ ¬ slow) → exec (.hystAdapt n) s = .next took) ∧
    (free → reach start → calm → s.flag (LDR_S_CTL_KIND n.val) = false → ∃ t, exec (.freePeriodStart n) s = .next t ∧
      t.fld (LDR_S_STAT_LVL_IDX n.val) = s.fld (LDR_S_FREE_LVL n.val) ∧ (t.str n.val).freeDuty = duty ∧ (t.str n.val).freeSlot = some start ∧ (t.str n.val).waitPeriod = false ∧
      (early start → slotLit bits_ duty 0 = strClosed (begun start) n.val → { at_ := slotPlaced w n.val start + 40, act := .shunt (!slotLit bits_ duty 0) true } ∈ (t.str n.val).due)) ∧
    (¬ free ∨ ¬ reach start → exec (.freePeriodStart n) s = .next w) ∧
    (free → (w.str n.val).waitPeriod = false → nextEdge w n.val = some k → reach k → ∃ t, exec (.freeShuntEdge n) s = .next t ∧ (t.str n.val).freeSlot = some k ∧
      (early k → { at_ := slotPlaced w n.val k + 40, act := .shunt (!lit) true } ∈ (t.str n.val).due)) ∧
    (¬ free ∨ (w.str n.val).waitPeriod = true ∨ nextEdge w n.val = none → exec (.freeShuntEdge n) s = .next w))

/-- GroupsAndPhotodiodes: What light groups, update points and photodiode windows do. -/
def Obligations.GroupsAndPhotodiodes : Prop :=
  -- a fade starts from the level applied and is cancelled there, and a write of V ends it (R247, R248). 4 µs before an update point its strings' values are evaluated, once, and the loops of the port's groups step or count a skip (R229, R244). Where the spec leaves a corner of this open, what it says is the model's choice (log entry 63).
  (∀ (s : State) (g : Fin 8) (p : Fin 4) (n : Fin 24) (at_ : Nat) (curve : Bool) (v : BitVec 32), s.clocked = true →
    let r := s.grp g.val
    let act := LDR_G_FADE_STAT_ACTIVE g.val
    let st := LDR_G_FADE_STAT_CMD_STATUS g.val
    let begins := slotPlaced s n.val (nextPeriod s n.val)
    let w := fun e : Nat => settleLight (passTime (e / 4 - 4000 - s.now) s)
    let free := strMode s n.val = 2 ∧ s.tbOn (strTb s n.val) = true
    let skips := LDR_G_SKIP_CNT g.val
    (∃ t, exec (.fadeGo g curve) s = .next t ∧ t.flag act = true ∧ t.fld st = 0 ∧
      (t.grp g.val).fade = some { v0 := r.vApp, v1 := min (s.rdN (LDR_G_FADE_V1 g.val) % 2 ^ 17) 0x10000, ms := s.rdN (LDR_G_FADE_MS g.val), curve := curve, start := s.showTime }) ∧
    (r.fade ≠ none → ∃ t, exec (.fadeCancel g) s = .next t ∧ t.flag act = false ∧ t.fld st = 0 ∧ (t.grp g.val).fade = none ∧ ∀ e, groupV t g.val e = r.vApp) ∧
    (r.fade = none → ∃ t, exec (.fadeCancel g) s = .next t ∧ t.fld st = 3 ∧ t.groups = s.groups) ∧
    (∃ t, exec (.groupVWrite g v) s = .next t ∧ t.rdN (LDR_G_V g.val) = v.toNat % 2 ^ 17 ∧ t.flag act = false ∧ (t.grp g.val).fade = none ∧
      ∀ e, groupV t g.val e = min (v.toNat % 2 ^ 17) 0x10000) ∧
    (free → (s.str n.val).evald = none → ∃ t, exec (.updatePointEvaluation (.string n)) s = .next t ∧
      (t.str n.val).evald = some (evalTaken (w begins) n.val (showAtQ (w begins) begins)) ∧ t.regs = (w begins).regs) ∧
    (¬ free ∨ (s.str n.val).evald ≠ none → exec (.updatePointEvaluation (.string n)) s = .next s) ∧
    (latchDue s p.val = none ∨ (s.port p.val).evalDone = true → exec (.updatePointEvaluation (.port p)) s = .next s) ∧
    (latchDue s p.val = some at_ → (s.port p.val).evalDone = false → ∃ t, exec (.updatePointEvaluation (.port p)) s = .next t ∧ (t.port p.val).evalDone = true ∧
      ((∀ k, k < 8 → s.fld (LDR_G_CTL_PORT k) ≠ p.val) → ∀ k ∈ latchStrings s p.val, (t.str k).evald = some (evalTaken (w at_) k (showAtQ (w at_) at_))) ∧
      (s.fld (LDR_G_CTL_PORT g.val) = p.val → s.driving = true → s.flag (LDR_G_CTL_LOOP_EN g.val) = false → s.rdN skips < 0xFFFFFFFF →
        t.rdN skips = s.rdN skips + 1 ∧ (t.grp g.val).readings = []))) ∧
  -- a window opens 10 ns after its pin, unless the input is bound elsewhere or has one open; it is read in segments of 500 ns, and closing it at its end counts an overload, a reading that is not usable and one not dark (R237 to R242). Where the spec leaves a corner of this open, what it says is the model's choice (log entries 10, 64).
  (∀ (s : State) (n : Fin 4) (i : Fin 8) (d : Placed) (code : BitVec 18) (w : PdWin), s.clocked = true →
    let fires := FiresNext s n.val 6 d ∧ d.pin.target % 8 = i.val ∧ ∀ e ∈ (s.tb n.val).dispatched.erase d, e.placed ≠ d.placed
    let here := pdTb s i.val = n.val ∧ s.fld (PHS_TB_SRC_TYPE n.val) ≠ 5
    let more := fun (t : State) (r : Nat) => s.rdN r < 0xFFFFFFFF → t.rdN r = s.rdN r + 1
    (fires → ¬ here → ∃ t, exec (.pdWindow n) s = .next t ∧ more t (PHS_TB_BIND_MISS_CNT n.val) ∧ (t.pd i.val).win.isSome = (s.pd i.val).win.isSome) ∧
    (fires → here → (s.pd i.val).win ≠ none → ∃ t, exec (.pdWindow n) s = .next t ∧ more t (PHS_TB_CONFLICT_CNT n.val) ∧
      (t.pd i.val).win.map (fun x => x.openAt) = (s.pd i.val).win.map (fun x => x.openAt)) ∧
    (fires → here → (s.pd i.val).win = none → ∃ t x, exec (.pdWindow n) s = .next t ∧ (t.pd i.val).win = some x ∧ x.openAt = d.placed + 40 ∧
      x.len = d.pin.arg % 2 ^ 24 ∧ x.range = d.pin.arg / 2 ^ 24 % 8 ∧ x.tag = d.pin.arg / 2 ^ 32 % 256 ∧ x.codes = []) ∧
    ((s.pd i.val).win = some w → segmentsRead w = false → ∃ t, exec (.pdSegmentDone i code) s = .next t ∧ (t.pd i.val).win.map (fun x => x.codes) = some (w.codes ++ [code.toNat]) ∧
      t.now = s.now + ceilDiv (segmentEnd w w.codes.length - 4 * s.now) 4) ∧
    ((s.pd i.val).win = some w → segmentsRead w = true → exec (.pdSegmentDone i code) s = .next s) ∧
    ((s.pd i.val).win = some w → segmentsRead w = true → ∃ t, exec (.pdWindowClose i) s = .next t ∧ (t.pd i.val).win = none ∧
      (t.pd i.val).lastClose = some (w.openAt + 4 * w.len, w.range) ∧ t.now = s.now + ceilDiv (w.openAt + 4 * w.len - 4 * s.now) 4 ∧
      (262143 ∈ w.codes → more t (LDR_PD_OVL_CNT i.val)) ∧ (w.tag / 8 % 4 = 3 → w.lit = true → more t (LDR_PD_DARK_REJ_CNT i.val)) ∧
      (w.settle = true → w.range < 6 → w.tag / 32 = 0 → more t (LDR_PD_BAD_WIN_CNT i.val))) ∧
    ((s.pd i.val).win = some w → segmentsRead w = false → exec (.pdWindowClose i) s = .next s) ∧
    ((s.pd i.val).win = none → exec (.pdSegmentDone i code) s = .next s ∧ exec (.pdWindowClose i) s = .next s))

/-- DeratingAndDiagnosis: a fall of D that no update point brought is taken 50 ms after its round (R253); every 64 ms a diagnosis window judges a string (R254); a probe is requested, placed in a blind gap that holds it, or missed (R255, R256); a VGD below 9.0 V closes the shunts of its bank until it has recovered (R586). Where the spec leaves a corner of this open, what it says is the model's choice (log entries 65, 66, 114). -/
def Obligations.DeratingAndDiagnosis : Prop :=
  ∀ (s : State) (n : Fin 24) (b : Fin 4) (dt : Nat) (mask : BitVec 24) (mv : BitVec 16) (f : Nat × Nat) (fs : List (Nat × Nat)) (req : Nat) (g : Nat × Nat), s.clocked = true →
    let z := passTime dt s
    let k := max ((s.str n.val).diagLast + 1) (ceilDiv (s.now - s.power.relAt) 64000000)
    let at64 := settleLight (passTime (s.power.relAt + 64000000 * k - s.now) s)
    let u := markOn n.val (4 * at64.now) at64
    let on := (u.str n.val).onTime
    let v := if on = 0 then 0 else min ((u.str n.val).hsTime * u.vin10 / on) 65535
    let st := LDR_S_DIAG_STATE n.val
    let pend := LDR_S_DIAG_PROBE_PEND n.val
    let missed := LDR_S_PROBE_MISS_CNT n.val
    let y := settleLight s
    let yr := y.str n.val
    let tb := strTb s n.val
    let asked := bit mask.toNat n.val = true
    let may := yr.probeAt = some req ∧ yr.probeRun = none ∧ s.driving = true ∧ strMode s n.val = 1 ∧ s.tbOn tb = true ∧ yr.probeTried < 4
    let gapAt := (placedAt y tb ((g.1 : Int) - (totalPhase y tb : Int))).toNat
    let there := probeGapNext y n.val req = some g ∧ (gapAt / 4 ≤ y.now ∨ gapAt / 4 - y.now < toBoundary y tb)
    let t0 := settleLight (passTime (gapAt / 4 - y.now) y)
    let gapEnd := (placedAt t0 tb (((g.1 + g.2 : Nat) : Int) - (totalPhase t0 tb : Int))).toNat
    let p := gapAt + 4000
    let open_ := p + 4 * (s.rdN (LDR_S_PROBE_WAIT n.val) % 65536)
    let last := open_ + 16000 + 40
    let fits := last + 4000 ≤ gapEnd ∧ touchedIn t0 n.val p last = false
    let w := settleLight z
    ((s.bank b.val).falls = [] → exec (.derateFallTimeout b) s = .next s) ∧
    ((s.bank b.val).falls = f :: fs → f.1 < 2 ^ 17 → ∃ t, exec (.derateFallTimeout b) s = .next t ∧ t.rdN (LDR_BANK_D b.val) % 2 ^ 17 = min f.1 (s.rdN (LDR_BANK_D b.val) % 2 ^ 17) ∧
      (t.bank b.val).falls = fs ∧ t.now = s.now + (f.2 + 50000000 - s.now) ∧
      ∀ j, j < 6 → s.flag (LDR_S_STAT_TB_OFF (6 * b.val + j)) = false → (t.str (6 * b.val + j)).taken.d ≤ f.1) ∧
    (∃ t, exec (.diagWindowEnd n) s = .next t ∧ (t.str n.val).onTime = 0 ∧ (t.str n.val).hsTime = 0 ∧ (t.str n.val).openSeen = false ∧ (t.str n.val).diagLast = k ∧
      t.fld st = diagState u n.val v ∧ (16000 ≤ on → t.fld (LDR_S_DIAG_V_EST n.val) = v)) ∧
    (asked → strMode s n.val = 1 → strDark y n.val = false → yr.probeAt = none → ∃ t, exec (.probeReq mask) s = .next t ∧ t.flag pend = true ∧ (t.str n.val).probeAt = some s.now) ∧
    (asked → strMode s n.val = 1 → strDark y n.val = false → yr.probeAt ≠ none → ∃ t, exec (.probeReq mask) s = .next t ∧ t.str n.val = yr) ∧
    (asked → strMode s n.val ≠ 1 ∨ strDark y n.val = true → y.rdN missed < 0xFFFFFFFF → ∃ t, exec (.probeReq mask) s = .next t ∧ t.rdN missed = y.rdN missed + 1 ∧ t.str n.val = yr) ∧
    (yr.probeAt ≠ none → yr.probeRun = none → 4 ≤ yr.probeTried ∨ listedGaps y tb = [] → y.rdN missed < 0xFFFFFFFF →
      ∃ t, exec (.probeMiss n) s = .next t ∧ t.flag pend = false ∧ (t.str n.val).probeAt = none ∧ t.rdN missed = y.rdN missed + 1) ∧
    (yr.probeAt = none ∨ yr.probeRun ≠ none ∨ (yr.probeTried < 4 ∧ listedGaps y tb ≠ []) → exec (.probeMiss n) s = .next y) ∧
    (may → there → fits → strDark t0 n.val = false → (∀ e ∈ yr.due, e.probe = none) → 4 * y.now < p → ∃ t, exec (.probeStart n) s = .next t ∧ (t.str n.val).probeRun = some last ∧
      { at_ := ldrEdge (p + 40), act := .level (t0.fld (LDR_S_DIAG_PROBE_LVL n.val)), probe := some p } ∈ (t.str n.val).due ∧
      { at_ := open_ + 40, act := .shunt false false, probe := some open_ } ∈ (t.str n.val).due ∧
      { at_ := open_ + 16040, act := .shunt true false, probe := some (open_ + 16000) } ∈ (t.str n.val).due ∧
      { at_ := ldrEdge (last + 40), act := .level (t0.fld (LDR_S_STAT_LVL_IDX n.val)), probe := some last } ∈ (t.str n.val).due) ∧
    (may → there → ¬ fits → ∃ t, exec (.probeStart n) s = .next t ∧ (t.str n.val).probeTried = (t0.str n.val).probeTried + 1 ∧ (t.str n.val).probeGap = g.1) ∧
    (¬ (∃ req, yr.probeAt = some req ∧ yr.probeRun = none ∧ s.driving = true ∧ strMode s n.val = 1 ∧ s.tbOn tb = true ∧ yr.probeTried < 4) → exec (.probeStart n) s = .next y) ∧
    ((s.bank b.val).vgdLow = true ∨ 9000 ≤ mv.toNat → exec (.vgdLow b dt mv) s = .next w) ∧
    ((s.bank b.val).vgdLow = false → mv.toNat < 9000 → ∃ t, exec (.vgdLow b dt mv) s = .next t ∧ (t.bank b.val).vgdLow = true ∧ (t.bank b.val).vgdAt = w.now ∧
      ∀ j, j < 6 → strClosed t (6 * b.val + j) = true ∧ (t.str (6 * b.val + j)).hs = false) ∧
    ((s.bank b.val).vgdLow = true → (s.bank b.val).vgdAt + 1000000 ≤ z.now → ∃ t, exec (.vgdRecovery b dt) s = .next t ∧ (t.bank b.val).vgdLow = false) ∧
    ((s.bank b.val).vgdLow = false ∨ z.now < (s.bank b.val).vgdAt + 1000000 → exec (.vgdRecovery b dt) s = .next z)

/-- AxesAndCarriers: What axis commands, carrier periods and triggers do. -/
def Obligations.AxesAndCarriers : Prop :=
  -- EN enables an axis that none of R266's cases refuses, and its run begins at a carrier period start with the generator at the measured position (R267); DISABLE, CLEAR and GO act in the states R267, R291 and R293 name, and a limit is held pending while the generator moves (R292). Where the spec leaves a corner of this open, what it says is the model's choice (log entries 72, 75).
  (∀ (s : State) (n : Fin 16) (dt t0 : Nat) (v : BitVec 32), s.clocked = true →
    let z := passTime dt s
    let st := axState s n.val
    let cmd := CTL_A_STAT_CMD_STATUS n.val
    let only := fun (t : State) => SameRegs s t [CTL_A_STAT n.val] ∧ t.axes = s.axes ∧ t.tiles = s.tiles ∧ SameBytes s t
    let sync := s.flag (CTL_A_PWM_SYNC n.val)
    let first := nextCarrier (updAxis n.val (fun x => { x with slot := 0 }) s) n.val
    let runs := fun (t : State) (at_ : Nat) => axState t n.val = 1 ∧ (t.axis n.val).first = true ∧ (t.axis n.val).p = ofQ32 (measured s n.val) ∧ (t.axis n.val).v = 0 ∧
      (t.axis n.val).a = 0 ∧ (t.axis n.val).enabling = none ∧ (t.axis n.val).carrierAt = at_ ∧ t.rd (CTL_A_TARGET n.val) = s.rd (CTL_E_POS (axEnc s n.val)) ∧
      (s.flag (CTL_A_CFG_QUIET n.val) = false → (t.axis n.val).gates = 2)
    (st = 0 → enRefused s n.val = false → ∃ t, exec (.axisEn n) s = .next t ∧ (t.axis n.val).enabling = some s.now ∧ t.fld cmd = 0 ∧ SameRegs s t [CTL_A_STAT n.val] ∧ SameBytes s t) ∧
    (st ≠ 0 ∨ enRefused s n.val = true → ∃ t, exec (.axisEn n) s = .next t ∧ t.fld cmd = 7 ∧ only t) ∧
    ((s.axis n.val).enabling = none ∨ st ≠ 0 → exec (.axisRunStart n dt) s = .next s) ∧
    ((s.axis n.val).enabling = some t0 → st = 0 → sync = false → t0 + 5 * s.fld (CTL_A_PWM_PER n.val) / 4 < s.now + dt → exec (.axisRunStart n dt) s = .next s) ∧
    ((s.axis n.val).enabling = some t0 → st = 0 → sync = false → s.now + dt ≤ t0 + 5 * s.fld (CTL_A_PWM_PER n.val) / 4 →
      ∃ t, exec (.axisRunStart n dt) s = .next t ∧ runs t (4 * (s.now + dt)) ∧ t.now = z.now) ∧
    ((s.axis n.val).enabling = some t0 → st = 0 → sync = true → first.1 / 4 ≤ s.now ∨ first.1 / 4 - s.now < toBoundary s (axTb s n.val) →
      ∃ t, exec (.axisRunStart n dt) s = .next t ∧ runs t first.1 ∧ t.now = max s.now (first.1 / 4)) ∧
    (st = 1 → ∃ t, exec (.axisDisable n) s = .next t ∧ axState t n.val = 0 ∧ t.flag (CTL_A_STAT_RESTING n.val) = false ∧ t.fld cmd = 0 ∧ (t.axis n.val).gates = 0 ∧
      (t.axis n.val).goal = none) ∧
    (st ≠ 1 → ∃ t, exec (.axisDisable n) s = .next t ∧ axState t n.val = st ∧ t.fld cmd = 0 ∧ only t) ∧
    (st = 2 → causeStays s n.val = false → ∃ t, exec (.axisClear n) s = .next t ∧ axState t n.val = 0 ∧ t.fld (CTL_A_STAT_CAUSE n.val) = 0 ∧ t.fld cmd = 0 ∧
      (t.axis n.val).gates = 0 ∧ (t.axis n.val).action = 0) ∧
    (st ≠ 2 ∨ causeStays s n.val = true → ∃ t, exec (.axisClear n) s = .next t ∧ t.fld cmd = 7 ∧ only t) ∧
    (s.flag (CTL_A_PG_CTL_MODE n.val) = false → st = 1 → ∃ t, exec (.axisGo n) s = .next t ∧ (t.axis n.val).goal = some (s.rd (CTL_A_TARGET n.val)).toInt ∧
      t.flag (CTL_A_STAT_AT_TARGET n.val) = false ∧ t.fld cmd = 0 ∧ SameRegs s t [CTL_A_STAT n.val]) ∧
    (s.flag (CTL_A_PG_CTL_MODE n.val) = true ∨ st ≠ 1 → ∃ t, exec (.axisGo n) s = .next t ∧ t.fld cmd = 0 ∧ only t) ∧
    (∀ w r, (w, r) ∈ [((0 : Fin 3), CTL_A_VMAX n.val), (1, CTL_A_AMAX n.val), (2, CTL_A_JMAX n.val)] → ∃ t, exec (.limitWrite n w v) s = .next t ∧ t.rdN r = v.toNat ∧
      (genMoving s n.val = true → t.flag (CTL_A_STAT_LIM_PEND n.val) = true ∧ limits t n.val = limits s n.val) ∧ (genMoving s n.val = false → t.axes = s.axes) ∧
      SameRegs s t [r, CTL_A_STAT n.val])) ∧
  -- at each carrier period start an axis rests, or makes its PWM tiles of that division due (R268, R271, R285); written compare values take effect at a reload point (R270); a loop-trigger pin makes the tiles of its mask due, or is counted (R74, R285). Where the spec leaves a corner of this open, what it says is the model's choice (log entries 71, 75).
  (∀ (s z : State) (n : Fin 16) (tb : Fin 4) (k : Fin 48) (d : Placed) (a : Nat), s.clocked = true →
    let x := s.axis n.val
    let c := nextCarrier s n.val
    let resting := CTL_A_STAT_RESTING n.val
    let rests := genRuns s n.val = true ∧ s.flag (CTL_A_CFG_QUIET n.val) = true ∧ periodInGap s n.val c.2.2 = false
    let runs := axComputes s n.val = true
    let peakAt := carrierPeakAt s n.val
    let drives := axDriven s n.val = true ∧ s.flag resting = false ∧ s.flag (CTL_A_PWM_CARRIER n.val) = false ∧ s.flag (CTL_A_PWM_UPD n.val) = true
    let fires := FiresNext s tb.val 7 d ∧ bit (d.pin.arg % 2 ^ 48) k.val = true
    let here := s.fld (CTL_T_CFG_TB k.val) = tb.val
    (¬ runs → exec (.carrierPeriodStart n) s = .next s ∧ exec (.carrierPeak n) s = .next s) ∧
    (runs → passCarrier n.val c.1 s = none → exec (.carrierPeriodStart n) s = .next s) ∧
    (runs → passCarrier n.val c.1 s = some z → rests → ∃ t, exec (.carrierPeriodStart n) s = .next t ∧ t.flag resting = true ∧ t.tiles = s.tiles ∧
      (t.axis n.val).periods = x.periods + c.2.1 ∧ (t.axis n.val).slot = c.2.2 ∧ (t.axis n.val).carrierAt = c.1 ∧
      (t.axis n.val).gates = (if axDriven s n.val = true then s.fld (CTL_A_CFG_REST n.val) else 0) ∧ SameRegs s t [CTL_A_STAT n.val, CTL_A_REST_CNT n.val]) ∧
    (runs → passCarrier n.val c.1 s = some z → ¬ rests → ∃ t, exec (.carrierPeriodStart n) s = .next t ∧ t.flag resting = false ∧
      (t.axis n.val).periods = x.periods + c.2.1 ∧ (t.axis n.val).slot = c.2.2 ∧ (t.axis n.val).carrierAt = c.1 ∧ (t.axis n.val).gates = (if axDriven s n.val = true then 2 else 0) ∧
      (∀ w l, x.cmpPend = some (w, l) → w ≤ c.1 → (t.axis n.val).cmpEff = l ∧ (t.axis n.val).cmpPend = none) ∧
      ∀ i ∈ axTiles s n.val, s.fld (CTL_T_CFG_TRIG i) = 0 → (x.periods + c.2.1) % tileDiv s i = 0 → ctlEdge c.1 ∈ (t.tile i).due) ∧
    (runs → x.peak = false ∨ passCarrier n.val peakAt s = none → exec (.carrierPeak n) s = .next s) ∧
    (runs → x.peak = true → passCarrier n.val peakAt s = some z → ∃ t, exec (.carrierPeak n) s = .next t ∧ (t.axis n.val).peak = false ∧ t.regs = z.regs ∧ t.now = z.now ∧
      (∀ w l, drives → x.cmpPend = some (w, l) → w ≤ peakAt → (t.axis n.val).cmpEff = l ∧ (t.axis n.val).cmpPend = none) ∧
      (¬ drives → (t.axis n.val).cmpEff = x.cmpEff ∧ (t.axis n.val).cmpPend = x.cmpPend)) ∧
    (fires → here → s.fld (CTL_T_CFG_TRIG k.val) = 1 → tileAxis s k.val = some a → axComputes s a = true →
      ∃ t, exec (.loopTrigger tb) s = .next t ∧ ctlEdge (d.placed + 40) ∈ (t.tile k.val).due ∧ (t.tile k.val).lastFire = some d.placed) ∧
    (fires → here → s.fld (CTL_T_CFG_TRIG k.val) = 1 → tileAxis s k.val = some a → axComputes s a = false →
      ∃ t, exec (.loopTrigger tb) s = .next t ∧ t.tile k.val = s.tile k.val) ∧
    (fires → here → s.fld (CTL_T_CFG_TRIG k.val) ≠ 1 → ∃ t, exec (.loopTrigger tb) s = .next t ∧ t.tile k.val = s.tile k.val ∧
      (s.rdN (CTL_T_PIN_IGN_CNT k.val) < 0xFFFFFFFF → t.rdN (CTL_T_PIN_IGN_CNT k.val) = s.rdN (CTL_T_PIN_IGN_CNT k.val) + 1)) ∧
    (fires → ¬ here → ∃ t, exec (.loopTrigger tb) s = .next t ∧ t.tile k.val = s.tile k.val ∧
      (s.rdN (PHS_TB_BIND_MISS_CNT tb.val) < 0xFFFFFFFF → t.rdN (PHS_TB_BIND_MISS_CNT tb.val) = s.rdN (PHS_TB_BIND_MISS_CNT tb.val) + 1)))

/-- TileSamples: a tile whose trigger has come starts its sample, an outer one with its demand and its reading, a current one with the filter outputs latched (R285, R286); one that finds the tile computing, and an output later than its deadline, are misses (R288). A current tile's output is written 32.5 ns after its start and becomes compare values, an outer one's 25 ns after its reading (R286, R287). Where the spec leaves a corner of this open, what it says is the model's choice (log entries 71, 75). -/
def Obligations.TileSamples : Prop :=
  ∀ (s : State) (k : Fin 48) (n start q at_ : Nat) (rest : List Nat) (fs : List Int), s.clocked = true → tileAxis s k.val = some n → (∀ i ∈ axInputs s n, i < 48) →
    let x := s.tile k.val
    let role := tileRole s k.val
    let z := passTime (ceilDiv start 4 - s.now) s
    let o := passTime (ceilDiv at_ 4 - s.now) s
    let next := if s.fld (CTL_T_CFG_TRIG k.val) = 3 then [start + 10 * max 40 (s.fld (CTL_T_TIMER_TIMER k.val))] else []
    let resting := s.flag (CTL_A_STAT_RESTING n) = true
    let comes := s.flag (CTL_T_CFG_EN k.val) = true ∧ x.due = start :: rest ∧ (genRuns s n = true ∨ (2 ≤ role ∧ axComputes s n = true))
    let quiet := kget (fun _ => []) s.twin.tilePend k.val = [] ∧
      (outerTile s n ≠ some k.val ∨ genRuns s n = false ∨ ((s.axis n).first = true ∧ kget (fun _ => []) s.twin.axPend n = []))
    let run := CTL_T_STAT_RUNNING k.val
    let counts := fun (y : State) => y.flag (CTL_A_FLAGS_DLMISS n) = true ∧
      (s.rdN (CTL_T_MISS_CNT k.val) < 0xFFFFFFFF → y.rdN (CTL_T_MISS_CNT k.val) = s.rdN (CTL_T_MISS_CNT k.val) + 1)
    let dl := tileDeadline s k.val q
    let goes := x.startAt = some q ∧ outputAt s k.val q = some at_
    (x.due = [] ∨ s.flag (CTL_T_CFG_EN k.val) = false ∨ (genRuns s n = false ∧ (role < 2 ∨ axComputes s n = false)) → exec (.tileSampleStart k fs) s = .next s) ∧
    (comes → resting → ∃ y, exec (.tileSampleStart k fs) s = .next y ∧ y.tile k.val = { x with due := rest ++ next } ∧ y.regs = z.regs) ∧
    (comes → ¬ resting → x.startAt ≠ none → ∃ y, exec (.tileSampleStart k fs) s = .next y ∧ counts y) ∧
    (comes → ¬ resting → quiet → x.startAt = none → role < 2 → ∃ y, exec (.tileSampleStart k fs) s = .next y ∧ (y.tile k.val).startAt = some start ∧ y.flag run = true ∧
      (y.tile k.val).due = rest ++ next ∧ (encType s (axEnc s n) ≠ 2 → (y.tile k.val).reading = some (measured s n, z.now)) ∧
      (role = 0 → (y.tile k.val).dem = toB32 (s.axis n).p) ∧ (role = 1 → roleTile s n 0 ≠ none → (y.tile k.val).dem = x.dem)) ∧
    (comes → ¬ resting → quiet → x.startAt = none → 2 ≤ role → ∃ y, exec (.tileSampleStart k fs) s = .next y ∧ (y.tile k.val).startAt = some start ∧ y.flag run = true ∧
      (y.tile k.val).due = rest ++ next ∧ (y.tile k.val).fs = fs ∧ (y.tile k.val).angle = elecAngle z n start ∧ (role = 3 → (y.tile k.val).dem = s.rdN (CTL_A_ID_REF n)) ∧
      (∀ o ∈ roleTile s n 0, (y.tile k.val).dem = (if role = 3 then s.rdN (CTL_A_ID_REF n) else x.dem))) ∧
    (x.startAt = none → exec (.deadlineMiss k) s = .next s ∧ exec (.tileOutput k) s = .next s) ∧
    (x.startAt = some q → resting ∨ (∃ e, outputAt s k.val q = some e ∧ e ≤ dl) → exec (.deadlineMiss k) s = .next s) ∧
    (x.startAt = some q → ¬ resting → (∀ e, outputAt s k.val q = some e → dl < e) → ∃ y, exec (.deadlineMiss k) s = .next y ∧ counts y ∧ (y.tile k.val).startAt = none ∧
      y.now = max s.now (ceilDiv dl 4)) ∧
    (x.startAt = some q → outputAt s k.val q = none → exec (.tileOutput k) s = .next s) ∧
    (goes → dl < at_ → exec (.tileOutput k) s = .next s) ∧
    (goes → at_ ≤ dl → role < 2 → ∃ y rd, exec (.tileOutput k) s = .next y ∧ x.reading = some rd ∧ (y.tile k.val).startAt = none ∧ (y.tile k.val).reading = none ∧ y.flag run = false ∧
      y.fld (CTL_T_STAT_MISS_RUN k.val) = 0 ∧
      (role = 0 → roleTile s n 1 ≠ none → y.rdN (CTL_T_OUT k.val) = toB32 (compensate o k.val (b32 (toB32 ((s.axis n).p - ofQ32 rd.1)))).out % 2 ^ 64)) ∧
    (goes → at_ ≤ dl → 2 ≤ role → ∃ y, exec (.tileOutput k) s = .next y ∧ (y.tile k.val).startAt = none ∧ y.flag run = false ∧ y.fld (CTL_T_STAT_MISS_RUN k.val) = 0 ∧
      ((∀ u ∈ axTiles s n, u ≠ k.val → 2 ≤ tileRole s u → (s.tile u).startAt = none) → ∃ vs, (y.axis n).cmpPend = some (q + 130, vs)))

/-- Encoders: a quadrature edge counts, both lands at once are a fault, and an index sets the count or checks it (R274, R276, R277); an idle serial interface is read, a good frame gives its position and a bad one is counted (R275, R277), and a write of 1 ends a fault (R277). Where the spec leaves a corner of this open, what it says is the model's choice (log entry 75). -/
def Obligations.Encoders : Prop :=
  ∀ (s : State) (e : Fin 16) (dt req : Nat) (data : BitVec 32) (err noData : Bool), s.clocked = true →
    let z := passTime dt s
    let x := s.enc e.val
    let pos := CTL_E_POS e.val
    let quad := encType s e.val = 1 ∧ encLands s e.val = true
    let faulty := CTL_E_STAT_FAULT e.val
    let faults := fun (t : State) (c : Nat) => t.flag faulty = true ∧ t.flag (CTL_E_STAT_VALID e.val) = false ∧ t.fld (CTL_E_STAT_CAUSE e.val) = c
    let counts := fun (t : State) (c : Int) => (t.enc e.val).count = c ∧ t.rd pos = BitVec.ofInt 64 (quadPos s e.val c)
    let m := s.fld (CTL_E_CFG_IDXM e.val)
    let cpr : Int := (max 1 (s.rdN (CTL_E_CPR e.val)) : Nat)
    let off := (x.count - s.rdN (CTL_E_IDX_POS e.val)).fmod cpr
    let tol : Int := (s.rdN (CTL_E_IDX_TOL e.val) % 65536 : Nat)
    let bits := clampN (s.fld (CTL_E_CFG_BITS e.val)) 8 32
    let raw := data.toNat % 2 ^ bits
    let frame := (if s.flag (CTL_E_CFG_GRAY e.val) then grayDecode bits raw % 2 ^ bits else raw) * 2 ^ (32 - bits)
    let unused := encType s e.val = 2 ∧ ∀ a, a < 16 → axState s a = 1 → axEnc s a ≠ e.val
    let w := passTime (x.idleAt + 20000 - s.now) s
    let running := if x.frame = none ∧ encType s e.val = 2 ∧ s.driving = false then some z.now else x.frame
    let ended := running = some req ∧ (x.frame = none ∨ req + frameTime s e.val ≤ z.now)
    let done := exec (.encoderFrameDone e dt data err noData) s
    (¬ quad → exec (.quadratureEdge e dt 0) s = .next z ∧ exec (.quadratureEdge e dt 1) s = .next z ∧ exec (.quadratureEdge e dt 2) s = .next z ∧ exec (.encoderIndex e) s = .next s) ∧
    (quad → ∃ t u, exec (.quadratureEdge e dt 0) s = .next t ∧ counts t (x.count + 1) ∧ exec (.quadratureEdge e dt 1) s = .next u ∧ counts u (x.count - 1) ∧
      SameRegs s t [pos] ∧ SameRegs s u [pos] ∧ SameBytes s t ∧ SameBytes s u) ∧
    (quad → s.flag faulty = false → ∃ t, exec (.quadratureEdge e dt 2) s = .next t ∧ faults t 1) ∧
    (quad → s.flag faulty = true → exec (.quadratureEdge e dt 2) s = .next z) ∧
    (m = 0 → exec (.encoderIndex e) s = .next s) ∧
    (quad → m = 1 → s.flag (CTL_E_STAT_INDEXED e.val) = false → ∃ t, exec (.encoderIndex e) s = .next t ∧ counts t (s.rdN (CTL_E_IDX_POS e.val)) ∧ t.flag (CTL_E_STAT_INDEXED e.val) = true) ∧
    (quad → m = 1 → s.flag (CTL_E_STAT_INDEXED e.val) = true → exec (.encoderIndex e) s = .next s) ∧
    (quad → 2 ≤ m → off ≤ tol ∨ cpr - off ≤ tol → ∃ t, exec (.encoderIndex e) s = .next t ∧ t.flag (CTL_E_STAT_INDEXED e.val) = true ∧ t.encs = s.encs ∧ SameRegs s t [CTL_E_STAT e.val]) ∧
    (quad → 2 ≤ m → tol < off → tol < cpr - off → s.flag faulty = false → ∃ t, exec (.encoderIndex e) s = .next t ∧ faults t 2) ∧
    (unused → x.frame = none → s.driving = true → ∃ t, exec (.encoderIdleRequest e) s = .next t ∧ (t.enc e.val).frame = some w.now ∧ t.flag (CTL_E_STAT_BUSY e.val) = true) ∧
    (unused → x.frame ≠ none ∨ s.driving = false → exec (.encoderIdleRequest e) s = .next w) ∧
    (¬ unused → exec (.encoderIdleRequest e) s = .next s) ∧
    (running = none → done = .next z) ∧
    (running = some req → x.frame ≠ none → z.now < req + frameTime s e.val → done = .next z) ∧
    (ended → encLands s e.val = true → noData = false → err = false ∨ s.flag (CTL_E_CFG_ERRBIT e.val) = false → s.rdN (CTL_E_JUMP e.val) = 0 → ∃ t, done = .next t ∧
      (t.enc e.val).frame = none ∧ (t.rd pos).toNat % 2 ^ 32 = frame ∧ (t.enc e.val).badRun = 0 ∧ (∃ l, (t.enc e.val).last = some (l, req + s.rdN (CTL_E_LAT e.val) % 65536)) ∧
      t.flag (CTL_E_STAT_BUSY e.val) = false ∧ (s.flag faulty = false → t.flag (CTL_E_STAT_VALID e.val) = true)) ∧
    (ended → s.rdN (CTL_E_ERR_CNT e.val) < 0xFFFFFFFF → ∀ c, (c = 4 ∧ (noData = true ∨ encLands s e.val = false)) ∨
        (c = 3 ∧ noData = false ∧ encLands s e.val = true ∧ err = true ∧ s.flag (CTL_E_CFG_ERRBIT e.val) = true) → ∃ t, done = .next t ∧ (t.enc e.val).frame = none ∧
      t.rdN (CTL_E_ERR_CNT e.val) = s.rdN (CTL_E_ERR_CNT e.val) + 1 ∧ (s.flag faulty = false → max 1 (s.fld (CTL_E_CFG_JUMP_N e.val)) ≤ x.badRun + 1 → faults t c)) ∧
    (s.flag faulty = false → exec (.encFaultClear e) s = .next s) ∧
    (s.flag faulty = true → ∃ t, exec (.encFaultClear e) s = .next t ∧ t.flag faulty = false ∧ t.fld (CTL_E_STAT_CAUSE e.val) = 0 ∧ t.flag (CTL_E_STAT_VALID e.val) = x.last.isSome ∧
      (t.enc e.val).badRun = 0 ∧ SameRegs s t [CTL_E_STAT e.val])

/-- AxisFaultsAndTables: OC_N fast-path values above ITRIP in a row fault the running axes that measure the input, which coast (R273, R289); a starved follow stream stops its axis (R296); a table's load is refused for the bank in use and while one runs, and else fills its bank (R284). Where the spec leaves a corner of this open, what it says is the model's choice (log entries 69, 74). -/
def Obligations.AxisFaultsAndTables : Prop :=
  ∀ (s : State) (k : Fin 48) (n : Fin 16) (kind b : Fin 2) (dt : Nat) (f : Int), s.clocked = true →
    let z := passTime dt s
    let high := b32 (s.rdN (CTL_SD_ITRIP k.val)) < fastCurrent s k.val f
    let run := if high then (s.sd k.val).run + 1 else 0
    let trips := high ∧ max 1 (s.fld (CTL_SD_CFG_OC_N k.val)) ≤ run
    let enabled := s.flag (CTL_SD_CFG_EN k.val) = true
    let en := if kind.val = 0 then s.flag (CTL_A_TBL_CTL_COG_EN n.val) else s.flag (CTL_A_TBL_CTL_FRIC_EN n.val)
    let bank := if kind.val = 0 then s.fld (CTL_A_TBL_CTL_COG_BANK n.val) else s.fld (CTL_A_TBL_CTL_FRIC_BANK n.val)
    let used := en = true ∧ bank = b.val
    let st := CTL_TBL_STAT_CMD_STATUS
    let key := 4 * n.val + 2 * kind.val + b.val
    let starved := genRuns s n.val = true ∧ s.flag (CTL_A_PG_CTL_MODE n.val) = true ∧ starving z n.val (followTau z n.val) = true
    (enabled → trips → ∃ t, exec (.axisOvercurrent k f) s = .next t ∧ t.sd k.val = { run := min run 15, last := f } ∧
      ∀ i, i < 16 → (axInputs s i).contains k.val = true → axState s i = 1 → axState t i = 2 ∧ bit (t.fld (CTL_A_STAT_CAUSE i)) 2 = true ∧ (t.axis i).gates = 0 ∧ (t.axis i).action = 2) ∧
    (enabled → ¬ trips → ∃ t, exec (.axisOvercurrent k f) s = .next t ∧ t.sd k.val = { run := min run 15, last := f } ∧ t.axes = s.axes ∧ t.regs = s.regs) ∧
    (¬ enabled → exec (.axisOvercurrent k f) s = .next s) ∧
    (starved → s.flag (CTL_A_STAT_STARVED n.val) = false → ∃ t, exec (.streamStarved n dt) s = .next t ∧ t.flag (CTL_A_STAT_STARVED n.val) = true ∧ (t.axis n.val).vg = 0 ∧
      (t.axis n.val).g = stopPoint s n.val) ∧
    (¬ starved ∨ s.flag (CTL_A_STAT_STARVED n.val) = true → exec (.streamStarved n dt) s = .next z) ∧
    (used → ∃ t, exec (.ctlTableLoad n kind b) s = .next t ∧ t.fld st = 13 ∧ t.ctlLoad = s.ctlLoad ∧ SameRegs s t [CTL_TBL_STAT]) ∧
    (¬ used → s.ctlLoad ≠ none → ∃ t, exec (.ctlTableLoad n kind b) s = .next t ∧ t.fld st = 4 ∧ t.ctlLoad = s.ctlLoad ∧ SameRegs s t [CTL_TBL_STAT]) ∧
    (¬ used → s.ctlLoad = none → ∃ t, exec (.ctlTableLoad n kind b) s = .next t ∧ t.fld st = 0 ∧ t.flag CTL_TBL_STAT_BUSY = true ∧
      t.ctlLoad = some { axis := n.val, kind := kind.val, bank := b.val, addr := s.rdN CTL_TBL_ADDR / 256 * 256 }) ∧
    (s.ctlLoad = none → exec (.ctlTableLoadDone dt) s = .next z) ∧
    (∀ a, s.ctlLoad = some { axis := n.val, kind := kind.val, bank := b.val, addr := a } → sysServed z a 2048 = false → exec (.ctlTableLoadDone dt) s = .next z) ∧
    (∀ a, s.ctlLoad = some { axis := n.val, kind := kind.val, bank := b.val, addr := a } → sysServed z a 2048 = true → s.flag MEM_CTL_NB_EN = false → s.memc.uncorr = [] →
      (∀ i, i < 2048 → ∃ g, xlate z (sysAsid z) 0 (a + i) akREAD = .ok g) →
      ∃ t, exec (.ctlTableLoadDone dt) s = .next t ∧ t.ctlLoad = none ∧ t.flag CTL_TBL_STAT_BUSY = false ∧ t.flag ⟨CTL_TBL_LOADED, key, 1⟩ = true ∧
        kget (fun _ => []) t.ctlTables key = sysRead z a 2048)

/-- ThreadsAndDebug: What the commands of a thread and of its debug registers do. -/
def Obligations.ThreadsAndDebug : Prop :=
  -- START, STOP, PREEMPT, RESTORE, HALT, RUN and STEP act in the states that R341 to R347 name and else refuse with their status, and a refusal changes nothing else. Where the spec leaves a corner of this open, what it says is the model's choice (log entry 36).
  (∀ (s : State) (b : Fin 128) (t : Fin 4), s.clocked = true →
    let u := unitOf b t
    let st := thState s u
    let held := bobbinsHeld s = true
    let moving := st = 6 ∨ st = 7
    let code := fun (y : State) => y.fld (ENG_B_T_STAT_CMD_STATUS b t)
    let refused := fun (i : Instr) (c : Nat) => ∃ y, exec i s = .next y ∧ code y = c ∧ SameRegs s y [ENG_B_T_STAT b t] ∧ y.threads = s.threads ∧ SameBytes s y
    let acts := fun (i : Instr) (st2 : Nat) (p : State → Prop) => ∃ y, exec i s = .next y ∧ code y = 0 ∧ thState y u = st2 ∧ p y
    (held → refused (.cmdStart b t) 7 ∧ refused (.cmdRestore b t) 7) ∧
    (¬ held → st ≠ 0 → refused (.cmdStart b t) 4 ∧ refused (.cmdRestore b t) 4) ∧
    (¬ held → st = 0 → acts (.cmdStart b t) 1 (fun y => thPc y u = thPc s u ∧ (∀ k, getG y u k = 0#64 ∧ getV y u k = 0#256 ∧ getP y u k = decide (k = 0)) ∧
      y.rdN (ENG_B_T_INSTRET b t) = 0 ∧ y.rdN (ENG_B_T_WAKE_LOST b t) = 0 ∧ y.rdN (ENG_B_T_FAULT b t) = 0 ∧ (y.th u).tpri = s.fld (ENG_B_T_CFG_TPRI b t) ∧
      (∀ w, w ≠ u → y.th w = s.th w) ∧ SameBytes s y)) ∧
    (¬ held → st = 0 → acts (.cmdRestore b t) 7 (fun y => SameRegs s y [ENG_B_T_STAT b t] ∧ y.threads = s.threads)) ∧
    (st = 0 → refused (.cmdStop b t) 3) ∧
    (moving → acts (.cmdStop b t) st (fun y => (y.th u).stopPend = true)) ∧
    (st ≠ 0 → ¬ moving → acts (.cmdStop b t) 0 (fun y => ∀ k, getG y u k = 0#64 ∧ (getMove y u k).valid = false)) ∧
    (moving → refused (.cmdPreempt b t) 4 ∧ refused (.cmdHalt b t) 4 ∧ refused (.cmdRun b t) 4 ∧ refused (.cmdStep b t) 4) ∧
    (¬ moving → st = 0 ∨ ctxPinned s u = false → refused (.cmdPreempt b t) 7) ∧
    (¬ moving → st ≠ 0 → ctxPinned s u = true → acts (.cmdPreempt b t) 6 (fun y => (y.th u).saveState = st ∧ (y.th u).wait = .nothing ∧ thPc y u = thPc s u ∧ SameFiles s y u)) ∧
    (st = 1 ∨ st = 2 ∨ st = 3 → acts (.cmdHalt b t) 4 (fun y => (y.th u).wait = .nothing ∧ thPc y u = thPc s u ∧ SameFiles s y u)) ∧
    (st = 0 ∨ st = 4 ∨ st = 5 → refused (.cmdHalt b t) 7) ∧
    (¬ moving → st ≠ 4 → refused (.cmdRun b t) 7 ∧ refused (.cmdStep b t) 7) ∧
    (st = 4 → acts (.cmdRun b t) 1 (fun y => (y.th u).stepping = false ∧ SameFiles s y u ∧ SameRegs s y [ENG_B_T_STAT b t] ∧ SameBytes s y) ∧
      acts (.cmdStep b t) 1 (fun y => (y.th u).stepping = true ∧ SameFiles s y u ∧ SameRegs s y [ENG_B_T_STAT b t] ∧ SameBytes s y))) ∧
  -- an armed breakpoint and a finished step halt their thread (R346, R347); DBG_DATA reaches the register that DBG_SEL names while the thread is halted, and nothing else (R345, R349); an invalidation of the instruction cache changes nothing that a program sees (R350). Where the spec leaves a corner of this open, what it says is the model's choice (log entries 26, 36).
  (∀ (s : State) (b : Fin 128) (t : Fin 4) (v : BitVec 64), s.clocked = true →
    let u := unitOf b t
    let st := thState s u
    let r := s.fld (ENG_B_T_DBG_SEL_REG b t)
    let csr := s.flag (ENG_B_T_DBG_SEL_CSR b t)
    let part := s.fld (ENG_B_T_DBG_SEL_PART b t)
    let reads := fun (w : Word) => exec (.debugRegAccess b t false v) s = .next { s with lastRead := w }
    let wr : Instr := .debugRegAccess b t true v
    let put := fun (y : State) => dropAside (ENG_B_T_DBG_DATA b t) y
    let halts := fun (i : Instr) => ∃ y, exec i s = .next y ∧ thState y u = 4 ∧ thPc y u = thPc s u ∧ SameFiles s y u
    let hit := st = 1 ∧ (s.th u).stepDone = false ∧ bpHit s u = true
    let stepped := st = 1 ∧ (s.th u).stepDone = true
    (hit → halts (.breakpoint b t)) ∧ (¬ hit → exec (.breakpoint b t) s = .next s) ∧
    (stepped → halts (.stepDone b t)) ∧ (¬ stepped → exec (.stepDone b t) s = .next s) ∧
    (st ≠ 4 → exec wr s = .next (put s) ∧ ∃ w, exec (.debugRegAccess b t false v) s = .next { s with lastRead := w, freeCtr := s.freeCtr + 1 }) ∧
    (st = 4 → csr = true → reads ((csrRead s u r).getD 0#64) ∧ exec wr s = .next (put (csrWrite u r v s))) ∧
    (st = 4 → csr = false → r < 0x40 → reads (getG s u r) ∧ exec wr s = .next (put (setG u r v s))) ∧
    (st = 4 → csr = false → r = 0x50 → reads (s.rd (ENG_B_T_PC b t)) ∧ ∃ y, exec wr s = .next y ∧ y.rd (ENG_B_T_PC b t) = v ∧ SameRegs s y [ENG_B_T_PC b t] ∧ y.threads = s.threads) ∧
    (st = 4 → csr = false → 0x40 ≤ r → r < 0x50 → reads (BitVec.ofNat 64 ((getV s u (r - 0x40)).toNat / 2 ^ (64 * part))) ∧ ∃ y, exec wr s = .next y ∧
      (∀ i, i < 4 → (getV y u (r - 0x40)).toNat / 2 ^ (64 * i) % 2 ^ 64 = if i = part then v.toNat else (getV s u (r - 0x40)).toNat / 2 ^ (64 * i) % 2 ^ 64) ∧ y.regs = s.regs ∧
      (∀ w, w ≠ r - 0x40 → getV y u w = getV s u w) ∧ SameBytes s y) ∧
    (st = 4 → csr = false → r = 0x51 → reads ((csrRead s u 3).getD 0#64) ∧ exec wr s = .next (put (csrWrite u 3 v s))) ∧
    (st = 4 → csr = false → 0x51 < r → reads 0#64 ∧ exec wr s = .next (put s)) ∧
    exec (.icacheInvalidate b) s = .next s)

/-- ContextsAndMoves: a saved context is laid out as R340 says and its slot becomes EMPTY (R341); a good context is loaded and a bad one refused with BAD_DESC (R342); a move between two places of the pads copies its bytes, ends OK and lets an MWAIT go on (R324). Where the spec leaves a corner of this open, what it says is the model's choice (log entries 35, 36). -/
def Obligations.ContextsAndMoves : Prop :=
  ∀ (s : State) (b : Fin 128) (t : Fin 4) (k : Fin 8) (dt p q d : Nat) (bs : List Byte), s.clocked = true →
    let u := unitOf b t
    let st := thState s u
    let a := ctxAddr s u
    let asid := thAsid s u
    let z := passTime dt s
    let m := getMove s u k.val
    let idle := m.valid = false ∨ m.suspended = true ∨ st = 0 ∨ st = 6 ∨ st = 7
    let arg := a % 2 ^ 48 * 2 ^ 14
    (st ≠ 6 → exec (.contextSaveDone b t) s = .next s) ∧
    (st = 6 → exec (.contextSaveDone b t) s = .next (thEvent u 3 0 arg (emptySlot u (storeCtx asid a (contextBytes s u) s))) ∧
      thState (emptySlot u (storeCtx asid a (contextBytes s u) s)) u = 0) ∧
    ((contextBytes s u).length = 1408 ∧ natAt (contextBytes s u) 0x400 8 = thPc s u ∧ (∀ r, r < 64 → natAt (contextBytes s u) (8 * r) 8 = (getG s u r).toNat) ∧
      (∀ r, r < 16 → natAt (contextBytes s u) (0x200 + 32 * r) 32 = (getV s u r).toNat) ∧ natAt (contextBytes s u) 0x408 1 = (s.th u).saveState % 256 ∧
      natAt (contextBytes s u) 0x40C 2 = asid ∧ natAt (contextBytes s u) 0x428 8 = (s.th u).mail.toNat) ∧
    (st ≠ 7 → exec (.contextRestoreDone b t) s = .next s) ∧
    (st = 7 → ctxServed s u = false → exec (.contextRestoreDone b t) s = .next s) ∧
    (st = 7 → ctxServed s u = true → loadCtx s asid a 1408 = some bs → contextOk bs = true → ∃ y, exec (.contextRestoreDone b t) s = .next y ∧
      ((s.th u).stopPend = true → thState y u = 0) ∧
      ((s.th u).stopPend = false → thState y u = (if natAt bs 0x408 1 = 4 ∨ natAt bs 0x408 1 = 5 then natAt bs 0x408 1 else 1) ∧ thPc y u = natAt bs 0x400 8 ∧
        (∀ r, 1 ≤ r → r < 64 → getG y u r = BitVec.ofNat 64 (natAt bs (8 * r) 8)) ∧ (∀ r, r < 16 → getV y u r = BitVec.ofNat 256 (natAt bs (0x200 + 32 * r) 32)) ∧
        thAsid y u = natAt bs 0x40C 2 ∧ (y.th u).mail = BitVec.ofNat 64 (natAt bs 0x428 8))) ∧
    (st = 7 → ctxServed s u = true → loadCtx s asid a 1408 = none ∨ (loadCtx s asid a 1408 = some bs ∧ contextOk bs = false) → ∃ y, exec (.contextRestoreDone b t) s = .next y ∧
      thState y u = 0 ∧ y.fld (ENG_B_T_STAT_CMD_STATUS b t) = 12) ∧
    (idle → exec (.moveDone b t k dt) s = .next z) ∧
    (¬ idle → (m.src + m.left ≤ m.dst ∨ m.dst + m.left ≤ m.src) → (p + m.left ≤ q ∨ q + m.left ≤ p) →
      (∀ i, i < m.left → place z u (m.src + i) akREAD = .pad (p + i) ∧ place z u (m.dst + i) akWRITE = .pad (q + i) ∧ localBad true (p + i) 1 s = false) →
      ∃ y, exec (.moveDone b t k dt) s = .next y ∧ y.padMem = writeMem s.padMem q (readMem s.padMem p m.left) ∧ y.dram = s.dram ∧ y.host = s.host ∧
        ((s.th u).wait = .nothing → (getMove y u k.val).valid = false ∧ (getMove y u k.val).status = 0 ∧ thState y u = st ∧ SameOutsideRings s y []) ∧
        ((s.th u).wait = .moves d → (∀ j, j < 8 → j ≠ k.val → (getMove s u j).valid = false) → (s.th u).moveFail = none → thState y u = 1 ∧ (y.th u).opst = 0 ∧ getG y u d = 0#64 ∧
          thPc y u = (thPc s u + 4) % 2 ^ 64))

/-- MappingsAndTables: What mapping commands and table commands of the MMU do. -/
def Obligations.MappingsAndTables : Prop :=
  -- MAP, UNMAP, PROTECT, PIN and UNPIN refuse a command while another runs, a bad length and an invalid context (R360); on one page they leave the leaf's entry as R358 and R360 say, count the page and wait for the requests translated before (R361). Where the spec leaves a corner of this open, what it says is the model's choice (log entry 77).
  (∀ (s : State) (t ea e : Nat) (s1 : State), s.clocked = true →
    let asid := cmdAsid s
    let va := cmdVa s 0
    let large := cmdLarge s
    let lvl := if large then 2 else 3
    let busy := s.flag MMU_CMD_STAT_BUSY = true
    let all := [Instr.map, .unmap, .protect, .pin, .unpin]
    let fails := fun (i : Instr) (c : Nat) => ∃ y, exec i s = .next y ∧ y.fld MMU_CMD_STAT_STATUS = c ∧ y.rdN MMU_CMD_DONE = 0 ∧ SameBytes s y ∧ SameRegs s y [MMU_CMD_STAT, MMU_CMD_DONE]
    let done := fun (y : State) => y.flag MMU_CMD_STAT_BUSY = true ∧ y.rdN MMU_CMD_DONE = 1 ∧ y.mmu.cmdPend = some 0 ∧ SameOutsideRings s y [] ∧ y.host = s.host
    let one := ¬ busy ∧ cmdLen s = 1 ∧ badVaRange s = false ∧ ctxValid s asid = true
    let leaf := one ∧ otherSize s asid va large = false ∧ rawLeaf s asid va large = some (ea, e)
    let now := fun (i : Instr) (v : Nat) => ∃ y, exec i s = .next y ∧ done y ∧ y.dram = writeMem s.dram ea (leBytes 8 v)
    let free := ∀ x w, rawLeaf s asid va large = some (x, w) → bits w 8 8 = 0 ∧ pageRef s asid va large = false
    let flags := 4 * s.fld MMU_CMD_FLAGS_W + 8 * s.fld MMU_CMD_FLAGS_X
    (∀ i ∈ all, (busy → ∃ y, exec i s = .next y ∧ y.fld MMU_CMD_STAT_STATUS = 4 ∧ y.mmu = s.mmu ∧ SameBytes s y ∧ SameRegs s y [MMU_CMD_STAT]) ∧ (¬ busy → badLen s = true → fails i 12) ∧
      (¬ busy → badLen s = false → badVaRange s = false → (i = .map → badPaRange s = false) → ctxValid s asid = false → fails i 7)) ∧
    (one → badPaRange s = false → free → otherSize s asid va large = false → ensureTable asid va lvl s = some (t, s1) → (large = true → findTable s1 asid va 3 = none) → ∃ y, exec .map s = .next y ∧
      done y ∧ readNat y.dram (t + 8 * vaIndex lvl va) 8 = (3 + flags + 16 * s.fld MMU_CMD_FLAGS_HOST + cmdPa s 0 / 65536 * 65536) % 2 ^ 64) ∧
    (one → badPaRange s = false → ¬ free ∨ otherSize s asid va large = true → fails .map 4) ∧
    (one → otherSize s asid va large = true → fails .unmap 7 ∧ fails .protect 7 ∧ fails .pin 7 ∧ fails .unpin 7) ∧
    (leaf → bits e 8 8 = 0 → pageRef s asid va large = false → now .unmap 0) ∧ (leaf → bits e 8 8 ≠ 0 ∨ pageRef s asid va large = true → fails .unmap 4) ∧
    (one → otherSize s asid va large = false → rawLeaf s asid va large = none → ∃ y, exec .unmap s = .next y ∧ done y ∧ SameBytes s y) ∧
    (leaf → now .protect (e - 4 * bits e 2 2 + flags)) ∧
    (leaf → bit e 4 = false → bits e 8 8 < 255 → now .pin (e + 256)) ∧ (leaf → bit e 4 = true → fails .pin 12) ∧ (leaf → bit e 4 = false → bits e 8 8 = 255 → fails .pin 7) ∧
    (leaf → bits e 8 8 ≠ 0 → pageRef s asid va large = false → now .unpin (e - 256)) ∧ (leaf → bits e 8 8 = 0 → fails .unpin 7) ∧
    (leaf → bits e 8 8 ≠ 0 → pageRef s asid va large = true → fails .unpin 4) ∧
    (one → rawLeaf s asid va large = none → fails .protect 7 ∧ fails .pin 7 ∧ fails .unpin 7)) ∧
  -- TABLE_ADD, TABLE_REMOVE, CTX_CREATE and CTX_DESTROY give and take table pages and contexts, or refuse as R360 says; RESOLVE_PAGE counts its range (R360), and MMU_COMMAND_COMPLETE gives the status that waited (R361). Where the spec leaves a corner of this open, what it says is the model's choice (log entry 77).
  (∀ (s : State) (root st : Nat) (s1 : State), s.clocked = true →
    let asid := cmdAsid s
    let pg := s.rdN MMU_CMD_PA / 65536
    let ctx := ctxBase s + 16 * asid
    let busy := s.flag MMU_CMD_STAT_BUSY = true
    let fails := fun (i : Instr) (c : Nat) => ∃ y, exec i s = .next y ∧ y.fld MMU_CMD_STAT_STATUS = c ∧ y.rdN MMU_CMD_DONE = 0 ∧ y.mmu = s.mmu ∧ SameBytes s y ∧
      SameRegs s y [MMU_CMD_STAT, MMU_CMD_DONE]
    let done := fun (y : State) => y.flag MMU_CMD_STAT_BUSY = true ∧ y.rdN MMU_CMD_DONE = 1 ∧ y.mmu.cmdPend = some 0
    let page := ¬ busy ∧ badLen s = false ∧ badTablePage s = false
    let used := s.mmu.tables.any (fun t => t.1 / 65536 == pg) = true
    let context := ¬ busy ∧ badLen s = false
    let held := fun (h : HeldAccess) => h.asid = asid ∧ s.rdN MMU_CMD_VA ≤ h.va ∧ h.va < cmdVa s (cmdLen s)
    (∀ i ∈ [Instr.tableAdd, .tableRemove, .ctxCreate, .ctxDestroy, .resolvePage], (busy → ∃ y, exec i s = .next y ∧ y.fld MMU_CMD_STAT_STATUS = 4 ∧ y.mmu = s.mmu ∧ SameBytes s y ∧
      SameRegs s y [MMU_CMD_STAT]) ∧ (¬ busy → badLen s = true → fails i 12)) ∧
    (¬ busy → badTablePage s = true → fails .tableAdd 12 ∧ fails .tableRemove 12) ∧
    (page → referencedPhys s pg = true ∨ guardedPage s pg = true → fails .tableAdd 4) ∧
    (page → referencedPhys s pg = false → guardedPage s pg = false → ∃ y, exec .tableAdd s = .next y ∧ done y ∧ y.mmu.tblPages = s.mmu.tblPages ++ [pg] ∧ guardedPage y pg = true ∧ SameBytes s y) ∧
    (page → pg ∉ s.mmu.tblPages → fails .tableRemove 7) ∧ (page → pg ∈ s.mmu.tblPages → used → fails .tableRemove 4) ∧
    (page → pg ∈ s.mmu.tblPages → ¬ used → ∃ y, exec .tableRemove s = .next y ∧ done y ∧ y.mmu.tblPages = s.mmu.tblPages.filter (fun p => p != pg) ∧ SameBytes s y) ∧
    (context → ctxValid s asid = true → fails .ctxCreate 4) ∧ (context → ctxValid s asid = false → allocTable 4096 s = none → fails .ctxCreate 7) ∧
    (context → ctxValid s asid = false → allocTable 4096 s = some (root, s1) → ∃ y, exec .ctxCreate s = .next y ∧ done y ∧
      readNat y.dram ctx 8 = (root + 1 + 2 * s.fld MMU_CMD_FLAGS_HOST_OK + 4 * s.fld MMU_CMD_FLAGS_PRI) % 2 ^ 64 ∧
      readNat y.dram (ctx + 8) 8 = (s.rdN MMU_CMD_PA % 2 ^ 20 + 2 ^ 20 * s.fld MMU_CMD_FLAGS_PASID_EN) % 2 ^ 64) ∧
    (context → ctxValid s asid = false → fails .ctxDestroy 7) ∧
    (context → ctxValid s asid = true → anyPinned s asid = true ∨ ctxReferenced s asid = true → fails .ctxDestroy 4) ∧
    (context → ctxValid s asid = true → anyPinned s asid = false → ctxReferenced s asid = false → ∃ y, exec .ctxDestroy s = .next y ∧ done y ∧ readNat y.dram ctx 8 = ctxLo s asid / 2 * 2 ∧
      ∀ x ∈ y.mmu.atc, x.asid ≠ asid) ∧
    (¬ busy → badLen s = false → badVaRange s = true → fails .resolvePage 12) ∧
    (¬ busy → badLen s = false → badVaRange s = false → ∃ y, exec .resolvePage s = .next y ∧ y.rdN MMU_CMD_DONE = cmdLen s ∧ y.fld MMU_CMD_STAT_STATUS = 0 ∧
      ((∀ h ∈ s.mmu.held, ¬ held h) → y.mmu = s.mmu ∧ y.threads = s.threads ∧ SameBytes s y)) ∧
    (s.mmu.cmdPend = some st → st < 256 → ∃ y, exec .mmuCommandComplete s = .next y ∧ y.flag MMU_CMD_STAT_BUSY = false ∧ y.fld MMU_CMD_STAT_STATUS = st ∧ y.mmu.cmdPend = none ∧
      SameRegs s y [MMU_CMD_STAT]) ∧
    (s.mmu.cmdPend = none → exec .mmuCommandComplete s = .next s))

/-- HeldAccesses: RESOLVE retries a held access or fails it, and finds none for an unknown SEQ (R367, R368); a page request's answer lets its accesses go on, makes them faults, or stops page requests (R363); an invalidation drops the cached translations of its range (R362). Where the spec leaves a corner of this open, what it says is the model's choice (log entry 77). -/
def Obligations.HeldAccesses : Prop :=
  ∀ (s : State) (h : HeldAccess) (v : BitVec 64) (asid : BitVec 16) (page : BitVec 52) (count : Nat) (r : PageReq), s.clocked = true →
    let found := s.mmu.held.find? (fun x => x.seq == v.toNat % 2 ^ 32)
    let waits := h.agent = 1 ∧ h.unit < 512 ∧ thState s h.unit = 3
    let req := fun (x : State) => requested x asid.toNat page.toNat
    let out := s.mmu.priOut.filter (fun x => !(x.asid == asid.toNat && x.page == page.toNat))
    let fault := fun (x : State) => holdFails h (endRequest asid.toNat page.toNat x)
    let one := waitingFor s asid.toNat page.toNat = [h]
    let z := passTime (r.sentAt + max 1 (s.rdN MMU_PRI_TO % 65536) * 1000000 - s.now) s
    let covered := fun (x : AtcEntry) => x.asid = asid.toNat ∧ page.toNat ≤ x.page ∧ x.page < page.toNat + count
    (found = none → ∃ y, exec (.resolve v) s = .next y ∧ y.fld MMU_RESOLVE_STAT_OK = 7 ∧ y.mmu = s.mmu ∧ SameRegs s y [MMU_RESOLVE_STAT]) ∧
    (found = some h → waits → bit v.toNat 32 = false → ∃ y, exec (.resolve v) s = .next y ∧ y.fld MMU_RESOLVE_STAT_OK = 0 ∧ thState y h.unit = 1 ∧ y.mmu.held = s.mmu.held.erase h ∧ SameBytes s y) ∧
    (found = some h → waits → bit v.toNat 32 = true → ∃ y, exec (.resolve v) s = .next y ∧ thState y h.unit = 5 ∧ y.rdN (ENG_B_T_FAULT (h.unit / 4) (h.unit % 4)) = 5 ∧
      y.rdN (ENG_B_T_FADDR (h.unit / 4) (h.unit % 4)) = (s.th h.unit).pendAddr % 2 ^ 64) ∧
    (req s = none → (∀ c, exec (.pageRequestResponse asid page c) s = .next s) ∧ exec (.priTimeout asid page) s = .next s) ∧
    (req s = some r → one → waits → s.mmu.priWait = [] → ∃ y, exec (.pageRequestResponse asid page 0) s = .next y ∧ thState y h.unit = 1 ∧ y.mmu.held = s.mmu.held.erase h ∧ y.mmu.priOut = out) ∧
    (req s = some r → one → exec (.pageRequestResponse asid page 1) s = .next (sendWaiting (fault s))) ∧
    (req s = some r → ∃ y, exec (.pageRequestResponse asid page 2) s = .next y ∧ y.mmu.priStop = true) ∧
    (req s = some r → one → exec (.priTimeout asid page) s = .next (sendWaiting (fault z))) ∧
    (req s = some r → waitingFor s asid.toNat page.toNat = [] → exec (.priTimeout asid page) s = .next (sendWaiting (endRequest asid.toNat page.toNat z))) ∧
    (∃ y, exec (.atsInvalidate asid page count) s = .next y ∧ (∀ x, x ∈ y.mmu.atc ↔ x ∈ s.mmu.atc ∧ ¬ covered x) ∧ y.hostMsgs = s.hostMsgs ++ [.invalidateCompletion asid.toNat page.toNat] ∧ y.regs = s.regs ∧
      SameBytes s y) ∧
    (∃ y, exec .priEnable s = .next y ∧ y.mmu.priEn = true ∧ y.mmu.priStop = false ∧ y.mmu.priWait = s.mmu.priWait.drop (256 - s.mmu.priOut.length) ∧ y.mmu.held = s.mmu.held ∧
      SameRegs s y [MMU_HELD, MMU_PRI_OUT])

/-- DeviceMemory: What host accesses, scrubbing, refresh and self-refresh do to device memory. -/
def Obligations.DeviceMemory : Prop :=
  -- BAR2 writes and reads device memory at its offset (R409), drops the bytes that fall on guarded pages (R372), answers an access above its size as unsupported, waits for a channel that is off line (R389), and reaches the shared memories in RECOVERY (R599); a read's check counts what it finds (R376, R377). Where the spec leaves a corner of this open, what it says is the model's choice (log entry 5).
  (∀ (s : State) (off : BitVec 32) (x : BitVec 8) (bs : List (BitVec 8)) (n : Nat) (f : Fin 5), s.clocked = true →
    let a := off.toNat
    let calm := inRecovery s = false ∧ s.flag MEM_CTL_NB_EN = false ∧ s.memc.bar2Wait = []
    let refused := { s with hostMsgs := s.hostMsgs ++ [HostMsg.unsupportedRequest a] }
    let corr := MEM_C_CORR_CNT (chanOf a)
    let bad := MEM_C_UNCORR_CNT (chanOf a)
    let one := fun (y : State) (r : Nat) => s.rdN r < 0xFFFFFFFF → y.rdN r = s.rdN r + 1
    let write := exec (.bar2Write off bs) s
    let read := fun g : Fin 5 => exec (.bar2Read off n g) s
    let reads := calm ∧ a + n ≤ 2 ^ 32 ∧ devServed s a n = true
    (calm → a + bs.length ≤ 2 ^ 32 → devServed s a bs.length = true → (∀ p, guardedPage s p = true → ∀ i, i < bs.length → (a + i) / 65536 ≠ p) → ∃ y, write = .next y ∧
      y.dram = writeMem s.dram a bs ∧ y.host = s.host ∧ y.hostMsgs = s.hostMsgs ∧ SameOutsideMem s y []) ∧
    (calm → guardedPage s (a / 65536) = true → devServed s a 1 = true → ∃ y, exec (.bar2Write off [x]) s = .next y ∧ one y MMU_GUARD_DROP_CNT ∧ y.rdN MMU_GUARD_ADDR = a ∧
      (msPassed s.mmu.guardDropAt s.now = false → y.dram = s.dram)) ∧
    (calm → a + bs.length ≤ 2 ^ 32 → devServed s a bs.length = false → ∃ y, write = .next y ∧ y.memc.bar2Wait = [.write a bs] ∧ y.dram = s.dram ∧ y.hostMsgs = s.hostMsgs) ∧
    (calm → a + n ≤ 2 ^ 32 → devServed s a n = false → ∃ y, read f = .next y ∧ y.memc.bar2Wait = [.read a n f.val] ∧ y.dram = s.dram ∧ y.hostMsgs = s.hostMsgs) ∧
    (inRecovery s = false → 2 ^ 32 < a + bs.length → write = .next refused) ∧ (inRecovery s = false → 2 ^ 32 < a + n → read f = .next refused) ∧
    (inRecovery s = true → 2 ^ 24 < a + bs.length → write = .next refused) ∧ (inRecovery s = true → 2 ^ 24 < a + n → read f = .next refused) ∧
    (inRecovery s = true → a + bs.length ≤ 2 ^ 24 → write = .next { s with pilMem := writeMem s.pilMem a bs }) ∧
    (inRecovery s = true → a + n ≤ 2 ^ 24 → read f = .next { s with hostMsgs := s.hostMsgs ++ [.bar2Data a (readMem s.pilMem a n) false] }) ∧
    (reads → badBurst s a = false → ∃ y, read 0 = .next y ∧ y.hostMsgs = s.hostMsgs ++ [.bar2Data a (readMem s.dram a n) (readsBad s ⟨false, a⟩ n)] ∧ y.dram = s.dram ∧ SameOutsideMem s y []) ∧
    (reads → badBurst s a = false → 1 ≤ f.val → f.val ≤ 3 → ∃ y, read f = .next y ∧ one y corr) ∧
    (reads → badBurst s a = true ∨ f.val = 4 → ∃ y, read f = .next y ∧ one y bad ∧ y.rdN MEM_UNCORR_ADDR = a / 64 * 64)) ∧
  -- as its time comes a scrub reads the next burst and moves on (R378); a refresh takes the next row of a die (R383), a neighbour refresh the next queued row (R384), and a temperature report is kept (R383). Where the spec leaves a corner of this open, what it says is the model's choice (log entry 79).
  (∀ (s : State) (c : Fin 16) (die : Fin 2) (f : Fin 5) (v : BitVec 8), s.clocked = true →
    let pos := s.rdN MEM_SCRUB_POS
    let st := s.fld MEM_STAT_SR_STATE
    let on := s.flag MEM_CTL_SCRUB_EN = true ∧ st ≠ 2 ∧ st ≠ 3 ∧ devServed s pos 64 = true
    let x := s.chan c.val
    let row := fun (y : State) => if die.val = 0 then (y.chan c.val).refreshRow0 else (y.chan c.val).refreshRow1
    let hot := fun (y : State) => if die.val = 0 then (y.chan c.val).hot0 else (y.chan c.val).hot1
    let due := if die.val = 0 then x.refreshAt0 + refreshEvery x.hot0 else x.refreshAt1 + refreshEvery x.hot1
    (¬ on → exec (.scrubRead f) s = .next s) ∧
    (on → ∃ y, exec (.scrubRead f) s = .next y ∧ y.now = max s.now (scrubDue s) ∧ y.rdN MEM_SCRUB_POS = (pos + 64) % 2 ^ 32 ∧ (f.val = 4 → y.rdN MEM_UNCORR_ADDR = pos / 64 * 64) ∧
      ((pos + 64) % 2 ^ 32 = 0 → y.memc.passStart = y.now)) ∧
    (st = 2 → exec (.refresh c die) s = .next s) ∧
    (st ≠ 2 → ∃ y, exec (.refresh c die) s = .next y ∧ row y = (row s + 1) % (16 * 8193) ∧ y.now = max s.now due ∧ SameRegs s y [] ∧ SameBytes s y) ∧
    ((s.chan c.val).nbQueue = [] → exec (.neighbourRefresh c) s = .next s) ∧
    (∀ h t, (s.chan c.val).nbQueue = h :: t → ∃ y, exec (.neighbourRefresh c) s = .next y ∧ (y.chan c.val).nbQueue = t ∧ SameRegs s y [MEM_C_NB_CNT c.val] ∧
      (s.rdN (MEM_C_NB_CNT c.val) < 0xFFFFFFFF → y.rdN (MEM_C_NB_CNT c.val) = s.rdN (MEM_C_NB_CNT c.val) + 1)) ∧
    (∃ y, exec (.dramTempReport c die v) s = .next y ∧ y.fld ⟨MEM_C_TEMP c.val, 8 * die.val, 8⟩ = v.toNat ∧ hot y = decide (85 ≤ v.toInt) ∧ SameOutsideRings s y [MEM_C_TEMP c.val])) ∧
  -- entry begins as the memory has been idle, if R385's conditions hold, and becomes self-refresh 10 ns later or is cancelled (R386); an exit is caused by a request or by tolerance, after the residency, and counts the time asleep (R386, R387); it ends after the exit time and adapts the idle time (R386, R388). KEEP_AWAKE raises the bound and cancels an entry (R618). Where the spec leaves a corner of this open, what it says is the model's choice (log entry 79).
  (∀ (s : State) (dt : Nat), s.clocked = true →
    let st := s.fld MEM_STAT_SR_STATE
    let m := s.memc
    let one := fun (y : State) (r : Nat) => s.rdN r < 0xFFFFFFFF → y.rdN r = s.rdN r + 1
    let cancelled := fun (y : State) => y.fld MEM_STAT_SR_STATE = 0 ∧ one y MEM_SR_CANCEL_CNT
    let idleFor := max (s.rdN MEM_SR_IDLE) (s.rdN MEM_SR_IDLE_LO)
    let z0 := passTime (m.lastReq + idleFor - s.now) s
    let z1 := passTime (m.srEnterAt + 10 - s.now) s
    let left := m.srCmdAt + s.rdN MEM_SR_RES - s.now
    let z2 := passTime (if m.waiting then left else max left dt) s
    let leaves := m.waiting = true ∨ tolAmple z2 = false
    let z3 := passTime (m.srExitAt + s.rdN MEM_SR_EXIT - s.now) s
    let z := passTime dt s
    let slept := z3.now - m.srCmdAt
    let idle := s.rdN MEM_SR_IDLE
    let awake := { z3.setFld MEM_STAT_SR_STATE 0 with memc := { z3.memc with waiting := false } }
    (st ≠ 0 ∨ idleFor = 0xFFFFFFFF → exec .srEntryStart s = .next s) ∧
    (st = 0 → idleFor ≠ 0xFFFFFFFF → srConditions z0 = true → ∃ y, exec .srEntryStart s = .next y ∧ y.fld MEM_STAT_SR_STATE = 1 ∧ y.memc.srEnterAt = z0.now ∧ SameRegs s y [MEM_STAT]) ∧
    (st = 0 → idleFor ≠ 0xFFFFFFFF → srConditions z0 = false → exec .srEntryStart s = .next z0) ∧
    (st ≠ 1 → exec .srCommand s = .next s) ∧ (st = 1 → srConditions z1 = false → ∃ y, exec .srCommand s = .next y ∧ cancelled y) ∧
    (st = 1 → srConditions z1 = true → ∃ y, exec .srCommand s = .next y ∧ y.fld MEM_STAT_SR_STATE = 2 ∧ y.memc.srCmdAt = z1.now ∧ one y MEM_SR_CNT) ∧
    (st = 1 → srConditions z = false → ∃ y, exec (.srExitStart dt) s = .next y ∧ cancelled y) ∧
    (st ≠ 2 → st ≠ 1 ∨ srConditions z = true → exec (.srExitStart dt) s = .next z) ∧
    (st = 2 → leaves → ∃ y, exec (.srExitStart dt) s = .next y ∧ y.fld MEM_STAT_SR_STATE = 3 ∧ y.memc.srExitAt = z2.now ∧ y.memc.srByReq = m.waiting ∧
      y.rdN MEM_SR_TIME = (m.asleepNs + (z2.now - m.srCmdAt)) / 1000 % 2 ^ 64 ∧ one y (if m.waiting then MEM_SR_WAKE_REQ_CNT else MEM_SR_WAKE_TOL_CNT)) ∧
    (st = 2 → ¬ leaves → exec (.srExitStart dt) s = .next z2) ∧
    (st ≠ 3 → exec .srExitDone s = .next s) ∧
    (st = 3 → m.srByReq = true → slept < 4800 → exec .srExitDone s = .next (adaptStep srIdle (max (2 * idle) (idle + 100) : Nat) awake)) ∧
    (st = 3 → m.srByReq = true → 76800 < slept → exec .srExitDone s = .next (adaptStep srIdle (idle - idle / 4 : Nat) awake)) ∧
    (st = 3 → m.srByReq = false ∨ (4800 ≤ slept ∧ slept ≤ 76800) → exec .srExitDone s = .next awake) ∧
    (∃ y, exec .keepAwake s = .next y ∧ y.rdN MEM_SR_IDLE_LO = 0xFFFFFFFF ∧ (st = 1 → cancelled y) ∧ (st ≠ 1 → y.fld MEM_STAT_SR_STATE = st) ∧ y.rd MEM_SR_IDLE = s.rd MEM_SR_IDLE))

/-- ChannelsAndTraining: a channel is not taken off line under light (R389); a delay is in effect at once off line and else waits (R393); a training operation starts, is cancelled, ends and is overtaken as R390 to R392 say, and one that writes leaves its pattern in every burst (R390). Where the spec leaves a corner of this open, what it says is the model's choice (log entry 80). -/
def Obligations.ChannelsAndTraining : Prop :=
  ∀ (s : State) (c : Fin 16) (on live : Bool) (k : Fin 38) (v : BitVec 32) (dt got : Nat) (tr : TrainOp) (noise : List Nat), s.clocked = true →
    let z := passTime dt s
    let busy := MEM_C_STAT_TRN_BUSY c.val
    let st := MEM_C_STAT_TRN_STATUS c.val
    let n := trnCount s c.val
    let wr := delayReg c.val k.val
    let w := BitVec.ofNat 64 (v.toNat &&& wr.2)
    let ops := [(Instr.trnWrite c live, 0), (.trnRead c live, 1), (.trnWriteRead c live, 2)]
    let fails := fun (i : Instr) (x : Nat) => ∃ y, exec i s = .next y ∧ y.fld st = x ∧ y.chans = s.chans ∧ SameRegs s y [MEM_C_STAT c.val]
    let bad := n = 0 ∨ trnRangeOk s c.val live = false
    let long := live = true ∧ liveMax s < n * 10
    let mine := (s.chan c.val).train = some tr
    let runs := if tr.cancelled then min got n else n
    let ended := fun (y : State) (x d : Nat) => y.flag busy = false ∧ y.fld st = x ∧ y.rdN (MEM_C_TRN_DONE c.val) = d ∧ (y.chan c.val).train = none
    let delays := tr.live = true ∧ tr.cancelled = false ∧ (s.fld MEM_STAT_SR_STATE ≠ 0 ∨ tolMin z ≤ liveMax s + 500)
    (on = false → lightNeedsMemory s = true → ∃ y, exec (.channelOnlineWrite c on) s = .next y ∧ y.fld (MEM_C_STAT_CMD_STATUS c.val) = 7 ∧ SameRegs s y [MEM_C_STAT c.val] ∧ y.chans = s.chans) ∧
    (on = true ∨ lightNeedsMemory s = false → ∃ y, exec (.channelOnlineWrite c on) s = .next y ∧ y.fld (MEM_C_STAT_CMD_STATUS c.val) = 0 ∧ y.flag (MEM_C_STAT_ONLINE c.val) = on ∧
      y.flag (MEM_C_CTL_ONLINE c.val) = on ∧ y.flag ⟨MEM_STAT, 16 + c.val, 1⟩ = on) ∧
    (∃ y, exec (.memDelayWrite c k v) s = .next y ∧ y.rd wr.1 = w ∧ SameRegs s y [wr.1] ∧
      (if s.flag (MEM_C_STAT_ONLINE c.val) then (y.chan c.val).delayPend = (s.chan c.val).delayPend ++ [(wr.1, w)] ∧ (y.chan c.val).delayEff = (s.chan c.val).delayEff
       else kget resetOf (y.chan c.val).delayEff wr.1 = w)) ∧
    (∀ i op, (i, op) ∈ ops → (s.flag busy = true → fails i 4) ∧ (s.flag busy = false → bad → fails i 12) ∧ (s.flag busy = false → ¬ bad → s.flag (MEM_C_STAT_ONLINE c.val) ≠ live → fails i 7) ∧
      (s.flag busy = false → ¬ bad → s.flag (MEM_C_STAT_ONLINE c.val) = live → long → fails i 12) ∧
      (s.flag busy = false → ¬ bad → s.flag (MEM_C_STAT_ONLINE c.val) = live → ¬ long → ∃ y, exec i s = .next y ∧ y.flag busy = true ∧ y.rdN (MEM_C_TRN_DONE c.val) = 0 ∧
        (y.chan c.val).train = some { op := op, live := live, startedAt := s.now, cancelled := false } ∧ SameRegs s y [MEM_C_STAT c.val, MEM_C_TRN_DONE c.val])) ∧
    ((s.chan c.val).train = none → fails (.trnCancel c) 3 ∧ exec (.trainDone c dt got noise) s = .next z ∧ exec (.trainLiveTimeout c dt) s = .next z) ∧
    (mine → ∃ y, exec (.trnCancel c) s = .next y ∧ (y.chan c.val).train = some { tr with cancelled := true } ∧ y.regs = s.regs) ∧
    (∃ y, exec (.trnClrErr c) s = .next y ∧ (∀ j, j < 36 → y.rd (MEM_C_ERR c.val j) = 0#64) ∧ SameRegs s y ((List.range 36).map (fun j => MEM_C_ERR c.val j)) ∧ y.chans = s.chans) ∧
    (mine → delays → exec (.trainDone c dt got noise) s = .next z) ∧
    (mine → ¬ delays → ∃ y, exec (.trainDone c dt got noise) s = .next y ∧ ended y (if tr.cancelled then 2 else 0) runs ∧
      (tr.op = 0 → ∀ j, j < runs → kget (fun _ => none) (y.chan c.val).rows (trnFirst s c.val + j) = some (BitVec.ofNat 576 (trnPattern s c.val j)))) ∧
    (mine → tr.live = true → tr.startedAt + 1000000 ≤ z.now → ∃ y, exec (.trainLiveTimeout c dt) s = .next y ∧ ended y 11 0) ∧
    (mine → tr.live = false ∨ z.now < tr.startedAt + 1000000 → exec (.trainLiveTimeout c dt) s = .next z)

/-- QueuesAndDoorbells: What queue commands and doorbells do. -/
def Obligations.QueuesAndDoorbells : Prop :=
  -- ENABLE starts an empty ring, STOP and RESUME turn claiming off and on, DISABLE drains (R411 to R413, R433), and each refuses in the states that R411 and R413 name; a drained queue becomes DISABLED (R433).
  (∀ (s : State) (q : Fin 4096), s.clocked = true →
    let st := qState s q.val
    let code := fun (y : State) => y.fld (QUE_Q_STAT_CMD_STATUS q.val)
    let refused := fun (i : Instr) (c : Nat) => ∃ y, exec i s = .next y ∧ code y = c ∧ SameRegs s y [QUE_Q_STAT q.val] ∧ y.queues = s.queues ∧ SameBytes s y
    let becomes := fun (i : Instr) (v : Nat) => ∃ y, exec i s = .next y ∧ code y = 0 ∧ qState y q.val = v ∧ SameRegs s y [QUE_Q_STAT q.val] ∧ y.queues = s.queues ∧ SameBytes s y
    let used := qType s q.val = 1 ∧ ∃ p, p < 4096 ∧ qType s p = 0 ∧ qLive s p = true ∧ qCq s p = q.val
    let o := qOwner s q.val
    let empty := st = 3 ∧ (s.queue q.val).claims = []
    let last := fun (e : State) => bit (s.rdN GLB_FN_EN) o = true ∧ ∀ p, p < 4096 → qState e p = 3 → qOwner e p ≠ o
    (st ≠ 0 ∨ enableBad s q.val = true → refused (.queueEnable q) 7) ∧ (st = 0 → enableBad s q.val = false → slotTaken s q.val = true → refused (.queueEnable q) 4) ∧
    (st = 0 → enableBad s q.val = false → slotTaken s q.val = false → s.heldEvents = [] → ∃ y, exec (.queueEnable q) s = .next y ∧ code y = 0 ∧ qState y q.val = 1 ∧
      y.flag (QUE_Q_STAT_ARMED q.val) = true ∧ qHead y q.val = 0 ∧ qTail y q.val = 0 ∧ qPresent y q.val = 0 ∧ y.queue q.val = {} ∧ SameBytes s y ∧
      SameRegs s y [QUE_Q_STAT q.val, QUE_Q_HEAD q.val, QUE_Q_TAIL q.val, QUE_ABORT_STAT q.val]) ∧
    (st = 1 → becomes (.queueStop q) 2) ∧ (st ≠ 1 → refused (.queueStop q) 7) ∧ (st = 2 → becomes (.queueResume q) 1) ∧ (st ≠ 2 → refused (.queueResume q) 7) ∧
    (st = 0 ∨ st = 3 → refused (.queueDisable q) 7) ∧ (st ≠ 0 → st ≠ 3 → used → refused (.queueDisable q) 4) ∧
    (st ≠ 0 → st ≠ 3 → ¬ used → ∃ y, exec (.queueDisable q) s = .next y ∧ code y = 0 ∧ qState y q.val = 3 ∧ (∀ c ∈ (y.queue q.val).claims, c.aborted ≠ none) ∧
      (y.queue q.val).claims.map (fun c => c.idx) = (s.queue q.val).claims.map (fun c => c.idx) ∧ (qType s q.val = 0 → qPresent y q.val = 0) ∧ SameBytes s y) ∧
    (¬ empty → exec (.queueDrained q) s = .next s) ∧
    (empty → ∃ x e, qState x q.val = 0 ∧ SameRegs s x [QUE_Q_STAT q.val] ∧ SameBytes s x ∧ e = emitAll [queEvent s 3 0 (q.val + o * 2 ^ 12)] x ∧
      (¬ last e → exec (.queueDrained q) s = .next e) ∧
      (last e → exec (.queueDrained q) s = .next { e with hostIf := { e.hostIf with flr := e.hostIf.flr.filter (fun f => f != o) } }))) ∧
  -- a doorbell moves TAIL or HEAD forward where R415 allows it and is else dropped and counted (R414, R415); ARM arms the ring, and an armed ring whose conditions hold sends its vector, or leaves it pending while masked (R429). Where the spec leaves a corner of this open, what it says is the model's choice (log entry 81).
  (∀ (s : State) (fn : Fin 64) (q : Fin 4096) (v : BitVec 32) (f : Nat), s.clocked = true →
    let st := qState s q.val
    let size := qSize s q.val
    let idx := v.toNat % 65536
    let ours := fn.val = qOwner s q.val ∧ st ≠ 0 ∧ st ≠ 3 ∧ st ≠ 4 ∧ v.toNat / 65536 % 32768 = 0 ∧ idx < size
    let sq := qType s q.val = 0
    let sqOk := ours ∧ s.flag (QUE_Q_CTL_PRODUCER q.val) = false ∧ qPresent s q.val + (idx + size - qTail s q.val) % size ≤ size - 1
    let cqOk := ours ∧ (idx + size - qHead s q.val) % size ≤ qPresent s q.val
    let bad := QUE_Q_DB_BAD_CNT q.val
    let dropped := fun (i : Instr) => ∃ x, SameRegs s x [bad] ∧ SameBytes s x ∧ (s.rdN bad < 0xFFFFFFFF → x.rdN bad = s.rdN bad + 1) ∧
      exec i s = .next (if msPassed (s.queue q.val).dbBadAt s.now then emitAll [queEvent s 1 2 (q.val + fn.val * 2 ^ 12 + v.toNat * 2 ^ 32)] x else x)
    let r := s.queue q.val
    let fn2 := qOwner s q.val
    let key := msixKey fn2 (s.fld (QUE_Q_ASID_VECTOR q.val))
    let m := kget (fun _ => ({} : MsixVec)) s.msix key
    let armed := s.flag (QUE_Q_STAT_ARMED q.val) = true ∧ s.flag (QUE_Q_IRQ_EN q.val) = true ∧ 1 ≤ r.sinceSig ∧ 1 ≤ qPresent s q.val
    let t := s.fld (QUE_Q_IRQ_TIME q.val)
    let due := r.firstPend = some f ∧ 1 ≤ t ∧ (qType s q.val = 1 ∨ qType s q.val = 2)
    let z := passTime (f + t * 1000 - s.now) s
    (¬ sq → exec (.sqDoorbell fn q v) s = .next s) ∧ (sq → exec (.cqDoorbell fn q v) s = .next s) ∧
    (sq → sqOk → ∃ y, exec (.sqDoorbell fn q v) s = .next y ∧ qTail y q.val = idx ∧ SameRegs s y [QUE_Q_TAIL q.val] ∧ y.queues = s.queues ∧ SameBytes s y) ∧
    (sq → ¬ sqOk → dropped (.sqDoorbell fn q v)) ∧ (¬ sq → ¬ cqOk → dropped (.cqDoorbell fn q v)) ∧
    (¬ sq → cqOk → ∃ x, qHead x q.val = idx ∧ x.queues = s.queues ∧ SameBytes s x ∧ SameRegs s x [QUE_Q_HEAD q.val, QUE_Q_STAT q.val] ∧
      (bit v.toNat 31 = false → x.flag (QUE_Q_STAT_ARMED q.val) = s.flag (QUE_Q_STAT_ARMED q.val) ∧ exec (.cqDoorbell fn q v) s = .next x) ∧
      (bit v.toNat 31 = true → x.flag (QUE_Q_STAT_ARMED q.val) = true ∧ exec (.cqDoorbell fn q v) s = .next (irqCheck true q.val x))) ∧
    (due → armed → m.masked = false → linkOpen s fn2 = true → ∃ y, exec (.irqTimer q) s = .next y ∧
      y.hostMsgs = s.hostMsgs ++ [.msix fn2 (s.fld (QUE_Q_ASID_VECTOR q.val)) m.addr m.data] ∧ y.flag (QUE_Q_STAT_ARMED q.val) = false ∧ (y.queue q.val).sinceSig = 0 ∧ y.now = z.now ∧ SameRegs s y [QUE_Q_STAT q.val]) ∧
    (due → armed → m.masked = true ∨ linkOpen s fn2 = false → ∃ y, exec (.irqTimer q) s = .next y ∧ y.hostMsgs = s.hostMsgs ∧ y.flag (QUE_Q_STAT_ARMED q.val) = false ∧
      (kget (fun _ => ({} : MsixVec)) y.msix key).pending = true) ∧
    (due → ¬ armed → exec (.irqTimer q) s = .next z) ∧ (r.firstPend = none ∨ t = 0 ∨ (qType s q.val ≠ 1 ∧ qType s q.val ≠ 2) → exec (.irqTimer q) s = .next s))

/-- AbortsAndHostResets: What aborts, function-level and host resets and the PCI Express link do to queues. -/
def Obligations.AbortsAndHostResets : Prop :=
  -- ABORT refuses while one is pending, and finds its entry claimed, unclaimed, ended or nowhere (R430, R431); an aborted pillow entry that no QDONE ends is completed when its time is up (R432). Where the spec leaves a corner of this open, what it says is the model's choice (log entries 50, 81).
  (∀ (s : State) (q : Fin 4096) (v : BitVec 32) (i16 : BitVec 16) (u at_ lim : Nat) (c : Claim) (g : Target) (e : Nat × Nat), s.clocked = true →
    let z := passTime (at_ + lim * 1000000 - s.now) s
    let idx := v.toNat % 65536
    let tag := v.toNat / 65536
    let stat := QUE_ABORT_STAT q.val
    let reads := fun (y : State) (st pend : Nat) => y.rdN stat = st + 256 * idx + 2 ^ 24 * pend
    let tells := fun (st : Nat) => ∃ y, exec (.abort q v) s = .next y ∧ reads y st 0 ∧ SameRegs s y [stat] ∧ y.queues = s.queues ∧ SameBytes s y
    let free := s.flag (QUE_ABORT_STAT_PEND q.val) = false
    let sq := qType s q.val = 0 ∧ qState s q.val ≠ 0 ∧ idx < qSize s q.val
    let waiting := (idx + qSize s q.val - qHead s q.val) % qSize s q.val < qPresent s q.val ∧ ∀ k ∈ (s.queue q.val).skip, k.1 ≠ idx
    let old := kget (fun _ => none) (s.queue q.val).ended idx
    let d := loadAt s g 64
    let found := accessServed s (qAsid s q.val) (qOwner s q.val) (qBase s q.val + 64 * idx) 64 akREAD = true ∧
      xlate s (qAsid s q.val) (qOwner s q.val) (qBase s q.val + 64 * idx) akREAD = .ok g ∧ (g.host = false → s.flag MEM_CTL_NB_EN = false ∧ readsBad s g 64 = false)
    (¬ free → ∃ y, exec (.abort q v) s = .next y ∧ y.fld (QUE_ABORT_STAT_STATUS q.val) = 4 ∧ y.queues = s.queues ∧ SameRegs s y [stat] ∧ SameBytes s y) ∧
    (free → ¬ sq → tells 12) ∧
    (free → sq → ¬ waiting → claimOf s q.val idx = some c → dTag c.desc ≠ tag → tells 12) ∧
    (free → sq → ¬ waiting → claimOf s q.val idx = some c → dTag c.desc = tag → ∃ y, exec (.abort q v) s = .next y ∧ reads y 0 1 ∧
      claimOf y q.val idx = some { c with aborted := some (c.aborted.getD s.now) } ∧ SameRegs s y [stat] ∧ SameBytes s y) ∧
    (free → sq → ¬ waiting → claimOf s q.val idx = none → old = none → tells 12) ∧
    (free → sq → ¬ waiting → claimOf s q.val idx = none → old = some e → (e.1 = tag → tells 3) ∧ (e.1 ≠ tag → tells 12)) ∧
    (free → sq → waiting → found → dTag d ≠ tag → ∃ y, exec (.abort q v) s = .next y ∧ reads y 12 0 ∧ SameOutsideMem s y [stat] ∧ y.queues = s.queues ∧ SameBytes s y) ∧
    (free → sq → waiting → found → dTag d = tag → cqRoom s (qCq s q.val) = false → ∃ y, exec (.abort q v) s = .next y ∧ reads y 0 1 ∧
      (y.queue q.val).skip = (s.queue q.val).skip ++ [(idx, true)] ∧ SameOutsideMem s y [stat] ∧ SameBytes s y) ∧
    (free → sq → waiting → found → dTag d = tag → cqRoom s (qCq s q.val) = true → ∃ y, exec (.abort q v) s = .next y ∧ y.fld (QUE_ABORT_STAT_STATUS q.val) = 0 ∧
      (y.queue q.val).skip = (s.queue q.val).skip ++ [(idx, false)]) ∧
    (claimOf s q.val i16.toNat = some c → c.by_ = .thread u → c.aborted = some at_ → abortLimit s q.val = some lim →
      exec (.abortTimeout q i16) s = .next (emitAll [queEvent z 5 2 (q.val + i16.toNat * 2 ^ 12 + dTag c.desc * 2 ^ 32)] (commit q.val i16.toNat c.desc 2 c.prog [1#8] z))) ∧
    (claimOf s q.val i16.toNat = some c → c.aborted = none ∨ (∀ t, c.by_ ≠ .thread t) → exec (.abortTimeout q i16) s = .next s) ∧
    (claimOf s q.val i16.toNat = none ∨ abortLimit s q.val = none → exec (.abortTimeout q i16) s = .next s)) ∧
  -- a host-side reset drains every queue and clears the vectors, and a conventional one takes the link down (R405); a function-level reset drains its function's queues (R433), and VFs are enabled by a mask (R411). The link's rise is shown in GLB_LINK (R404), and its loss is a host-side reset (R405, R443). Where the spec leaves a corner of this open, what it says is the model's choice (log entry 82).
  (∀ (s : State) (kind : Fin 4) (v : Fin 64) (flr : Bool) (mask : BitVec 64) (width : Nat) (speed : Fin 7) (flit : Bool), s.mainOn = true →
    let on := bit (s.rdN GLB_FN_EN) v.val = true
    let up := s.bankUp 7 = true ∧ s.island.pcieDown = false ∧ s.power.mainUp = true
    let slow := speed.val < 4 ∨ width < 4
    let link := 1 + 2 * width + 64 * speed.val + 512 * b2n flit + (if slow then 4096 else 0)
    let q := fun (y : State) (p : Nat) => qState y p
    let more := fun (y : State) (r : Nat) => s.rdN r < 0xFFFFFFFF → y.rdN r = s.rdN r + 1
    let reset := fun (y : State) => (∀ p, p < 4096 → q y p = 0 ∨ q y p = 3) ∧ (∀ p, p < 4096 → q s p = 0 → q y p = 0) ∧ y.msix = [] ∧ more y GLB_HOSTRST_CNT ∧ y.threads = s.threads
    (kind.val ≠ 1 → ∃ y, exec (.hostReset kind) s = .next y ∧ reset y ∧ SameBytes s y ∧ (kind.val = 0 → y.hostIf.linkDown = true ∧ y.flag GLB_LINK_UP = false) ∧
      (2 ≤ kind.val → y.hostIf.linkDown = s.hostIf.linkDown ∧ y.rd GLB_LINK = s.rd GLB_LINK)) ∧
    (∀ i ∈ [Instr.hostReset 1, .pcieLinkDown], (s.flag GLB_LINK_UP = false → exec i s = .next s) ∧ (s.flag GLB_LINK_UP = true → ∃ y, exec i s = .next y ∧ reset y ∧
      y.flag GLB_LINK_UP = false ∧ y.hostIf.linkDown = true ∧ more y GLB_LINK_DOWN_CNT)) ∧
    (v.val = 0 ∨ ¬ on → exec (.vfReset v flr) s = .next s) ∧
    (v.val ≠ 0 → on → ∃ x, exec (.vfReset v flr) s = .next (emit 1 6 1 0x602C0000 v.val x) ∧ (∀ p, p < 4096 → qOwner s p = v.val → q x p = 0 ∨ q x p = 3) ∧
      (∀ p, p < 4096 → qOwner s p ≠ v.val → q x p = q s p) ∧ (∀ e ∈ x.msix, e.1 / 2048 ≠ v.val) ∧ (flr = true → more x GLB_FLR_CNT) ∧ (flr = false → bit (x.rdN GLB_FN_EN) v.val = false) ∧
      SameBytes s x ∧ x.threads = s.threads) ∧
    (∃ y, exec (.vfEnable mask) s = .next y ∧ (∀ f, 1 ≤ f → f < 64 → bit (y.rdN GLB_FN_EN) f = (bit (s.rdN GLB_FN_EN) f || bit mask.toNat f)) ∧ SameRegs s y [GLB_FN_EN] ∧ y.queues = s.queues ∧ SameBytes s y) ∧
    (¬ up → exec (.pcieLinkUp width speed flit) s = .next s) ∧
    (up → width < 32 → ∃ x y, x.rdN GLB_LINK = link ∧ SameRegs s x [GLB_LINK] ∧ x.hostIf.linkDown = false ∧ y = emit 1 1 0 0x602C0000 link x ∧
      exec (.pcieLinkUp width speed flit) s = .next (sendPending (if slow then emit 1 3 2 0x602C0000 link y else y))))

/-- Jobs: What the DMA and compression units do. -/
def Obligations.Jobs : Prop :=
  -- a DMA queue's oldest entry is claimed for the engine (R421, R422); the four operations run as R420 says, a bad body ends BAD_DESC, and the job's outcome is committed when it is done (R421, R431). Where the spec leaves a corner of this open, what it says is the model's choice (log entry 81).
  (∀ (s : State) (q : Fin 4096) (idx : BitVec 16) (n : Nat) (c : Claim) (g h : Target), s.clocked = true →
    let i := idx.toNat
    let asid := qAsid s q.val
    let fn := qOwner s q.val
    let d := c.desc
    let runs := fun (op : Nat) => claimOf s q.val i = some c ∧ c.by_ = .dma ∧ c.held = false ∧ c.aborted = none ∧ c.outcome = none ∧ dOp d = op ∧ badBody d = false
    let bad := fun (op : Nat) => claimOf s q.val i = some c ∧ c.by_ = .dma ∧ c.held = false ∧ c.aborted = none ∧ c.outcome = none ∧ dOp d = op ∧ badBody d = true
    let ends := fun (y : State) (o dn : Nat) => claimOf y q.val i = some { c with outcome := some o, done := dn }
    let entry := loadAt s g 64
    let head := qHead s q.val
    let ready := qType s q.val = 0 ∧ qServer s q.val = 0 ∧ qState s q.val = 1 ∧ s.driving = true ∧ (s.queue q.val).readHeld = false ∧ (s.queue q.val).skip = [] ∧ qPresent s q.val ≠ 0 ∧
      cqRoom s (qCq s q.val) = true ∧ xlate s asid fn (qBase s q.val + 64 * head) akREAD = .ok g ∧ accessServed s asid fn (qBase s q.val + 64 * head) 64 akREAD = true ∧
      (g.host = false → s.flag MEM_CTL_NB_EN = false ∧ readsBad s g 64 = false)
    let w := fun (a k : Nat) => xlate s asid fn a akWRITE = .ok h ∧ h.host = false ∧ accessServed s asid fn a k akWRITE = true
    let r := fun (a : Nat) => xlate s asid fn a akREAD = .ok g ∧ g.host = false ∧ readsBad s g 1 = false ∧ accessServed s asid fn a 1 akREAD = true
    let put := fun (y : State) (bs : List Byte) => y.dram = writeMem s.dram h.addr bs ∧ y.host = s.host ∧ SameOutsideMem s y [] ∧ y.padMem = s.padMem
    (qServer s q.val = 2 ∨ qServer s q.val = 3 → exec (.descriptorClaim q) s = .next s) ∧
    (ready → badHeader 0 entry = false → bit (dFlags entry) 2 = false → (s.queue q.val).claims.length < 4 → dmaJobs s < 16 → ∃ y, exec (.descriptorClaim q) s = .next y ∧
      (y.queue q.val).claims = (s.queue q.val).claims ++ [{ idx := head, desc := entry, by_ := .dma }] ∧ qHead y q.val = (head + 1) % qSize s q.val ∧ SameOutsideMem s y [QUE_Q_HEAD q.val] ∧ SameBytes s y) ∧
    (ready → badHeader 0 entry = true → bit (dFlags entry) 2 = false → ∃ x, qHead x q.val = (head + 1) % qSize s q.val ∧ SameOutsideMem s x [QUE_Q_HEAD q.val] ∧ SameBytes s x ∧
      exec (.descriptorClaim q) s = .next (commit q.val head entry 12 0 [] x)) ∧
    (bad 0 → ∃ y, exec (.dmaNop q idx) s = .next y ∧ ends y 12 c.done ∧ SameBytes s y ∧ SameRegs s y []) ∧ (bad 1 → ∃ y, exec (.copy q idx n) s = .next y ∧ ends y 12 c.done ∧ SameBytes s y ∧ SameRegs s y []) ∧
    (bad 2 → ∃ y, exec (.fill q idx n) s = .next y ∧ ends y 12 c.done ∧ SameBytes s y ∧ SameRegs s y []) ∧ (bad 3 → ∃ y, exec (.write64 q idx) s = .next y ∧ ends y 12 c.done ∧ SameBytes s y ∧ SameRegs s y []) ∧
    (runs 0 → ∃ y, exec (.dmaNop q idx) s = .next y ∧ ends y 1 c.done ∧ SameBytes s y ∧ SameRegs s y []) ∧
    (runs 1 → dNat d 32 8 = 1 → c.done = 0 → 1 ≤ n → dNat d 16 8 ≠ dNat d 24 8 → r (dNat d 16 8) → w (dNat d 24 8) 1 → ∃ y, exec (.copy q idx n) s = .next y ∧ ends y 1 1 ∧ put y (readMem s.dram g.addr 1)) ∧
    (runs 2 → dNat d 24 8 = 1 → c.done = 0 → 1 ≤ n → w (dNat d 16 8) 1 → ∃ y, exec (.fill q idx n) s = .next y ∧ ends y 1 1 ∧
      put y [BitVec.ofNat 8 (dNat d 32 8 / 256 ^ (dNat d 16 8 % 8))]) ∧
    (runs 3 → w (dNat d 16 8) 8 → ∃ y, exec (.write64 q idx) s = .next y ∧ ends y 1 8 ∧ put y ((d.drop 24).take 8)) ∧
    (claimOf s q.val i = some c → c.by_ = .dma → c.aborted ≠ none → exec (.dmaJobDone q idx) s = .next (dropHeld 3 q.val (i + 2) (commit q.val i d 2 c.done [] s))) ∧
    (∀ o, claimOf s q.val i = some c → c.by_ = .dma → c.aborted = none → c.outcome = some o → exec (.dmaJobDone q idx) s = .next (commit q.val i d o (if o = 5 then c.done else 0) [] s)) ∧
    (claimOf s q.val i = none ∨ (claimOf s q.val i = some c ∧ (c.by_ ≠ .dma ∨ (c.aborted = none ∧ c.outcome = none))) → exec (.dmaJobDone q idx) s = .next s)) ∧
  -- a claimed job whose body is bad ends BAD_DESC (R446, R447); a block that decodes moves a VERIFY or a DECOMPRESS on by its input and its output, and ends it at LAST (R447, R451), a bad header ends it with code 1 (R455); a block of equal bytes is compressed as FILL where it fits and else ends OUT_FULL (R452 to R454); a job at its end is committed with its result (R460). Where the spec leaves a corner of this open, what it says is the model's choice (log entry 84).
  (∀ (s s2 : State) (q : Fin 4096) (idx : BitVec 16) (n u : Nat) (c : Claim) (w hb pb bs : List Byte), s.clocked = true → claimOf s q.val idx.toNat = some c → c.by_ = .cmp u →
    let i := idx.toNat
    let d := c.desc
    let get := fun (va k : Nat) (r : List Byte) => getRun (qAsid s q.val) (qOwner s q.val) s va k [] = (r, .none)
    let put := fun (va : Nat) (r : List Byte) => putRun (qAsid s q.val) (qOwner s q.val) va r s = (s2, .none)
    let free := c.held = false ∧ c.outcome = none ∧ c.aborted = none
    let good := free ∧ badCmpBody d = false ∧ c.win = some w
    let now := fun (y : State) (x : Claim) => claimOf y q.val i = some x
    let src := dNat d 16 8 + c.done
    let left := dNat d 24 8 - c.done
    let h := parseHdr hb
    let whole := get src 16 hb ∧ h.bad = false ∧ 16 + pad8 h.clen ≤ left ∧ (c.blocks ≠ 0 ∨ h.reset = true) ∧ get (src + 16) h.clen pb ∧ decodeBlock h w pb = .ok bs
    let beyond := c.done + 16 + pad8 h.clen
    let moved := { c with done := beyond, out := c.out + h.ulen, blocks := c.blocks + 1, win := some (winAfter h.reset w bs), outcome := if h.last = true ∨ beyond = dNat d 24 8 then some 1 else none }
    let len := dNat d 24 8
    let m := min (2 ^ optBLK d) (len - c.done)
    let out := blockBytes 2 (optLAST d && decide (c.done + m = len)) (c.blocks = 0 && (!optCONT d || dNat d 48 4 == 0)) bs (bs.take 1)
    let fits := c.out + out.length ≤ dNat d 40 8
    let ops := [(Instr.compress q idx (n + 1), 0x20), (.decompress q idx (n + 1), 0x21), (.verify q idx (n + 1), 0x22)]
    let doneIn := fun (st : Nat) (t : State) => dropHeld 4 u (i + 2) (commit q.val i d st c.done (cmpResult c) (t.bump (CMP_U_JOB_CNT u)))
    let done := fun (st : Nat) => doneIn st s
    let post := dNat d 56 8
    (∀ e op, (e, op) ∈ ops → (dOp d ≠ op ∨ c.held = true ∨ c.outcome ≠ none → exec e s = .next s) ∧
      (free → dOp d = op → badCmpBody d = true → ∃ y, exec e s = .next y ∧ now y { c with outcome := some 12 } ∧ SameBytes s y ∧ SameRegs s y [])) ∧
    (good → dOp d = 0x22 → whole → c.out + h.ulen ≤ 2 ^ 64 → ∃ y, exec (.verify q idx 1) s = .next y ∧ now y moved ∧ SameBytes s y ∧ y.rdN (CMP_U_IN u) = beyond % 2 ^ 64) ∧
    (good → dOp d = 0x21 → whole → c.out + h.ulen ≤ dNat d 40 8 → put (dNat d 32 8 + c.out) bs → ∃ y, exec (.decompress q idx 1) s = .next y ∧ now y moved ∧ y.dram = s2.dram ∧ y.host = s2.host) ∧
    (good → dOp d = 0x22 → 16 ≤ left → get src 16 hb → h.bad = true → s.rdN CMP_DATA_BAD_CNT < 0xFFFFFFFF → ∃ y, exec (.verify q idx 1) s = .next y ∧ y.rdN CMP_DATA_BAD_CNT = s.rdN CMP_DATA_BAD_CNT + 1) ∧
    (good → dOp d = 0x20 → get src m bs → bs.length = m → allSame bs = true → fits → put (dNat d 32 8 + c.out) out → ∃ y, exec (.compress q idx 1) s = .next y ∧
      now y { c with done := c.done + m, out := c.out + out.length, blocks := c.blocks + 1, win := some (winAfter false w bs), outcome := if c.done + m = len then some 1 else none } ∧
      y.dram = s2.dram ∧ y.host = s2.host) ∧
    (good → dOp d = 0x20 → get src m bs → allSame bs = true → ¬ fits → ∃ y, exec (.compress q idx 1) s = .next y ∧ now y { c with outcome := some 9 } ∧ SameBytes s y ∧ SameRegs s y []) ∧
    (c.aborted ≠ none → c.held = true ∨ c.outcome ≠ none → exec (.cmpJobDone q idx) s = .next (done 2)) ∧
    (∀ o, c.aborted = none → c.held = false → c.outcome = some o → dOp d ≠ 0x21 ∨ dNat d 56 8 = 0 ∨ (o ≠ 1 ∧ o ≠ 10) → exec (.cmpJobDone q idx) s = .next (done o)) ∧
    (∀ o g, c.aborted = none → c.held = false → c.outcome = some o → dOp d = 0x21 → post ≠ 0 → o = 1 ∨ o = 10 → accessServed s (qAsid s q.val) (qOwner s q.val) post 8 akWRITE = true →
      xlate s (qAsid s q.val) (qOwner s q.val) post akWRITE = .ok g → exec (.cmpJobDone q idx) s = .next (doneIn o (storeAt g ((d.drop 8).take 8) (keepXlat (qAsid s q.val) post s)))) ∧
    (c.aborted ≠ none → c.held = false → c.outcome = none → exec (.cmpJobDone q idx) s = .next s) ∧
    (c.aborted = none → c.held = true ∨ c.outcome = none → exec (.cmpJobDone q idx) s = .next s))

/-- LinkStagesAndIdle: What stages a serial link goes through, and electrical idle. -/
def Obligations.LinkStagesAndIdle : Prop :=
  -- EN, its clearing and RETRY take a link to the stages R472, R479 and R481 name; DETECT, TRAIN, LOCK and the beam lock lead on as R472 to R476 and R481 say, with the latencies R471 gives; a stage whose time runs out fails with its cause recorded (R478), unless it completes at that very time (R480). Where the spec leaves a corner of this open, what it says is the model's choice (log entry 86).
  (∀ (s : State) (k : Fin 8) (dt : Nat) (rate : Fin 8), s.mainOn = true →
    let st := linkStage s k.val
    let x := s.link k.val
    let clk := s.clocked = true
    let beam := beamLink s k.val = true
    let en := s.flag (LNK_K_CTL_EN k.val) = true
    let cmd := LNK_K_STAT_CMD_STATUS k.val
    let gives := fun (i : Instr) (v : Nat) (p : State → Prop) => ∃ y, exec i s = .next y ∧ linkStage y k.val = v ∧ p y
    let start := max s.now x.pollAt
    let listens := if s.flag (LNK_K_CTL_MANUAL_LOCK k.val) then 10000000 else 100000
    let lockedAll := ∀ n ∈ rxLanes k.val, s.flag (LNK_L_STAT_BLOCK_LOCK n) = true
    let partner := ∀ n ∈ txLanes s k.val, s.flag (LNK_L_STAT_P_RX_READY n) = true
    let readyAt := trainReadyAt s k.val
    let powered := ∀ n ∈ rxLanes k.val, s.flag (LNK_L_STAT_RX_PWR n) = true
    let inTime := st = 2 ∧ powered ∧ readyAt ≤ x.stageAt + 4000000
    let deskewed := (∀ n ∈ rxLanes k.val, s.flag (LNK_L_STAT_DESKEWED n) = true) ∧ ∀ n ∈ txLanes s k.val, (s.lane n).pDesk = true
    let locked := st = 3 ∧ ¬ beam ∧ deskewed ∧ s.now ≤ x.stageAt + 1000000
    let c := linkRate s k.val
    let lat := fun n => wordsQ c 5 + 4 + if n ∈ rxLanes k.val then (wordsQ c ((if k.val < 4 then 4 else 1) * (7 + s.fld (LNK_L_STAT_SKEW n))) + 4) * 65536 else 0
    let limit := if st = 2 then 4000000 else if st = 3 then 1000000 else 2000000
    let open_ := x.stageAt + limit < s.now ∨ (st = 2 ∧ (¬ partner ∨ ¬ lockedAll ∨ (powered ∧ x.stageAt + 4000000 < readyAt))) ∨ (st = 3 ∧ ¬ deskewed) ∨
      (st = 4 ∧ if k.val < 4 then (s.port k.val).capsBusy = true else (s.palisPort (k.val - 4)).agreed = false)
    let timed := (st = 2 ∨ st = 3 ∨ st = 4) ∧ ¬ beam
    let retry := min (s.fld (LNK_K_STAT_RETRY k.val) + 1) 255
    let lim := s.fld (LNK_K_CTL_RETRY_LIM k.val)
    (¬ clk → exec (.linkEnable k) s = .next s ∧ exec (.linkDisable k) s = .next s ∧ exec (.linkRetry k) s = .next s) ∧
    (clk → en → exec (.linkEnable k) s = .next s) ∧
    (clk → ¬ en → gives (.linkEnable k) (if s.flag (LNK_K_CTL_TEST k.val) then 7 else if k.val < 4 ∧ s.flag (SEQ_P_CTL_MODE k.val) = true then 3 else 1) (fun y => y.flag (LNK_K_CTL_EN k.val) = true ∧
      y.fld (LNK_K_STAT_RETRY k.val) = 0 ∧ (beamLink y k.val = true ↔ k.val < 4 ∧ s.flag (SEQ_P_CTL_MODE k.val) = true ∧ s.flag (LNK_K_CTL_TEST k.val) = false) ∧ (y.link k.val).stageAt = s.now ∧
      (linkStage y k.val = 1 → (y.link k.val).pollAt = s.now))) ∧
    (clk → ¬ en → exec (.linkDisable k) s = .next s) ∧
    (clk → en → gives (.linkDisable k) 0 (fun y => y.flag (LNK_K_CTL_EN k.val) = false ∧ ∀ n ∈ lanesOf k.val, y.flag (LNK_L_STAT_TX_IDLE n) = true ∧ y.flag (LNK_L_STAT_RX_PWR n) = false)) ∧
    (clk → st ≠ 6 → gives (.linkRetry k) st (fun y => y.fld cmd = 7 ∧ SameRegs s y [LNK_K_STAT k.val] ∧ y.lanes = s.lanes)) ∧
    (clk → st = 6 → gives (.linkRetry k) 1 (fun y => y.fld cmd = 0 ∧ y.fld (LNK_K_STAT_RETRY k.val) = 0 ∧ (y.link k.val).pollAt = s.now)) ∧
    (st ≠ 1 → ∀ h, exec (.detectPoll k dt h rate) s = .next s) ∧
    (st = 1 → ∀ h, h = false ∨ ¬ lockedAll → gives (.detectPoll k dt h rate) 1 (fun y => (y.link k.val).pollAt = start + 10000000 ∧ y.regs = s.regs ∧ y.now = start + listens)) ∧
    (st = 1 → lockedAll → rate.val = c → gives (.detectPoll k dt true rate) 2 (fun y => y.flag (LNK_K_STAT_RATE_MIS k.val) = false ∧ y.now = start + min dt listens ∧ (y.link k.val).stageAt = y.now)) ∧
    (st = 1 → lockedAll → rate.val ≠ c → gives (.detectPoll k dt true rate) 1 (fun y => y.flag (LNK_K_STAT_RATE_MIS k.val) = true ∧ y.now = start + min dt listens ∧ (y.link k.val).pollAt = start + 10000000)) ∧
    (st ≠ 2 ∨ x.stageAt + 4000000 < readyAt → exec (.trainComplete k) s = .next s) ∧
    (inTime → partner → lockedAll → gives (.trainComplete k) 3 (fun y => y.now = readyAt ∧ (y.link k.val).stageAt = readyAt ∧ ∀ n ∈ rxLanes k.val, y.flag (LNK_L_STAT_RX_READY n) = true)) ∧
    (inTime → ¬ partner ∨ ¬ lockedAll → gives (.trainComplete k) 2 (fun y => y.now = readyAt ∧ (y.link k.val).stageAt = x.stageAt ∧ ∀ n ∈ rxLanes k.val, y.flag (LNK_L_STAT_RX_READY n) = true)) ∧
    (locked → gives (.lockComplete k) 4 (fun y => (y.link k.val).stageAt = s.now ∧ ∀ n ∈ lanesOf k.val, y.rdN (LNK_L_LAT n) = lat n)) ∧ (¬ locked → exec (.lockComplete k) s = .next s) ∧
    (timed → open_ → gives (.stageTimeout k) (if lim ≠ 0 ∧ lim ≤ retry then 6 else 1) (fun y => y.fld (LNK_K_STAT_CAUSE k.val) = 1 ∧ y.fld (LNK_K_STAT_FAIL_STAGE k.val) = st ∧ y.fld (LNK_K_STAT_RETRY k.val) = retry ∧
      y.now = max s.now (x.stageAt + limit) ∧ (s.rdN (LNK_K_FAIL_CNT k.val) < 0xFFFFFFFF → y.rdN (LNK_K_FAIL_CNT k.val) = s.rdN (LNK_K_FAIL_CNT k.val) + 1) ∧
      (linkStage y k.val = 1 → (y.link k.val).pollAt = y.now + 10000000) ∧
      (4 ≤ k.val → st = 4 → (s.palisPort (k.val - 4)).heard ≠ none → (s.palisPort (k.val - 4)).agreed = false → y.flag (CAS_P_STAT_MISMATCH (k.val - 4)) = true))) ∧
    (locked → gives (.stageTimeout k) 4 (fun y => y.rdN (LNK_K_FAIL_CNT k.val) = s.rdN (LNK_K_FAIL_CNT k.val) ∧ y.now = x.stageAt + 1000000)) ∧
    (¬ timed → exec (.stageTimeout k) s = .next s) ∧
    (st = 3 → beam → gives (.beamLockDone k) 5 (fun y => y.fld (LNK_K_STAT_RETRY k.val) = 0 ∧ y.flag (SEQ_F_STAT_ACTIVE k.val) = true ∧ y.now = max s.now (x.stageAt + 1000000))) ∧
    (st ≠ 3 ∨ ¬ beam → exec (.beamLockDone k) s = .next s)) ∧
  -- a partner's idle is noted, and its link lost when no picot comes in time (R484); this end enters idle when asked and allowed, and a picot ends it (R483) when a word falls due (R171) and after 64 µs at the latest; a facet's counts arrive by LSTAT (R485). Where the spec leaves a corner of this open, what it says is the model's choice (log entry 86).
  (∀ (s : State) (k : Fin 8) (f : Fin 4) (lane : Fin 16) (cnt : BitVec 32) (dt t : Nat), s.mainOn = true →
    let z := passTime dt s
    let w := if k.val < 4 then settlePort k.val z else z
    let st := linkStage s k.val
    let x := s.link k.val
    let active := st = 5 ∧ beamLink s k.val = false
    let rested := ∀ e, x.picotEnd = some e → 4 * e + wordsQ (linkRate s k.val) 64 ≤ 4 * z.now
    let wants := 4 ≤ k.val ∨ (s.flag (SEQ_F_CTL_IDLE_EN k.val) = true ∧ beamLink s k.val = false ∧ mayIdle w k.val = true)
    let may := st = 5 ∧ x.idleFrom = none ∧ x.picotAt = none ∧ rested ∧ wants
    let wakes := min (t + 64000) (if 4 ≤ k.val then s.now + dt else if s.flag (SEQ_F_CTL_IDLE_EN k.val) = false then s.now else
      match nextWordDue s k.val with | some q => q / 4 - s.rdN (SEQ_F_IDLE_LEAD k.val) % 2 ^ 20 | none => t + 64000)
    let exit_ := s.rdN (LNK_K_PICOT_NS k.val)
    let err := LNK_L_REM_ERR (10 * f.val + lane.val)
    (active → ∃ y, exec (.eidleWord k dt) s = .next y ∧ y.flag (LNK_K_STAT_RX_IDLE k.val) = true ∧ (y.link k.val).eidleAt = some z.now ∧ SameRegs s y [LNK_K_STAT k.val]) ∧ (¬ active → exec (.eidleWord k dt) s = .next z) ∧
    (st ≠ 5 ∨ x.eidleAt = none → exec (.idleLosWindowEnd k) s = .next s) ∧
    (st = 5 → x.eidleAt = some t → ∃ y, exec (.idleLosWindowEnd k) s = .next y ∧ linkStage y k.val = 1 ∧ y.fld (LNK_K_STAT_CAUSE k.val) = 2 ∧ y.now = max s.now (t + 65000 + exit_) ∧
      (y.link k.val).pollAt = y.now + 10000000 ∧ (s.rdN (LNK_K_LOST_CNT k.val) < 0xFFFFFFFF → y.rdN (LNK_K_LOST_CNT k.val) = s.rdN (LNK_K_LOST_CNT k.val) + 1)) ∧
    (may → ∃ y, exec (.eidleEnter k dt) s = .next y ∧ (y.link k.val).idleFrom = some z.now ∧ y.flag (LNK_K_STAT_TX_IDLE k.val) = true ∧ ∀ n ∈ lanesOf k.val, y.flag (LNK_L_STAT_TX_IDLE n) = true) ∧
    (¬ may → exec (.eidleEnter k dt) s = .next w) ∧
    (st ≠ 5 ∨ x.idleFrom = none → exec (.picotStart k dt) s = .next s) ∧
    (st = 5 → x.idleFrom = some t → ∃ y, exec (.picotStart k dt) s = .next y ∧ (y.link k.val).idleFrom = none ∧ y.now = max s.now wakes ∧ (y.link k.val).picotAt = some y.now ∧ y.flag (LNK_K_STAT_TX_IDLE k.val) = false) ∧
    (x.picotAt = none → exec (.picotDone k) s = .next s) ∧
    (x.picotAt = some t → ∃ y, exec (.picotDone k) s = .next y ∧ (y.link k.val).picotAt = none ∧ y.now = max s.now (t + exit_) ∧ (y.link k.val).picotEnd = some y.now ∧
      (y.link k.val).alignTx = (x.alignTx + 1) % 65536 ∧ y.regs = s.regs) ∧
    (linkStage s f.val = 5 → beamLink s f.val = false → lane.val < 10 → ∃ y, exec (.lstatWord f lane cnt) s = .next y ∧ y.rdN err = cnt.toNat ∧ SameRegs s y [err] ∧ SameBytes s y) ∧
    (linkStage s f.val ≠ 5 ∨ beamLink s f.val = true ∨ 10 ≤ lane.val → exec (.lstatWord f lane cnt) s = .next s))

/-- Lanes: What lanes do with their signals and commands. -/
def Obligations.Lanes : Prop :=
  -- a lane's signal and lock follow its receiver (R469), lost headers move a boundary that is not held and take the lock (R469, R487) and start a receiver's quiet time again (R475); LOS, a partner that started anew and a skew above 15 words fail a stage (R476, R478); an ACTIVE link that loses its signal, or hears a training or align word, is lost (R479, R484); an ALIGN row in LOCK deskews a lane (R476). Where the spec leaves a corner of this open, what it says is the model's choice (log entries 85, 86).
  (∀ (s : State) (n : Fin 48) (dt : Nat) (errs : Fin 65) (stage : Fin 8) (lane : Fin 16) (ready : Bool) (count : BitVec 16) (skew : Nat), s.mainOn = true →
    let z := passTime dt s
    let k := linkOf n.val
    let st := linkStage s k
    let on := s.flag (LNK_L_STAT_RX_PWR n.val) = true
    let lock := LNK_L_STAT_BLOCK_LOCK n.val
    let hears := on ∧ beamLink s k = false ∧ n.val ∈ rxLanes k
    let retry := min (s.fld (LNK_K_STAT_RETRY k) + 1) 255
    let lim := s.fld (LNK_K_CTL_RETRY_LIM k)
    let lost := fun (y : State) (t c : Nat) => linkStage y k = 1 ∧ y.fld (LNK_K_STAT_CAUSE k) = c ∧ (y.link k).pollAt = t + 10000000 ∧ y.fld (LNK_K_STAT_RETRY k) = s.fld (LNK_K_STAT_RETRY k) ∧
      (s.rdN (LNK_K_LOST_CNT k) < 0xFFFFFFFF → y.rdN (LNK_K_LOST_CNT k) = s.rdN (LNK_K_LOST_CNT k) + 1)
    let failed := fun (y : State) (c : Nat) => linkStage y k = (if lim ≠ 0 ∧ lim ≤ retry then 6 else 1) ∧ y.fld (LNK_K_STAT_CAUSE k) = c ∧ y.fld (LNK_K_STAT_FAIL_STAGE k) = st ∧ y.fld (LNK_K_STAT_RETRY k) = retry
    let l := s.lane n.val
    let m := firstLane k + lane.val
    let agrees := (∃ c, l.alignLast = some c ∧ (c + 1) % 65536 = count.toNat) ∧ skew = s.fld (LNK_L_STAT_SKEW n.val)
    let idle := s.flag (LNK_K_STAT_RX_IDLE k) = true
    let word := Instr.tsWord n dt stage lane ready 0
    let align := Instr.alignWord n dt count skew
    let anew := stage.val = 1 ∧ (s.link k).stageAt + 20000 < z.now
    (¬ on → exec (.lossOfSignal n) s = .next s ∧ exec (.blockLock n) s = .next s ∧ exec (.blockLockLost n dt errs) s = .next z) ∧
    (on → ∃ y, exec (.lossOfSignal n) s = .next y ∧ y.flag (LNK_L_STAT_SIGNAL n.val) = false ∧ (hears → st = 5 → ¬ idle → lost y s.now 2) ∧ (hears → st = 2 ∨ st = 3 ∨ st = 4 → failed y 2) ∧
      (¬ hears ∨ st < 2 ∨ 5 < st ∨ (st = 5 ∧ idle) → SameRegs s y [LNK_L_STAT n.val] ∧ y.lanes = s.lanes)) ∧
    (on → ∃ y, exec (.blockLock n) s = .next y ∧ y.flag (LNK_L_STAT_SIGNAL n.val) = true ∧ y.flag lock = true ∧ SameRegs s y [LNK_L_STAT n.val] ∧ y.lanes = s.lanes) ∧
    (on → ∃ y, exec (.blockLockLost n dt errs) s = .next y ∧ y.rdN (LNK_L_HDR_ERR n.val) = min (s.rdN (LNK_L_HDR_ERR n.val) + errs.val) 0xFFFFFFFF ∧
      (s.flag lock = true → y.flag lock = decide (errs.val < 16)) ∧ (s.flag lock = true → errs.val < 16 → (y.lane n.val).boundary = l.boundary) ∧ (errs.val ≠ 0 → (y.lane n.val).quietFrom = z.now) ∧
      (s.flag lock = true → 16 ≤ errs.val → hears → st = 5 → ¬ idle → lost y z.now 2) ∧ (s.flag lock = true → 16 ≤ errs.val → hears → st = 2 ∨ st = 3 ∨ st = 4 → failed y 2) ∧
      (s.flag lock = false → (y.lane n.val).boundary = if s.flag (LNK_K_CTL_MANUAL_LOCK k) then l.boundary else (l.boundary + errs.val) % 66)) ∧
    (¬ hears → exec word s = .next z ∧ exec align s = .next z) ∧
    (hears → st = 5 → ∃ y, exec word s = .next y ∧ lost y z.now 3) ∧
    (hears → st = 2 ∨ st = 3 ∨ st = 4 → anew → ∃ y, exec word s = .next y ∧ failed y 3) ∧
    (hears → st = 2 → stage.val = 2 ∨ stage.val = 3 → m ∈ lanesOf k → ∃ y, exec word s = .next y ∧ y.flag (LNK_L_STAT_P_RX_READY m) = (ready || decide (stage.val = 3)) ∧ taps y m = taps s m) ∧
    (hears → st = 3 → stage.val = 3 → m ∈ lanesOf k → ∃ y, exec word s = .next y ∧ (y.lane m).pDesk = ready ∧ y.regs = s.regs) ∧
    (hears → (st = 4 ∧ ¬ anew) ∨ st = 0 ∨ st = 6 ∨ st = 7 → exec word s = .next z) ∧
    (hears → st ≠ 5 → ¬ anew → m ∉ lanesOf k → exec word s = .next z) ∧
    (hears → st = 3 → skew ≤ 15 → ∃ y, exec align s = .next y ∧ (y.lane n.val).alignLast = some count.toNat ∧ y.fld (LNK_L_STAT_SKEW n.val) = skew ∧
      (agrees → y.flag (LNK_L_STAT_DESKEWED n.val) = true ∧ (y.lane n.val).agree = l.agree + 1) ∧
      (¬ agrees → (y.lane n.val).agree = 0 ∧ y.flag (LNK_L_STAT_DESKEWED n.val) = s.flag (LNK_L_STAT_DESKEWED n.val)) ∧ SameRegs s y [LNK_L_STAT n.val]) ∧
    (hears → st = 3 → 15 < skew → ∃ y, exec align s = .next y ∧ failed y 4) ∧
    (hears → st = 5 → ¬ idle → ∃ y, exec align s = .next y ∧ lost y z.now 3) ∧
    (hears → st = 5 → idle → ¬ agrees → ∃ y, exec align s = .next y ∧ lost y z.now 2) ∧
    (hears → st = 5 → idle → agrees → (∀ i ∈ rxLanes k, i ≠ n.val → (s.lane i).alignLast = some count.toNat) → ∃ y, exec align s = .next y ∧ y.flag (LNK_K_STAT_RX_IDLE k) = false ∧ (y.link k).eidleAt = none ∧
      linkStage y k = 5) ∧
    (hears → st = 4 → ∃ y, exec align s = .next y ∧ (y.lane n.val).alignLast = some count.toNat ∧ y.regs = s.regs) ∧
    (hears → st < 3 ∨ 5 < st → exec align s = .next z)) ∧
  -- SLIP, INJ, CHK_CLR, SCAN_GO and SCAN_STOP act or refuse as R486 to R489 say; a scan ends with its count when every bit has been compared (R489); transmit taps are taken or moved only within R475's limits; an equaliser step comes at its time, and disturbs a scan only where it changes the value (R482, R490), a ready receiver only where it moves more than one unit (R475). Where the spec leaves a corner of this open, what it says is the model's choice (log entries 85, 86, 87).
  (∀ (s : State) (n : Fin 48) (j : Fin 5) (v : BitVec 32) (cnt : BitVec 64) (want : Int) (t b : Nat), s.clocked = true →
    let k := linkOf n.val
    let l := s.lane n.val
    let on := s.flag (LNK_L_STAT_RX_PWR n.val) = true
    let slips := on ∧ s.flag (LNK_K_CTL_MANUAL_LOCK k) = true
    let cmd := LNK_L_STAT_CMD_STATUS n.val
    let scan := LNK_L_SCAN_STATUS n.val
    let ok := tapsOk (bits v.toNat 0 4) (bits v.toNat 4 6) (bits v.toNat 10 5) = true
    let st := linkStage s k
    let adapts := on ∧ s.flag (LNK_L_STAT_BLOCK_LOCK n.val) = true ∧ (st = 2 ∨ st = 5)
    let p := eqParam n.val j.val
    let stepped := adaptStep p want s
    let moved := (aval stepped p p.val - aval s p p.val).natAbs
    let tp := taps s n.val
    let due := s.flag (LNK_L_TXEQ_FIX n.val) = false ∧ ∀ e, kget (fun _ => none) l.tapAt 0 = some e → e + 2000 ≤ s.now
    (slips → ∃ y, exec (.slip n) s = .next y ∧ y.fld cmd = 0 ∧ (y.lane n.val).boundary = (l.boundary + 1) % 66 ∧ SameRegs s y [LNK_L_STAT n.val]) ∧
    (¬ slips → ∃ y, exec (.slip n) s = .next y ∧ y.fld cmd = 7 ∧ y.lanes = s.lanes ∧ SameRegs s y [LNK_L_STAT n.val]) ∧
    (∃ y, exec (.inj n) s = .next y ∧ y.fld cmd = 0 ∧ (y.lane n.val).inj = true ∧ SameRegs s y [LNK_L_STAT n.val] ∧ SameBytes s y) ∧
    (∃ y, exec (.chkClr n) s = .next y ∧ y.fld cmd = 0 ∧ y.rdN (LNK_L_CHK_BITS n.val) = 0 ∧ y.rdN (LNK_L_CHK_ERR n.val) = 0 ∧ y.flag (LNK_L_STAT_CHK_SYNC n.val) = false ∧ (y.lane n.val).chkFrom = s.now ∧
      (y.lane n.val).chkSeen = 0 ∧ SameRegs s y [LNK_L_STAT n.val, LNK_L_CHK_BITS n.val, LNK_L_CHK_ERR n.val] ∧ SameBytes s y) ∧
    (¬ on → ∃ y, exec (.scanGo n) s = .next y ∧ y.fld scan = 7 ∧ y.lanes = s.lanes ∧ SameRegs s y [LNK_L_SCAN n.val]) ∧
    (on → l.scan ≠ none → ∃ y, exec (.scanGo n) s = .next y ∧ y.fld scan = 4 ∧ y.lanes = s.lanes ∧ SameRegs s y [LNK_L_SCAN n.val]) ∧
    (on → l.scan = none → ∃ y, exec (.scanGo n) s = .next y ∧ y.fld scan = 0 ∧ y.flag (LNK_L_SCAN_BUSY n.val) = true ∧ y.flag (LNK_L_SCAN_DISTURBED n.val) = false ∧ y.rdN (LNK_L_SCAN_ERR n.val) = 0 ∧
      (y.lane n.val).scan = some (s.now, scanBits s n.val)) ∧
    (l.scan = none → ∃ y, exec (.scanStop n) s = .next y ∧ y.fld cmd = 3 ∧ y.lanes = s.lanes ∧ SameRegs s y [LNK_L_STAT n.val]) ∧
    (l.scan = some (t, b) → ∃ y, exec (.scanStop n) s = .next y ∧ y.fld cmd = 0 ∧ y.fld scan = 2 ∧ y.flag (LNK_L_SCAN_BUSY n.val) = false ∧ (y.lane n.val).scan = none ∧ y.rdN (LNK_L_SCAN_ERR n.val) ≤ b) ∧
    (l.scan = none → exec (.scanDone n cnt) s = .next s) ∧
    (l.scan = some (t, b) → ∃ y, exec (.scanDone n cnt) s = .next y ∧ y.fld scan = 0 ∧ y.flag (LNK_L_SCAN_BUSY n.val) = false ∧ (y.lane n.val).scan = none ∧ y.rdN (LNK_L_SCAN_ERR n.val) = min cnt.toNat b ∧
      y.now = max s.now (t + ceilDiv (b * 10 * rxDiv s n.val) (rate10 (linkRate s k)))) ∧
    (ok → ∃ y, exec (.txeqWrite n v) s = .next y ∧ y.rdN (LNK_L_TXEQ n.val) = v.toNat % 65536 ∧ SameRegs s y [LNK_L_TXEQ n.val] ∧ SameBytes s y) ∧ (¬ ok → exec (.txeqWrite n v) s = .next s) ∧
    (due → taps (tapRequest n.val 0 3 s) n.val = (4, 48, 8)) ∧ (¬ due → ∀ r, taps (tapRequest n.val 0 r s) n.val = tp) ∧
    (due → taps (tapRequest n.val 0 1 s) n.val = if tapsOk (tp.1 + 1) tp.2.1 tp.2.2 then (tp.1 + 1, tp.2.1, tp.2.2) else tp) ∧
    (¬ adapts → exec (.eqAdaptStep n j want) s = .next s) ∧
    (adapts → ∃ y, exec (.eqAdaptStep n j want) s = .next y ∧ y.rd (LNK_L_EQ n.val j.val) = stepped.rd (LNK_L_EQ n.val j.val) ∧ y.now = max s.now (eqDue s n.val j.val) ∧
      y.flag (LNK_L_SCAN_DISTURBED n.val) = (s.flag (LNK_L_SCAN_DISTURBED n.val) || (l.scan.isSome && decide (moved ≠ 0))) ∧
      (y.lane n.val).quietFrom = if 1 < moved then y.now else l.quietFrom))

/-- PalisPackets: How Palis items are sent, and what packets of one hop do. -/
def Obligations.PalisPackets : Prop :=
  -- an item waits in its port's FIFO until a word cycle at or after its time begins at a free transmitter, which takes of what is ready the item that ranks first (R525); it is then sent as R503, R515 and R526 form it, at its position in the port's stream (R497); it is dropped where the FIFO of 16 KiB has no room; a port whose link is not ACTIVE keeps nothing, and one in electrical idle sends nothing. Where the spec leaves a corner of this open, what it says is the model's choice (log entry 88).
  (∀ (s : State) (p : Fin 4) (prio at_ : Nat) (i : CasOut),
    let x := s.palisPort p.val
    let l := s.link (4 + p.val)
    let y := sendOn p.val prio at_ i s
    let idle := l.idleFrom ≠ none ∨ l.picotAt ≠ none
    let room := (x.fifo.map (fun e => itemBytes s e.item)).sum + itemBytes s i ≤ 16384
    let alone := portActive s p.val = true ∧ ¬ idle ∧ x.fifo = [] ∧ (p.val = 3 → s.twin.mirOut = []) ∧ i ≠ .records ∧ itemBytes s i ≤ 16384
    let pos := posAfter s p.val (max (4 * (l.picotEnd.getD 0)) at_)
    let start := cycTime s p.val (pos / 2)
    let pkt := sentPacket s ((start : Int) - (4 * s.now : Nat) + (txLat s p.val : Nat)) i
    (portActive s p.val = false → (y.palisPort p.val).fifo = [] ∧ (y.palisPort p.val).sent = x.sent ∧ y.regs = s.regs) ∧
    (portActive s p.val = true → idle → room → (y.palisPort p.val).fifo = x.fifo ++ [⟨at_, prio, i⟩] ∧ (y.palisPort p.val).sent = x.sent ∧ y.regs = s.regs) ∧
    (portActive s p.val = true → idle → ¬ room → (y.palisPort p.val).fifo = x.fifo ∧ y.rdN (CAS_P_DROP_CNT p.val) = min (s.rdN (CAS_P_DROP_CNT p.val) + 1) 0xFFFFFFFF ∧
      SameOutsideRings s y [CAS_P_DROP_CNT p.val]) ∧
    (alone → 4 * s.now < start → (y.palisPort p.val).fifo = [⟨at_, prio, i⟩] ∧ (y.palisPort p.val).sent = x.sent ∧ y.regs = s.regs) ∧
    (alone → start ≤ 4 * s.now → (y.palisPort p.val).fifo = [] ∧ (y.palisPort p.val).nextPos = pos + pktCount pkt ∧ y.regs = s.regs ∧
      ∃ h, (y.palisPort p.val).sent = x.sent ++ [⟨pos, pkt, h⟩] ∧ ((s.lane (40 + 2 * p.val)).inj = false → (s.lane (41 + 2 * p.val)).inj = false → h = [])) ∧
    (∀ q e, nextItem s p.val = some (q, e) → e ∈ waiting s p.val ∧ e.at_ ≤ cycTime s p.val (q / 2) ∧ ∀ o ∈ waiting s p.val, o.at_ ≤ cycTime s p.val (q / 2) → e.prio ≤ o.prio)) ∧
  -- a packet of one hop is discarded on a port that is OFF or not at its stage, and counted where its words are no such packet, its CRC or length wrong (R499, R502); a DELAY_REQ is answered (R527); a DELAY_RESP moves DELAY to the mean of the last 16 values (R527); a CAPS packet shows the partner and whether the modes agree, without which the link does not enter ACTIVE (R477, R498, R538). Where the spec leaves a corner of this open, what it says is the model's choice (log entries 90, 111).
  (∀ (s : State) (p : Fin 4) (k : Fin 8) (dt : Nat) (w : BitVec 64) (ws : List (BitVec 64)), s.mainOn = true →
    let z := passTime dt s
    let bad := CAS_P_BAD_CNT p.val
    let x := s.palisPort p.val
    let off := fun st : Nat => portMode s p.val = 0 ∨ linkStage s (4 + p.val) ≠ st
    let whole := fun kind : Nat => headFault kind w = 0 ∧ tailBad w ws = false
    let counted := fun i : Instr => ∃ y, exec i s = .next y ∧ y.rdN bad = min (s.rdN bad + 1) 0xFFFFFFFF ∧ SameOutsideRings s y [bad]
    let gate := fun (i : Instr) (st kind : Nat) (z1 : State) => (off st → exec i s = .next z) ∧ (¬ off st → headFault kind w = 1 → exec i s = .next (z1.bump bad)) ∧
      (¬ off st → headFault kind w = 2 → counted i) ∧ (¬ off st → headFault kind w = 0 → tailBad w ws = true → counted i) ∧ (¬ off st → headFault kind w = 3 → exec i s = .next z1)
    let data := ws.take (pktLen w)
    let req := Instr.delayReq p dt w ws
    let resp := Instr.delayResp p dt w ws
    let caps := Instr.capsPacket p dt w ws
    let t := fun j : Nat => (4 * (data.getD j 0#64).toNat : Nat)
    let round := wrapI ((arrivalQ z p.val : Int) - (t 0 : Int)) ((2 ^ 66 : Nat) : Int) - wrapI ((t 2 : Int) - (t 1 : Int)) ((2 ^ 66 : Nat) : Int)
    let l := (x.delays ++ [rndDiv round 2 + sext (s.rdN (CAS_P_ASYM p.val)) 16]).drop (x.delays.length + 1 - 16)
    let w0 := (data.headD 0#64).toNat
    let agree := if bits w0 0 16 = 1 then portMode s p.val = 1 else portMode s p.val = bits w0 16 2
    let inTime := stageOver s k.val = false
    let enters := linkStage s k.val = 4 ∧ (if k.val < 4 then (s.port k.val).capsBusy = false else (s.palisPort (k.val - 4)).agreed = true)
    gate (.beacon p dt w ws) 5 0 z ∧ gate req 5 1 z ∧ gate resp 5 2 z ∧ gate caps 4 9 (capsSend p.val z) ∧
    (¬ off 5 → isBlocked s p.val = true → (whole 1 → exec req s = .next z) ∧ (whole 2 → exec resp s = .next z)) ∧
    (¬ off 5 → isBlocked s p.val = false → whole 1 → exec req s = .next (sendOn p.val 1 (4 * z.now) (.delayResp (data.headD 0#64) (BitVec.ofNat 64 (arrivalQ z p.val / 4))) z)) ∧
    (¬ off 5 → isBlocked s p.val = false → whole 2 → ∃ y, exec resp s = .next y ∧ (y.palisPort p.val).delays = l ∧ y.rdN (CAS_P_DELAY p.val) = ofInt (rndDiv l.sum l.length) 24 ∧
      SameRegs s y [CAS_P_DELAY p.val] ∧ SameBytes s y) ∧
    (¬ off 4 → whole 9 → ∃ y, exec caps s = .next y ∧ y.rd (CAS_P_PEER_UID p.val) = data.getD 1 0#64 ∧ (y.flag (CAS_P_STAT_CAPS_OK p.val) = true ↔ agree) ∧
      (agree → y.flag (CAS_P_STAT_MISMATCH p.val) = false) ∧ (¬ agree → y.flag (CAS_P_STAT_MISMATCH p.val) = s.flag (CAS_P_STAT_MISMATCH p.val)) ∧
      (y.flag (CAS_P_STAT_XW8 p.val) = true ↔ bits w0 0 16 = 1) ∧ ((y.palisPort p.val).agreed = true ↔ agree) ∧ (y.palisPort p.val).heard = some (bits w0 16 2, bits w0 0 16)) ∧
    (¬ inTime → exec (.capsComplete k) s = .next s) ∧
    (inTime → enters → ∃ y, exec (.capsComplete k) s = .next y ∧ linkStage y k.val = 5 ∧ y.fld (LNK_K_STAT_RETRY k.val) = 0 ∧ (k.val < 4 → y.flag (SEQ_F_STAT_ACTIVE k.val) = true)) ∧
    (inTime → ¬ enters → exec (.capsComplete k) s = .next (if k.val < 4 then s else if k.val = 7 then waitRules (capsSend 3 s) else capsSend (k.val - 4) s)))

/-- BeaconTree: a beacon attaches a unit to its port, gives it its hops, and disciplines show time; on another port it marks a loop (R521, R522, R528); the master and a unit that has lost its upstream send beacons at multiples of 64 us (R526); a unit whose upstream is silent or down has lost it, and REROOT clears the tree's marks (R522); DELAY_REQ is sent once a millisecond (R527); on a twin port a standby without an upstream is disciplined too (R528). Where the spec leaves a corner of this open, what it says is the model's choice (log entry 89). -/
def Obligations.BeaconTree : Prop :=
  ∀ (s : State) (p : Fin 4) (dt u : Nat) (w : BitVec 64) (ws : List (BitVec 64)), s.mainOn = true →
    let z := passTime dt s
    let bad := CAS_P_BAD_CNT p.val
    let data := ws.take (pktLen w)
    let flags := bits w.toNat 12 4
    let w0 := (data.headD 0#64).toNat
    let w1 := (data.getD 1 0#64).toNat
    let beacon := Instr.beacon p dt w ws
    let whole := headFault 0 w = 0 ∧ tailBad w ws = false ∧ portActive s p.val = true
    let hears := whole ∧ portMode s p.val = 1
    let twin := whole ∧ portMode s p.val = 2
    let standby := s.flag CAS_TW_CTL_EN = true ∧ twState s = 2 ∧ upstream s = none
    let valid := data.length = 2 + 2 * ([0, 1, 2, 3].filter (fun n => bit (bits w1 24 4) n)).length
    let mayAttach := upstream s = none ∧ isMaster s = false ∧ (s.flag CAS_CTL_UP_FIX = false ∨ s.fld CAS_CTL_UP_PORT = p.val)
    let own := mayAttach ∨ upstream s = some p.val
    let theta := wrapI ((4 * w0 : Nat) + sext (s.rdN (CAS_P_DELAY p.val)) 24 - (arrivalQ z p.val : Int)) ((2 ^ 66 : Nat) : Int)
    let disciplined := fun y : State => y.fld CAS_STAT_HOLDOVER = flags % 2 ∧ y.rdN CAS_OFFSET = ofInt theta 32 ∧ y.rdN CAS_ERR = min (bits w1 32 32 + theta.natAbs + 4) 0xFFFFFFFF ∧ y.tree.beaconAt = z.now
    let sends := isMaster s = true ∨ s.flag CAS_STAT_UP_LOST = true
    let c := passTime (if s.showTime / 64000 = s.tree.lastMult then untilShow s ((s.tree.lastMult + 1) * 64000) else 0) s
    let reqDue := portMode s p.val ≠ 0 ∧ portActive s p.val = true ∧ isHot s = false
    let lost := s.flag CAS_STAT_UP_LOST = true
    (hears ∨ twin → ¬ valid → ∃ y, exec beacon s = .next y ∧ y.rdN bad = min (s.rdN bad + 1) 0xFFFFFFFF ∧ SameOutsideRings s y [bad]) ∧
    (hears → valid → isBlocked s p.val = true → exec beacon s = .next z) ∧
    (hears → valid → isBlocked s p.val = false → own → ∃ y, exec beacon s = .next y ∧ y.flag CAS_STAT_ATTACHED = true ∧ y.fld CAS_STAT_UP = p.val ∧ y.flag CAS_STAT_UP_LOST = false ∧
      y.rdN CAS_HOPS = min (bits w1 16 8 + 1) 255 ∧ disciplined y ∧ y.tree.seq = (s.tree.seq + 1) % 65536) ∧
    (hears → valid → isBlocked s p.val = false → ¬ own → ∃ y, exec beacon s = .next y ∧ isBlocked y p.val = true ∧ SameOutsideRings s y [CAS_STAT]) ∧
    (twin → valid → standby → ∃ y, exec beacon s = .next y ∧ disciplined y ∧ y.tree.seq = s.tree.seq ∧ upstream y = none) ∧
    (twin → valid → ¬ standby → exec beacon s = .next (handPhases p.val (phaseList (bits w1 24 4) (data.drop 2)) z)) ∧
    (sends → ∃ y, exec .beaconSend s = .next y ∧ y.now = c.now ∧ y.tree.lastMult = c.showTime / 64000 ∧ y.tree.seq = (s.tree.seq + 1) % 65536) ∧ (¬ sends → exec .beaconSend s = .next s) ∧
    (upstream s = none ∨ lost → exec .upstreamLost s = .next s) ∧
    (upstream s = some u → ¬ lost → ∃ y, exec .upstreamLost s = .next y ∧ y.flag CAS_STAT_UP_LOST = true ∧ y.flag CAS_STAT_ATTACHED = true ∧ SameOutsideRings s y [CAS_STAT] ∧
      y.now = if portActive s u then max s.now (s.tree.beaconAt + 1024000) else s.now) ∧
    (s.clocked = false → exec .reroot s = .next s) ∧
    (s.clocked = true → ∃ y, exec .reroot s = .next y ∧ y.fld CAS_STAT_BLOCKED = 0 ∧ y.flag CAS_STAT_UP_LOST = false ∧ y.fld CAS_STAT_CMD_STATUS = 0 ∧ y.flag CAS_STAT_STEPPED = false ∧ upstream y = none ∧
      y.tree.beacon = none ∧ y.tree.mayStep = true ∧ y.rdN CAS_HOPS = (if isMaster s then s.rdN CAS_HOPS else 255) ∧ SameRegs s y [CAS_STAT, CAS_HOPS] ∧ SameBytes s y) ∧
    (reqDue → ∃ y, exec (.delayReqSend p) s = .next y ∧ (y.palisPort p.val).reqAt = some y.now ∧
      y.now = match (s.palisPort p.val).reqAt with | some t => max s.now (t + 1000000) | none => s.now) ∧
    (¬ reqDue → exec (.delayReqSend p) s = .next s)

/-- TreePacketsAndRings: How packets of the tree are judged, passed on and taken, and how the TX ring is sent. -/
def Obligations.TreePacketsAndRings : Prop :=
  -- a packet of the tree is discarded where its port is OFF, not ACTIVE or BLOCKED, and counted where it is wrong or where its port's role does not carry it (R502, R523); JOIN and PRESENCE go up to the master and ROSTER down from it (R530), CONTENT, MSG and FOLLOW down, the master turning what comes up (R524), one hop less at each unit; what a unit takes goes to the RX ring (R533), to its subscriptions (R535) or to the axis stream (R536); PRESENCE is sent every PRES_MS (R530). Where the spec leaves a corner of this open, what it says is the model's choice (log entries 90, 91, 92).
  (∀ (s : State) (p u : Fin 4) (dt : Nat) (w : BitVec 64) (ws : List (BitVec 64)) (k : Fin 16) (a b : Word), s.mainOn = true →
    let z := passTime dt s
    let bad := CAS_P_BAD_CNT p.val
    let hops := bits w.toNat 55 8
    let dest := bits w.toNat 16 14
    let src := bits w.toNat 30 14
    let flags := bits w.toNat 12 4
    let data := ws.take (pktLen w)
    let join := Instr.join p dt w ws
    let roster := Instr.roster p dt w ws
    let presence := Instr.presence p dt w ws
    let content := Instr.content p dt w ws
    let msg := Instr.msg p dt w ws
    let follow := Instr.follow p dt w ws
    let off := portMode s p.val = 0 ∨ portActive s p.val = false ∨ portRole s p.val = 3
    let counted := fun i : Instr => ∃ y, exec i s = .next y ∧ y.rdN bad = min (s.rdN bad + 1) 0xFFFFFFFF
    let gate := fun (i : Instr) (kind : Nat) (up down : Bool) =>
      let stray := portMode s p.val = 2 ∨ portRole s p.val = 0 ∨ (portRole s p.val = 1 ∧ up = false) ∨ (portRole s p.val = 2 ∧ down = false)
      (off → exec i s = .next z) ∧ (¬ off → headFault kind w = 1 → exec i s = .next (z.bump bad)) ∧ (¬ off → headFault kind w = 2 → counted i) ∧ (¬ off → headFault kind w = 3 → exec i s = .next z) ∧
      (¬ off → headFault kind w = 0 → stray → exec i s = .next (z.bump bad)) ∧ (¬ off → headFault kind w = 0 → ¬ stray → tailBad w ws = true → counted i)
    let good := fun kind : Nat => ¬ off ∧ headFault kind w = 0 ∧ tailBad w ws = false
    let l := s.link (4 + u.val)
    let quiet := portActive s u.val = true ∧ (s.palisPort u.val).fifo = [] ∧ (u.val = 3 → s.twin.mirOut = []) ∧ l.idleFrom = none ∧ l.picotAt = none
    let passed := fun (i : Instr) (h : Nat) => ∃ y, exec i s = .next y ∧ (y.palisPort u.val).fifo = [⟨4 * z.now + 70, 3, .packet { pktOf w ws with hops := h }⟩] ∧ y.regs = s.regs
    let dropped := fun i : Instr => ∃ y, exec i s = .next y ∧ y.rdN CAS_HOP_DROP_CNT = min (s.rdN CAS_HOP_DROP_CNT + 1) 0xFFFFFFFF ∧ SameRegs s y [CAS_HOP_DROP_CNT] ∧ y.palis = s.palis
    let onward := fun (i : Instr) (kind h : Nat) => good kind → (hops ≠ 0 → quiet → passed i h) ∧ (hops = 0 → dropped i)
    let hdr := fun j : Nat => leBytes 8 z.showTime ++ leBytes 1 p.val ++ leBytes 1 j ++ leBytes 2 data.length ++ leBytes 2 src ++ leBytes 2 dest
    let taken := fun (i : Instr) (kind : Nat) => good kind → (s.rdN CAS_RX_SIZE = 0 → exec i s = .next z) ∧
      (s.rdN CAS_RX_SIZE ≠ 0 → match ringRecord rxRing (hdr 0xFF) (hdr kind ++ data.flatMap (fun w => leBytes 8 w.toNat)) z with
        | some y => exec i s = .next (updRing 0 (fun r => { r with losing := false }) y)
        | none => ∃ y, exec i s = .next y ∧ y.rdN CAS_RX_LOST_CNT = min (s.rdN CAS_RX_LOST_CNT + 1) 0xFFFFFFFF ∧ y.tree.rx.losing = true)
    let role := portRole s p.val
    let master := isMaster s = true
    let hot := isHot s = true
    let stream := bits (data.headD 0#64).toNat 0 16
    let seq := bits (data.headD 0#64).toNat 16 32
    let x := s.sub k.val
    let gap := ∃ l, x.last = some l ∧ seq ≠ (l + 1) % 2 ^ 32
    let opens := bit flags 0 = true
    let body := (data.drop 1).flatMap (fun w => leBytes 8 w.toNat)
    let z1 := z.setSub k.val { x with last := some seq, skipping := false }
    let cnt := CAS_SUB_GAP_CNT k.val
    let lostOne := fun y : State => y.rdN cnt = min (s.rdN cnt + 1) 0xFFFFFFFF
    let r := ringOfId s (16 + k.val)
    let size := s.rdN r.size
    let noRoom := ringSizeOk size = false ∨ x.ring.stopped = true ∨ x.ring.stall ≠ none ∨ (s.rdN r.head + 1) % size = s.rdN r.tail % size
    let leaf := role = 1 ∧ downPorts s = [] ∧ ¬ hot
    let t := passTime (match s.tree.presAt with | some t => t + max 1 (s.fld CAS_CTL_PRES_MS) * 1000000 - s.now | none => 0) s
    let told := ownAddr s + s.rdN CAS_HOPS % 256 * 2 ^ 14 + b2n (s.flag CAS_TW_CTL_EN) * 2 ^ 22 + b2n (s.fld CAS_TW_STAT_STATE == 2) * 2 ^ 23 + b2n (isHot s) * 2 ^ 24
    gate join 3 false true ∧ gate presence 5 false true ∧ gate roster 4 true false ∧ gate content 6 true true ∧ gate msg 7 true true ∧ gate follow 8 true true ∧
    (role = 2 → ¬ master → upstream s = some u.val → onward join 3 (hops - 1) ∧ onward presence 5 (hops - 1)) ∧
    (role = 2 → master → hot → (good 3 → exec join s = .next z) ∧ (good 5 → exec presence s = .next z)) ∧ (role = 2 → master → ¬ hot → taken join 3 ∧ taken presence 5) ∧
    (role = 1 → downPorts s = [u.val] → hot → onward roster 4 (hops - 1) ∧ onward content 6 (hops - 1) ∧ onward msg 7 (hops - 1) ∧ onward follow 8 (hops - 1)) ∧
    (role = 2 → master → dest ≠ 0 → hot → downPorts s = [u.val] → onward content 6 255 ∧ onward msg 7 255 ∧ onward follow 8 255) ∧
    (leaf → taken roster 4 ∧ (dest = ownAddr s ∨ dest = 0x3FFF → taken msg 7)) ∧
    (role = 2 → dest = ownAddr s → ¬ hot → taken msg 7) ∧
    (leaf → good 6 → subsOf s false stream = [] → exec content s = .next z) ∧
    (leaf → good 6 → subsOf s false stream = [k.val] →
      (gap → ¬ opens → ∃ y, exec content s = .next y ∧ lostOne y ∧ (y.sub k.val).skipping = true ∧ (y.sub k.val).last = some seq) ∧
      (gap → opens → ∃ y, exec content s = .next y ∧ min (s.rdN cnt + 1) 0xFFFFFFFF ≤ y.rdN cnt ∧ (y.sub k.val).last = some seq) ∧
      (¬ gap → ¬ opens → x.skipping = true ∨ x.last = none → ∃ y, exec content s = .next y ∧ (y.sub k.val).skipping = true ∧ (y.sub k.val).last = some seq ∧ y.regs = s.regs ∧ SameBytes s y) ∧
      (¬ gap → opens ∨ (x.skipping = false ∧ x.last ≠ none) → match ringRecord (subRing k.val) (leBytes 4 0 ++ leBytes 2 0 ++ leBytes 2 0) (leBytes 4 seq ++ leBytes 2 body.length ++ leBytes 2 flags ++ body) z1 with
        | some y => exec content s = .next y
        | none => ∃ y, exec content s = .next y ∧ lostOne y ∧ (y.sub k.val).skipping = true)) ∧
    (leaf → good 8 → subsOf s true stream = [] → exec follow s = .next z) ∧
    (leaf → good 8 → subsOf s true stream = [k.val] → data.drop 1 = [a, b] →
      (noRoom → ∃ y, exec follow s = .next y ∧ lostOne y ∧ SameRegs s y [cnt] ∧ SameBytes s y) ∧
      (¬ noRoom → (writeRing (16 + k.val) (s.rdN r.base + 16 * s.rdN r.head) 3 (leBytes 8 a.toNat ++ leBytes 8 b.toNat) z).2 = none →
        ∃ y, exec follow s = .next y ∧ y.rdN r.head = (s.rdN r.head + 1) % size)) ∧
    (upstream s = none → exec .presenceSend s = .next s) ∧
    (upstream s = some u.val → exec .presenceSend s = .next (sendOn u.val 4 (4 * t.now) (.packet ⟨5, 0, 0, ownAddr s, 255, [s.rd CAS_UID, BitVec.ofNat 64 told], none, none⟩) (updTree (fun x => { x with presAt := some t.now }) t)))) ∧
  -- the record at HEAD is sent, or skipped and counted where it is bad, and HEAD moves past it; a pad record takes HEAD to 0 (R534); a read that faults stops or holds the ring (R537). Where the spec leaves a corner of this open, what it says is the model's choice (log entry 91).
  (∀ (s : State), s.clocked = true →
    let z := if isHot s ∨ s.rdN CAS_TX_HEAD = s.rdN CAS_TX_TAIL then s else sysTouch (s.rdN CAS_TX_BASE + s.rdN CAS_TX_HEAD) 16 28 s
    let size := byteSize (s.rdN CAS_TX_SIZE)
    let head := s.rdN CAS_TX_HEAD
    let r := s.tree.tx
    let send := Instr.txRingSend
    let rests := isHot s = true ∨ size = 0 ∨ r.stopped = true ∨ r.stall ≠ none ∨ head % size = s.rdN CAS_TX_TAIL % size
    (rests → exec send s = .next z ∧ SameOutsideRings s z []) ∧
    (¬ rests → match xlate z (sysAsid s) 0 (s.rdN CAS_TX_BASE + head) akREAD with
      | .bad c _ _ => ∃ y, exec send s = .next y ∧ y.rdN CAS_TX_HEAD = head ∧ (if c = fcHOST_ERR then y.tree.tx.stopped = true else y.tree.tx.stall = some head)
      | .ok g =>
        let hdr := loadAt z g 16
        let b := fun (o n : Nat) => leNat ((hdr.drop o).take n)
        let next := (head + 16 + 8 * b 2 2) % size
        let va := s.rdN CAS_TX_BASE + head
        let pkt : CasPkt := ⟨b 0 1, b 1 1 % 16, b 4 2, ownAddr s, 255, (List.range (b 2 2)).map (fun k => BitVec.ofNat 64 (leNat (sysRead z (va + 16 + 8 * k) 8))), none, none⟩
        let gives := if b 6 1 % 16 = 0 then (if isMaster s then downPorts s else (upstream s).toList) else [0, 1, 2, 3].filter (fun p => bit (b 6 1 % 16) p)
        let readable := ∀ a, va ≤ a → a < va + 16 + 8 * b 2 2 → ∃ g', xlate z (sysAsid s) 0 a akREAD = .ok g'
        (b 0 1 = 0xFF → ∃ y, exec send s = .next y ∧ y.rdN CAS_TX_HEAD = 0 ∧ SameOutsideRings s y [CAS_TX_HEAD] ∧ y.palis = s.palis) ∧
        (b 0 1 ≠ 0xFF → txBad s (b 0 1) (b 4 2) (b 2 2) (b 6 1 % 16) = true → ∃ y, exec send s = .next y ∧ y.rdN CAS_TX_HEAD = next ∧
          y.rdN CAS_TX_BAD_CNT = min (s.rdN CAS_TX_BAD_CNT + 1) 0xFFFFFFFF ∧ SameOutsideRings s y [CAS_TX_HEAD, CAS_TX_BAD_CNT] ∧ y.palis = s.palis) ∧
        (b 0 1 ≠ 0xFF → txBad s (b 0 1) (b 4 2) (b 2 2) (b 6 1 % 16) = false → ∃ y, exec send s = .next y ∧ (y.rdN CAS_TX_HEAD = next ∨ y.tree.tx.stopped = true ∨ y.tree.tx.stall = some head) ∧
          (readable → y = (gives.foldl (fun x p => sendOn p 4 (4 * x.now) (.packet pkt) x) (sysTouch (va + 16) (8 * b 2 2) 28 z)).wrN CAS_TX_HEAD next))))

/-- TwinHolding: How a twin holds, releases and hands over. -/
def Obligations.TwinHolding : Prop :=
  -- EN takes a module to WAIT with its outputs released, or on to STANDBY, and its clearing to OFF with its outputs driven (R505, R508); a module without a twin link claims after ALONE_MS (R508); HOLD_O is asserted where R507 lets it be, and after 1 us with HOLD_I low the module holds, its axes going on in RUN or DISABLED (R507, R520). Where the spec leaves a corner of this open, what it says is the model's choice (log entry 94).
  (∀ (s : State) (en : Bool), s.mainOn = true →
    let on := s.flag CAS_TW_CTL_EN = true
    let st := twState s
    let stands := twinLink s = true ∧ isHot s = false ∧ ((s.palisPort 3).peerHolds = true ∨ s.flag CAS_TW_CTL_TWIN_ID = true)
    let alone := on ∧ st = 1 ∧ twinLink s = false ∧ s.flag CAS_TW_CTL_ALONE_EN = true ∧ s.holdI = false ∧ isHot s = false
    let held := s.flag CAS_TW_STAT_HOLD_O = true
    let may := on ∧ wantsHold s = true ∧ ¬ held ∧ s.holdI = false ∧ s.demI = false
    let ready := on ∧ held ∧ s.holdI = false ∧ wantsHold s = true
    let runs := fun y : State => ∀ n ∈ allAxes, axState y n = if s.twin.axesRun.contains n then 1 else 0
    let holdsAt := max s.now (s.twin.holdAt + 1000)
    (s.clocked = false ∨ en = s.flag CAS_TW_CTL_EN → exec (.twinEnable en) s = .next s) ∧
    (s.clocked = true → ¬ on → ∃ y, exec (.twinEnable true) s = .next y ∧ y.flag CAS_TW_CTL_EN = true ∧ twState y = (if stands then 2 else 1) ∧ y.driving = false ∧ ∀ n ∈ allAxes, axState y n = 3) ∧
    (s.clocked = true → on → ∃ y, exec (.twinEnable false) s = .next y ∧ y.flag CAS_TW_CTL_EN = false ∧ twState y = 0 ∧ y.driving = true ∧ ∀ n ∈ allAxes, axState y n = 0) ∧
    (¬ alone → exec .aloneTimeout s = .next s) ∧
    (alone → ∃ y, exec .aloneTimeout s = .next y ∧ y.twin.claiming = 2 ∧ twState y = 1 ∧ SameRegs s y [CAS_TW_STAT] ∧ y.now = max s.now (s.twin.waitAt + s.fld CAS_TW_CTL_ALONE_MS * 1000000) ∧
      (s.demI = false → s.twin.hiOff + 1000 ≤ y.now → y.flag CAS_TW_STAT_HOLD_O = true)) ∧
    (¬ may → exec .holdOAssert s = .next s) ∧
    (may → ∃ y, exec .holdOAssert s = .next y ∧ y.flag CAS_TW_STAT_HOLD_O = true ∧ y.now = max s.now (s.twin.hiOff + 1000) ∧ y.twin.holdAt = y.now ∧ twState y = st ∧ SameRegs s y [CAS_TW_STAT]) ∧
    (¬ ready → exec .holdAcquired s = .next s) ∧
    (ready → st = 1 → ∃ y, exec .holdAcquired s = .next y ∧ y.now = holdsAt ∧ twState y = (if s.twin.claiming = 2 then 4 else 3) ∧ y.driving = true ∧ y.twin.claiming = 0 ∧ runs y) ∧
    (ready → st = 5 → ∃ y, exec .holdAcquired s = .next y ∧ y.now = holdsAt ∧ twState y = 3 ∧ y.driving = true ∧ y.twin.entries = [] ∧ y.twin.demO = false ∧
      y.rdN CAS_TW_TKO_CNT = min (s.rdN CAS_TW_TKO_CNT + 1) 0xFFFFFFFF ∧ runs y)) ∧
  -- a module whose partner demands drops HOLD_O and, if it held, stands by with its outputs released; HOLD_I against an asserted HOLD_O makes TWIN_ID 1 release and TWIN_ID 0 keep (R507); a handover that finds HOLD_I asserted is reported 10 us after its start and each millisecond after (R519). Where the spec leaves a corner of this open, what it says is the model's choice (log entry 94).
  (∀ (s : State) (dt : Nat) (level : Bool), s.mainOn = true →
    let z := passTime dt s
    let on := s.flag CAS_TW_CTL_EN = true
    let holds := twState s = 3 ∨ twState s = 4
    let released := fun (i : Instr) (p : State → Prop) => ∃ y, exec i s = .next y ∧ y.flag CAS_TW_STAT_HOLD_O = false ∧ p y ∧
      (¬ holds → twState y = twState s ∧ SameRegs s y [CAS_TW_STAT]) ∧ (holds → twState y = 2 ∧ y.flag CAS_TW_STAT_STALE = true ∧ y.driving = false ∧ ∀ n ∈ allAxes, axState y n = 3)
    let gives := level = true ∧ on ∧ s.flag CAS_TW_STAT_HOLD_O = true ∧ s.flag CAS_TW_CTL_TWIN_ID = true
    let stuck := twState s = 5 ∧ s.holdI = true
    let told := match s.twin.stuckAt with | some t => t + 1000000 | none => s.twin.hAt + 10000
    (on → released (.tkovrDemIAssert dt) (fun y => y.flag CAS_TW_STAT_DEM_I = true)) ∧
    (¬ on → ∃ y, exec (.tkovrDemIAssert dt) s = .next y ∧ y.flag CAS_TW_STAT_DEM_I = true ∧ SameRegs s y [CAS_TW_STAT] ∧ SameBytes s y) ∧
    (∃ y, exec (.tkovrDemIDeassert dt) s = .next y ∧ y.flag CAS_TW_STAT_DEM_I = false ∧ twState y = twState s ∧ SameRegs s y [CAS_TW_STAT] ∧ SameBytes s y ∧ y.twin = s.twin) ∧
    (gives → released (.tkovrHoldIChange level dt) (fun y => y.flag CAS_TW_STAT_HOLD_I = true)) ∧
    (¬ gives → ∃ y, exec (.tkovrHoldIChange level dt) s = .next y ∧ y.flag CAS_TW_STAT_HOLD_I = level ∧ y.flag CAS_TW_STAT_HOLD_O = s.flag CAS_TW_STAT_HOLD_O ∧ twState y = twState s ∧
      SameRegs s y [CAS_TW_STAT] ∧ y.twin.holdAt = (if level then s.twin.holdAt else z.now) ∧
      y.twin.hiOff = if ¬ level ∧ s.flag CAS_TW_STAT_HOLD_I then z.now else s.twin.hiOff) ∧
    (stuck → ∃ y, exec .takeoverStuck s = .next y ∧ y.now = max s.now told ∧ y.twin.stuckAt = some y.now ∧ twState y = 5 ∧ SameOutsideRings s y []) ∧ (¬ stuck → exec .takeoverStuck s = .next s)) ∧
  -- YIELD is taken by a holder and refused to others (R516); FORCE starts a handover at once unless the module holds (R518); RESYNC asks for a full state (R514); an awaited handover starts at the instant that the timebase's gaps give it (R519), unless the module has fallen behind by then (R518). Where the spec leaves a corner of this open, what it says is the model's choice (log entries 94, 95).
  (∀ (s : State) (k t : Nat), s.clocked = true →
    let on := s.flag CAS_TW_CTL_EN = true
    let cmd := CAS_TW_STAT_CMD_STATUS
    let start := Instr.handoverStart
    let c := passTime t s
    let answers := fun (i : Instr) (v : Nat) (p : State → Prop) => ∃ y, exec i s = .next y ∧ y.fld cmd = v ∧ SameRegs s y [CAS_TW_STAT] ∧ SameBytes s y ∧ p y
    let due := s.twin.awaited = some k ∧ startIn s = some t
    (on → s.driving = true → answers .twinYield 0 (fun y => y.twin.yield = true ∧ twState y = twState s)) ∧
    (¬ on ∨ s.driving = false → answers .twinYield 7 (fun y => y.twin = s.twin)) ∧
    (s.driving = true → answers .twinForce 7 (fun y => y.twin = s.twin)) ∧ (s.driving = false → twState s = 5 → answers .twinForce 0 (fun y => y.twin = s.twin)) ∧
    (s.driving = false → twState s ≠ 5 → answers .twinForce 0 (fun y => twState y = 5 ∧ y.twin.forced = true ∧ y.twin.trig = 0 ∧ y.twin.hAt = s.now ∧ y.twin.demO = true)) ∧
    answers .twinResync 0 (fun y => y.twin.resync = true ∧ twState y = twState s) ∧
    (s.twin.awaited = none ∨ startIn s = none → exec start s = .next s) ∧
    (due → isBehind s = true ∨ isBehind c = true → ∃ y, exec start s = .next y ∧ y.twin.awaited = none ∧ y.flag CAS_TW_STAT_PENDING = false ∧ twState y = twState s ∧
      y.rdN CAS_TW_REFUSE_CNT = min (s.rdN CAS_TW_REFUSE_CNT + 1) 0xFFFFFFFF) ∧
    (due → isBehind s = false → isBehind c = false → ∃ y, exec start s = .next y ∧ twState y = 5 ∧ y.twin.trig = k ∧ y.twin.forced = false ∧ y.twin.hAt = s.now + t ∧ y.twin.awaited = none ∧
      y.twin.demO = true ∧ SameRegs s y [CAS_TW_STAT]))

/-- HeartbeatsAndMirror: What heartbeats and mirror records do. -/
def Obligations.HeartbeatsAndMirror : Prop :=
  -- one is sent every 10 us on a live twin link (R515); one that arrives whole shows the partner and its time (R516), sends a module in WAIT to STANDBY when its sender holds (R508), and on a trigger starts a handover, or is refused by a module that is behind (R517, R518); 11 us without one is a miss, and the third in a row loses the partner (R516). Where the spec leaves a corner of this open, what it says is the model's choice (log entry 94).
  (∀ (s : State) (dt t : Nat) (w : BitVec 64) (ws : List (BitVec 64)), s.mainOn = true →
    let z := passTime dt s
    let bad := CAS_P_BAD_CNT 3
    let on := s.flag CAS_TW_CTL_EN = true
    let hot := isHot s = true
    let sends := twState s ≠ 0 ∧ twinLink s = true ∧ ¬ hot
    let off := portMode s 3 = 0 ∨ linkStage s 7 ≠ 5
    let beat := Instr.heartbeat dt w ws
    let fault := headFault 10 w
    let counted := ∃ y, exec beat s = .next y ∧ y.rdN bad = min (s.rdN bad + 1) 0xFFFFFFFF ∧ SameOutsideRings s y [bad]
    let whole := ¬ off ∧ fault = 0 ∧ tailBad w ws = false
    let hears := whole ∧ portMode s 3 = 2 ∧ on ∧ ¬ hot
    let fl := bits ((ws.take (pktLen w)).getD 1 0#64).toNat 32 7
    let calm := s.flag CAS_TW_STAT_STALE = false ∧ s.fld CAS_TW_CTL_PIPES = 0 ∧ s.fld CAS_TW_CTL_TB_CHK = 0 ∧ ∀ n, kget (fun _ => none) s.twin.swaps n = none
    let shutdown := twState s = 2 ∧ fl % 2 = 1 ∧ bits fl 1 2 = 2 ∧ bits fl 3 1 = 0 ∧ ¬ s.twin.heard.contains 1
    let c := passTime (t + 11000 - s.now) s
    let missed := s.twin.hbHeard = some t ∧ on ∧ ¬ hot
    let third := s.twin.missRun + 1 = 3
    let miss := Instr.heartbeatMiss
    let counts := fun y : State => y.now = max s.now (t + 11000) ∧ y.rdN CAS_TW_HB_MISS_CNT = min (s.rdN CAS_TW_HB_MISS_CNT + 1) 0xFFFFFFFF ∧ y.twin.missRun = s.twin.missRun + 1 ∧ y.twin.hbHeard = some y.now
    let refused := fun y : State => twState y = 2 ∧ y.rdN CAS_TW_REFUSE_CNT = min (s.rdN CAS_TW_REFUSE_CNT + 1) 0xFFFFFFFF
    (sends → ∃ y, exec .heartbeatSend s = .next y ∧ y.twin.hbSeq = (s.twin.hbSeq + 1) % 2 ^ 32 ∧ y.twin.hbSent = some y.now ∧ y.now = match s.twin.hbSent with | some e => max s.now (e + 10000) | none => s.now) ∧
    (¬ sends → exec .heartbeatSend s = .next s) ∧
    (off → exec beat s = .next z) ∧ (¬ off → fault = 1 → exec beat s = .next (z.bump bad)) ∧ (¬ off → fault = 2 → counted) ∧ (¬ off → fault = 0 → tailBad w ws = true → counted) ∧
    (¬ off → fault = 3 → exec beat s = .next z) ∧
    (whole → portMode s 3 ≠ 2 → exec beat s = .next (z.bump bad)) ∧ (whole → portMode s 3 = 2 → ¬ on ∨ hot → exec beat s = .next z) ∧
    (hears → ∃ y, exec beat s = .next y ∧ y.flag CAS_TW_STAT_PARTNER = true ∧ y.rdN CAS_TW_LAST_HB = z.showTime % 2 ^ 64 ∧ y.twin.hbHeard = some z.now ∧ y.twin.missRun = 0 ∧
      y.twin.partnerHolds = some (bit fl 0) ∧ (twState s = 4 → bit fl 0 = false → twState y = 3) ∧ (twState s = 1 → bit fl 0 = true → twState y = 2 ∧ y.flag CAS_TW_STAT_STALE = true) ∧
      (shutdown → calm → twState y = 5 ∧ y.twin.trig = 1 ∧ y.twin.hAt = z.now) ∧ (shutdown → s.flag CAS_TW_STAT_STALE = true → refused y)) ∧
    (s.twin.hbHeard = none ∨ ¬ on ∨ hot → exec miss s = .next s) ∧
    (missed → ¬ third → ∃ y, exec miss s = .next y ∧ counts y ∧ SameRegs s y [CAS_TW_HB_MISS_CNT]) ∧
    (missed → third → ∃ y, exec miss s = .next y ∧ counts y ∧ y.flag CAS_TW_STAT_PARTNER = false ∧ (twState s ≠ 2 → twState y = twState s) ∧
      (twState s = 2 → isBehind c = false → twState y = 5 ∧ y.twin.trig = 0 ∧ y.twin.forced = false) ∧ (twState s = 2 → isBehind c = true → refused y))) ∧
  -- a mirror record acts only on a live twin link of a module that does not hold (R513), one that skips a number makes it STALE (R514), and each type sets what R513 names: the pipe's identities, the swap's cycle count, the generator and position of an axis, the light group's values, the twin queue's HEAD and TAIL, the list of claimed entries; a full state clears STALE (R512, R514). Where the spec leaves a corner of this open, what it says is the model's choice (log entries 93, 95).
  (∀ (s : State) (seq : BitVec 32) (p n4 : Fin 4) (id time : BitVec 64) (bank ended : Bool) (count : BitVec 32) (n : Fin 16) (g : Fin 8) (ws : List Word) (i : Fin 64) (head tail idx : BitVec 16) (q : Fin 4096),
    s.mainOn = true →
    let takes := s.flag CAS_TW_CTL_EN = true ∧ s.driving = false ∧ twinLink s = true ∧ isHot s = false
    let gap := ∃ l, s.twin.mirRx = some l ∧ seq.toNat ≠ (l + 1) % 2 ^ 32
    let own := s.fld (CAS_TW_Q_OWN i.val)
    let slot := s.flag (CAS_TW_Q_EN i.val) = true
    let ids := kget (fun _ => []) s.twin.ids p.val ++ [id]
    let others := s.twin.entries.filter (fun e => e != (i.val, idx.toNat))
    let w := fun k : Nat => ws.getD k 0#64
    let effect := fun (c : Instr) (f : State → Prop) => (¬ takes → exec c s = .next s) ∧
      (takes → ∃ y, exec c s = .next y ∧ y.twin.mirRx = some seq.toNat ∧ (gap → y.flag CAS_TW_STAT_STALE = true ∧ y.twin.resync = true) ∧ twState y = twState s ∧ f y)
    effect (.mirrorCommit seq p id time) (fun y => kget (fun _ => []) y.twin.ids p.val = ids.drop (ids.length - 4) ∧ SameRegs s y [CAS_TW_STAT]) ∧
    effect (.mirrorSwap seq n4 bank count) (fun y => kget (fun _ => none) y.twin.swaps n4.val = some count.toNat ∧ SameRegs s y [CAS_TW_STAT]) ∧
    effect (.mirrorAxis seq n ws) (fun y => kget (fun _ => []) y.twin.axPend n.val = ws.take 4 ∧ y.rd (CTL_E_POS (axEnc s n.val)) = BitVec.ofInt 64 (w 4).toInt ∧
      (∀ j t, (axTiles s n.val)[j]? = some t → kget (fun _ => []) y.twin.tilePend t = (ws.drop (5 + 3 * j)).take 3) ∧ (y.twin.axesRun.contains n.val = true ↔ bits (w 3).toNat 32 3 = 1)) ∧
    (∀ t, kget (fun _ => []) s.twin.axPend n.val = ws → ws ≠ [] → let y := genPeriod n.val t s
      (y.axis n.val).p = ofQ32 (w 0).toInt ∧ (y.axis n.val).v = b32 (bits (w 1).toNat 0 32) ∧ (y.axis n.val).a = b32 (bits (w 1).toNat 32 32) ∧ (y.axis n.val).g = ofQ32 (w 2).toInt ∧
      (y.axis n.val).vg = b32 (bits (w 3).toNat 0 32) ∧ kget (fun _ => []) y.twin.axPend n.val = []) ∧
    (kget (fun _ => []) s.twin.tilePend i.val = ws → ws ≠ [] → let y := takeTile i.val s
      y.fld (CTL_T_STAT_ES i.val) = bits (w 0).toNat 0 8 ∧ y.fld (CTL_T_CFG_BANK i.val) = bits (w 0).toNat 8 1 ∧ (y.tile i.val).x.head? = some (sext (bits (w 0).toNat 16 24) 24) ∧
      (y.tile i.val).x.length = 3 ∧ (y.tile i.val).y.length = 3 ∧ kget (fun _ => []) y.twin.tilePend i.val = []) ∧
    effect (.mirrorLight seq g ws) (fun y => SameRegs s y [CAS_TW_STAT] ∧ (y.grp g.val).mir = some ⟨bits (w 0).toNat 0 17,
      if bit (w 0).toNat 34 then some ⟨bits (w 2).toNat 32 17, bits (w 0).toNat 17 17, bits (w 2).toNat 0 32, bit (w 0).toNat 35, (w 1).toNat⟩ else none,
      ((ws.drop 3).map (fun x => (bits x.toNat 0 5, bits x.toNat 8 16, bits x.toNat 24 17))).filter (fun x => decide (x.1 < 24))⟩) ∧
    effect (.mirrorQueue seq i head tail q) (fun y => (slot → q.val = s.fld (CAS_TW_Q_PARTNER i.val) → qHead y own = head.toNat ∧ qTail y own = tail.toNat) ∧
      (slot → q.val ≠ s.fld (CAS_TW_Q_PARTNER i.val) → y.flag CAS_TW_STAT_QMAP_BAD = true ∧ SameRegs s y [CAS_TW_STAT]) ∧ (¬ slot → SameRegs s y [CAS_TW_STAT])) ∧
    effect (.mirrorEntry seq i idx ended) (fun y => (ended = true → y.twin.entries = others) ∧ (ended = false → others.length < 1024 → y.twin.entries = others ++ [(i.val, idx.toNat)]) ∧
      (ended = false → 1024 ≤ others.length → y.twin.entries = s.twin.entries ∧ y.flag CAS_TW_STAT_STALE = true) ∧ SameRegs s y [CAS_TW_STAT]) ∧
    effect (.fullBegin seq) (fun y => y.twin.entries = [] ∧ y.twin.full = true ∧ SameRegs s y [CAS_TW_STAT]) ∧
    effect (.fullEnd seq) (fun y => (¬ gap → s.twin.full = true → s.twin.beyond = false → y.flag CAS_TW_STAT_STALE = false ∧ y.twin.full = false ∧
        y.rdN CAS_TW_RESYNC_CNT = min (s.rdN CAS_TW_RESYNC_CNT + 1) 0xFFFFFFFF) ∧
      (¬ gap → s.twin.full = true → s.twin.beyond = true → y.flag CAS_TW_STAT_STALE = s.flag CAS_TW_STAT_STALE ∧ y.rdN CAS_TW_RESYNC_CNT = min (s.rdN CAS_TW_RESYNC_CNT + 1) 0xFFFFFFFF) ∧
      (gap ∨ s.twin.full = false → SameRegs s y [CAS_TW_STAT])))

/-- HousekeepingAndShutdown: What conversions, rounds and shutdowns do. -/
def Obligations.HousekeepingAndShutdown : Prop :=
  -- a conversion gives its channel its value and its limits are judged, and the next channel follows (R547 to R550); a round moves T_GOV, the ledger and, at T_TRIP, latched shutdown (R545, R547, R553, R574); a slow fan fails (R557); SUSPECT is cleared only after four good checks (R552); a scrub counts what it corrects and what it cannot (R558); a bank of lands that loses its supply is DOWN (R585). Where the spec leaves a corner of this open, what it says is the model's choice (log entries 100, 101).
  (∀ (s : State) (dt t : Nat) (code value r0 r1 r2 r3 mv : BitVec 16) (lag : Fin 64001) (unc : Bool) (f : Fin 4) (i : BitVec 6) (mem : Fin 136) (off : BitVec 21) (v : Fin 8),
    let z := passTime dt s
    let x := s.island
    let k := x.channel
    let off_ := x.privAt ≠ none ∨ s.power.islandUp = false
    let conv := Instr.hkpConversion code value
    let reg := HKP_CH k
    let val : Int := if 115 ≤ k ∧ k ≤ 123 then 0 else if 40 ≤ k ∧ k ≤ 55 then thermTemp code.toNat (s.fld (HKP_TH_NOM (k - 40))) (s.fld (HKP_TH_BETA (k - 40))) else value.toInt
    let raw := if 115 ≤ k ∧ k ≤ 123 then 0 else code.toNat
    let out := sext (s.fld (HKP_LIM_HI k)) 16 < val ∨ val < sext (s.fld (HKP_LIM_LO k)) 16
    let round := Instr.housekeepingRound lag r0 r1 r2 r3
    let tick := fun (y : State) (e : Nat) => y.now = max s.now e
    let slow := kget (fun _ => none) x.fanSlow f.val
    let good := i.toNat < 40 ∧ (kget (fun _ => ({} : SensRec)) x.sens i.toNat).checks = [true, true, true, true]
    let scrub := Instr.sramScrub mem off unc dt
    let still := isLatched s = true ∨ x.privAt ≠ none
    let word := if mem.val < 128 then (mem.val * 131072 + off.toNat / 8 * 8 % 131072) / 8 else ((mem.val - 128) * 2097152 + off.toNat / 8 * 8 % 2097152) / 8
    let down := Instr.bankDown v dt mv
    (off_ ∨ (x.roundAt ≠ none ∧ 2 ≤ k) → exec conv s = .next s) ∧
    (¬ off_ → x.roundAt = none ∨ k < 2 → k < 128 → ∃ y, exec conv s = .next y ∧ tick y (x.convAt + 32000) ∧ y.rdN reg = raw + ofInt val 16 * 65536 ∧ (y.island.limOut.contains k = true ↔ out) ∧
      y.island.channel = (k + 1) % 128 ∧ y.island.convAt = x.convAt + 32000 ∧ y.rdN HKP_ROUND = (if k = 127 then min (s.rdN HKP_ROUND + 1) 0xFFFFFFFF else s.rdN HKP_ROUND) ∧
      y.island.roundAt = (if k = 127 then some (x.convAt + 32000) else x.roundAt) ∧ (40 ≤ k → k ≤ 55 → y.island.thermBad.contains (k - 40) = !thermOk val) ∧
      SameOutsideRings s y [reg, HKP_ROUND, HKP_STAT, NVM_STAT]) ∧
    (off_ ∨ x.roundAt = none → exec round s = .next s) ∧
    (¬ off_ → x.roundAt = some t → ∃ y, exec round s = .next y ∧ tick y (t + lag.val) ∧ y.island.roundAt = none ∧ y.rdN HKP_LEDGER_TIME = (s.rdN HKP_LEDGER_TIME + 4096) % 2 ^ 64 ∧
      y.rdN HKP_T_GOV = ofInt (zoneTemp y (govZone y)) 16 + govZone y * 65536 ∧ (tTrip s ≤ tGov y → isLatched y = true) ∧
      (tTrip s ≤ tGov y → isLatched s = false → y.fld HKP_STAT_CAUSE = 1 ∧ y.island.shutAt = some t)) ∧
    (slow = none ∨ s.flag (HKP_FAN_STAT_FAIL f.val) = true ∨ off_ → exec (.fanFail f) s = .next s) ∧
    (slow = some t → s.flag (HKP_FAN_STAT_FAIL f.val) = false → ¬ off_ → ∃ y, exec (.fanFail f) s = .next y ∧ tick y (t + 2000000000) ∧ y.flag (HKP_FAN_STAT_FAIL f.val) = true ∧
      SameOutsideRings s y [HKP_FAN_STAT f.val]) ∧
    (s.mainOn = true → good → ∃ y, exec (.sensClr i) s = .next y ∧ bit (y.rdN HKP_SUSPECT) i.toNat = false ∧ y.fld HKP_STAT_CMD_STATUS = 0 ∧ SameRegs s y [HKP_SUSPECT, HKP_STAT] ∧ SameBytes s y) ∧
    (s.mainOn = true → ¬ good → ∃ y, exec (.sensClr i) s = .next y ∧ y.fld HKP_STAT_CMD_STATUS = 7 ∧ SameRegs s y [HKP_STAT] ∧ SameBytes s y) ∧ (s.mainOn = false → exec (.sensClr i) s = .next s) ∧
    (still → exec scrub s = .next z) ∧
    (¬ still → unc = true → ∃ y, exec scrub s = .next y ∧ y.rdN HKP_SCRUB_UNCORR_CNT = min (s.rdN HKP_SCRUB_UNCORR_CNT + 1) 0xFFFFFFFF ∧ SameOutsideRings s y [HKP_SCRUB_UNCORR_CNT] ∧
      (if mem.val < 128 then y.island.padBad else y.island.pilBad).contains word = true) ∧
    (¬ still → unc = false → ∃ y, exec scrub s = .next y ∧ y.rdN HKP_SCRUB_CORR_CNT = min (s.rdN HKP_SCRUB_CORR_CNT + 1) 0xFFFFFFFF ∧ SameOutsideRings s y [HKP_SCRUB_CORR_CNT] ∧
      y.island.padBad = x.padBad ∧ y.island.pilBad = x.pilBad) ∧
    (1500 ≤ mv.toNat → exec down s = .next z) ∧
    (mv.toNat < 1500 → ∃ y, exec down s = .next y ∧ y.bankUp v.val = false ∧ (v.val = 6 → s.bankUp 6 = true → y.power.tap = 1) ∧ (s.bankUp v.val = false → y.regs = s.regs))) ∧
  -- 100 us into latched shutdown the stopped clocks lose device memory and take the light engines' links down (R545); a comparator at 125 C shuts the module down privileged, with its Palis and PCI Express links (R546), and a second of cool restarts the island, latched (R546). Where the spec leaves a corner of this open, what it says is the model's choice (log entry 101).
  (∀ (s : State) (dt t : Nat) (n : Fin 10) (temp : BitVec 16),
    let z := passTime dt s
    let stop := Instr.shutdownClockStop
    let priv := Instr.privilegedShutdown n dt temp
    let rests := s.island.privAt ≠ none ∨ s.power.islandUp = false ∨ temp.toInt < 2000
    (s.island.shutAt = none ∨ s.island.clocksOff = true → exec stop s = .next s) ∧
    (s.island.shutAt = some t → s.island.clocksOff = false → ∃ y, exec stop s = .next y ∧ y.now = max s.now (t + 100000) ∧ y.island.clocksOff = true ∧ y.clocked = false ∧ y.dram = [] ∧
      ∀ k, k < 4 → linkStage y k = 0) ∧
    (rests → exec priv s = .next z) ∧
    (¬ rests → ∃ y, exec priv s = .next y ∧ y.island.privAt = some z.now ∧ isLatched y = true ∧ (isLatched s = false → y.fld HKP_STAT_CAUSE = 4) ∧ y.hostIf.linkDown = true ∧
      ∀ k, 4 ≤ k → k < 8 → linkStage y k = 0) ∧
    (s.island.privAt = none → exec (.islandRestart dt) s = .next z) ∧ (s.island.privAt = some t → z.now < t + 1000000000 → exec (.islandRestart dt) s = .next z) ∧
    (s.island.privAt = some t → t + 1000000000 ≤ z.now → ∃ y, exec (.islandRestart dt) s = .next y ∧ y.island.privAt = none ∧ isLatched y = true ∧ y.fld HKP_STAT_CAUSE = s.fld HKP_STAT_CAUSE ∧
      y.geode.op = none ∧ y.rdN NVM_SVN_MIN = s.rdN NVM_SVN_MIN ∧ y.cals = []))

/-- Calibration: a slot or RUN starts the next instance where the target is enabled, the slot is long enough and the preconditions hold, and else rejects it or does nothing (R560, R562); a run's end moves the value and clears STALE, or is rejected, and a MANUAL instance only records its error (R562 to R565); an instance goes STALE with age (R564); a software write sets MANUAL and RELEASE clears it (R565). Where the spec leaves a corner of this open, what it says is the model's choice (log entry 97). -/
def Obligations.Calibration : Prop :=
  ∀ (s : State) (n : Fin 4) (m : Fin 48) (t : Fin 10) (i : Fin 64) (d : Placed) (j age0 wd : Nat) (which : Fin 4) (r : CalRun) (v err res val : BitVec 32) (ok broken : Bool), s.mainOn = true →
    let slot := Instr.calSlot n ok
    let fires := FiresNext s n.val 9 d
    let here := fires ∧ d.pin.target = t.val ∧ 1 ≤ t.val ∧ t.val ≤ 8
    let f := settleLight (fire n.val 9 s).2
    let len := d.pin.arg % 2 ^ 32
    let at_ := d.placed + 40
    let enabled := s.flag (CAL_T_CTL_EN t.val) = true
    let idle := (s.cal t.val).run = none
    let meets := fun (x : State) (a b : Nat) => calPre x t.val j ok = true ∧ lineNeeded x t.val j a b = false
    let run := Instr.calRun t ok
    let done := Instr.calRunDone t broken err res val
    let stat := fun (st inst reason running : Nat) => pack [(0, 8, st), (8, 6, inst), (16, 4, reason), (20, 1, running)]
    let rejected := fun (x : State) (c : Instr) (k reason : Nat) => ∃ y, exec c s = .next y ∧ (y.cal t.val).run = none ∧ y.rdN (CAL_T_STAT t.val) = stat 7 k reason 0 ∧
      y.rdN (CAL_T_REJECT_CNT t.val) = min (x.rdN (CAL_T_REJECT_CNT t.val) + 1) 0xFFFFFFFF ∧ (k < 64 → calManual x t.val k = false → calStale y t.val k = true)
    let started := fun (c : Instr) (k a b : Nat) => ∃ y, exec c s = .next y ∧ (y.cal t.val).last = some k ∧ (∃ r, (y.cal t.val).run = some r ∧ r.inst = k ∧ r.openAt = a ∧ r.closeAt = b) ∧
      y.rdN (CAL_T_STAT t.val) = stat 0 k 0 1
    let commanded := [3, 6, 7, 8].contains t.val = true ∧ enabled ∧ calNext s t.val ≠ none ∧ isLatched s = false
    let low := fun (st : Nat) => ∃ y, exec run s = .next y ∧ y.fld ⟨CAL_T_STAT t.val, 0, 8⟩ = st ∧ SameRegs s y [CAL_T_STAT t.val] ∧ y.cals = s.cals
    let w := settleLight (passTime (ceilDiv r.closeAt 4 - s.now) s)
    let ends := (s.cal t.val).run = some r ∧ (w.cal t.val).run ≠ none ∧ r.inst < 64
    let fails := broken = true ∨ calPre w t.val r.inst true = false
    let manual := calManual w t.val r.inst = true
    let ages := ∃ u, (s.calInst t.val i.val).lastOk = some u ∧ calStale s t.val i.val = false ∧ calManual s t.val i.val = false ∧ i.val < calCount t.val ∧ t.val ≠ 0
    let at0 := 4 * s.now
    let until_ := at0 + 4 * calDur t.val
    (fires → d.pin.target = 0 ∨ 9 ≤ d.pin.target → ∃ y, exec slot s = .next y ∧ y.cals = s.cals ∧ (s.rdN (PHS_TB_BIND_MISS_CNT n.val) < 0xFFFFFFFF → y.rdN (PHS_TB_BIND_MISS_CNT n.val) = s.rdN (PHS_TB_BIND_MISS_CNT n.val) + 1)) ∧
    (here → ¬ enabled ∨ calNext s t.val = none → ∃ y, exec slot s = .next y ∧ y.cals = s.cals ∧ y.rdN (CAL_T_STAT t.val) = s.rdN (CAL_T_STAT t.val)) ∧
    (here → enabled → calNext s t.val ≠ none → ¬ idle → ∃ y, exec slot s = .next y ∧ y.cals = s.cals ∧ (s.rdN (PHS_TB_CONFLICT_CNT n.val) < 0xFFFFFFFF → y.rdN (PHS_TB_CONFLICT_CNT n.val) = s.rdN (PHS_TB_CONFLICT_CNT n.val) + 1)) ∧
    (here → enabled → calNext s t.val = some j → idle →
      (len < calDur t.val → rejected s slot j 3) ∧ (calDur t.val ≤ len → ¬ meets f at_ (at_ + 4 * len) → rejected s slot j 1) ∧
      (calDur t.val ≤ len → meets f at_ (at_ + 4 * len) → started slot j at_ (at_ + 4 * len))) ∧
    (t.val = 0 → exec run s = .next s) ∧ (t.val ≠ 0 → ¬ commanded → low 7) ∧ (commanded → ¬ idle → low 4) ∧
    (commanded → idle → calNext s t.val = some j → (¬ meets (settleLight s) at0 until_ → rejected s run j 1) ∧ (meets (settleLight s) at0 until_ → started run j at0 until_)) ∧
    (idle → exec done s = .next s) ∧
    ((s.cal t.val).run = some r → (w.cal t.val).run = none → exec done s = .next w) ∧
    (ends → fails → rejected w done r.inst 2) ∧
    (ends → ¬ fails → manual → ∃ y, exec done s = .next y ∧ (y.cal t.val).run = none ∧ y.rdN (CAL_T_STAT t.val) = stat 0 r.inst 0 0 ∧ (y.calInst t.val r.inst).err = err.toInt ∧ SameRegs w y [CAL_T_STAT t.val]) ∧
    (ends → ¬ fails → ¬ manual → match calCorrect t.val r.inst err.toInt val.toNat w with
      | none => rejected w done r.inst 5
      | some _ => if res.toInt.natAbs ≤ w.fld (CAL_T_TOL_RES_TOL t.val) then ∃ y, exec done s = .next y ∧ (y.cal t.val).run = none ∧ y.rdN (CAL_T_STAT t.val) = stat 0 r.inst 0 0 ∧
          (y.calInst t.val r.inst).lastOk = some r.start ∧ (y.calInst t.val r.inst).err = res.toInt ∧ (y.calInst t.val r.inst).count = min ((w.calInst t.val r.inst).count + 1) 0xFFFFFFFF ∧
          calStale y t.val r.inst = false
        else rejected w done r.inst 4) ∧
    (¬ ages → exec (.calStale t i) s = .next s) ∧
    (ages → ∃ y, exec (.calStale t i) s = .next y ∧ calStale y t.val i.val = true ∧ SameOutsideRings s y [CAL_T_STALE t.val] ∧
      y.now = s.now + untilShow s ((s.calInst t.val i.val).lastOk.getD 0 + s.rdN (CAL_T_VALID t.val) % 2 ^ 24 * 1000000 + 1)) ∧
    (s.clocked = false ∨ manualReg which.val m.val = none → exec (.calManualWrite which m v) s = .next s) ∧
    (s.clocked = true → manualReg which.val m.val = some (age0, j, wd) → ∃ y, exec (.calManualWrite which m v) s = .next y ∧ y.rdN age0 = v.toNat % 2 ^ wd ∧ calManual y j m.val = true ∧
      calStale y j m.val = false ∧ SameRegs s y [age0, CAL_T_MANUAL j, CAL_T_STALE j] ∧ SameBytes s y) ∧
    (t.val = 0 ∨ calManual s t.val i.val = false → exec (.calRelease t i) s = .next s) ∧
    (t.val ≠ 0 → calManual s t.val i.val = true → ∃ y, exec (.calRelease t i) s = .next y ∧ calManual y t.val i.val = false ∧ calStale y t.val i.val = true ∧
      SameRegs s y [CAL_T_MANUAL t.val, CAL_T_STALE t.val] ∧ SameBytes s y)

/-- Geode: What the commands of the geode and its page programs and reads do. -/
def Obligations.Geode : Prop :=
  -- a command is refused PRECOND under latched shutdown and BUSY while one runs (R545, R572); WRITE, READ, LOG_APPEND, LOG_READ, LEDGER_SAVE and SVN_BUMP are refused as R570 to R573 and R575 say, and else begin, or for SVN_BUMP raise NVM_SVN_MIN; the ledger is written every 15 minutes with the window open (R575). Where the spec leaves a corner of this open, what it says is the model's choice (log entries 105, 106).
  (∀ (s : State) (o : Fin 16),
    let on := s.mainOn = true
    let refused := fun (i : Instr) (st : Nat) => ∃ y, exec i s = .next y ∧ y.fld NVM_STAT_STATUS = st ∧ y.geode = s.geode ∧ SameRegs s y [NVM_STAT] ∧ SameBytes s y
    let turned := fun (i : Instr) (st : Nat) => ∃ y, exec i s = .next y ∧ y.fld NVM_STAT_STATUS = st ∧ y.geode = s.geode ∧ SameOutsideRings s y [NVM_STAT]
    let begun := fun (i : Instr) (p : NvmOp → Prop) => ∃ y x, exec i s = .next y ∧ y.flag NVM_STAT_BUSY = true ∧ y.geode.op = some x ∧ p x ∧ x.at_ = y.now ∧ y.store = s.store ∧
      SameOutsideRings s y [NVM_STAT, NVM_DONE]
    let len := s.rdN NVM_LEN
    let free := on ∧ isLatched s = false ∧ s.geode.op = none
    let bad := fun n : Nat => s.rdN NVM_ADDR % 8 ≠ 0 ∨ 2 ^ 32 < s.rdN NVM_ADDR + n
    let data := readMem s.dram (s.rdN NVM_ADDR) len
    let hurt := rangeBad s (s.rdN NVM_ADDR) len = true
    let opened := windowOpen s = true
    let write := Instr.nvmWrite o
    let known := o.val ≠ 0 ∧ o.val ≤ 6
    let fits := known ∧ len ≤ (objPages o.val - 2) * 4096 ∧ ¬ bad len
    let writes := begun write (fun x => x.op = 1 ∧ x.obj = o.val ∧ x.data = data ∧ x.step = 0 ∧ x.asked = true ∧ x.slot = ((newestSlot s o.val).map (fun n => 1 - n.1)).getD 0 ∧
      x.seq = ((newestSlot s o.val).map (fun n => (n.2.seq + 1) % 2 ^ 64)).getD 1)
    let seq := s.rdN NVM_LOG_SEQ
    let saves := Instr.ledgerPeriodicSave
    let may := islandRuns s = true ∧ s.geode.op = none
    let w := passTime (s.geode.savedAt + 900000000000 - s.now) s
    (∀ i ∈ [write, .nvmRead o, .logAppend, .logRead, .ledgerSave, .svnBump], (¬ on → exec i s = .next s) ∧ (on → isLatched s = true → refused i 7) ∧ (on → isLatched s = false → s.geode.op ≠ none → refused i 4)) ∧
    (free → o.val = 1 ∨ o.val = 5 → refused write 13) ∧ (free → o.val ≠ 1 → o.val ≠ 5 → ¬ fits → refused write 12) ∧
    (free → o.val ≠ 1 → o.val ≠ 5 → fits → ¬ opened → refused write 7) ∧ (free → o.val ≠ 1 → o.val ≠ 5 → fits → opened → hurt → turned write 5) ∧
    (free → o.val ≠ 1 → o.val ≠ 5 → o.val ≠ 2 → fits → opened → ¬ hurt → writes) ∧
    (free → o.val = 2 → fits → opened → ¬ hurt → if verifyImage s (data.take 512) (data.drop 512) = 0 then writes
      else turned write 13) ∧
    (free → ¬ known → refused (.nvmRead o) 12) ∧
    (free → known → match newestSlot s o.val with
      | none => refused (.nvmRead o) 7
      | some n => if len < n.2.len ∨ bad n.2.len then refused (.nvmRead o) 12
        else begun (.nvmRead o) (fun x => x.op = 2 ∧ x.obj = o.val ∧ x.slot = n.1 ∧ x.addr = s.rdN NVM_ADDR ∧ x.len = len)) ∧
    (free → len = 0 ∨ 4064 < len ∨ bad len → refused .logAppend 12) ∧ (free → len ≠ 0 → len ≤ 4064 → ¬ bad len → hurt → turned .logAppend 5) ∧
    (free → len ≠ 0 → len ≤ 4064 → ¬ bad len → ¬ hurt → blocksOk 4064 data = false → turned .logAppend 12) ∧
    (free → len ≠ 0 → len ≤ 4064 → ¬ bad len → ¬ hurt → blocksOk 4064 data = true → ¬ opened → refused .logAppend 7) ∧
    (free → len ≠ 0 → len ≤ 4064 → ¬ bad len → ¬ hurt → blocksOk 4064 data = true → opened → begun .logAppend (fun x => x.op = 3 ∧ x.data = data ∧ x.seq = s.rdN NVM_LOG_NEXT)) ∧
    (free → match logAt s (logPage seq) with
      | none => refused .logRead 7
      | some e => if e.1 ≠ seq then refused .logRead 7 else if len < e.2.length ∨ bad e.2.length then refused .logRead 12
        else begun .logRead (fun x => x.op = 4 ∧ x.seq = seq ∧ x.addr = s.rdN NVM_ADDR ∧ x.len = len)) ∧
    (free → opened → begun .ledgerSave (fun x => x.op = 5 ∧ x.obj = 5 ∧ x.asked = true)) ∧ (free → ¬ opened → refused .ledgerSave 7) ∧
    (free → s.power.svn = none → refused .svnBump 7) ∧
    (∀ v, free → s.power.svn = some v → ∃ y, exec .svnBump s = .next y ∧ y.fld NVM_STAT_STATUS = 0 ∧ y.rdN NVM_SVN_MIN = max (s.rdN NVM_SVN_MIN) v % 2 ^ 64 ∧ SameRegs s y [NVM_STAT, NVM_SVN_MIN]) ∧
    (may → opened → begun saves (fun x => x.op = 5 ∧ x.obj = 5 ∧ x.asked = false ∧ x.at_ = w.now)) ∧ (may → ¬ opened → exec saves s = .next w) ∧ (¬ may → exec saves s = .next s)) ∧
  -- a page of a write is programmed, and the write goes on, ends with its commit page, is cut where the window has closed, or fails where the payload misreads (R570, R571); a log page is programmed and becomes the newest (R572); a read ends with the copy in device memory, or falls back to the other slot, or fails (R572). Where the spec leaves a corner of this open, what it says is the model's choice (log entries 40, 105, 106).
  (∀ (s : State) (lag j : Nat) (misread : Bool) (o : NvmOp), s.geode.due = false →
    let page := Instr.nvmPageDone lag misread
    let read := Instr.nvmReadDone lag misread
    let n := dataPages o
    let ready := islandRuns s = true ∧ s.geode.op = some o
    let reads := ready ∧ s.clocked = true
    let takes := fun (y : State) (most : Nat) => y.now = max s.now (o.at_ + min lag most)
    let writes := ready ∧ (o.op = 1 ∨ o.op = 5)
    let z := passTime (o.at_ + min lag (programMost o) - s.now) s
    let bytes := if o.step = 0 then headerBytes o else if o.step ≤ n then (o.data.drop ((o.step - 1) * 4096)).take 4096 else commitBytes o z.showTime
    let log := logBytes o.seq o.data (crc32 (logBytes o.seq o.data 0))
    let holds := fun (y : State) (p : Nat) (bs : List Byte) => j < 4096 → storeByte y (p * 4096 + j) = bs.getD j 0#8
    let opened := o.closed = false ∧ windowOpen s = true
    let ended := fun y : State => y.geode.op = none ∧ y.flag NVM_STAT_BUSY = false
    let answers := fun (y : State) (st : Nat) => ended y ∧ (o.asked = true → y.fld NVM_STAT_STATUS = st)
    let copied := fun (bs : List Byte) (seq : Nat) => ∃ y, exec read s = .next y ∧ takes y (50000 * readPages s o) ∧ ended y ∧ y.fld NVM_STAT_STATUS = 0 ∧ y.dram = writeMem s.dram o.addr bs ∧
      y.rdN NVM_DONE = bs.length % 2 ^ 64 ∧ y.rdN NVM_SEQ = seq % 2 ^ 64
    let failed := fun (st : Nat) => ∃ y, exec read s = .next y ∧ ended y ∧ y.fld NVM_STAT_STATUS = st ∧ y.dram = s.dram
    (islandRuns s = false → exec page s = .next s ∧ exec read s = .next s) ∧ (s.clocked = false → exec read s = .next s) ∧
    (s.geode.op = none → exec page s = .next s ∧ exec read s = .next s) ∧
    (s.geode.op = some o → o.op ≠ 1 → o.op ≠ 5 → o.op ≠ 3 → exec page s = .next s) ∧ (s.geode.op = some o → o.op ≠ 2 → o.op ≠ 4 → exec read s = .next s) ∧
    (writes → o.step ≤ n → opened → ¬ (o.step = n ∧ misread = true) → ∃ y, exec page s = .next y ∧ takes y (programMost o) ∧ holds y (slotPage o.obj o.slot + o.step) bytes ∧
      y.geode.op = some { o with step := o.step + 1, at_ := y.now }) ∧
    (writes → o.step = n → opened → misread = true → ∃ y, exec page s = .next y ∧ holds y (slotPage o.obj o.slot + o.step) bytes ∧ answers y 5) ∧
    (writes → o.step ≤ n → windowOpen s = false → ∃ y, exec page s = .next y ∧ holds y (slotPage o.obj o.slot + o.step) bytes ∧ answers y 7 ∧
      (o.asked = true → y.flag NVM_STAT_CUT = true)) ∧
    (writes → o.step = n + 1 → o.led = none → ∃ y, exec page s = .next y ∧ takes y (programMost o) ∧ holds y (slotPage o.obj o.slot + o.step) bytes ∧ answers y 0 ∧
      (o.asked = true → y.rdN NVM_SEQ = o.seq % 2 ^ 64)) ∧
    (ready → o.op = 3 → ∃ y, exec page s = .next y ∧ takes y 400000 ∧ holds y (logPage o.seq) log ∧ ended y ∧ y.fld NVM_STAT_STATUS = 0 ∧ y.rdN NVM_LOG_SEQ = o.seq % 2 ^ 64) ∧
    (reads → o.op = 4 → match logAt s (logPage o.seq) with
      | none => failed 7
      | some e => if misread then failed 5 else copied e.2 o.seq) ∧
    (reads → o.op = 2 → match if misread then none else slotValid s o.obj o.slot with
      | some h => copied (storeRead s (slotPage o.obj o.slot + 1) 0 h.len) h.seq
      | none => match if s.flag NVM_STAT_FALLBACK then none else slotValid s o.obj (1 - o.slot) with
        | none => failed 7
        | some h => ∃ y, exec read s = .next y ∧ y.flag NVM_STAT_FALLBACK = true ∧
          if o.len < h.len ∨ 2 ^ 32 < o.addr + h.len then ended y ∧ y.fld NVM_STAT_STATUS = 12 else y.geode.op = some { o with slot := 1 - o.slot, seq := h.seq, at_ := y.now }))

/-- PowerAndResets: What supplies, boot, warm resets and test-access instructions do. -/
def Obligations.PowerAndResets : Prop :=
  -- VIN_PF closes the write window (R588); a brown-out cause takes the main die down with RST_CAUSE saying which (R589, R591, R593); power-up resumes after its wait (R589); VIN_ISL stops the island (R588), and power returns through POWER_ON_RESET (R592, R595) and a good REFCLK (R596). Where the spec leaves a corner of this open, what it says is the model's choice (log entries 107, 108).
  (∀ (s : State) (dt t : Nat) (khz : BitVec 24),
    let z := passTime dt s
    let up := s.power.mainUp = true
    let down := fun (i : Instr) (cause : Nat) => ∃ y, exec i s = .next y ∧ y.power.mainUp = false ∧ y.mainOn = false ∧ y.rdN DBG_RST_CAUSE = cause ∧ y.power.pwrgd = false ∧ y.power.offAt = some z.now ∧
      y.power.offCause = cause ∧ y.dram = [] ∧ y.store = s.store ∧ y.geode.slots = s.geode.slots ∧ y.threads = [] ∧ y.rdN DBG_VIO_STAT = s.rdN DBG_VIO_STAT
    let wait := if s.power.offCause = 4 then 100000000 else 1000000
    let w := passTime (max dt (t + wait - s.now)) s
    let resumes := ¬ up ∧ islandRuns s = true ∧ isLatched s = false ∧ ¬ (s.power.offCause = 4 ∧ 3 ≤ s.power.rails)
    let present := 98000 ≤ khz.toNat ∧ khz.toNat ≤ 102000
    let starts := isLatched s = false ∧ islandRuns s = true ∧ s.island.stepped = true
    let ref := Instr.refclkPresent dt khz
    (∃ y, exec (.vinPf dt) s = .next y ∧ y.flag HKP_STAT_WINDOW = false ∧ y.flag NVM_STAT_WINDOW = false ∧ y.island.vinLow = true ∧ SameRegs s y [HKP_STAT, NVM_STAT]) ∧
    (up → down (.brownOut dt) 2 ∧ down (.overvolt dt) 3 ∧ down (.railFault dt) 4 ∧ down (.refclkLoss dt) 5) ∧
    (¬ up → exec (.refclkLoss dt) s = .next z) ∧
    (¬ up → s.power.refWait = false → exec (.overvolt dt) s = .next z ∧ exec (.railFault dt) s = .next z ∧ ∃ y, exec (.brownOut dt) s = .next y ∧ y.power = s.power ∧ y.island.vinLow = true) ∧
    (¬ up → s.power.refWait = true → (∃ y, exec (.overvolt dt) s = .next y ∧ y.power.refWait = false ∧ y.power.offCause = 3 ∧ y.regs = s.regs) ∧
      (∃ y, exec (.railFault dt) s = .next y ∧ y.power.refWait = false ∧ y.power.offCause = 4 ∧ y.power.rails = s.power.rails + 1) ∧
      ∃ y, exec (.brownOut dt) s = .next y ∧ y.power.refWait = false ∧ y.power.offCause = 2) ∧
    (s.power.offAt = none → exec (.brownoutRecovery dt) s = .next z) ∧ (s.power.offAt = some t → ¬ resumes → exec (.brownoutRecovery dt) s = .next w) ∧
    (s.power.offAt = some t → resumes → ∃ y, exec (.brownoutRecovery dt) s = .next y ∧ y.power.refWait = true ∧ y.power.offAt = none ∧ y.now = w.now ∧ y.power.bootFrom = y.now ∧ y.regs = s.regs) ∧
    (∃ y, exec (.islandStop dt) s = .next y ∧ y.power.islandUp = false ∧ y.power.mainUp = false ∧ y.power.refWait = false ∧ y.geode.op = none) ∧
    (s.power.islandUp = true → exec (.powerOnReset dt) s = .next z) ∧
    (s.power.islandUp = false → ∃ y, exec (.powerOnReset dt) s = .next y ∧ y.power.islandUp = true ∧ y.power.mainUp = false ∧ y.power.refWait = true ∧ y.store = s.store ∧ y.dram = [] ∧
      y.rdN NVM_SVN_MIN = s.rdN NVM_SVN_MIN ∧ isLatched y = false ∧ y.pending = s.pending ∧ y.island.convAt = z.now ∧ y.island.channel = 0) ∧
    (s.power.refWait = false → exec ref s = .next z) ∧
    (s.power.refWait = true → ∃ y, exec ref s = .next y ∧ (y.flag DBG_REFCLK_PRESENT = true ↔ present) ∧ y.rdN DBG_REFCLK / 256 = khz.toNat ∧
      (present → starts → y.power.mainUp = true ∧ y.power.pwrgd = true ∧ y.power.refWait = false ∧ y.power.booted = false ∧ y.fld DBG_BOOT_STAT_STATE = 1) ∧
      (¬ present ∨ ¬ starts → y.power = s.power ∧ SameRegs s y [DBG_REFCLK]))) ∧
  -- the newest valid FIRMWARE slot that verifies boots, else the other with FALLBACK, else the module enters RECOVERY with each slot's reason (R597 to R599); GO in RECOVERY starts an image that verifies, and else answers why it does not (R599). Where the spec leaves a corner of this open, what it says is the model's choice (log entry 107).
  (∀ (s : State) (dt : Nat) (misA misB : Bool), s.mainOn = true →
    let z := passTime dt s
    let boot := Instr.bootReadDone dt misA misB
    let go := Instr.rcvGo dt
    let st := s.fld DBG_BOOT_STAT_STATE
    let rests := s.power.booted = true ∨ st = 3
    let mis := fun sl : Nat => if sl = 0 then misA else misB
    let runs := fun (y : State) => y.power.booted = true ∧ y.fld DBG_BOOT_STAT_STATE = 2 ∧ thState y 0 = 1 ∧ y.flag (ENG_B_T_CFG_PRIV 0 0) = true ∧ y.fld (ENG_B_T_CFG_TPRI 0 0) = 3
    let recovers := fun y : State => y.fld DBG_BOOT_STAT_STATE = 3 ∧ y.power.booted = false
    let len := s.rdN DBG_RCV_LEN
    let hdr := (List.range 128).flatMap (fun k => leBytes 4 (s.rdN (DBG_RCV_HDR k)))
    let why := verifyImage s hdr (readMem s.pilMem 0 len)
    let refused := fun c : Nat => ∃ y, exec go s = .next y ∧ y.rdN DBG_RCV_STAT = c ∧ SameRegs s y [DBG_RCV_STAT] ∧ SameBytes s y
    (rests → exec boot s = .next z) ∧
    (¬ rests → match newestSlot s 2 with
      | none => ∃ y, exec boot s = .next y ∧ recovers y ∧ y.fld DBG_BOOT_STAT_REASON_A = 7 ∧ y.fld DBG_BOOT_STAT_REASON_B = 7
      | some n =>
        let c := (bootCheck s n.1 (mis n.1)).1
        let d := (bootCheck s (1 - n.1) (mis (1 - n.1))).1
        ∃ y, exec boot s = .next y ∧ (c ≠ 0 → y.fld (reasonFld n.1) = c) ∧
          if c = 0 then runs y ∧ y.fld DBG_BOOT_STAT_SLOT = n.1
          else if d = 0 then runs y ∧ y.fld DBG_BOOT_STAT_SLOT = 1 - n.1 ∧ y.flag DBG_BOOT_STAT_FALLBACK = true
          else recovers y ∧ y.fld (reasonFld (1 - n.1)) = d) ∧
    (st ≠ 3 → refused 7) ∧ (st = 3 → 2 ^ 24 < len → refused 12) ∧
    (st = 3 → len ≤ 2 ^ 24 → ∃ y, exec go s = .next y ∧ if why = 0 then runs y ∧ y.flag DBG_BOOT_STAT_RECOVERED = true ∧ y.rdN DBG_RCV_STAT = 0
      else y.rdN DBG_RCV_STAT = 13 + why * 256 ∧ y.fld DBG_BOOT_STAT_STATE = 3)) ∧
  -- RESET_N and the key to RST_CMD warm-reset a module that is up and not latched, with the cause and count of R592 and R594, and a running warm reset is only extended; its release resumes the boot (R594). Where the spec leaves a corner of this open, what it says is the model's choice (log entries 107, 115).
  (∀ (s : State) (dt : Nat) (v : BitVec 32),
    let z := passTime dt s
    let low := Instr.warmReset dt
    let cmd := Instr.rstCmd v
    let takes := isLatched s = false ∧ s.power.mainUp = true
    let key := v.toNat = 0x5741524D
    let resets := fun (i : Instr) (x : State) (k : WarmKind) (cause : Nat) => ∃ y, exec i s = .next y ∧ y.power.warm = some k ∧ y.power.warmAt = x.now ∧ y.mainOn = false ∧ y.rdN DBG_RST_CAUSE = cause ∧
      y.rdN DBG_RST_CNT = min (s.rdN DBG_RST_CNT + 1) 0xFFFFFFFF ∧ y.threads = [] ∧ y.store = s.store ∧ y.showAcc = x.showAcc ∧ y.rdN DBG_VIO_STAT = s.rdN DBG_VIO_STAT ∧ y.rdN GLB_FN_EN = s.rdN GLB_FN_EN
    let out := fun (y : State) => y.power.warm = none ∧ y.power.mainUp = true ∧ y.power.booted = false ∧ y.fld DBG_BOOT_STAT_STATE = 1
    let ends := s.power.warm = some .pin ∨ s.power.warm = some .soft
    (s.bankUp 0 = true → takes → s.power.warm = none → resets low z .pin 6) ∧
    (s.bankUp 0 = true → takes → s.power.warm ≠ none → ∃ y, exec low s = .next y ∧ y.power.warm = some .pin ∧ y.power.warmAt = z.now ∧ y.regs = s.regs) ∧
    (s.bankUp 0 = false ∨ ¬ takes → exec low s = .next z) ∧
    (s.mainOn = true → key → isLatched s = false → resets cmd s .soft 7) ∧ (s.mainOn = false ∨ ¬ key ∨ isLatched s = true → exec cmd s = .next s) ∧
    (ends → ∃ y, exec (.warmResetRelease dt) s = .next y ∧ out y ∧ y.now = if s.power.warm = some .pin then s.now + max dt (s.power.warmAt + 50000 - s.now) else max s.now (s.power.warmAt + 100000)) ∧ (¬ ends → exec (.warmResetRelease dt) s = .next z)) ∧
  -- each TAP instruction loads where bank 6 is UP (R585, R610); EXTEST, HIGHZ and CLAMP put the module into a warm reset that the next other instruction ends, and act as BYPASS once JTAG_LOCK is set (R610, R611); JTAG_LOCK sets (R611). Where the spec leaves a corner of this open, what it says is the model's choice (log entry 109).
  (∀ (s : State),
    let lock := s.flag DBG_CTL_JTAG_LOCK = true
    let on := s.bankUp 6 = true
    let tests : List (Instr × Nat) := [(.extest, 0x00), (.highz, 0x04), (.clamp, 0x05)]
    let others : List (Instr × Nat) := [(.idcode, 0x01), (.samplePreload, 0x02), (.dbgAccess, 0x20), (.bypass, 0xFF)]
    let loads := fun (i : Instr) (c : Nat) => ∃ y, exec i s = .next y ∧ y.power.tap = c ∧ (s.power.warm ≠ some .test → y.regs = s.regs ∧ y.power = { s.power with tap := c }) ∧
      (s.power.warm = some .test → y.power.warm = none ∧ y.power.mainUp = true ∧ y.fld DBG_BOOT_STAT_STATE = 1)
    (¬ on → ∀ e ∈ tests ++ others, exec e.1 s = .next s) ∧ (on → ∀ e ∈ others, loads e.1 e.2) ∧ (on → lock → ∀ e ∈ tests, loads e.1 0xFF) ∧
    (on → ¬ lock → ∀ e ∈ tests, ∃ y, exec e.1 s = .next y ∧ y.power.tap = e.2 ∧
      (isLatched s = true ∨ s.power.mainUp = false → y.regs = s.regs ∧ y.power.warm = s.power.warm) ∧ (isLatched s = false → s.power.mainUp = true → y.power.warm = some .test) ∧
      (s.mainOn = true → isLatched s = false → y.mainOn = false ∧ y.rdN DBG_RST_CAUSE = 8 ∧ y.rdN DBG_RST_CNT = min (s.rdN DBG_RST_CNT + 1) 0xFFFFFFFF)) ∧
    (s.mainOn = true → ∃ y, exec .jtagLock s = .next y ∧ y.flag DBG_CTL_JTAG_LOCK = true ∧ SameRegs s y [DBG_CTL] ∧ SameBytes s y) ∧ (s.mainOn = false → exec .jtagLock s = .next s))

/-- StepTakesFront: a step runs the command at the front of the queue on the state with the queue's rest; with an empty queue a nanosecond passes (the model's choice, log entry 6). -/
def Obligations.StepTakesFront : Prop :=
  (∀ (s : State) (c : Instr) (rest : List Instr), s.pending = c :: rest → step s = exec c { s with pending := rest }) ∧
    ∀ s : State, s.pending = [] → step s = .next (passTime 1 s)

/-- ResetValues: after reset no command waits and every memory is in its canonical form with nothing listed; the registers the spec gives a reset value hold it. Where the spec leaves a corner of this open, what it says is the model's choice (log entries 1, 2, 3). -/
def Obligations.ResetValues : Prop :=
  State.reset.pending = [] ∧ MemoriesWf State.reset ∧ State.reset.regs = [] ∧
    State.reset.rdN (PHS_TB_WIN 3) = 1000 ∧ State.reset.rdN (SEQ_P_TOL 1) = 0xFFFFFFFF ∧ State.reset.rdN (PIX_P_PEAK 2) = 1000 ∧ State.reset.rdN (LDR_S_SW 23) = 0x282800C8 ∧
    State.reset.rdN (CTL_A_NPER 15) = 1000 ∧ State.reset.rdN MEM_CTL = 3 ∧ State.reset.rdN HKP_STAT = 0 ∧ State.reset.rdN DBG_BOOT_STAT = 0 ∧ State.reset.rdN CAS_HOPS = 255

/-- EveryCommandCompletes: whatever the command and the state, exec answers a next state, in which the queue stands as it was and time has not run back. Where the spec leaves a corner of this open, what it says is the model's choice (log entry 6). -/
def Obligations.EveryCommandCompletes : Prop :=
  ∀ (c : Instr) (s : State), ∃ t, exec c s = .next t ∧ t.pending = s.pending ∧ s.now ≤ t.now

/-- StepKeepsMemories: a step from a state whose memories are in canonical form leads to one whose memories are. -/
def Obligations.StepKeepsMemories : Prop :=
  ∀ s t : State, MemoriesWf s → step s = .next t → MemoriesWf t

/-- DecodeAndEncodeAgree: Decoding an instruction's word gives it back, and a decoded instruction has that word alone. -/
def Obligations.DecodeAndEncodeAgree : Prop :=
  -- a well-formed instruction's word has 32 bits, and decoding it for some thread and finding gives the instruction back. Where the spec leaves a corner of this open, what it says is the model's choice (log entries 31, 32).
  (∀ (i : Instr) (w : Nat), wellFormed i = true → encodeW i = some w → w < 2 ^ 32 ∧ ∃ b t x, decodeW b t x w = some i) ∧
  -- an instruction decoded from a word of 32 bits is well formed and has that word alone. Where the spec leaves a corner of this open, what it says is the model's choice (log entries 31, 32).
  (∀ (b : Fin 128) (t : Fin 4) (x : Fin 5) (w : Nat) (i : Instr), w < 2 ^ 32 → decodeW b t x w = some i → wellFormed i = true ∧ encodeW i = some w)

/-- WorkedWords: the words of the manual's worked program decode to the instructions it writes beside them, and a word of class 0xF to none (R311). -/
def Obligations.WorkedWords : Prop :=
  decodeW 0 0 0 0xD0800000 = some (.wPhread 0 0 2 0) ∧ decodeW 0 0 0 0x2050C6A7 = some (.wConstSet 0 0 1 1 0xC6A7) ∧ decodeW 0 0 0 0x2044EF9E = some (.wConstIns 0 0 1 0 0xEF9E) ∧
    decodeW 0 0 0 0x10C21420 = some (.wShri 0 0 3 2 32) ∧ decodeW 0 0 0 0x00C30403 = some (.wOr 0 0 3 3 1) ∧ decodeW 0 0 0 0x50430804 = some (.wLtu 0 0 1 3 2) ∧
    decodeW 0 0 0 0x01440019 = some (.wSelp 0 0 5 4 0 1) ∧ decodeW 0 0 0 0xD1800C01 = some (.wPhwait 0 0 6 0 3) ∧ decodeW 0 0 0 0xD1C02002 = some (.wPinpost 0 0 7 0 8) ∧
    decodeW 0 0 0 0x603FFFFD = some (.wB 0 0 0 false 0x3FFFFD) ∧ decodeW 0 0 0 0xF0000000 = none
end

