-- ==== Sys2Proof/Laws/State.lean ====
section
/-! SUPPORT. Laws/State.lean: what each update of the state leaves as it was, field by field, and what it reads back. -/

namespace Sys2Proof.Machine

/-! ### State.wr -/

@[simp] theorem State.wr_pending (s : State) (r : Nat) (v : Word) : (s.wr r v).pending = s.pending := rfl
@[simp] theorem State.wr_now (s : State) (r : Nat) (v : Word) : (s.wr r v).now = s.now := rfl
@[simp] theorem State.wr_showAcc (s : State) (r : Nat) (v : Word) : (s.wr r v).showAcc = s.showAcc := rfl
@[simp] theorem State.wr_heldLow (s : State) (r : Nat) (v : Word) : (s.wr r v).heldLow = s.heldLow := rfl
@[simp] theorem State.wr_latchedHi (s : State) (r : Nat) (v : Word) : (s.wr r v).latchedHi = s.latchedHi := rfl
@[simp] theorem State.wr_lastRead (s : State) (r : Nat) (v : Word) : (s.wr r v).lastRead = s.lastRead := rfl
@[simp] theorem State.wr_freeCtr (s : State) (r : Nat) (v : Word) : (s.wr r v).freeCtr = s.freeCtr := rfl
@[simp] theorem State.wr_dram (s : State) (r : Nat) (v : Word) : (s.wr r v).dram = s.dram := rfl
@[simp] theorem State.wr_host (s : State) (r : Nat) (v : Word) : (s.wr r v).host = s.host := rfl
@[simp] theorem State.wr_bindPend (s : State) (r : Nat) (v : Word) : (s.wr r v).bindPend = s.bindPend := rfl
@[simp] theorem State.wr_tbs (s : State) (r : Nat) (v : Word) : (s.wr r v).tbs = s.tbs := rfl
@[simp] theorem State.wr_cws (s : State) (r : Nat) (v : Word) : (s.wr r v).cws = s.cws := rfl
@[simp] theorem State.wr_ports (s : State) (r : Nat) (v : Word) : (s.wr r v).ports = s.ports := rfl
@[simp] theorem State.wr_mmu (s : State) (r : Nat) (v : Word) : (s.wr r v).mmu = s.mmu := rfl
@[simp] theorem State.wr_chans (s : State) (r : Nat) (v : Word) : (s.wr r v).chans = s.chans := rfl
@[simp] theorem State.wr_memc (s : State) (r : Nat) (v : Word) : (s.wr r v).memc = s.memc := rfl
@[simp] theorem State.wr_queues (s : State) (r : Nat) (v : Word) : (s.wr r v).queues = s.queues := rfl
@[simp] theorem State.wr_msix (s : State) (r : Nat) (v : Word) : (s.wr r v).msix = s.msix := rfl
@[simp] theorem State.wr_hostIf (s : State) (r : Nat) (v : Word) : (s.wr r v).hostIf = s.hostIf := rfl
@[simp] theorem State.wr_hostMsgs (s : State) (r : Nat) (v : Word) : (s.wr r v).hostMsgs = s.hostMsgs := rfl
@[simp] theorem State.wr_heldEvents (s : State) (r : Nat) (v : Word) : (s.wr r v).heldEvents = s.heldEvents := rfl
@[simp] theorem State.wr_pipes (s : State) (r : Nat) (v : Word) : (s.wr r v).pipes = s.pipes := rfl
@[simp] theorem State.wr_strings (s : State) (r : Nat) (v : Word) : (s.wr r v).strings = s.strings := rfl
@[simp] theorem State.wr_groups (s : State) (r : Nat) (v : Word) : (s.wr r v).groups = s.groups := rfl
@[simp] theorem State.wr_pds (s : State) (r : Nat) (v : Word) : (s.wr r v).pds = s.pds := rfl
@[simp] theorem State.wr_banks (s : State) (r : Nat) (v : Word) : (s.wr r v).banks = s.banks := rfl
@[simp] theorem State.wr_shdEdges (s : State) (r : Nat) (v : Word) : (s.wr r v).shdEdges = s.shdEdges := rfl
@[simp] theorem State.wr_vin10 (s : State) (r : Nat) (v : Word) : (s.wr r v).vin10 = s.vin10 := rfl
@[simp] theorem State.wr_axes (s : State) (r : Nat) (v : Word) : (s.wr r v).axes = s.axes := rfl
@[simp] theorem State.wr_tiles (s : State) (r : Nat) (v : Word) : (s.wr r v).tiles = s.tiles := rfl
@[simp] theorem State.wr_encs (s : State) (r : Nat) (v : Word) : (s.wr r v).encs = s.encs := rfl
@[simp] theorem State.wr_sds (s : State) (r : Nat) (v : Word) : (s.wr r v).sds = s.sds := rfl
@[simp] theorem State.wr_ctlTables (s : State) (r : Nat) (v : Word) : (s.wr r v).ctlTables = s.ctlTables := rfl
@[simp] theorem State.wr_ctlLoad (s : State) (r : Nat) (v : Word) : (s.wr r v).ctlLoad = s.ctlLoad := rfl
@[simp] theorem State.wr_threads (s : State) (r : Nat) (v : Word) : (s.wr r v).threads = s.threads := rfl
@[simp] theorem State.wr_padMem (s : State) (r : Nat) (v : Word) : (s.wr r v).padMem = s.padMem := rfl
@[simp] theorem State.wr_pilMem (s : State) (r : Nat) (v : Word) : (s.wr r v).pilMem = s.pilMem := rfl
@[simp] theorem State.wr_barriers (s : State) (r : Nat) (v : Word) : (s.wr r v).barriers = s.barriers := rfl
@[simp] theorem State.wr_engAcc (s : State) (r : Nat) (v : Word) : (s.wr r v).engAcc = s.engAcc := rfl
@[simp] theorem State.wr_engEccAt (s : State) (r : Nat) (v : Word) : (s.wr r v).engEccAt = s.engEccAt := rfl
@[simp] theorem State.wr_cmpBadAt (s : State) (r : Nat) (v : Word) : (s.wr r v).cmpBadAt = s.cmpBadAt := rfl
@[simp] theorem State.wr_lanes (s : State) (r : Nat) (v : Word) : (s.wr r v).lanes = s.lanes := rfl
@[simp] theorem State.wr_links (s : State) (r : Nat) (v : Word) : (s.wr r v).links = s.links := rfl
@[simp] theorem State.wr_palis (s : State) (r : Nat) (v : Word) : (s.wr r v).palis = s.palis := rfl
@[simp] theorem State.wr_subs (s : State) (r : Nat) (v : Word) : (s.wr r v).subs = s.subs := rfl
@[simp] theorem State.wr_tree (s : State) (r : Nat) (v : Word) : (s.wr r v).tree = s.tree := rfl
@[simp] theorem State.wr_twin (s : State) (r : Nat) (v : Word) : (s.wr r v).twin = s.twin := rfl
@[simp] theorem State.wr_island (s : State) (r : Nat) (v : Word) : (s.wr r v).island = s.island := rfl
@[simp] theorem State.wr_cals (s : State) (r : Nat) (v : Word) : (s.wr r v).cals = s.cals := rfl
@[simp] theorem State.wr_geode (s : State) (r : Nat) (v : Word) : (s.wr r v).geode = s.geode := rfl
@[simp] theorem State.wr_store (s : State) (r : Nat) (v : Word) : (s.wr r v).store = s.store := rfl
@[simp] theorem State.wr_power (s : State) (r : Nat) (v : Word) : (s.wr r v).power = s.power := rfl
@[simp] theorem State.wr_tb (s : State) (r : Nat) (v : Word) (k : Nat) : (s.wr r v).tb k = s.tb k := rfl
@[simp] theorem State.wr_cw (s : State) (r : Nat) (v : Word) (k : Nat) : (s.wr r v).cw k = s.cw k := rfl
@[simp] theorem State.wr_port (s : State) (r : Nat) (v : Word) (k : Nat) : (s.wr r v).port k = s.port k := rfl
@[simp] theorem State.wr_queue (s : State) (r : Nat) (v : Word) (k : Nat) : (s.wr r v).queue k = s.queue k := rfl
@[simp] theorem State.wr_chan (s : State) (r : Nat) (v : Word) (k : Nat) : (s.wr r v).chan k = s.chan k := rfl
@[simp] theorem State.wr_str (s : State) (r : Nat) (v : Word) (k : Nat) : (s.wr r v).str k = s.str k := rfl
@[simp] theorem State.wr_grp (s : State) (r : Nat) (v : Word) (k : Nat) : (s.wr r v).grp k = s.grp k := rfl
@[simp] theorem State.wr_pd (s : State) (r : Nat) (v : Word) (k : Nat) : (s.wr r v).pd k = s.pd k := rfl
@[simp] theorem State.wr_bank (s : State) (r : Nat) (v : Word) (k : Nat) : (s.wr r v).bank k = s.bank k := rfl
@[simp] theorem State.wr_pipe (s : State) (r : Nat) (v : Word) (k : Nat) : (s.wr r v).pipe k = s.pipe k := rfl
@[simp] theorem State.wr_axis (s : State) (r : Nat) (v : Word) (k : Nat) : (s.wr r v).axis k = s.axis k := rfl
@[simp] theorem State.wr_tile (s : State) (r : Nat) (v : Word) (k : Nat) : (s.wr r v).tile k = s.tile k := rfl
@[simp] theorem State.wr_enc (s : State) (r : Nat) (v : Word) (k : Nat) : (s.wr r v).enc k = s.enc k := rfl
@[simp] theorem State.wr_th (s : State) (r : Nat) (v : Word) (k : Nat) : (s.wr r v).th k = s.th k := rfl
@[simp] theorem State.wr_barrier (s : State) (r : Nat) (v : Word) (k : Nat) : (s.wr r v).barrier k = s.barrier k := rfl
@[simp] theorem State.wr_lane (s : State) (r : Nat) (v : Word) (k : Nat) : (s.wr r v).lane k = s.lane k := rfl
@[simp] theorem State.wr_link (s : State) (r : Nat) (v : Word) (k : Nat) : (s.wr r v).link k = s.link k := rfl
@[simp] theorem State.wr_palisPort (s : State) (r : Nat) (v : Word) (k : Nat) : (s.wr r v).palisPort k = s.palisPort k := rfl
@[simp] theorem State.wr_sub (s : State) (r : Nat) (v : Word) (k : Nat) : (s.wr r v).sub k = s.sub k := rfl
@[simp] theorem State.wr_cal (s : State) (r : Nat) (v : Word) (k : Nat) : (s.wr r v).cal k = s.cal k := rfl

/-! ### State.wrN -/

@[simp] theorem State.wrN_pending (s : State) (r v : Nat) : (s.wrN r v).pending = s.pending := rfl
@[simp] theorem State.wrN_now (s : State) (r v : Nat) : (s.wrN r v).now = s.now := rfl
@[simp] theorem State.wrN_showAcc (s : State) (r v : Nat) : (s.wrN r v).showAcc = s.showAcc := rfl
@[simp] theorem State.wrN_heldLow (s : State) (r v : Nat) : (s.wrN r v).heldLow = s.heldLow := rfl
@[simp] theorem State.wrN_latchedHi (s : State) (r v : Nat) : (s.wrN r v).latchedHi = s.latchedHi := rfl
@[simp] theorem State.wrN_lastRead (s : State) (r v : Nat) : (s.wrN r v).lastRead = s.lastRead := rfl
@[simp] theorem State.wrN_freeCtr (s : State) (r v : Nat) : (s.wrN r v).freeCtr = s.freeCtr := rfl
@[simp] theorem State.wrN_dram (s : State) (r v : Nat) : (s.wrN r v).dram = s.dram := rfl
@[simp] theorem State.wrN_host (s : State) (r v : Nat) : (s.wrN r v).host = s.host := rfl
@[simp] theorem State.wrN_bindPend (s : State) (r v : Nat) : (s.wrN r v).bindPend = s.bindPend := rfl
@[simp] theorem State.wrN_tbs (s : State) (r v : Nat) : (s.wrN r v).tbs = s.tbs := rfl
@[simp] theorem State.wrN_cws (s : State) (r v : Nat) : (s.wrN r v).cws = s.cws := rfl
@[simp] theorem State.wrN_ports (s : State) (r v : Nat) : (s.wrN r v).ports = s.ports := rfl
@[simp] theorem State.wrN_mmu (s : State) (r v : Nat) : (s.wrN r v).mmu = s.mmu := rfl
@[simp] theorem State.wrN_chans (s : State) (r v : Nat) : (s.wrN r v).chans = s.chans := rfl
@[simp] theorem State.wrN_memc (s : State) (r v : Nat) : (s.wrN r v).memc = s.memc := rfl
@[simp] theorem State.wrN_queues (s : State) (r v : Nat) : (s.wrN r v).queues = s.queues := rfl
@[simp] theorem State.wrN_msix (s : State) (r v : Nat) : (s.wrN r v).msix = s.msix := rfl
@[simp] theorem State.wrN_hostIf (s : State) (r v : Nat) : (s.wrN r v).hostIf = s.hostIf := rfl
@[simp] theorem State.wrN_hostMsgs (s : State) (r v : Nat) : (s.wrN r v).hostMsgs = s.hostMsgs := rfl
@[simp] theorem State.wrN_heldEvents (s : State) (r v : Nat) : (s.wrN r v).heldEvents = s.heldEvents := rfl
@[simp] theorem State.wrN_pipes (s : State) (r v : Nat) : (s.wrN r v).pipes = s.pipes := rfl
@[simp] theorem State.wrN_strings (s : State) (r v : Nat) : (s.wrN r v).strings = s.strings := rfl
@[simp] theorem State.wrN_groups (s : State) (r v : Nat) : (s.wrN r v).groups = s.groups := rfl
@[simp] theorem State.wrN_pds (s : State) (r v : Nat) : (s.wrN r v).pds = s.pds := rfl
@[simp] theorem State.wrN_banks (s : State) (r v : Nat) : (s.wrN r v).banks = s.banks := rfl
@[simp] theorem State.wrN_shdEdges (s : State) (r v : Nat) : (s.wrN r v).shdEdges = s.shdEdges := rfl
@[simp] theorem State.wrN_vin10 (s : State) (r v : Nat) : (s.wrN r v).vin10 = s.vin10 := rfl
@[simp] theorem State.wrN_axes (s : State) (r v : Nat) : (s.wrN r v).axes = s.axes := rfl
@[simp] theorem State.wrN_tiles (s : State) (r v : Nat) : (s.wrN r v).tiles = s.tiles := rfl
@[simp] theorem State.wrN_encs (s : State) (r v : Nat) : (s.wrN r v).encs = s.encs := rfl
@[simp] theorem State.wrN_sds (s : State) (r v : Nat) : (s.wrN r v).sds = s.sds := rfl
@[simp] theorem State.wrN_ctlTables (s : State) (r v : Nat) : (s.wrN r v).ctlTables = s.ctlTables := rfl
@[simp] theorem State.wrN_ctlLoad (s : State) (r v : Nat) : (s.wrN r v).ctlLoad = s.ctlLoad := rfl
@[simp] theorem State.wrN_threads (s : State) (r v : Nat) : (s.wrN r v).threads = s.threads := rfl
@[simp] theorem State.wrN_padMem (s : State) (r v : Nat) : (s.wrN r v).padMem = s.padMem := rfl
@[simp] theorem State.wrN_pilMem (s : State) (r v : Nat) : (s.wrN r v).pilMem = s.pilMem := rfl
@[simp] theorem State.wrN_barriers (s : State) (r v : Nat) : (s.wrN r v).barriers = s.barriers := rfl
@[simp] theorem State.wrN_engAcc (s : State) (r v : Nat) : (s.wrN r v).engAcc = s.engAcc := rfl
@[simp] theorem State.wrN_engEccAt (s : State) (r v : Nat) : (s.wrN r v).engEccAt = s.engEccAt := rfl
@[simp] theorem State.wrN_cmpBadAt (s : State) (r v : Nat) : (s.wrN r v).cmpBadAt = s.cmpBadAt := rfl
@[simp] theorem State.wrN_lanes (s : State) (r v : Nat) : (s.wrN r v).lanes = s.lanes := rfl
@[simp] theorem State.wrN_links (s : State) (r v : Nat) : (s.wrN r v).links = s.links := rfl
@[simp] theorem State.wrN_palis (s : State) (r v : Nat) : (s.wrN r v).palis = s.palis := rfl
@[simp] theorem State.wrN_subs (s : State) (r v : Nat) : (s.wrN r v).subs = s.subs := rfl
@[simp] theorem State.wrN_tree (s : State) (r v : Nat) : (s.wrN r v).tree = s.tree := rfl
@[simp] theorem State.wrN_twin (s : State) (r v : Nat) : (s.wrN r v).twin = s.twin := rfl
@[simp] theorem State.wrN_island (s : State) (r v : Nat) : (s.wrN r v).island = s.island := rfl
@[simp] theorem State.wrN_cals (s : State) (r v : Nat) : (s.wrN r v).cals = s.cals := rfl
@[simp] theorem State.wrN_geode (s : State) (r v : Nat) : (s.wrN r v).geode = s.geode := rfl
@[simp] theorem State.wrN_store (s : State) (r v : Nat) : (s.wrN r v).store = s.store := rfl
@[simp] theorem State.wrN_power (s : State) (r v : Nat) : (s.wrN r v).power = s.power := rfl
@[simp] theorem State.wrN_tb (s : State) (r v : Nat) (k : Nat) : (s.wrN r v).tb k = s.tb k := rfl
@[simp] theorem State.wrN_cw (s : State) (r v : Nat) (k : Nat) : (s.wrN r v).cw k = s.cw k := rfl
@[simp] theorem State.wrN_port (s : State) (r v : Nat) (k : Nat) : (s.wrN r v).port k = s.port k := rfl
@[simp] theorem State.wrN_queue (s : State) (r v : Nat) (k : Nat) : (s.wrN r v).queue k = s.queue k := rfl
@[simp] theorem State.wrN_chan (s : State) (r v : Nat) (k : Nat) : (s.wrN r v).chan k = s.chan k := rfl
@[simp] theorem State.wrN_str (s : State) (r v : Nat) (k : Nat) : (s.wrN r v).str k = s.str k := rfl
@[simp] theorem State.wrN_grp (s : State) (r v : Nat) (k : Nat) : (s.wrN r v).grp k = s.grp k := rfl
@[simp] theorem State.wrN_pd (s : State) (r v : Nat) (k : Nat) : (s.wrN r v).pd k = s.pd k := rfl
@[simp] theorem State.wrN_bank (s : State) (r v : Nat) (k : Nat) : (s.wrN r v).bank k = s.bank k := rfl
@[simp] theorem State.wrN_pipe (s : State) (r v : Nat) (k : Nat) : (s.wrN r v).pipe k = s.pipe k := rfl
@[simp] theorem State.wrN_axis (s : State) (r v : Nat) (k : Nat) : (s.wrN r v).axis k = s.axis k := rfl
@[simp] theorem State.wrN_tile (s : State) (r v : Nat) (k : Nat) : (s.wrN r v).tile k = s.tile k := rfl
@[simp] theorem State.wrN_enc (s : State) (r v : Nat) (k : Nat) : (s.wrN r v).enc k = s.enc k := rfl
@[simp] theorem State.wrN_th (s : State) (r v : Nat) (k : Nat) : (s.wrN r v).th k = s.th k := rfl
@[simp] theorem State.wrN_barrier (s : State) (r v : Nat) (k : Nat) : (s.wrN r v).barrier k = s.barrier k := rfl
@[simp] theorem State.wrN_lane (s : State) (r v : Nat) (k : Nat) : (s.wrN r v).lane k = s.lane k := rfl
@[simp] theorem State.wrN_link (s : State) (r v : Nat) (k : Nat) : (s.wrN r v).link k = s.link k := rfl
@[simp] theorem State.wrN_palisPort (s : State) (r v : Nat) (k : Nat) : (s.wrN r v).palisPort k = s.palisPort k := rfl
@[simp] theorem State.wrN_sub (s : State) (r v : Nat) (k : Nat) : (s.wrN r v).sub k = s.sub k := rfl
@[simp] theorem State.wrN_cal (s : State) (r v : Nat) (k : Nat) : (s.wrN r v).cal k = s.cal k := rfl

/-! ### State.setFld -/

@[simp] theorem State.setFld_pending (s : State) (f : Fld) (v : Nat) : (s.setFld f v).pending = s.pending := rfl
@[simp] theorem State.setFld_now (s : State) (f : Fld) (v : Nat) : (s.setFld f v).now = s.now := rfl
@[simp] theorem State.setFld_showAcc (s : State) (f : Fld) (v : Nat) : (s.setFld f v).showAcc = s.showAcc := rfl
@[simp] theorem State.setFld_heldLow (s : State) (f : Fld) (v : Nat) : (s.setFld f v).heldLow = s.heldLow := rfl
@[simp] theorem State.setFld_latchedHi (s : State) (f : Fld) (v : Nat) : (s.setFld f v).latchedHi = s.latchedHi := rfl
@[simp] theorem State.setFld_lastRead (s : State) (f : Fld) (v : Nat) : (s.setFld f v).lastRead = s.lastRead := rfl
@[simp] theorem State.setFld_freeCtr (s : State) (f : Fld) (v : Nat) : (s.setFld f v).freeCtr = s.freeCtr := rfl
@[simp] theorem State.setFld_dram (s : State) (f : Fld) (v : Nat) : (s.setFld f v).dram = s.dram := rfl
@[simp] theorem State.setFld_host (s : State) (f : Fld) (v : Nat) : (s.setFld f v).host = s.host := rfl
@[simp] theorem State.setFld_bindPend (s : State) (f : Fld) (v : Nat) : (s.setFld f v).bindPend = s.bindPend := rfl
@[simp] theorem State.setFld_tbs (s : State) (f : Fld) (v : Nat) : (s.setFld f v).tbs = s.tbs := rfl
@[simp] theorem State.setFld_cws (s : State) (f : Fld) (v : Nat) : (s.setFld f v).cws = s.cws := rfl
@[simp] theorem State.setFld_ports (s : State) (f : Fld) (v : Nat) : (s.setFld f v).ports = s.ports := rfl
@[simp] theorem State.setFld_mmu (s : State) (f : Fld) (v : Nat) : (s.setFld f v).mmu = s.mmu := rfl
@[simp] theorem State.setFld_chans (s : State) (f : Fld) (v : Nat) : (s.setFld f v).chans = s.chans := rfl
@[simp] theorem State.setFld_memc (s : State) (f : Fld) (v : Nat) : (s.setFld f v).memc = s.memc := rfl
@[simp] theorem State.setFld_queues (s : State) (f : Fld) (v : Nat) : (s.setFld f v).queues = s.queues := rfl
@[simp] theorem State.setFld_msix (s : State) (f : Fld) (v : Nat) : (s.setFld f v).msix = s.msix := rfl
@[simp] theorem State.setFld_hostIf (s : State) (f : Fld) (v : Nat) : (s.setFld f v).hostIf = s.hostIf := rfl
@[simp] theorem State.setFld_hostMsgs (s : State) (f : Fld) (v : Nat) : (s.setFld f v).hostMsgs = s.hostMsgs := rfl
@[simp] theorem State.setFld_heldEvents (s : State) (f : Fld) (v : Nat) : (s.setFld f v).heldEvents = s.heldEvents := rfl
@[simp] theorem State.setFld_pipes (s : State) (f : Fld) (v : Nat) : (s.setFld f v).pipes = s.pipes := rfl
@[simp] theorem State.setFld_strings (s : State) (f : Fld) (v : Nat) : (s.setFld f v).strings = s.strings := rfl
@[simp] theorem State.setFld_groups (s : State) (f : Fld) (v : Nat) : (s.setFld f v).groups = s.groups := rfl
@[simp] theorem State.setFld_pds (s : State) (f : Fld) (v : Nat) : (s.setFld f v).pds = s.pds := rfl
@[simp] theorem State.setFld_banks (s : State) (f : Fld) (v : Nat) : (s.setFld f v).banks = s.banks := rfl
@[simp] theorem State.setFld_shdEdges (s : State) (f : Fld) (v : Nat) : (s.setFld f v).shdEdges = s.shdEdges := rfl
@[simp] theorem State.setFld_vin10 (s : State) (f : Fld) (v : Nat) : (s.setFld f v).vin10 = s.vin10 := rfl
@[simp] theorem State.setFld_axes (s : State) (f : Fld) (v : Nat) : (s.setFld f v).axes = s.axes := rfl
@[simp] theorem State.setFld_tiles (s : State) (f : Fld) (v : Nat) : (s.setFld f v).tiles = s.tiles := rfl
@[simp] theorem State.setFld_encs (s : State) (f : Fld) (v : Nat) : (s.setFld f v).encs = s.encs := rfl
@[simp] theorem State.setFld_sds (s : State) (f : Fld) (v : Nat) : (s.setFld f v).sds = s.sds := rfl
@[simp] theorem State.setFld_ctlTables (s : State) (f : Fld) (v : Nat) : (s.setFld f v).ctlTables = s.ctlTables := rfl
@[simp] theorem State.setFld_ctlLoad (s : State) (f : Fld) (v : Nat) : (s.setFld f v).ctlLoad = s.ctlLoad := rfl
@[simp] theorem State.setFld_threads (s : State) (f : Fld) (v : Nat) : (s.setFld f v).threads = s.threads := rfl
@[simp] theorem State.setFld_padMem (s : State) (f : Fld) (v : Nat) : (s.setFld f v).padMem = s.padMem := rfl
@[simp] theorem State.setFld_pilMem (s : State) (f : Fld) (v : Nat) : (s.setFld f v).pilMem = s.pilMem := rfl
@[simp] theorem State.setFld_barriers (s : State) (f : Fld) (v : Nat) : (s.setFld f v).barriers = s.barriers := rfl
@[simp] theorem State.setFld_engAcc (s : State) (f : Fld) (v : Nat) : (s.setFld f v).engAcc = s.engAcc := rfl
@[simp] theorem State.setFld_engEccAt (s : State) (f : Fld) (v : Nat) : (s.setFld f v).engEccAt = s.engEccAt := rfl
@[simp] theorem State.setFld_cmpBadAt (s : State) (f : Fld) (v : Nat) : (s.setFld f v).cmpBadAt = s.cmpBadAt := rfl
@[simp] theorem State.setFld_lanes (s : State) (f : Fld) (v : Nat) : (s.setFld f v).lanes = s.lanes := rfl
@[simp] theorem State.setFld_links (s : State) (f : Fld) (v : Nat) : (s.setFld f v).links = s.links := rfl
@[simp] theorem State.setFld_palis (s : State) (f : Fld) (v : Nat) : (s.setFld f v).palis = s.palis := rfl
@[simp] theorem State.setFld_subs (s : State) (f : Fld) (v : Nat) : (s.setFld f v).subs = s.subs := rfl
@[simp] theorem State.setFld_tree (s : State) (f : Fld) (v : Nat) : (s.setFld f v).tree = s.tree := rfl
@[simp] theorem State.setFld_twin (s : State) (f : Fld) (v : Nat) : (s.setFld f v).twin = s.twin := rfl
@[simp] theorem State.setFld_island (s : State) (f : Fld) (v : Nat) : (s.setFld f v).island = s.island := rfl
@[simp] theorem State.setFld_cals (s : State) (f : Fld) (v : Nat) : (s.setFld f v).cals = s.cals := rfl
@[simp] theorem State.setFld_geode (s : State) (f : Fld) (v : Nat) : (s.setFld f v).geode = s.geode := rfl
@[simp] theorem State.setFld_store (s : State) (f : Fld) (v : Nat) : (s.setFld f v).store = s.store := rfl
@[simp] theorem State.setFld_power (s : State) (f : Fld) (v : Nat) : (s.setFld f v).power = s.power := rfl
@[simp] theorem State.setFld_tb (s : State) (f : Fld) (v : Nat) (k : Nat) : (s.setFld f v).tb k = s.tb k := rfl
@[simp] theorem State.setFld_cw (s : State) (f : Fld) (v : Nat) (k : Nat) : (s.setFld f v).cw k = s.cw k := rfl
@[simp] theorem State.setFld_port (s : State) (f : Fld) (v : Nat) (k : Nat) : (s.setFld f v).port k = s.port k := rfl
@[simp] theorem State.setFld_queue (s : State) (f : Fld) (v : Nat) (k : Nat) : (s.setFld f v).queue k = s.queue k := rfl
@[simp] theorem State.setFld_chan (s : State) (f : Fld) (v : Nat) (k : Nat) : (s.setFld f v).chan k = s.chan k := rfl
@[simp] theorem State.setFld_str (s : State) (f : Fld) (v : Nat) (k : Nat) : (s.setFld f v).str k = s.str k := rfl
@[simp] theorem State.setFld_grp (s : State) (f : Fld) (v : Nat) (k : Nat) : (s.setFld f v).grp k = s.grp k := rfl
@[simp] theorem State.setFld_pd (s : State) (f : Fld) (v : Nat) (k : Nat) : (s.setFld f v).pd k = s.pd k := rfl
@[simp] theorem State.setFld_bank (s : State) (f : Fld) (v : Nat) (k : Nat) : (s.setFld f v).bank k = s.bank k := rfl
@[simp] theorem State.setFld_pipe (s : State) (f : Fld) (v : Nat) (k : Nat) : (s.setFld f v).pipe k = s.pipe k := rfl
@[simp] theorem State.setFld_axis (s : State) (f : Fld) (v : Nat) (k : Nat) : (s.setFld f v).axis k = s.axis k := rfl
@[simp] theorem State.setFld_tile (s : State) (f : Fld) (v : Nat) (k : Nat) : (s.setFld f v).tile k = s.tile k := rfl
@[simp] theorem State.setFld_enc (s : State) (f : Fld) (v : Nat) (k : Nat) : (s.setFld f v).enc k = s.enc k := rfl
@[simp] theorem State.setFld_th (s : State) (f : Fld) (v : Nat) (k : Nat) : (s.setFld f v).th k = s.th k := rfl
@[simp] theorem State.setFld_barrier (s : State) (f : Fld) (v : Nat) (k : Nat) : (s.setFld f v).barrier k = s.barrier k := rfl
@[simp] theorem State.setFld_lane (s : State) (f : Fld) (v : Nat) (k : Nat) : (s.setFld f v).lane k = s.lane k := rfl
@[simp] theorem State.setFld_link (s : State) (f : Fld) (v : Nat) (k : Nat) : (s.setFld f v).link k = s.link k := rfl
@[simp] theorem State.setFld_palisPort (s : State) (f : Fld) (v : Nat) (k : Nat) : (s.setFld f v).palisPort k = s.palisPort k := rfl
@[simp] theorem State.setFld_sub (s : State) (f : Fld) (v : Nat) (k : Nat) : (s.setFld f v).sub k = s.sub k := rfl
@[simp] theorem State.setFld_cal (s : State) (f : Fld) (v : Nat) (k : Nat) : (s.setFld f v).cal k = s.cal k := rfl

/-! ### State.bump -/

@[simp] theorem State.bump_pending (s : State) (r : Nat) : (s.bump r).pending = s.pending := rfl
@[simp] theorem State.bump_now (s : State) (r : Nat) : (s.bump r).now = s.now := rfl
@[simp] theorem State.bump_showAcc (s : State) (r : Nat) : (s.bump r).showAcc = s.showAcc := rfl
@[simp] theorem State.bump_heldLow (s : State) (r : Nat) : (s.bump r).heldLow = s.heldLow := rfl
@[simp] theorem State.bump_latchedHi (s : State) (r : Nat) : (s.bump r).latchedHi = s.latchedHi := rfl
@[simp] theorem State.bump_lastRead (s : State) (r : Nat) : (s.bump r).lastRead = s.lastRead := rfl
@[simp] theorem State.bump_freeCtr (s : State) (r : Nat) : (s.bump r).freeCtr = s.freeCtr := rfl
@[simp] theorem State.bump_dram (s : State) (r : Nat) : (s.bump r).dram = s.dram := rfl
@[simp] theorem State.bump_host (s : State) (r : Nat) : (s.bump r).host = s.host := rfl
@[simp] theorem State.bump_bindPend (s : State) (r : Nat) : (s.bump r).bindPend = s.bindPend := rfl
@[simp] theorem State.bump_tbs (s : State) (r : Nat) : (s.bump r).tbs = s.tbs := rfl
@[simp] theorem State.bump_cws (s : State) (r : Nat) : (s.bump r).cws = s.cws := rfl
@[simp] theorem State.bump_ports (s : State) (r : Nat) : (s.bump r).ports = s.ports := rfl
@[simp] theorem State.bump_mmu (s : State) (r : Nat) : (s.bump r).mmu = s.mmu := rfl
@[simp] theorem State.bump_chans (s : State) (r : Nat) : (s.bump r).chans = s.chans := rfl
@[simp] theorem State.bump_memc (s : State) (r : Nat) : (s.bump r).memc = s.memc := rfl
@[simp] theorem State.bump_queues (s : State) (r : Nat) : (s.bump r).queues = s.queues := rfl
@[simp] theorem State.bump_msix (s : State) (r : Nat) : (s.bump r).msix = s.msix := rfl
@[simp] theorem State.bump_hostIf (s : State) (r : Nat) : (s.bump r).hostIf = s.hostIf := rfl
@[simp] theorem State.bump_hostMsgs (s : State) (r : Nat) : (s.bump r).hostMsgs = s.hostMsgs := rfl
@[simp] theorem State.bump_heldEvents (s : State) (r : Nat) : (s.bump r).heldEvents = s.heldEvents := rfl
@[simp] theorem State.bump_pipes (s : State) (r : Nat) : (s.bump r).pipes = s.pipes := rfl
@[simp] theorem State.bump_strings (s : State) (r : Nat) : (s.bump r).strings = s.strings := rfl
@[simp] theorem State.bump_groups (s : State) (r : Nat) : (s.bump r).groups = s.groups := rfl
@[simp] theorem State.bump_pds (s : State) (r : Nat) : (s.bump r).pds = s.pds := rfl
@[simp] theorem State.bump_banks (s : State) (r : Nat) : (s.bump r).banks = s.banks := rfl
@[simp] theorem State.bump_shdEdges (s : State) (r : Nat) : (s.bump r).shdEdges = s.shdEdges := rfl
@[simp] theorem State.bump_vin10 (s : State) (r : Nat) : (s.bump r).vin10 = s.vin10 := rfl
@[simp] theorem State.bump_axes (s : State) (r : Nat) : (s.bump r).axes = s.axes := rfl
@[simp] theorem State.bump_tiles (s : State) (r : Nat) : (s.bump r).tiles = s.tiles := rfl
@[simp] theorem State.bump_encs (s : State) (r : Nat) : (s.bump r).encs = s.encs := rfl
@[simp] theorem State.bump_sds (s : State) (r : Nat) : (s.bump r).sds = s.sds := rfl
@[simp] theorem State.bump_ctlTables (s : State) (r : Nat) : (s.bump r).ctlTables = s.ctlTables := rfl
@[simp] theorem State.bump_ctlLoad (s : State) (r : Nat) : (s.bump r).ctlLoad = s.ctlLoad := rfl
@[simp] theorem State.bump_threads (s : State) (r : Nat) : (s.bump r).threads = s.threads := rfl
@[simp] theorem State.bump_padMem (s : State) (r : Nat) : (s.bump r).padMem = s.padMem := rfl
@[simp] theorem State.bump_pilMem (s : State) (r : Nat) : (s.bump r).pilMem = s.pilMem := rfl
@[simp] theorem State.bump_barriers (s : State) (r : Nat) : (s.bump r).barriers = s.barriers := rfl
@[simp] theorem State.bump_engAcc (s : State) (r : Nat) : (s.bump r).engAcc = s.engAcc := rfl
@[simp] theorem State.bump_engEccAt (s : State) (r : Nat) : (s.bump r).engEccAt = s.engEccAt := rfl
@[simp] theorem State.bump_cmpBadAt (s : State) (r : Nat) : (s.bump r).cmpBadAt = s.cmpBadAt := rfl
@[simp] theorem State.bump_lanes (s : State) (r : Nat) : (s.bump r).lanes = s.lanes := rfl
@[simp] theorem State.bump_links (s : State) (r : Nat) : (s.bump r).links = s.links := rfl
@[simp] theorem State.bump_palis (s : State) (r : Nat) : (s.bump r).palis = s.palis := rfl
@[simp] theorem State.bump_subs (s : State) (r : Nat) : (s.bump r).subs = s.subs := rfl
@[simp] theorem State.bump_tree (s : State) (r : Nat) : (s.bump r).tree = s.tree := rfl
@[simp] theorem State.bump_twin (s : State) (r : Nat) : (s.bump r).twin = s.twin := rfl
@[simp] theorem State.bump_island (s : State) (r : Nat) : (s.bump r).island = s.island := rfl
@[simp] theorem State.bump_cals (s : State) (r : Nat) : (s.bump r).cals = s.cals := rfl
@[simp] theorem State.bump_geode (s : State) (r : Nat) : (s.bump r).geode = s.geode := rfl
@[simp] theorem State.bump_store (s : State) (r : Nat) : (s.bump r).store = s.store := rfl
@[simp] theorem State.bump_power (s : State) (r : Nat) : (s.bump r).power = s.power := rfl
@[simp] theorem State.bump_tb (s : State) (r : Nat) (k : Nat) : (s.bump r).tb k = s.tb k := rfl
@[simp] theorem State.bump_cw (s : State) (r : Nat) (k : Nat) : (s.bump r).cw k = s.cw k := rfl
@[simp] theorem State.bump_port (s : State) (r : Nat) (k : Nat) : (s.bump r).port k = s.port k := rfl
@[simp] theorem State.bump_queue (s : State) (r : Nat) (k : Nat) : (s.bump r).queue k = s.queue k := rfl
@[simp] theorem State.bump_chan (s : State) (r : Nat) (k : Nat) : (s.bump r).chan k = s.chan k := rfl
@[simp] theorem State.bump_str (s : State) (r : Nat) (k : Nat) : (s.bump r).str k = s.str k := rfl
@[simp] theorem State.bump_grp (s : State) (r : Nat) (k : Nat) : (s.bump r).grp k = s.grp k := rfl
@[simp] theorem State.bump_pd (s : State) (r : Nat) (k : Nat) : (s.bump r).pd k = s.pd k := rfl
@[simp] theorem State.bump_bank (s : State) (r : Nat) (k : Nat) : (s.bump r).bank k = s.bank k := rfl
@[simp] theorem State.bump_pipe (s : State) (r : Nat) (k : Nat) : (s.bump r).pipe k = s.pipe k := rfl
@[simp] theorem State.bump_axis (s : State) (r : Nat) (k : Nat) : (s.bump r).axis k = s.axis k := rfl
@[simp] theorem State.bump_tile (s : State) (r : Nat) (k : Nat) : (s.bump r).tile k = s.tile k := rfl
@[simp] theorem State.bump_enc (s : State) (r : Nat) (k : Nat) : (s.bump r).enc k = s.enc k := rfl
@[simp] theorem State.bump_th (s : State) (r : Nat) (k : Nat) : (s.bump r).th k = s.th k := rfl
@[simp] theorem State.bump_barrier (s : State) (r : Nat) (k : Nat) : (s.bump r).barrier k = s.barrier k := rfl
@[simp] theorem State.bump_lane (s : State) (r : Nat) (k : Nat) : (s.bump r).lane k = s.lane k := rfl
@[simp] theorem State.bump_link (s : State) (r : Nat) (k : Nat) : (s.bump r).link k = s.link k := rfl
@[simp] theorem State.bump_palisPort (s : State) (r : Nat) (k : Nat) : (s.bump r).palisPort k = s.palisPort k := rfl
@[simp] theorem State.bump_sub (s : State) (r : Nat) (k : Nat) : (s.bump r).sub k = s.sub k := rfl
@[simp] theorem State.bump_cal (s : State) (r : Nat) (k : Nat) : (s.bump r).cal k = s.cal k := rfl

/-! ### State.bumpBy -/

@[simp] theorem State.bumpBy_pending (s : State) (r n : Nat) : (s.bumpBy r n).pending = s.pending := rfl
@[simp] theorem State.bumpBy_now (s : State) (r n : Nat) : (s.bumpBy r n).now = s.now := rfl
@[simp] theorem State.bumpBy_showAcc (s : State) (r n : Nat) : (s.bumpBy r n).showAcc = s.showAcc := rfl
@[simp] theorem State.bumpBy_heldLow (s : State) (r n : Nat) : (s.bumpBy r n).heldLow = s.heldLow := rfl
@[simp] theorem State.bumpBy_latchedHi (s : State) (r n : Nat) : (s.bumpBy r n).latchedHi = s.latchedHi := rfl
@[simp] theorem State.bumpBy_lastRead (s : State) (r n : Nat) : (s.bumpBy r n).lastRead = s.lastRead := rfl
@[simp] theorem State.bumpBy_freeCtr (s : State) (r n : Nat) : (s.bumpBy r n).freeCtr = s.freeCtr := rfl
@[simp] theorem State.bumpBy_dram (s : State) (r n : Nat) : (s.bumpBy r n).dram = s.dram := rfl
@[simp] theorem State.bumpBy_host (s : State) (r n : Nat) : (s.bumpBy r n).host = s.host := rfl
@[simp] theorem State.bumpBy_bindPend (s : State) (r n : Nat) : (s.bumpBy r n).bindPend = s.bindPend := rfl
@[simp] theorem State.bumpBy_tbs (s : State) (r n : Nat) : (s.bumpBy r n).tbs = s.tbs := rfl
@[simp] theorem State.bumpBy_cws (s : State) (r n : Nat) : (s.bumpBy r n).cws = s.cws := rfl
@[simp] theorem State.bumpBy_ports (s : State) (r n : Nat) : (s.bumpBy r n).ports = s.ports := rfl
@[simp] theorem State.bumpBy_mmu (s : State) (r n : Nat) : (s.bumpBy r n).mmu = s.mmu := rfl
@[simp] theorem State.bumpBy_chans (s : State) (r n : Nat) : (s.bumpBy r n).chans = s.chans := rfl
@[simp] theorem State.bumpBy_memc (s : State) (r n : Nat) : (s.bumpBy r n).memc = s.memc := rfl
@[simp] theorem State.bumpBy_queues (s : State) (r n : Nat) : (s.bumpBy r n).queues = s.queues := rfl
@[simp] theorem State.bumpBy_msix (s : State) (r n : Nat) : (s.bumpBy r n).msix = s.msix := rfl
@[simp] theorem State.bumpBy_hostIf (s : State) (r n : Nat) : (s.bumpBy r n).hostIf = s.hostIf := rfl
@[simp] theorem State.bumpBy_hostMsgs (s : State) (r n : Nat) : (s.bumpBy r n).hostMsgs = s.hostMsgs := rfl
@[simp] theorem State.bumpBy_heldEvents (s : State) (r n : Nat) : (s.bumpBy r n).heldEvents = s.heldEvents := rfl
@[simp] theorem State.bumpBy_pipes (s : State) (r n : Nat) : (s.bumpBy r n).pipes = s.pipes := rfl
@[simp] theorem State.bumpBy_strings (s : State) (r n : Nat) : (s.bumpBy r n).strings = s.strings := rfl
@[simp] theorem State.bumpBy_groups (s : State) (r n : Nat) : (s.bumpBy r n).groups = s.groups := rfl
@[simp] theorem State.bumpBy_pds (s : State) (r n : Nat) : (s.bumpBy r n).pds = s.pds := rfl
@[simp] theorem State.bumpBy_banks (s : State) (r n : Nat) : (s.bumpBy r n).banks = s.banks := rfl
@[simp] theorem State.bumpBy_shdEdges (s : State) (r n : Nat) : (s.bumpBy r n).shdEdges = s.shdEdges := rfl
@[simp] theorem State.bumpBy_vin10 (s : State) (r n : Nat) : (s.bumpBy r n).vin10 = s.vin10 := rfl
@[simp] theorem State.bumpBy_axes (s : State) (r n : Nat) : (s.bumpBy r n).axes = s.axes := rfl
@[simp] theorem State.bumpBy_tiles (s : State) (r n : Nat) : (s.bumpBy r n).tiles = s.tiles := rfl
@[simp] theorem State.bumpBy_encs (s : State) (r n : Nat) : (s.bumpBy r n).encs = s.encs := rfl
@[simp] theorem State.bumpBy_sds (s : State) (r n : Nat) : (s.bumpBy r n).sds = s.sds := rfl
@[simp] theorem State.bumpBy_ctlTables (s : State) (r n : Nat) : (s.bumpBy r n).ctlTables = s.ctlTables := rfl
@[simp] theorem State.bumpBy_ctlLoad (s : State) (r n : Nat) : (s.bumpBy r n).ctlLoad = s.ctlLoad := rfl
@[simp] theorem State.bumpBy_threads (s : State) (r n : Nat) : (s.bumpBy r n).threads = s.threads := rfl
@[simp] theorem State.bumpBy_padMem (s : State) (r n : Nat) : (s.bumpBy r n).padMem = s.padMem := rfl
@[simp] theorem State.bumpBy_pilMem (s : State) (r n : Nat) : (s.bumpBy r n).pilMem = s.pilMem := rfl
@[simp] theorem State.bumpBy_barriers (s : State) (r n : Nat) : (s.bumpBy r n).barriers = s.barriers := rfl
@[simp] theorem State.bumpBy_engAcc (s : State) (r n : Nat) : (s.bumpBy r n).engAcc = s.engAcc := rfl
@[simp] theorem State.bumpBy_engEccAt (s : State) (r n : Nat) : (s.bumpBy r n).engEccAt = s.engEccAt := rfl
@[simp] theorem State.bumpBy_cmpBadAt (s : State) (r n : Nat) : (s.bumpBy r n).cmpBadAt = s.cmpBadAt := rfl
@[simp] theorem State.bumpBy_lanes (s : State) (r n : Nat) : (s.bumpBy r n).lanes = s.lanes := rfl
@[simp] theorem State.bumpBy_links (s : State) (r n : Nat) : (s.bumpBy r n).links = s.links := rfl
@[simp] theorem State.bumpBy_palis (s : State) (r n : Nat) : (s.bumpBy r n).palis = s.palis := rfl
@[simp] theorem State.bumpBy_subs (s : State) (r n : Nat) : (s.bumpBy r n).subs = s.subs := rfl
@[simp] theorem State.bumpBy_tree (s : State) (r n : Nat) : (s.bumpBy r n).tree = s.tree := rfl
@[simp] theorem State.bumpBy_twin (s : State) (r n : Nat) : (s.bumpBy r n).twin = s.twin := rfl
@[simp] theorem State.bumpBy_island (s : State) (r n : Nat) : (s.bumpBy r n).island = s.island := rfl
@[simp] theorem State.bumpBy_cals (s : State) (r n : Nat) : (s.bumpBy r n).cals = s.cals := rfl
@[simp] theorem State.bumpBy_geode (s : State) (r n : Nat) : (s.bumpBy r n).geode = s.geode := rfl
@[simp] theorem State.bumpBy_store (s : State) (r n : Nat) : (s.bumpBy r n).store = s.store := rfl
@[simp] theorem State.bumpBy_power (s : State) (r n : Nat) : (s.bumpBy r n).power = s.power := rfl
@[simp] theorem State.bumpBy_tb (s : State) (r n : Nat) (k : Nat) : (s.bumpBy r n).tb k = s.tb k := rfl
@[simp] theorem State.bumpBy_cw (s : State) (r n : Nat) (k : Nat) : (s.bumpBy r n).cw k = s.cw k := rfl
@[simp] theorem State.bumpBy_port (s : State) (r n : Nat) (k : Nat) : (s.bumpBy r n).port k = s.port k := rfl
@[simp] theorem State.bumpBy_queue (s : State) (r n : Nat) (k : Nat) : (s.bumpBy r n).queue k = s.queue k := rfl
@[simp] theorem State.bumpBy_chan (s : State) (r n : Nat) (k : Nat) : (s.bumpBy r n).chan k = s.chan k := rfl
@[simp] theorem State.bumpBy_str (s : State) (r n : Nat) (k : Nat) : (s.bumpBy r n).str k = s.str k := rfl
@[simp] theorem State.bumpBy_grp (s : State) (r n : Nat) (k : Nat) : (s.bumpBy r n).grp k = s.grp k := rfl
@[simp] theorem State.bumpBy_pd (s : State) (r n : Nat) (k : Nat) : (s.bumpBy r n).pd k = s.pd k := rfl
@[simp] theorem State.bumpBy_bank (s : State) (r n : Nat) (k : Nat) : (s.bumpBy r n).bank k = s.bank k := rfl
@[simp] theorem State.bumpBy_pipe (s : State) (r n : Nat) (k : Nat) : (s.bumpBy r n).pipe k = s.pipe k := rfl
@[simp] theorem State.bumpBy_axis (s : State) (r n : Nat) (k : Nat) : (s.bumpBy r n).axis k = s.axis k := rfl
@[simp] theorem State.bumpBy_tile (s : State) (r n : Nat) (k : Nat) : (s.bumpBy r n).tile k = s.tile k := rfl
@[simp] theorem State.bumpBy_enc (s : State) (r n : Nat) (k : Nat) : (s.bumpBy r n).enc k = s.enc k := rfl
@[simp] theorem State.bumpBy_th (s : State) (r n : Nat) (k : Nat) : (s.bumpBy r n).th k = s.th k := rfl
@[simp] theorem State.bumpBy_barrier (s : State) (r n : Nat) (k : Nat) : (s.bumpBy r n).barrier k = s.barrier k := rfl
@[simp] theorem State.bumpBy_lane (s : State) (r n : Nat) (k : Nat) : (s.bumpBy r n).lane k = s.lane k := rfl
@[simp] theorem State.bumpBy_link (s : State) (r n : Nat) (k : Nat) : (s.bumpBy r n).link k = s.link k := rfl
@[simp] theorem State.bumpBy_palisPort (s : State) (r n : Nat) (k : Nat) : (s.bumpBy r n).palisPort k = s.palisPort k := rfl
@[simp] theorem State.bumpBy_sub (s : State) (r n : Nat) (k : Nat) : (s.bumpBy r n).sub k = s.sub k := rfl
@[simp] theorem State.bumpBy_cal (s : State) (r n : Nat) (k : Nat) : (s.bumpBy r n).cal k = s.cal k := rfl

/-! ### State.setTb -/

@[simp] theorem State.setTb_pending (s : State) (n : Nat) (x : Timebase) : (s.setTb n x).pending = s.pending := rfl
@[simp] theorem State.setTb_now (s : State) (n : Nat) (x : Timebase) : (s.setTb n x).now = s.now := rfl
@[simp] theorem State.setTb_showAcc (s : State) (n : Nat) (x : Timebase) : (s.setTb n x).showAcc = s.showAcc := rfl
@[simp] theorem State.setTb_regs (s : State) (n : Nat) (x : Timebase) : (s.setTb n x).regs = s.regs := rfl
@[simp] theorem State.setTb_heldLow (s : State) (n : Nat) (x : Timebase) : (s.setTb n x).heldLow = s.heldLow := rfl
@[simp] theorem State.setTb_latchedHi (s : State) (n : Nat) (x : Timebase) : (s.setTb n x).latchedHi = s.latchedHi := rfl
@[simp] theorem State.setTb_lastRead (s : State) (n : Nat) (x : Timebase) : (s.setTb n x).lastRead = s.lastRead := rfl
@[simp] theorem State.setTb_freeCtr (s : State) (n : Nat) (x : Timebase) : (s.setTb n x).freeCtr = s.freeCtr := rfl
@[simp] theorem State.setTb_dram (s : State) (n : Nat) (x : Timebase) : (s.setTb n x).dram = s.dram := rfl
@[simp] theorem State.setTb_host (s : State) (n : Nat) (x : Timebase) : (s.setTb n x).host = s.host := rfl
@[simp] theorem State.setTb_bindPend (s : State) (n : Nat) (x : Timebase) : (s.setTb n x).bindPend = s.bindPend := rfl
@[simp] theorem State.setTb_cws (s : State) (n : Nat) (x : Timebase) : (s.setTb n x).cws = s.cws := rfl
@[simp] theorem State.setTb_ports (s : State) (n : Nat) (x : Timebase) : (s.setTb n x).ports = s.ports := rfl
@[simp] theorem State.setTb_mmu (s : State) (n : Nat) (x : Timebase) : (s.setTb n x).mmu = s.mmu := rfl
@[simp] theorem State.setTb_chans (s : State) (n : Nat) (x : Timebase) : (s.setTb n x).chans = s.chans := rfl
@[simp] theorem State.setTb_memc (s : State) (n : Nat) (x : Timebase) : (s.setTb n x).memc = s.memc := rfl
@[simp] theorem State.setTb_queues (s : State) (n : Nat) (x : Timebase) : (s.setTb n x).queues = s.queues := rfl
@[simp] theorem State.setTb_msix (s : State) (n : Nat) (x : Timebase) : (s.setTb n x).msix = s.msix := rfl
@[simp] theorem State.setTb_hostIf (s : State) (n : Nat) (x : Timebase) : (s.setTb n x).hostIf = s.hostIf := rfl
@[simp] theorem State.setTb_hostMsgs (s : State) (n : Nat) (x : Timebase) : (s.setTb n x).hostMsgs = s.hostMsgs := rfl
@[simp] theorem State.setTb_heldEvents (s : State) (n : Nat) (x : Timebase) : (s.setTb n x).heldEvents = s.heldEvents := rfl
@[simp] theorem State.setTb_pipes (s : State) (n : Nat) (x : Timebase) : (s.setTb n x).pipes = s.pipes := rfl
@[simp] theorem State.setTb_strings (s : State) (n : Nat) (x : Timebase) : (s.setTb n x).strings = s.strings := rfl
@[simp] theorem State.setTb_groups (s : State) (n : Nat) (x : Timebase) : (s.setTb n x).groups = s.groups := rfl
@[simp] theorem State.setTb_pds (s : State) (n : Nat) (x : Timebase) : (s.setTb n x).pds = s.pds := rfl
@[simp] theorem State.setTb_banks (s : State) (n : Nat) (x : Timebase) : (s.setTb n x).banks = s.banks := rfl
@[simp] theorem State.setTb_shdEdges (s : State) (n : Nat) (x : Timebase) : (s.setTb n x).shdEdges = s.shdEdges := rfl
@[simp] theorem State.setTb_vin10 (s : State) (n : Nat) (x : Timebase) : (s.setTb n x).vin10 = s.vin10 := rfl
@[simp] theorem State.setTb_axes (s : State) (n : Nat) (x : Timebase) : (s.setTb n x).axes = s.axes := rfl
@[simp] theorem State.setTb_tiles (s : State) (n : Nat) (x : Timebase) : (s.setTb n x).tiles = s.tiles := rfl
@[simp] theorem State.setTb_encs (s : State) (n : Nat) (x : Timebase) : (s.setTb n x).encs = s.encs := rfl
@[simp] theorem State.setTb_sds (s : State) (n : Nat) (x : Timebase) : (s.setTb n x).sds = s.sds := rfl
@[simp] theorem State.setTb_ctlTables (s : State) (n : Nat) (x : Timebase) : (s.setTb n x).ctlTables = s.ctlTables := rfl
@[simp] theorem State.setTb_ctlLoad (s : State) (n : Nat) (x : Timebase) : (s.setTb n x).ctlLoad = s.ctlLoad := rfl
@[simp] theorem State.setTb_threads (s : State) (n : Nat) (x : Timebase) : (s.setTb n x).threads = s.threads := rfl
@[simp] theorem State.setTb_padMem (s : State) (n : Nat) (x : Timebase) : (s.setTb n x).padMem = s.padMem := rfl
@[simp] theorem State.setTb_pilMem (s : State) (n : Nat) (x : Timebase) : (s.setTb n x).pilMem = s.pilMem := rfl
@[simp] theorem State.setTb_barriers (s : State) (n : Nat) (x : Timebase) : (s.setTb n x).barriers = s.barriers := rfl
@[simp] theorem State.setTb_engAcc (s : State) (n : Nat) (x : Timebase) : (s.setTb n x).engAcc = s.engAcc := rfl
@[simp] theorem State.setTb_engEccAt (s : State) (n : Nat) (x : Timebase) : (s.setTb n x).engEccAt = s.engEccAt := rfl
@[simp] theorem State.setTb_cmpBadAt (s : State) (n : Nat) (x : Timebase) : (s.setTb n x).cmpBadAt = s.cmpBadAt := rfl
@[simp] theorem State.setTb_lanes (s : State) (n : Nat) (x : Timebase) : (s.setTb n x).lanes = s.lanes := rfl
@[simp] theorem State.setTb_links (s : State) (n : Nat) (x : Timebase) : (s.setTb n x).links = s.links := rfl
@[simp] theorem State.setTb_palis (s : State) (n : Nat) (x : Timebase) : (s.setTb n x).palis = s.palis := rfl
@[simp] theorem State.setTb_subs (s : State) (n : Nat) (x : Timebase) : (s.setTb n x).subs = s.subs := rfl
@[simp] theorem State.setTb_tree (s : State) (n : Nat) (x : Timebase) : (s.setTb n x).tree = s.tree := rfl
@[simp] theorem State.setTb_twin (s : State) (n : Nat) (x : Timebase) : (s.setTb n x).twin = s.twin := rfl
@[simp] theorem State.setTb_island (s : State) (n : Nat) (x : Timebase) : (s.setTb n x).island = s.island := rfl
@[simp] theorem State.setTb_cals (s : State) (n : Nat) (x : Timebase) : (s.setTb n x).cals = s.cals := rfl
@[simp] theorem State.setTb_geode (s : State) (n : Nat) (x : Timebase) : (s.setTb n x).geode = s.geode := rfl
@[simp] theorem State.setTb_store (s : State) (n : Nat) (x : Timebase) : (s.setTb n x).store = s.store := rfl
@[simp] theorem State.setTb_power (s : State) (n : Nat) (x : Timebase) : (s.setTb n x).power = s.power := rfl
@[simp] theorem State.setTb_rd (s : State) (n : Nat) (x : Timebase) (r : Nat) : (s.setTb n x).rd r = s.rd r := rfl
@[simp] theorem State.setTb_fld (s : State) (n : Nat) (x : Timebase) (f : Fld) : (s.setTb n x).fld f = s.fld f := rfl
@[simp] theorem State.setTb_cw (s : State) (n : Nat) (x : Timebase) (k : Nat) : (s.setTb n x).cw k = s.cw k := rfl
@[simp] theorem State.setTb_port (s : State) (n : Nat) (x : Timebase) (k : Nat) : (s.setTb n x).port k = s.port k := rfl
@[simp] theorem State.setTb_queue (s : State) (n : Nat) (x : Timebase) (k : Nat) : (s.setTb n x).queue k = s.queue k := rfl
@[simp] theorem State.setTb_chan (s : State) (n : Nat) (x : Timebase) (k : Nat) : (s.setTb n x).chan k = s.chan k := rfl
@[simp] theorem State.setTb_str (s : State) (n : Nat) (x : Timebase) (k : Nat) : (s.setTb n x).str k = s.str k := rfl
@[simp] theorem State.setTb_grp (s : State) (n : Nat) (x : Timebase) (k : Nat) : (s.setTb n x).grp k = s.grp k := rfl
@[simp] theorem State.setTb_pd (s : State) (n : Nat) (x : Timebase) (k : Nat) : (s.setTb n x).pd k = s.pd k := rfl
@[simp] theorem State.setTb_bank (s : State) (n : Nat) (x : Timebase) (k : Nat) : (s.setTb n x).bank k = s.bank k := rfl
@[simp] theorem State.setTb_pipe (s : State) (n : Nat) (x : Timebase) (k : Nat) : (s.setTb n x).pipe k = s.pipe k := rfl
@[simp] theorem State.setTb_axis (s : State) (n : Nat) (x : Timebase) (k : Nat) : (s.setTb n x).axis k = s.axis k := rfl
@[simp] theorem State.setTb_tile (s : State) (n : Nat) (x : Timebase) (k : Nat) : (s.setTb n x).tile k = s.tile k := rfl
@[simp] theorem State.setTb_enc (s : State) (n : Nat) (x : Timebase) (k : Nat) : (s.setTb n x).enc k = s.enc k := rfl
@[simp] theorem State.setTb_th (s : State) (n : Nat) (x : Timebase) (k : Nat) : (s.setTb n x).th k = s.th k := rfl
@[simp] theorem State.setTb_barrier (s : State) (n : Nat) (x : Timebase) (k : Nat) : (s.setTb n x).barrier k = s.barrier k := rfl
@[simp] theorem State.setTb_lane (s : State) (n : Nat) (x : Timebase) (k : Nat) : (s.setTb n x).lane k = s.lane k := rfl
@[simp] theorem State.setTb_link (s : State) (n : Nat) (x : Timebase) (k : Nat) : (s.setTb n x).link k = s.link k := rfl
@[simp] theorem State.setTb_palisPort (s : State) (n : Nat) (x : Timebase) (k : Nat) : (s.setTb n x).palisPort k = s.palisPort k := rfl
@[simp] theorem State.setTb_sub (s : State) (n : Nat) (x : Timebase) (k : Nat) : (s.setTb n x).sub k = s.sub k := rfl
@[simp] theorem State.setTb_cal (s : State) (n : Nat) (x : Timebase) (k : Nat) : (s.setTb n x).cal k = s.cal k := rfl

/-! ### State.setCw -/

@[simp] theorem State.setCw_pending (s : State) (n : Nat) (x : CamWin) : (s.setCw n x).pending = s.pending := rfl
@[simp] theorem State.setCw_now (s : State) (n : Nat) (x : CamWin) : (s.setCw n x).now = s.now := rfl
@[simp] theorem State.setCw_showAcc (s : State) (n : Nat) (x : CamWin) : (s.setCw n x).showAcc = s.showAcc := rfl
@[simp] theorem State.setCw_regs (s : State) (n : Nat) (x : CamWin) : (s.setCw n x).regs = s.regs := rfl
@[simp] theorem State.setCw_heldLow (s : State) (n : Nat) (x : CamWin) : (s.setCw n x).heldLow = s.heldLow := rfl
@[simp] theorem State.setCw_latchedHi (s : State) (n : Nat) (x : CamWin) : (s.setCw n x).latchedHi = s.latchedHi := rfl
@[simp] theorem State.setCw_lastRead (s : State) (n : Nat) (x : CamWin) : (s.setCw n x).lastRead = s.lastRead := rfl
@[simp] theorem State.setCw_freeCtr (s : State) (n : Nat) (x : CamWin) : (s.setCw n x).freeCtr = s.freeCtr := rfl
@[simp] theorem State.setCw_dram (s : State) (n : Nat) (x : CamWin) : (s.setCw n x).dram = s.dram := rfl
@[simp] theorem State.setCw_host (s : State) (n : Nat) (x : CamWin) : (s.setCw n x).host = s.host := rfl
@[simp] theorem State.setCw_bindPend (s : State) (n : Nat) (x : CamWin) : (s.setCw n x).bindPend = s.bindPend := rfl
@[simp] theorem State.setCw_tbs (s : State) (n : Nat) (x : CamWin) : (s.setCw n x).tbs = s.tbs := rfl
@[simp] theorem State.setCw_ports (s : State) (n : Nat) (x : CamWin) : (s.setCw n x).ports = s.ports := rfl
@[simp] theorem State.setCw_mmu (s : State) (n : Nat) (x : CamWin) : (s.setCw n x).mmu = s.mmu := rfl
@[simp] theorem State.setCw_chans (s : State) (n : Nat) (x : CamWin) : (s.setCw n x).chans = s.chans := rfl
@[simp] theorem State.setCw_memc (s : State) (n : Nat) (x : CamWin) : (s.setCw n x).memc = s.memc := rfl
@[simp] theorem State.setCw_queues (s : State) (n : Nat) (x : CamWin) : (s.setCw n x).queues = s.queues := rfl
@[simp] theorem State.setCw_msix (s : State) (n : Nat) (x : CamWin) : (s.setCw n x).msix = s.msix := rfl
@[simp] theorem State.setCw_hostIf (s : State) (n : Nat) (x : CamWin) : (s.setCw n x).hostIf = s.hostIf := rfl
@[simp] theorem State.setCw_hostMsgs (s : State) (n : Nat) (x : CamWin) : (s.setCw n x).hostMsgs = s.hostMsgs := rfl
@[simp] theorem State.setCw_heldEvents (s : State) (n : Nat) (x : CamWin) : (s.setCw n x).heldEvents = s.heldEvents := rfl
@[simp] theorem State.setCw_pipes (s : State) (n : Nat) (x : CamWin) : (s.setCw n x).pipes = s.pipes := rfl
@[simp] theorem State.setCw_strings (s : State) (n : Nat) (x : CamWin) : (s.setCw n x).strings = s.strings := rfl
@[simp] theorem State.setCw_groups (s : State) (n : Nat) (x : CamWin) : (s.setCw n x).groups = s.groups := rfl
@[simp] theorem State.setCw_pds (s : State) (n : Nat) (x : CamWin) : (s.setCw n x).pds = s.pds := rfl
@[simp] theorem State.setCw_banks (s : State) (n : Nat) (x : CamWin) : (s.setCw n x).banks = s.banks := rfl
@[simp] theorem State.setCw_shdEdges (s : State) (n : Nat) (x : CamWin) : (s.setCw n x).shdEdges = s.shdEdges := rfl
@[simp] theorem State.setCw_vin10 (s : State) (n : Nat) (x : CamWin) : (s.setCw n x).vin10 = s.vin10 := rfl
@[simp] theorem State.setCw_axes (s : State) (n : Nat) (x : CamWin) : (s.setCw n x).axes = s.axes := rfl
@[simp] theorem State.setCw_tiles (s : State) (n : Nat) (x : CamWin) : (s.setCw n x).tiles = s.tiles := rfl
@[simp] theorem State.setCw_encs (s : State) (n : Nat) (x : CamWin) : (s.setCw n x).encs = s.encs := rfl
@[simp] theorem State.setCw_sds (s : State) (n : Nat) (x : CamWin) : (s.setCw n x).sds = s.sds := rfl
@[simp] theorem State.setCw_ctlTables (s : State) (n : Nat) (x : CamWin) : (s.setCw n x).ctlTables = s.ctlTables := rfl
@[simp] theorem State.setCw_ctlLoad (s : State) (n : Nat) (x : CamWin) : (s.setCw n x).ctlLoad = s.ctlLoad := rfl
@[simp] theorem State.setCw_threads (s : State) (n : Nat) (x : CamWin) : (s.setCw n x).threads = s.threads := rfl
@[simp] theorem State.setCw_padMem (s : State) (n : Nat) (x : CamWin) : (s.setCw n x).padMem = s.padMem := rfl
@[simp] theorem State.setCw_pilMem (s : State) (n : Nat) (x : CamWin) : (s.setCw n x).pilMem = s.pilMem := rfl
@[simp] theorem State.setCw_barriers (s : State) (n : Nat) (x : CamWin) : (s.setCw n x).barriers = s.barriers := rfl
@[simp] theorem State.setCw_engAcc (s : State) (n : Nat) (x : CamWin) : (s.setCw n x).engAcc = s.engAcc := rfl
@[simp] theorem State.setCw_engEccAt (s : State) (n : Nat) (x : CamWin) : (s.setCw n x).engEccAt = s.engEccAt := rfl
@[simp] theorem State.setCw_cmpBadAt (s : State) (n : Nat) (x : CamWin) : (s.setCw n x).cmpBadAt = s.cmpBadAt := rfl
@[simp] theorem State.setCw_lanes (s : State) (n : Nat) (x : CamWin) : (s.setCw n x).lanes = s.lanes := rfl
@[simp] theorem State.setCw_links (s : State) (n : Nat) (x : CamWin) : (s.setCw n x).links = s.links := rfl
@[simp] theorem State.setCw_palis (s : State) (n : Nat) (x : CamWin) : (s.setCw n x).palis = s.palis := rfl
@[simp] theorem State.setCw_subs (s : State) (n : Nat) (x : CamWin) : (s.setCw n x).subs = s.subs := rfl
@[simp] theorem State.setCw_tree (s : State) (n : Nat) (x : CamWin) : (s.setCw n x).tree = s.tree := rfl
@[simp] theorem State.setCw_twin (s : State) (n : Nat) (x : CamWin) : (s.setCw n x).twin = s.twin := rfl
@[simp] theorem State.setCw_island (s : State) (n : Nat) (x : CamWin) : (s.setCw n x).island = s.island := rfl
@[simp] theorem State.setCw_cals (s : State) (n : Nat) (x : CamWin) : (s.setCw n x).cals = s.cals := rfl
@[simp] theorem State.setCw_geode (s : State) (n : Nat) (x : CamWin) : (s.setCw n x).geode = s.geode := rfl
@[simp] theorem State.setCw_store (s : State) (n : Nat) (x : CamWin) : (s.setCw n x).store = s.store := rfl
@[simp] theorem State.setCw_power (s : State) (n : Nat) (x : CamWin) : (s.setCw n x).power = s.power := rfl
@[simp] theorem State.setCw_rd (s : State) (n : Nat) (x : CamWin) (r : Nat) : (s.setCw n x).rd r = s.rd r := rfl
@[simp] theorem State.setCw_fld (s : State) (n : Nat) (x : CamWin) (f : Fld) : (s.setCw n x).fld f = s.fld f := rfl
@[simp] theorem State.setCw_tb (s : State) (n : Nat) (x : CamWin) (k : Nat) : (s.setCw n x).tb k = s.tb k := rfl
@[simp] theorem State.setCw_port (s : State) (n : Nat) (x : CamWin) (k : Nat) : (s.setCw n x).port k = s.port k := rfl
@[simp] theorem State.setCw_queue (s : State) (n : Nat) (x : CamWin) (k : Nat) : (s.setCw n x).queue k = s.queue k := rfl
@[simp] theorem State.setCw_chan (s : State) (n : Nat) (x : CamWin) (k : Nat) : (s.setCw n x).chan k = s.chan k := rfl
@[simp] theorem State.setCw_str (s : State) (n : Nat) (x : CamWin) (k : Nat) : (s.setCw n x).str k = s.str k := rfl
@[simp] theorem State.setCw_grp (s : State) (n : Nat) (x : CamWin) (k : Nat) : (s.setCw n x).grp k = s.grp k := rfl
@[simp] theorem State.setCw_pd (s : State) (n : Nat) (x : CamWin) (k : Nat) : (s.setCw n x).pd k = s.pd k := rfl
@[simp] theorem State.setCw_bank (s : State) (n : Nat) (x : CamWin) (k : Nat) : (s.setCw n x).bank k = s.bank k := rfl
@[simp] theorem State.setCw_pipe (s : State) (n : Nat) (x : CamWin) (k : Nat) : (s.setCw n x).pipe k = s.pipe k := rfl
@[simp] theorem State.setCw_axis (s : State) (n : Nat) (x : CamWin) (k : Nat) : (s.setCw n x).axis k = s.axis k := rfl
@[simp] theorem State.setCw_tile (s : State) (n : Nat) (x : CamWin) (k : Nat) : (s.setCw n x).tile k = s.tile k := rfl
@[simp] theorem State.setCw_enc (s : State) (n : Nat) (x : CamWin) (k : Nat) : (s.setCw n x).enc k = s.enc k := rfl
@[simp] theorem State.setCw_th (s : State) (n : Nat) (x : CamWin) (k : Nat) : (s.setCw n x).th k = s.th k := rfl
@[simp] theorem State.setCw_barrier (s : State) (n : Nat) (x : CamWin) (k : Nat) : (s.setCw n x).barrier k = s.barrier k := rfl
@[simp] theorem State.setCw_lane (s : State) (n : Nat) (x : CamWin) (k : Nat) : (s.setCw n x).lane k = s.lane k := rfl
@[simp] theorem State.setCw_link (s : State) (n : Nat) (x : CamWin) (k : Nat) : (s.setCw n x).link k = s.link k := rfl
@[simp] theorem State.setCw_palisPort (s : State) (n : Nat) (x : CamWin) (k : Nat) : (s.setCw n x).palisPort k = s.palisPort k := rfl
@[simp] theorem State.setCw_sub (s : State) (n : Nat) (x : CamWin) (k : Nat) : (s.setCw n x).sub k = s.sub k := rfl
@[simp] theorem State.setCw_cal (s : State) (n : Nat) (x : CamWin) (k : Nat) : (s.setCw n x).cal k = s.cal k := rfl

/-! ### State.setPort -/

@[simp] theorem State.setPort_pending (s : State) (n : Nat) (x : Port) : (s.setPort n x).pending = s.pending := rfl
@[simp] theorem State.setPort_now (s : State) (n : Nat) (x : Port) : (s.setPort n x).now = s.now := rfl
@[simp] theorem State.setPort_showAcc (s : State) (n : Nat) (x : Port) : (s.setPort n x).showAcc = s.showAcc := rfl
@[simp] theorem State.setPort_regs (s : State) (n : Nat) (x : Port) : (s.setPort n x).regs = s.regs := rfl
@[simp] theorem State.setPort_heldLow (s : State) (n : Nat) (x : Port) : (s.setPort n x).heldLow = s.heldLow := rfl
@[simp] theorem State.setPort_latchedHi (s : State) (n : Nat) (x : Port) : (s.setPort n x).latchedHi = s.latchedHi := rfl
@[simp] theorem State.setPort_lastRead (s : State) (n : Nat) (x : Port) : (s.setPort n x).lastRead = s.lastRead := rfl
@[simp] theorem State.setPort_freeCtr (s : State) (n : Nat) (x : Port) : (s.setPort n x).freeCtr = s.freeCtr := rfl
@[simp] theorem State.setPort_dram (s : State) (n : Nat) (x : Port) : (s.setPort n x).dram = s.dram := rfl
@[simp] theorem State.setPort_host (s : State) (n : Nat) (x : Port) : (s.setPort n x).host = s.host := rfl
@[simp] theorem State.setPort_bindPend (s : State) (n : Nat) (x : Port) : (s.setPort n x).bindPend = s.bindPend := rfl
@[simp] theorem State.setPort_tbs (s : State) (n : Nat) (x : Port) : (s.setPort n x).tbs = s.tbs := rfl
@[simp] theorem State.setPort_cws (s : State) (n : Nat) (x : Port) : (s.setPort n x).cws = s.cws := rfl
@[simp] theorem State.setPort_mmu (s : State) (n : Nat) (x : Port) : (s.setPort n x).mmu = s.mmu := rfl
@[simp] theorem State.setPort_chans (s : State) (n : Nat) (x : Port) : (s.setPort n x).chans = s.chans := rfl
@[simp] theorem State.setPort_memc (s : State) (n : Nat) (x : Port) : (s.setPort n x).memc = s.memc := rfl
@[simp] theorem State.setPort_queues (s : State) (n : Nat) (x : Port) : (s.setPort n x).queues = s.queues := rfl
@[simp] theorem State.setPort_msix (s : State) (n : Nat) (x : Port) : (s.setPort n x).msix = s.msix := rfl
@[simp] theorem State.setPort_hostIf (s : State) (n : Nat) (x : Port) : (s.setPort n x).hostIf = s.hostIf := rfl
@[simp] theorem State.setPort_hostMsgs (s : State) (n : Nat) (x : Port) : (s.setPort n x).hostMsgs = s.hostMsgs := rfl
@[simp] theorem State.setPort_heldEvents (s : State) (n : Nat) (x : Port) : (s.setPort n x).heldEvents = s.heldEvents := rfl
@[simp] theorem State.setPort_pipes (s : State) (n : Nat) (x : Port) : (s.setPort n x).pipes = s.pipes := rfl
@[simp] theorem State.setPort_strings (s : State) (n : Nat) (x : Port) : (s.setPort n x).strings = s.strings := rfl
@[simp] theorem State.setPort_groups (s : State) (n : Nat) (x : Port) : (s.setPort n x).groups = s.groups := rfl
@[simp] theorem State.setPort_pds (s : State) (n : Nat) (x : Port) : (s.setPort n x).pds = s.pds := rfl
@[simp] theorem State.setPort_banks (s : State) (n : Nat) (x : Port) : (s.setPort n x).banks = s.banks := rfl
@[simp] theorem State.setPort_shdEdges (s : State) (n : Nat) (x : Port) : (s.setPort n x).shdEdges = s.shdEdges := rfl
@[simp] theorem State.setPort_vin10 (s : State) (n : Nat) (x : Port) : (s.setPort n x).vin10 = s.vin10 := rfl
@[simp] theorem State.setPort_axes (s : State) (n : Nat) (x : Port) : (s.setPort n x).axes = s.axes := rfl
@[simp] theorem State.setPort_tiles (s : State) (n : Nat) (x : Port) : (s.setPort n x).tiles = s.tiles := rfl
@[simp] theorem State.setPort_encs (s : State) (n : Nat) (x : Port) : (s.setPort n x).encs = s.encs := rfl
@[simp] theorem State.setPort_sds (s : State) (n : Nat) (x : Port) : (s.setPort n x).sds = s.sds := rfl
@[simp] theorem State.setPort_ctlTables (s : State) (n : Nat) (x : Port) : (s.setPort n x).ctlTables = s.ctlTables := rfl
@[simp] theorem State.setPort_ctlLoad (s : State) (n : Nat) (x : Port) : (s.setPort n x).ctlLoad = s.ctlLoad := rfl
@[simp] theorem State.setPort_threads (s : State) (n : Nat) (x : Port) : (s.setPort n x).threads = s.threads := rfl
@[simp] theorem State.setPort_padMem (s : State) (n : Nat) (x : Port) : (s.setPort n x).padMem = s.padMem := rfl
@[simp] theorem State.setPort_pilMem (s : State) (n : Nat) (x : Port) : (s.setPort n x).pilMem = s.pilMem := rfl
@[simp] theorem State.setPort_barriers (s : State) (n : Nat) (x : Port) : (s.setPort n x).barriers = s.barriers := rfl
@[simp] theorem State.setPort_engAcc (s : State) (n : Nat) (x : Port) : (s.setPort n x).engAcc = s.engAcc := rfl
@[simp] theorem State.setPort_engEccAt (s : State) (n : Nat) (x : Port) : (s.setPort n x).engEccAt = s.engEccAt := rfl
@[simp] theorem State.setPort_cmpBadAt (s : State) (n : Nat) (x : Port) : (s.setPort n x).cmpBadAt = s.cmpBadAt := rfl
@[simp] theorem State.setPort_lanes (s : State) (n : Nat) (x : Port) : (s.setPort n x).lanes = s.lanes := rfl
@[simp] theorem State.setPort_links (s : State) (n : Nat) (x : Port) : (s.setPort n x).links = s.links := rfl
@[simp] theorem State.setPort_palis (s : State) (n : Nat) (x : Port) : (s.setPort n x).palis = s.palis := rfl
@[simp] theorem State.setPort_subs (s : State) (n : Nat) (x : Port) : (s.setPort n x).subs = s.subs := rfl
@[simp] theorem State.setPort_tree (s : State) (n : Nat) (x : Port) : (s.setPort n x).tree = s.tree := rfl
@[simp] theorem State.setPort_twin (s : State) (n : Nat) (x : Port) : (s.setPort n x).twin = s.twin := rfl
@[simp] theorem State.setPort_island (s : State) (n : Nat) (x : Port) : (s.setPort n x).island = s.island := rfl
@[simp] theorem State.setPort_cals (s : State) (n : Nat) (x : Port) : (s.setPort n x).cals = s.cals := rfl
@[simp] theorem State.setPort_geode (s : State) (n : Nat) (x : Port) : (s.setPort n x).geode = s.geode := rfl
@[simp] theorem State.setPort_store (s : State) (n : Nat) (x : Port) : (s.setPort n x).store = s.store := rfl
@[simp] theorem State.setPort_power (s : State) (n : Nat) (x : Port) : (s.setPort n x).power = s.power := rfl
@[simp] theorem State.setPort_rd (s : State) (n : Nat) (x : Port) (r : Nat) : (s.setPort n x).rd r = s.rd r := rfl
@[simp] theorem State.setPort_fld (s : State) (n : Nat) (x : Port) (f : Fld) : (s.setPort n x).fld f = s.fld f := rfl
@[simp] theorem State.setPort_tb (s : State) (n : Nat) (x : Port) (k : Nat) : (s.setPort n x).tb k = s.tb k := rfl
@[simp] theorem State.setPort_cw (s : State) (n : Nat) (x : Port) (k : Nat) : (s.setPort n x).cw k = s.cw k := rfl
@[simp] theorem State.setPort_queue (s : State) (n : Nat) (x : Port) (k : Nat) : (s.setPort n x).queue k = s.queue k := rfl
@[simp] theorem State.setPort_chan (s : State) (n : Nat) (x : Port) (k : Nat) : (s.setPort n x).chan k = s.chan k := rfl
@[simp] theorem State.setPort_str (s : State) (n : Nat) (x : Port) (k : Nat) : (s.setPort n x).str k = s.str k := rfl
@[simp] theorem State.setPort_grp (s : State) (n : Nat) (x : Port) (k : Nat) : (s.setPort n x).grp k = s.grp k := rfl
@[simp] theorem State.setPort_pd (s : State) (n : Nat) (x : Port) (k : Nat) : (s.setPort n x).pd k = s.pd k := rfl
@[simp] theorem State.setPort_bank (s : State) (n : Nat) (x : Port) (k : Nat) : (s.setPort n x).bank k = s.bank k := rfl
@[simp] theorem State.setPort_pipe (s : State) (n : Nat) (x : Port) (k : Nat) : (s.setPort n x).pipe k = s.pipe k := rfl
@[simp] theorem State.setPort_axis (s : State) (n : Nat) (x : Port) (k : Nat) : (s.setPort n x).axis k = s.axis k := rfl
@[simp] theorem State.setPort_tile (s : State) (n : Nat) (x : Port) (k : Nat) : (s.setPort n x).tile k = s.tile k := rfl
@[simp] theorem State.setPort_enc (s : State) (n : Nat) (x : Port) (k : Nat) : (s.setPort n x).enc k = s.enc k := rfl
@[simp] theorem State.setPort_th (s : State) (n : Nat) (x : Port) (k : Nat) : (s.setPort n x).th k = s.th k := rfl
@[simp] theorem State.setPort_barrier (s : State) (n : Nat) (x : Port) (k : Nat) : (s.setPort n x).barrier k = s.barrier k := rfl
@[simp] theorem State.setPort_lane (s : State) (n : Nat) (x : Port) (k : Nat) : (s.setPort n x).lane k = s.lane k := rfl
@[simp] theorem State.setPort_link (s : State) (n : Nat) (x : Port) (k : Nat) : (s.setPort n x).link k = s.link k := rfl
@[simp] theorem State.setPort_palisPort (s : State) (n : Nat) (x : Port) (k : Nat) : (s.setPort n x).palisPort k = s.palisPort k := rfl
@[simp] theorem State.setPort_sub (s : State) (n : Nat) (x : Port) (k : Nat) : (s.setPort n x).sub k = s.sub k := rfl
@[simp] theorem State.setPort_cal (s : State) (n : Nat) (x : Port) (k : Nat) : (s.setPort n x).cal k = s.cal k := rfl

/-! ### State.setQueue -/

@[simp] theorem State.setQueue_pending (s : State) (n : Nat) (x : QueueRec) : (s.setQueue n x).pending = s.pending := rfl
@[simp] theorem State.setQueue_now (s : State) (n : Nat) (x : QueueRec) : (s.setQueue n x).now = s.now := rfl
@[simp] theorem State.setQueue_showAcc (s : State) (n : Nat) (x : QueueRec) : (s.setQueue n x).showAcc = s.showAcc := rfl
@[simp] theorem State.setQueue_regs (s : State) (n : Nat) (x : QueueRec) : (s.setQueue n x).regs = s.regs := rfl
@[simp] theorem State.setQueue_heldLow (s : State) (n : Nat) (x : QueueRec) : (s.setQueue n x).heldLow = s.heldLow := rfl
@[simp] theorem State.setQueue_latchedHi (s : State) (n : Nat) (x : QueueRec) : (s.setQueue n x).latchedHi = s.latchedHi := rfl
@[simp] theorem State.setQueue_lastRead (s : State) (n : Nat) (x : QueueRec) : (s.setQueue n x).lastRead = s.lastRead := rfl
@[simp] theorem State.setQueue_freeCtr (s : State) (n : Nat) (x : QueueRec) : (s.setQueue n x).freeCtr = s.freeCtr := rfl
@[simp] theorem State.setQueue_dram (s : State) (n : Nat) (x : QueueRec) : (s.setQueue n x).dram = s.dram := rfl
@[simp] theorem State.setQueue_host (s : State) (n : Nat) (x : QueueRec) : (s.setQueue n x).host = s.host := rfl
@[simp] theorem State.setQueue_bindPend (s : State) (n : Nat) (x : QueueRec) : (s.setQueue n x).bindPend = s.bindPend := rfl
@[simp] theorem State.setQueue_tbs (s : State) (n : Nat) (x : QueueRec) : (s.setQueue n x).tbs = s.tbs := rfl
@[simp] theorem State.setQueue_cws (s : State) (n : Nat) (x : QueueRec) : (s.setQueue n x).cws = s.cws := rfl
@[simp] theorem State.setQueue_ports (s : State) (n : Nat) (x : QueueRec) : (s.setQueue n x).ports = s.ports := rfl
@[simp] theorem State.setQueue_mmu (s : State) (n : Nat) (x : QueueRec) : (s.setQueue n x).mmu = s.mmu := rfl
@[simp] theorem State.setQueue_chans (s : State) (n : Nat) (x : QueueRec) : (s.setQueue n x).chans = s.chans := rfl
@[simp] theorem State.setQueue_memc (s : State) (n : Nat) (x : QueueRec) : (s.setQueue n x).memc = s.memc := rfl
@[simp] theorem State.setQueue_msix (s : State) (n : Nat) (x : QueueRec) : (s.setQueue n x).msix = s.msix := rfl
@[simp] theorem State.setQueue_hostIf (s : State) (n : Nat) (x : QueueRec) : (s.setQueue n x).hostIf = s.hostIf := rfl
@[simp] theorem State.setQueue_hostMsgs (s : State) (n : Nat) (x : QueueRec) : (s.setQueue n x).hostMsgs = s.hostMsgs := rfl
@[simp] theorem State.setQueue_heldEvents (s : State) (n : Nat) (x : QueueRec) : (s.setQueue n x).heldEvents = s.heldEvents := rfl
@[simp] theorem State.setQueue_pipes (s : State) (n : Nat) (x : QueueRec) : (s.setQueue n x).pipes = s.pipes := rfl
@[simp] theorem State.setQueue_strings (s : State) (n : Nat) (x : QueueRec) : (s.setQueue n x).strings = s.strings := rfl
@[simp] theorem State.setQueue_groups (s : State) (n : Nat) (x : QueueRec) : (s.setQueue n x).groups = s.groups := rfl
@[simp] theorem State.setQueue_pds (s : State) (n : Nat) (x : QueueRec) : (s.setQueue n x).pds = s.pds := rfl
@[simp] theorem State.setQueue_banks (s : State) (n : Nat) (x : QueueRec) : (s.setQueue n x).banks = s.banks := rfl
@[simp] theorem State.setQueue_shdEdges (s : State) (n : Nat) (x : QueueRec) : (s.setQueue n x).shdEdges = s.shdEdges := rfl
@[simp] theorem State.setQueue_vin10 (s : State) (n : Nat) (x : QueueRec) : (s.setQueue n x).vin10 = s.vin10 := rfl
@[simp] theorem State.setQueue_axes (s : State) (n : Nat) (x : QueueRec) : (s.setQueue n x).axes = s.axes := rfl
@[simp] theorem State.setQueue_tiles (s : State) (n : Nat) (x : QueueRec) : (s.setQueue n x).tiles = s.tiles := rfl
@[simp] theorem State.setQueue_encs (s : State) (n : Nat) (x : QueueRec) : (s.setQueue n x).encs = s.encs := rfl
@[simp] theorem State.setQueue_sds (s : State) (n : Nat) (x : QueueRec) : (s.setQueue n x).sds = s.sds := rfl
@[simp] theorem State.setQueue_ctlTables (s : State) (n : Nat) (x : QueueRec) : (s.setQueue n x).ctlTables = s.ctlTables := rfl
@[simp] theorem State.setQueue_ctlLoad (s : State) (n : Nat) (x : QueueRec) : (s.setQueue n x).ctlLoad = s.ctlLoad := rfl
@[simp] theorem State.setQueue_threads (s : State) (n : Nat) (x : QueueRec) : (s.setQueue n x).threads = s.threads := rfl
@[simp] theorem State.setQueue_padMem (s : State) (n : Nat) (x : QueueRec) : (s.setQueue n x).padMem = s.padMem := rfl
@[simp] theorem State.setQueue_pilMem (s : State) (n : Nat) (x : QueueRec) : (s.setQueue n x).pilMem = s.pilMem := rfl
@[simp] theorem State.setQueue_barriers (s : State) (n : Nat) (x : QueueRec) : (s.setQueue n x).barriers = s.barriers := rfl
@[simp] theorem State.setQueue_engAcc (s : State) (n : Nat) (x : QueueRec) : (s.setQueue n x).engAcc = s.engAcc := rfl
@[simp] theorem State.setQueue_engEccAt (s : State) (n : Nat) (x : QueueRec) : (s.setQueue n x).engEccAt = s.engEccAt := rfl
@[simp] theorem State.setQueue_cmpBadAt (s : State) (n : Nat) (x : QueueRec) : (s.setQueue n x).cmpBadAt = s.cmpBadAt := rfl
@[simp] theorem State.setQueue_lanes (s : State) (n : Nat) (x : QueueRec) : (s.setQueue n x).lanes = s.lanes := rfl
@[simp] theorem State.setQueue_links (s : State) (n : Nat) (x : QueueRec) : (s.setQueue n x).links = s.links := rfl
@[simp] theorem State.setQueue_palis (s : State) (n : Nat) (x : QueueRec) : (s.setQueue n x).palis = s.palis := rfl
@[simp] theorem State.setQueue_subs (s : State) (n : Nat) (x : QueueRec) : (s.setQueue n x).subs = s.subs := rfl
@[simp] theorem State.setQueue_tree (s : State) (n : Nat) (x : QueueRec) : (s.setQueue n x).tree = s.tree := rfl
@[simp] theorem State.setQueue_twin (s : State) (n : Nat) (x : QueueRec) : (s.setQueue n x).twin = s.twin := rfl
@[simp] theorem State.setQueue_island (s : State) (n : Nat) (x : QueueRec) : (s.setQueue n x).island = s.island := rfl
@[simp] theorem State.setQueue_cals (s : State) (n : Nat) (x : QueueRec) : (s.setQueue n x).cals = s.cals := rfl
@[simp] theorem State.setQueue_geode (s : State) (n : Nat) (x : QueueRec) : (s.setQueue n x).geode = s.geode := rfl
@[simp] theorem State.setQueue_store (s : State) (n : Nat) (x : QueueRec) : (s.setQueue n x).store = s.store := rfl
@[simp] theorem State.setQueue_power (s : State) (n : Nat) (x : QueueRec) : (s.setQueue n x).power = s.power := rfl
@[simp] theorem State.setQueue_rd (s : State) (n : Nat) (x : QueueRec) (r : Nat) : (s.setQueue n x).rd r = s.rd r := rfl
@[simp] theorem State.setQueue_fld (s : State) (n : Nat) (x : QueueRec) (f : Fld) : (s.setQueue n x).fld f = s.fld f := rfl
@[simp] theorem State.setQueue_tb (s : State) (n : Nat) (x : QueueRec) (k : Nat) : (s.setQueue n x).tb k = s.tb k := rfl
@[simp] theorem State.setQueue_cw (s : State) (n : Nat) (x : QueueRec) (k : Nat) : (s.setQueue n x).cw k = s.cw k := rfl
@[simp] theorem State.setQueue_port (s : State) (n : Nat) (x : QueueRec) (k : Nat) : (s.setQueue n x).port k = s.port k := rfl
@[simp] theorem State.setQueue_chan (s : State) (n : Nat) (x : QueueRec) (k : Nat) : (s.setQueue n x).chan k = s.chan k := rfl
@[simp] theorem State.setQueue_str (s : State) (n : Nat) (x : QueueRec) (k : Nat) : (s.setQueue n x).str k = s.str k := rfl
@[simp] theorem State.setQueue_grp (s : State) (n : Nat) (x : QueueRec) (k : Nat) : (s.setQueue n x).grp k = s.grp k := rfl
@[simp] theorem State.setQueue_pd (s : State) (n : Nat) (x : QueueRec) (k : Nat) : (s.setQueue n x).pd k = s.pd k := rfl
@[simp] theorem State.setQueue_bank (s : State) (n : Nat) (x : QueueRec) (k : Nat) : (s.setQueue n x).bank k = s.bank k := rfl
@[simp] theorem State.setQueue_pipe (s : State) (n : Nat) (x : QueueRec) (k : Nat) : (s.setQueue n x).pipe k = s.pipe k := rfl
@[simp] theorem State.setQueue_axis (s : State) (n : Nat) (x : QueueRec) (k : Nat) : (s.setQueue n x).axis k = s.axis k := rfl
@[simp] theorem State.setQueue_tile (s : State) (n : Nat) (x : QueueRec) (k : Nat) : (s.setQueue n x).tile k = s.tile k := rfl
@[simp] theorem State.setQueue_enc (s : State) (n : Nat) (x : QueueRec) (k : Nat) : (s.setQueue n x).enc k = s.enc k := rfl
@[simp] theorem State.setQueue_th (s : State) (n : Nat) (x : QueueRec) (k : Nat) : (s.setQueue n x).th k = s.th k := rfl
@[simp] theorem State.setQueue_barrier (s : State) (n : Nat) (x : QueueRec) (k : Nat) : (s.setQueue n x).barrier k = s.barrier k := rfl
@[simp] theorem State.setQueue_lane (s : State) (n : Nat) (x : QueueRec) (k : Nat) : (s.setQueue n x).lane k = s.lane k := rfl
@[simp] theorem State.setQueue_link (s : State) (n : Nat) (x : QueueRec) (k : Nat) : (s.setQueue n x).link k = s.link k := rfl
@[simp] theorem State.setQueue_palisPort (s : State) (n : Nat) (x : QueueRec) (k : Nat) : (s.setQueue n x).palisPort k = s.palisPort k := rfl
@[simp] theorem State.setQueue_sub (s : State) (n : Nat) (x : QueueRec) (k : Nat) : (s.setQueue n x).sub k = s.sub k := rfl
@[simp] theorem State.setQueue_cal (s : State) (n : Nat) (x : QueueRec) (k : Nat) : (s.setQueue n x).cal k = s.cal k := rfl

/-! ### State.setChan -/

@[simp] theorem State.setChan_pending (s : State) (n : Nat) (x : Channel) : (s.setChan n x).pending = s.pending := rfl
@[simp] theorem State.setChan_now (s : State) (n : Nat) (x : Channel) : (s.setChan n x).now = s.now := rfl
@[simp] theorem State.setChan_showAcc (s : State) (n : Nat) (x : Channel) : (s.setChan n x).showAcc = s.showAcc := rfl
@[simp] theorem State.setChan_regs (s : State) (n : Nat) (x : Channel) : (s.setChan n x).regs = s.regs := rfl
@[simp] theorem State.setChan_heldLow (s : State) (n : Nat) (x : Channel) : (s.setChan n x).heldLow = s.heldLow := rfl
@[simp] theorem State.setChan_latchedHi (s : State) (n : Nat) (x : Channel) : (s.setChan n x).latchedHi = s.latchedHi := rfl
@[simp] theorem State.setChan_lastRead (s : State) (n : Nat) (x : Channel) : (s.setChan n x).lastRead = s.lastRead := rfl
@[simp] theorem State.setChan_freeCtr (s : State) (n : Nat) (x : Channel) : (s.setChan n x).freeCtr = s.freeCtr := rfl
@[simp] theorem State.setChan_dram (s : State) (n : Nat) (x : Channel) : (s.setChan n x).dram = s.dram := rfl
@[simp] theorem State.setChan_host (s : State) (n : Nat) (x : Channel) : (s.setChan n x).host = s.host := rfl
@[simp] theorem State.setChan_bindPend (s : State) (n : Nat) (x : Channel) : (s.setChan n x).bindPend = s.bindPend := rfl
@[simp] theorem State.setChan_tbs (s : State) (n : Nat) (x : Channel) : (s.setChan n x).tbs = s.tbs := rfl
@[simp] theorem State.setChan_cws (s : State) (n : Nat) (x : Channel) : (s.setChan n x).cws = s.cws := rfl
@[simp] theorem State.setChan_ports (s : State) (n : Nat) (x : Channel) : (s.setChan n x).ports = s.ports := rfl
@[simp] theorem State.setChan_mmu (s : State) (n : Nat) (x : Channel) : (s.setChan n x).mmu = s.mmu := rfl
@[simp] theorem State.setChan_memc (s : State) (n : Nat) (x : Channel) : (s.setChan n x).memc = s.memc := rfl
@[simp] theorem State.setChan_queues (s : State) (n : Nat) (x : Channel) : (s.setChan n x).queues = s.queues := rfl
@[simp] theorem State.setChan_msix (s : State) (n : Nat) (x : Channel) : (s.setChan n x).msix = s.msix := rfl
@[simp] theorem State.setChan_hostIf (s : State) (n : Nat) (x : Channel) : (s.setChan n x).hostIf = s.hostIf := rfl
@[simp] theorem State.setChan_hostMsgs (s : State) (n : Nat) (x : Channel) : (s.setChan n x).hostMsgs = s.hostMsgs := rfl
@[simp] theorem State.setChan_heldEvents (s : State) (n : Nat) (x : Channel) : (s.setChan n x).heldEvents = s.heldEvents := rfl
@[simp] theorem State.setChan_pipes (s : State) (n : Nat) (x : Channel) : (s.setChan n x).pipes = s.pipes := rfl
@[simp] theorem State.setChan_strings (s : State) (n : Nat) (x : Channel) : (s.setChan n x).strings = s.strings := rfl
@[simp] theorem State.setChan_groups (s : State) (n : Nat) (x : Channel) : (s.setChan n x).groups = s.groups := rfl
@[simp] theorem State.setChan_pds (s : State) (n : Nat) (x : Channel) : (s.setChan n x).pds = s.pds := rfl
@[simp] theorem State.setChan_banks (s : State) (n : Nat) (x : Channel) : (s.setChan n x).banks = s.banks := rfl
@[simp] theorem State.setChan_shdEdges (s : State) (n : Nat) (x : Channel) : (s.setChan n x).shdEdges = s.shdEdges := rfl
@[simp] theorem State.setChan_vin10 (s : State) (n : Nat) (x : Channel) : (s.setChan n x).vin10 = s.vin10 := rfl
@[simp] theorem State.setChan_axes (s : State) (n : Nat) (x : Channel) : (s.setChan n x).axes = s.axes := rfl
@[simp] theorem State.setChan_tiles (s : State) (n : Nat) (x : Channel) : (s.setChan n x).tiles = s.tiles := rfl
@[simp] theorem State.setChan_encs (s : State) (n : Nat) (x : Channel) : (s.setChan n x).encs = s.encs := rfl
@[simp] theorem State.setChan_sds (s : State) (n : Nat) (x : Channel) : (s.setChan n x).sds = s.sds := rfl
@[simp] theorem State.setChan_ctlTables (s : State) (n : Nat) (x : Channel) : (s.setChan n x).ctlTables = s.ctlTables := rfl
@[simp] theorem State.setChan_ctlLoad (s : State) (n : Nat) (x : Channel) : (s.setChan n x).ctlLoad = s.ctlLoad := rfl
@[simp] theorem State.setChan_threads (s : State) (n : Nat) (x : Channel) : (s.setChan n x).threads = s.threads := rfl
@[simp] theorem State.setChan_padMem (s : State) (n : Nat) (x : Channel) : (s.setChan n x).padMem = s.padMem := rfl
@[simp] theorem State.setChan_pilMem (s : State) (n : Nat) (x : Channel) : (s.setChan n x).pilMem = s.pilMem := rfl
@[simp] theorem State.setChan_barriers (s : State) (n : Nat) (x : Channel) : (s.setChan n x).barriers = s.barriers := rfl
@[simp] theorem State.setChan_engAcc (s : State) (n : Nat) (x : Channel) : (s.setChan n x).engAcc = s.engAcc := rfl
@[simp] theorem State.setChan_engEccAt (s : State) (n : Nat) (x : Channel) : (s.setChan n x).engEccAt = s.engEccAt := rfl
@[simp] theorem State.setChan_cmpBadAt (s : State) (n : Nat) (x : Channel) : (s.setChan n x).cmpBadAt = s.cmpBadAt := rfl
@[simp] theorem State.setChan_lanes (s : State) (n : Nat) (x : Channel) : (s.setChan n x).lanes = s.lanes := rfl
@[simp] theorem State.setChan_links (s : State) (n : Nat) (x : Channel) : (s.setChan n x).links = s.links := rfl
@[simp] theorem State.setChan_palis (s : State) (n : Nat) (x : Channel) : (s.setChan n x).palis = s.palis := rfl
@[simp] theorem State.setChan_subs (s : State) (n : Nat) (x : Channel) : (s.setChan n x).subs = s.subs := rfl
@[simp] theorem State.setChan_tree (s : State) (n : Nat) (x : Channel) : (s.setChan n x).tree = s.tree := rfl
@[simp] theorem State.setChan_twin (s : State) (n : Nat) (x : Channel) : (s.setChan n x).twin = s.twin := rfl
@[simp] theorem State.setChan_island (s : State) (n : Nat) (x : Channel) : (s.setChan n x).island = s.island := rfl
@[simp] theorem State.setChan_cals (s : State) (n : Nat) (x : Channel) : (s.setChan n x).cals = s.cals := rfl
@[simp] theorem State.setChan_geode (s : State) (n : Nat) (x : Channel) : (s.setChan n x).geode = s.geode := rfl
@[simp] theorem State.setChan_store (s : State) (n : Nat) (x : Channel) : (s.setChan n x).store = s.store := rfl
@[simp] theorem State.setChan_power (s : State) (n : Nat) (x : Channel) : (s.setChan n x).power = s.power := rfl
@[simp] theorem State.setChan_rd (s : State) (n : Nat) (x : Channel) (r : Nat) : (s.setChan n x).rd r = s.rd r := rfl
@[simp] theorem State.setChan_fld (s : State) (n : Nat) (x : Channel) (f : Fld) : (s.setChan n x).fld f = s.fld f := rfl
@[simp] theorem State.setChan_tb (s : State) (n : Nat) (x : Channel) (k : Nat) : (s.setChan n x).tb k = s.tb k := rfl
@[simp] theorem State.setChan_cw (s : State) (n : Nat) (x : Channel) (k : Nat) : (s.setChan n x).cw k = s.cw k := rfl
@[simp] theorem State.setChan_port (s : State) (n : Nat) (x : Channel) (k : Nat) : (s.setChan n x).port k = s.port k := rfl
@[simp] theorem State.setChan_queue (s : State) (n : Nat) (x : Channel) (k : Nat) : (s.setChan n x).queue k = s.queue k := rfl
@[simp] theorem State.setChan_str (s : State) (n : Nat) (x : Channel) (k : Nat) : (s.setChan n x).str k = s.str k := rfl
@[simp] theorem State.setChan_grp (s : State) (n : Nat) (x : Channel) (k : Nat) : (s.setChan n x).grp k = s.grp k := rfl
@[simp] theorem State.setChan_pd (s : State) (n : Nat) (x : Channel) (k : Nat) : (s.setChan n x).pd k = s.pd k := rfl
@[simp] theorem State.setChan_bank (s : State) (n : Nat) (x : Channel) (k : Nat) : (s.setChan n x).bank k = s.bank k := rfl
@[simp] theorem State.setChan_pipe (s : State) (n : Nat) (x : Channel) (k : Nat) : (s.setChan n x).pipe k = s.pipe k := rfl
@[simp] theorem State.setChan_axis (s : State) (n : Nat) (x : Channel) (k : Nat) : (s.setChan n x).axis k = s.axis k := rfl
@[simp] theorem State.setChan_tile (s : State) (n : Nat) (x : Channel) (k : Nat) : (s.setChan n x).tile k = s.tile k := rfl
@[simp] theorem State.setChan_enc (s : State) (n : Nat) (x : Channel) (k : Nat) : (s.setChan n x).enc k = s.enc k := rfl
@[simp] theorem State.setChan_th (s : State) (n : Nat) (x : Channel) (k : Nat) : (s.setChan n x).th k = s.th k := rfl
@[simp] theorem State.setChan_barrier (s : State) (n : Nat) (x : Channel) (k : Nat) : (s.setChan n x).barrier k = s.barrier k := rfl
@[simp] theorem State.setChan_lane (s : State) (n : Nat) (x : Channel) (k : Nat) : (s.setChan n x).lane k = s.lane k := rfl
@[simp] theorem State.setChan_link (s : State) (n : Nat) (x : Channel) (k : Nat) : (s.setChan n x).link k = s.link k := rfl
@[simp] theorem State.setChan_palisPort (s : State) (n : Nat) (x : Channel) (k : Nat) : (s.setChan n x).palisPort k = s.palisPort k := rfl
@[simp] theorem State.setChan_sub (s : State) (n : Nat) (x : Channel) (k : Nat) : (s.setChan n x).sub k = s.sub k := rfl
@[simp] theorem State.setChan_cal (s : State) (n : Nat) (x : Channel) (k : Nat) : (s.setChan n x).cal k = s.cal k := rfl

/-! ### State.setStr -/

@[simp] theorem State.setStr_pending (s : State) (n : Nat) (x : StringRec) : (s.setStr n x).pending = s.pending := rfl
@[simp] theorem State.setStr_now (s : State) (n : Nat) (x : StringRec) : (s.setStr n x).now = s.now := rfl
@[simp] theorem State.setStr_showAcc (s : State) (n : Nat) (x : StringRec) : (s.setStr n x).showAcc = s.showAcc := rfl
@[simp] theorem State.setStr_regs (s : State) (n : Nat) (x : StringRec) : (s.setStr n x).regs = s.regs := rfl
@[simp] theorem State.setStr_heldLow (s : State) (n : Nat) (x : StringRec) : (s.setStr n x).heldLow = s.heldLow := rfl
@[simp] theorem State.setStr_latchedHi (s : State) (n : Nat) (x : StringRec) : (s.setStr n x).latchedHi = s.latchedHi := rfl
@[simp] theorem State.setStr_lastRead (s : State) (n : Nat) (x : StringRec) : (s.setStr n x).lastRead = s.lastRead := rfl
@[simp] theorem State.setStr_freeCtr (s : State) (n : Nat) (x : StringRec) : (s.setStr n x).freeCtr = s.freeCtr := rfl
@[simp] theorem State.setStr_dram (s : State) (n : Nat) (x : StringRec) : (s.setStr n x).dram = s.dram := rfl
@[simp] theorem State.setStr_host (s : State) (n : Nat) (x : StringRec) : (s.setStr n x).host = s.host := rfl
@[simp] theorem State.setStr_bindPend (s : State) (n : Nat) (x : StringRec) : (s.setStr n x).bindPend = s.bindPend := rfl
@[simp] theorem State.setStr_tbs (s : State) (n : Nat) (x : StringRec) : (s.setStr n x).tbs = s.tbs := rfl
@[simp] theorem State.setStr_cws (s : State) (n : Nat) (x : StringRec) : (s.setStr n x).cws = s.cws := rfl
@[simp] theorem State.setStr_ports (s : State) (n : Nat) (x : StringRec) : (s.setStr n x).ports = s.ports := rfl
@[simp] theorem State.setStr_mmu (s : State) (n : Nat) (x : StringRec) : (s.setStr n x).mmu = s.mmu := rfl
@[simp] theorem State.setStr_chans (s : State) (n : Nat) (x : StringRec) : (s.setStr n x).chans = s.chans := rfl
@[simp] theorem State.setStr_memc (s : State) (n : Nat) (x : StringRec) : (s.setStr n x).memc = s.memc := rfl
@[simp] theorem State.setStr_queues (s : State) (n : Nat) (x : StringRec) : (s.setStr n x).queues = s.queues := rfl
@[simp] theorem State.setStr_msix (s : State) (n : Nat) (x : StringRec) : (s.setStr n x).msix = s.msix := rfl
@[simp] theorem State.setStr_hostIf (s : State) (n : Nat) (x : StringRec) : (s.setStr n x).hostIf = s.hostIf := rfl
@[simp] theorem State.setStr_hostMsgs (s : State) (n : Nat) (x : StringRec) : (s.setStr n x).hostMsgs = s.hostMsgs := rfl
@[simp] theorem State.setStr_heldEvents (s : State) (n : Nat) (x : StringRec) : (s.setStr n x).heldEvents = s.heldEvents := rfl
@[simp] theorem State.setStr_pipes (s : State) (n : Nat) (x : StringRec) : (s.setStr n x).pipes = s.pipes := rfl
@[simp] theorem State.setStr_groups (s : State) (n : Nat) (x : StringRec) : (s.setStr n x).groups = s.groups := rfl
@[simp] theorem State.setStr_pds (s : State) (n : Nat) (x : StringRec) : (s.setStr n x).pds = s.pds := rfl
@[simp] theorem State.setStr_banks (s : State) (n : Nat) (x : StringRec) : (s.setStr n x).banks = s.banks := rfl
@[simp] theorem State.setStr_shdEdges (s : State) (n : Nat) (x : StringRec) : (s.setStr n x).shdEdges = s.shdEdges := rfl
@[simp] theorem State.setStr_vin10 (s : State) (n : Nat) (x : StringRec) : (s.setStr n x).vin10 = s.vin10 := rfl
@[simp] theorem State.setStr_axes (s : State) (n : Nat) (x : StringRec) : (s.setStr n x).axes = s.axes := rfl
@[simp] theorem State.setStr_tiles (s : State) (n : Nat) (x : StringRec) : (s.setStr n x).tiles = s.tiles := rfl
@[simp] theorem State.setStr_encs (s : State) (n : Nat) (x : StringRec) : (s.setStr n x).encs = s.encs := rfl
@[simp] theorem State.setStr_sds (s : State) (n : Nat) (x : StringRec) : (s.setStr n x).sds = s.sds := rfl
@[simp] theorem State.setStr_ctlTables (s : State) (n : Nat) (x : StringRec) : (s.setStr n x).ctlTables = s.ctlTables := rfl
@[simp] theorem State.setStr_ctlLoad (s : State) (n : Nat) (x : StringRec) : (s.setStr n x).ctlLoad = s.ctlLoad := rfl
@[simp] theorem State.setStr_threads (s : State) (n : Nat) (x : StringRec) : (s.setStr n x).threads = s.threads := rfl
@[simp] theorem State.setStr_padMem (s : State) (n : Nat) (x : StringRec) : (s.setStr n x).padMem = s.padMem := rfl
@[simp] theorem State.setStr_pilMem (s : State) (n : Nat) (x : StringRec) : (s.setStr n x).pilMem = s.pilMem := rfl
@[simp] theorem State.setStr_barriers (s : State) (n : Nat) (x : StringRec) : (s.setStr n x).barriers = s.barriers := rfl
@[simp] theorem State.setStr_engAcc (s : State) (n : Nat) (x : StringRec) : (s.setStr n x).engAcc = s.engAcc := rfl
@[simp] theorem State.setStr_engEccAt (s : State) (n : Nat) (x : StringRec) : (s.setStr n x).engEccAt = s.engEccAt := rfl
@[simp] theorem State.setStr_cmpBadAt (s : State) (n : Nat) (x : StringRec) : (s.setStr n x).cmpBadAt = s.cmpBadAt := rfl
@[simp] theorem State.setStr_lanes (s : State) (n : Nat) (x : StringRec) : (s.setStr n x).lanes = s.lanes := rfl
@[simp] theorem State.setStr_links (s : State) (n : Nat) (x : StringRec) : (s.setStr n x).links = s.links := rfl
@[simp] theorem State.setStr_palis (s : State) (n : Nat) (x : StringRec) : (s.setStr n x).palis = s.palis := rfl
@[simp] theorem State.setStr_subs (s : State) (n : Nat) (x : StringRec) : (s.setStr n x).subs = s.subs := rfl
@[simp] theorem State.setStr_tree (s : State) (n : Nat) (x : StringRec) : (s.setStr n x).tree = s.tree := rfl
@[simp] theorem State.setStr_twin (s : State) (n : Nat) (x : StringRec) : (s.setStr n x).twin = s.twin := rfl
@[simp] theorem State.setStr_island (s : State) (n : Nat) (x : StringRec) : (s.setStr n x).island = s.island := rfl
@[simp] theorem State.setStr_cals (s : State) (n : Nat) (x : StringRec) : (s.setStr n x).cals = s.cals := rfl
@[simp] theorem State.setStr_geode (s : State) (n : Nat) (x : StringRec) : (s.setStr n x).geode = s.geode := rfl
@[simp] theorem State.setStr_store (s : State) (n : Nat) (x : StringRec) : (s.setStr n x).store = s.store := rfl
@[simp] theorem State.setStr_power (s : State) (n : Nat) (x : StringRec) : (s.setStr n x).power = s.power := rfl
@[simp] theorem State.setStr_rd (s : State) (n : Nat) (x : StringRec) (r : Nat) : (s.setStr n x).rd r = s.rd r := rfl
@[simp] theorem State.setStr_fld (s : State) (n : Nat) (x : StringRec) (f : Fld) : (s.setStr n x).fld f = s.fld f := rfl
@[simp] theorem State.setStr_tb (s : State) (n : Nat) (x : StringRec) (k : Nat) : (s.setStr n x).tb k = s.tb k := rfl
@[simp] theorem State.setStr_cw (s : State) (n : Nat) (x : StringRec) (k : Nat) : (s.setStr n x).cw k = s.cw k := rfl
@[simp] theorem State.setStr_port (s : State) (n : Nat) (x : StringRec) (k : Nat) : (s.setStr n x).port k = s.port k := rfl
@[simp] theorem State.setStr_queue (s : State) (n : Nat) (x : StringRec) (k : Nat) : (s.setStr n x).queue k = s.queue k := rfl
@[simp] theorem State.setStr_chan (s : State) (n : Nat) (x : StringRec) (k : Nat) : (s.setStr n x).chan k = s.chan k := rfl
@[simp] theorem State.setStr_grp (s : State) (n : Nat) (x : StringRec) (k : Nat) : (s.setStr n x).grp k = s.grp k := rfl
@[simp] theorem State.setStr_pd (s : State) (n : Nat) (x : StringRec) (k : Nat) : (s.setStr n x).pd k = s.pd k := rfl
@[simp] theorem State.setStr_bank (s : State) (n : Nat) (x : StringRec) (k : Nat) : (s.setStr n x).bank k = s.bank k := rfl
@[simp] theorem State.setStr_pipe (s : State) (n : Nat) (x : StringRec) (k : Nat) : (s.setStr n x).pipe k = s.pipe k := rfl
@[simp] theorem State.setStr_axis (s : State) (n : Nat) (x : StringRec) (k : Nat) : (s.setStr n x).axis k = s.axis k := rfl
@[simp] theorem State.setStr_tile (s : State) (n : Nat) (x : StringRec) (k : Nat) : (s.setStr n x).tile k = s.tile k := rfl
@[simp] theorem State.setStr_enc (s : State) (n : Nat) (x : StringRec) (k : Nat) : (s.setStr n x).enc k = s.enc k := rfl
@[simp] theorem State.setStr_th (s : State) (n : Nat) (x : StringRec) (k : Nat) : (s.setStr n x).th k = s.th k := rfl
@[simp] theorem State.setStr_barrier (s : State) (n : Nat) (x : StringRec) (k : Nat) : (s.setStr n x).barrier k = s.barrier k := rfl
@[simp] theorem State.setStr_lane (s : State) (n : Nat) (x : StringRec) (k : Nat) : (s.setStr n x).lane k = s.lane k := rfl
@[simp] theorem State.setStr_link (s : State) (n : Nat) (x : StringRec) (k : Nat) : (s.setStr n x).link k = s.link k := rfl
@[simp] theorem State.setStr_palisPort (s : State) (n : Nat) (x : StringRec) (k : Nat) : (s.setStr n x).palisPort k = s.palisPort k := rfl
@[simp] theorem State.setStr_sub (s : State) (n : Nat) (x : StringRec) (k : Nat) : (s.setStr n x).sub k = s.sub k := rfl
@[simp] theorem State.setStr_cal (s : State) (n : Nat) (x : StringRec) (k : Nat) : (s.setStr n x).cal k = s.cal k := rfl

/-! ### State.setGrp -/

@[simp] theorem State.setGrp_pending (s : State) (n : Nat) (x : GroupRec) : (s.setGrp n x).pending = s.pending := rfl
@[simp] theorem State.setGrp_now (s : State) (n : Nat) (x : GroupRec) : (s.setGrp n x).now = s.now := rfl
@[simp] theorem State.setGrp_showAcc (s : State) (n : Nat) (x : GroupRec) : (s.setGrp n x).showAcc = s.showAcc := rfl
@[simp] theorem State.setGrp_regs (s : State) (n : Nat) (x : GroupRec) : (s.setGrp n x).regs = s.regs := rfl
@[simp] theorem State.setGrp_heldLow (s : State) (n : Nat) (x : GroupRec) : (s.setGrp n x).heldLow = s.heldLow := rfl
@[simp] theorem State.setGrp_latchedHi (s : State) (n : Nat) (x : GroupRec) : (s.setGrp n x).latchedHi = s.latchedHi := rfl
@[simp] theorem State.setGrp_lastRead (s : State) (n : Nat) (x : GroupRec) : (s.setGrp n x).lastRead = s.lastRead := rfl
@[simp] theorem State.setGrp_freeCtr (s : State) (n : Nat) (x : GroupRec) : (s.setGrp n x).freeCtr = s.freeCtr := rfl
@[simp] theorem State.setGrp_dram (s : State) (n : Nat) (x : GroupRec) : (s.setGrp n x).dram = s.dram := rfl
@[simp] theorem State.setGrp_host (s : State) (n : Nat) (x : GroupRec) : (s.setGrp n x).host = s.host := rfl
@[simp] theorem State.setGrp_bindPend (s : State) (n : Nat) (x : GroupRec) : (s.setGrp n x).bindPend = s.bindPend := rfl
@[simp] theorem State.setGrp_tbs (s : State) (n : Nat) (x : GroupRec) : (s.setGrp n x).tbs = s.tbs := rfl
@[simp] theorem State.setGrp_cws (s : State) (n : Nat) (x : GroupRec) : (s.setGrp n x).cws = s.cws := rfl
@[simp] theorem State.setGrp_ports (s : State) (n : Nat) (x : GroupRec) : (s.setGrp n x).ports = s.ports := rfl
@[simp] theorem State.setGrp_mmu (s : State) (n : Nat) (x : GroupRec) : (s.setGrp n x).mmu = s.mmu := rfl
@[simp] theorem State.setGrp_chans (s : State) (n : Nat) (x : GroupRec) : (s.setGrp n x).chans = s.chans := rfl
@[simp] theorem State.setGrp_memc (s : State) (n : Nat) (x : GroupRec) : (s.setGrp n x).memc = s.memc := rfl
@[simp] theorem State.setGrp_queues (s : State) (n : Nat) (x : GroupRec) : (s.setGrp n x).queues = s.queues := rfl
@[simp] theorem State.setGrp_msix (s : State) (n : Nat) (x : GroupRec) : (s.setGrp n x).msix = s.msix := rfl
@[simp] theorem State.setGrp_hostIf (s : State) (n : Nat) (x : GroupRec) : (s.setGrp n x).hostIf = s.hostIf := rfl
@[simp] theorem State.setGrp_hostMsgs (s : State) (n : Nat) (x : GroupRec) : (s.setGrp n x).hostMsgs = s.hostMsgs := rfl
@[simp] theorem State.setGrp_heldEvents (s : State) (n : Nat) (x : GroupRec) : (s.setGrp n x).heldEvents = s.heldEvents := rfl
@[simp] theorem State.setGrp_pipes (s : State) (n : Nat) (x : GroupRec) : (s.setGrp n x).pipes = s.pipes := rfl
@[simp] theorem State.setGrp_strings (s : State) (n : Nat) (x : GroupRec) : (s.setGrp n x).strings = s.strings := rfl
@[simp] theorem State.setGrp_pds (s : State) (n : Nat) (x : GroupRec) : (s.setGrp n x).pds = s.pds := rfl
@[simp] theorem State.setGrp_banks (s : State) (n : Nat) (x : GroupRec) : (s.setGrp n x).banks = s.banks := rfl
@[simp] theorem State.setGrp_shdEdges (s : State) (n : Nat) (x : GroupRec) : (s.setGrp n x).shdEdges = s.shdEdges := rfl
@[simp] theorem State.setGrp_vin10 (s : State) (n : Nat) (x : GroupRec) : (s.setGrp n x).vin10 = s.vin10 := rfl
@[simp] theorem State.setGrp_axes (s : State) (n : Nat) (x : GroupRec) : (s.setGrp n x).axes = s.axes := rfl
@[simp] theorem State.setGrp_tiles (s : State) (n : Nat) (x : GroupRec) : (s.setGrp n x).tiles = s.tiles := rfl
@[simp] theorem State.setGrp_encs (s : State) (n : Nat) (x : GroupRec) : (s.setGrp n x).encs = s.encs := rfl
@[simp] theorem State.setGrp_sds (s : State) (n : Nat) (x : GroupRec) : (s.setGrp n x).sds = s.sds := rfl
@[simp] theorem State.setGrp_ctlTables (s : State) (n : Nat) (x : GroupRec) : (s.setGrp n x).ctlTables = s.ctlTables := rfl
@[simp] theorem State.setGrp_ctlLoad (s : State) (n : Nat) (x : GroupRec) : (s.setGrp n x).ctlLoad = s.ctlLoad := rfl
@[simp] theorem State.setGrp_threads (s : State) (n : Nat) (x : GroupRec) : (s.setGrp n x).threads = s.threads := rfl
@[simp] theorem State.setGrp_padMem (s : State) (n : Nat) (x : GroupRec) : (s.setGrp n x).padMem = s.padMem := rfl
@[simp] theorem State.setGrp_pilMem (s : State) (n : Nat) (x : GroupRec) : (s.setGrp n x).pilMem = s.pilMem := rfl
@[simp] theorem State.setGrp_barriers (s : State) (n : Nat) (x : GroupRec) : (s.setGrp n x).barriers = s.barriers := rfl
@[simp] theorem State.setGrp_engAcc (s : State) (n : Nat) (x : GroupRec) : (s.setGrp n x).engAcc = s.engAcc := rfl
@[simp] theorem State.setGrp_engEccAt (s : State) (n : Nat) (x : GroupRec) : (s.setGrp n x).engEccAt = s.engEccAt := rfl
@[simp] theorem State.setGrp_cmpBadAt (s : State) (n : Nat) (x : GroupRec) : (s.setGrp n x).cmpBadAt = s.cmpBadAt := rfl
@[simp] theorem State.setGrp_lanes (s : State) (n : Nat) (x : GroupRec) : (s.setGrp n x).lanes = s.lanes := rfl
@[simp] theorem State.setGrp_links (s : State) (n : Nat) (x : GroupRec) : (s.setGrp n x).links = s.links := rfl
@[simp] theorem State.setGrp_palis (s : State) (n : Nat) (x : GroupRec) : (s.setGrp n x).palis = s.palis := rfl
@[simp] theorem State.setGrp_subs (s : State) (n : Nat) (x : GroupRec) : (s.setGrp n x).subs = s.subs := rfl
@[simp] theorem State.setGrp_tree (s : State) (n : Nat) (x : GroupRec) : (s.setGrp n x).tree = s.tree := rfl
@[simp] theorem State.setGrp_twin (s : State) (n : Nat) (x : GroupRec) : (s.setGrp n x).twin = s.twin := rfl
@[simp] theorem State.setGrp_island (s : State) (n : Nat) (x : GroupRec) : (s.setGrp n x).island = s.island := rfl
@[simp] theorem State.setGrp_cals (s : State) (n : Nat) (x : GroupRec) : (s.setGrp n x).cals = s.cals := rfl
@[simp] theorem State.setGrp_geode (s : State) (n : Nat) (x : GroupRec) : (s.setGrp n x).geode = s.geode := rfl
@[simp] theorem State.setGrp_store (s : State) (n : Nat) (x : GroupRec) : (s.setGrp n x).store = s.store := rfl
@[simp] theorem State.setGrp_power (s : State) (n : Nat) (x : GroupRec) : (s.setGrp n x).power = s.power := rfl
@[simp] theorem State.setGrp_rd (s : State) (n : Nat) (x : GroupRec) (r : Nat) : (s.setGrp n x).rd r = s.rd r := rfl
@[simp] theorem State.setGrp_fld (s : State) (n : Nat) (x : GroupRec) (f : Fld) : (s.setGrp n x).fld f = s.fld f := rfl
@[simp] theorem State.setGrp_tb (s : State) (n : Nat) (x : GroupRec) (k : Nat) : (s.setGrp n x).tb k = s.tb k := rfl
@[simp] theorem State.setGrp_cw (s : State) (n : Nat) (x : GroupRec) (k : Nat) : (s.setGrp n x).cw k = s.cw k := rfl
@[simp] theorem State.setGrp_port (s : State) (n : Nat) (x : GroupRec) (k : Nat) : (s.setGrp n x).port k = s.port k := rfl
@[simp] theorem State.setGrp_queue (s : State) (n : Nat) (x : GroupRec) (k : Nat) : (s.setGrp n x).queue k = s.queue k := rfl
@[simp] theorem State.setGrp_chan (s : State) (n : Nat) (x : GroupRec) (k : Nat) : (s.setGrp n x).chan k = s.chan k := rfl
@[simp] theorem State.setGrp_str (s : State) (n : Nat) (x : GroupRec) (k : Nat) : (s.setGrp n x).str k = s.str k := rfl
@[simp] theorem State.setGrp_pd (s : State) (n : Nat) (x : GroupRec) (k : Nat) : (s.setGrp n x).pd k = s.pd k := rfl
@[simp] theorem State.setGrp_bank (s : State) (n : Nat) (x : GroupRec) (k : Nat) : (s.setGrp n x).bank k = s.bank k := rfl
@[simp] theorem State.setGrp_pipe (s : State) (n : Nat) (x : GroupRec) (k : Nat) : (s.setGrp n x).pipe k = s.pipe k := rfl
@[simp] theorem State.setGrp_axis (s : State) (n : Nat) (x : GroupRec) (k : Nat) : (s.setGrp n x).axis k = s.axis k := rfl
@[simp] theorem State.setGrp_tile (s : State) (n : Nat) (x : GroupRec) (k : Nat) : (s.setGrp n x).tile k = s.tile k := rfl
@[simp] theorem State.setGrp_enc (s : State) (n : Nat) (x : GroupRec) (k : Nat) : (s.setGrp n x).enc k = s.enc k := rfl
@[simp] theorem State.setGrp_th (s : State) (n : Nat) (x : GroupRec) (k : Nat) : (s.setGrp n x).th k = s.th k := rfl
@[simp] theorem State.setGrp_barrier (s : State) (n : Nat) (x : GroupRec) (k : Nat) : (s.setGrp n x).barrier k = s.barrier k := rfl
@[simp] theorem State.setGrp_lane (s : State) (n : Nat) (x : GroupRec) (k : Nat) : (s.setGrp n x).lane k = s.lane k := rfl
@[simp] theorem State.setGrp_link (s : State) (n : Nat) (x : GroupRec) (k : Nat) : (s.setGrp n x).link k = s.link k := rfl
@[simp] theorem State.setGrp_palisPort (s : State) (n : Nat) (x : GroupRec) (k : Nat) : (s.setGrp n x).palisPort k = s.palisPort k := rfl
@[simp] theorem State.setGrp_sub (s : State) (n : Nat) (x : GroupRec) (k : Nat) : (s.setGrp n x).sub k = s.sub k := rfl
@[simp] theorem State.setGrp_cal (s : State) (n : Nat) (x : GroupRec) (k : Nat) : (s.setGrp n x).cal k = s.cal k := rfl

/-! ### State.setPd -/

@[simp] theorem State.setPd_pending (s : State) (n : Nat) (x : PdRec) : (s.setPd n x).pending = s.pending := rfl
@[simp] theorem State.setPd_now (s : State) (n : Nat) (x : PdRec) : (s.setPd n x).now = s.now := rfl
@[simp] theorem State.setPd_showAcc (s : State) (n : Nat) (x : PdRec) : (s.setPd n x).showAcc = s.showAcc := rfl
@[simp] theorem State.setPd_regs (s : State) (n : Nat) (x : PdRec) : (s.setPd n x).regs = s.regs := rfl
@[simp] theorem State.setPd_heldLow (s : State) (n : Nat) (x : PdRec) : (s.setPd n x).heldLow = s.heldLow := rfl
@[simp] theorem State.setPd_latchedHi (s : State) (n : Nat) (x : PdRec) : (s.setPd n x).latchedHi = s.latchedHi := rfl
@[simp] theorem State.setPd_lastRead (s : State) (n : Nat) (x : PdRec) : (s.setPd n x).lastRead = s.lastRead := rfl
@[simp] theorem State.setPd_freeCtr (s : State) (n : Nat) (x : PdRec) : (s.setPd n x).freeCtr = s.freeCtr := rfl
@[simp] theorem State.setPd_dram (s : State) (n : Nat) (x : PdRec) : (s.setPd n x).dram = s.dram := rfl
@[simp] theorem State.setPd_host (s : State) (n : Nat) (x : PdRec) : (s.setPd n x).host = s.host := rfl
@[simp] theorem State.setPd_bindPend (s : State) (n : Nat) (x : PdRec) : (s.setPd n x).bindPend = s.bindPend := rfl
@[simp] theorem State.setPd_tbs (s : State) (n : Nat) (x : PdRec) : (s.setPd n x).tbs = s.tbs := rfl
@[simp] theorem State.setPd_cws (s : State) (n : Nat) (x : PdRec) : (s.setPd n x).cws = s.cws := rfl
@[simp] theorem State.setPd_ports (s : State) (n : Nat) (x : PdRec) : (s.setPd n x).ports = s.ports := rfl
@[simp] theorem State.setPd_mmu (s : State) (n : Nat) (x : PdRec) : (s.setPd n x).mmu = s.mmu := rfl
@[simp] theorem State.setPd_chans (s : State) (n : Nat) (x : PdRec) : (s.setPd n x).chans = s.chans := rfl
@[simp] theorem State.setPd_memc (s : State) (n : Nat) (x : PdRec) : (s.setPd n x).memc = s.memc := rfl
@[simp] theorem State.setPd_queues (s : State) (n : Nat) (x : PdRec) : (s.setPd n x).queues = s.queues := rfl
@[simp] theorem State.setPd_msix (s : State) (n : Nat) (x : PdRec) : (s.setPd n x).msix = s.msix := rfl
@[simp] theorem State.setPd_hostIf (s : State) (n : Nat) (x : PdRec) : (s.setPd n x).hostIf = s.hostIf := rfl
@[simp] theorem State.setPd_hostMsgs (s : State) (n : Nat) (x : PdRec) : (s.setPd n x).hostMsgs = s.hostMsgs := rfl
@[simp] theorem State.setPd_heldEvents (s : State) (n : Nat) (x : PdRec) : (s.setPd n x).heldEvents = s.heldEvents := rfl
@[simp] theorem State.setPd_pipes (s : State) (n : Nat) (x : PdRec) : (s.setPd n x).pipes = s.pipes := rfl
@[simp] theorem State.setPd_strings (s : State) (n : Nat) (x : PdRec) : (s.setPd n x).strings = s.strings := rfl
@[simp] theorem State.setPd_groups (s : State) (n : Nat) (x : PdRec) : (s.setPd n x).groups = s.groups := rfl
@[simp] theorem State.setPd_banks (s : State) (n : Nat) (x : PdRec) : (s.setPd n x).banks = s.banks := rfl
@[simp] theorem State.setPd_shdEdges (s : State) (n : Nat) (x : PdRec) : (s.setPd n x).shdEdges = s.shdEdges := rfl
@[simp] theorem State.setPd_vin10 (s : State) (n : Nat) (x : PdRec) : (s.setPd n x).vin10 = s.vin10 := rfl
@[simp] theorem State.setPd_axes (s : State) (n : Nat) (x : PdRec) : (s.setPd n x).axes = s.axes := rfl
@[simp] theorem State.setPd_tiles (s : State) (n : Nat) (x : PdRec) : (s.setPd n x).tiles = s.tiles := rfl
@[simp] theorem State.setPd_encs (s : State) (n : Nat) (x : PdRec) : (s.setPd n x).encs = s.encs := rfl
@[simp] theorem State.setPd_sds (s : State) (n : Nat) (x : PdRec) : (s.setPd n x).sds = s.sds := rfl
@[simp] theorem State.setPd_ctlTables (s : State) (n : Nat) (x : PdRec) : (s.setPd n x).ctlTables = s.ctlTables := rfl
@[simp] theorem State.setPd_ctlLoad (s : State) (n : Nat) (x : PdRec) : (s.setPd n x).ctlLoad = s.ctlLoad := rfl
@[simp] theorem State.setPd_threads (s : State) (n : Nat) (x : PdRec) : (s.setPd n x).threads = s.threads := rfl
@[simp] theorem State.setPd_padMem (s : State) (n : Nat) (x : PdRec) : (s.setPd n x).padMem = s.padMem := rfl
@[simp] theorem State.setPd_pilMem (s : State) (n : Nat) (x : PdRec) : (s.setPd n x).pilMem = s.pilMem := rfl
@[simp] theorem State.setPd_barriers (s : State) (n : Nat) (x : PdRec) : (s.setPd n x).barriers = s.barriers := rfl
@[simp] theorem State.setPd_engAcc (s : State) (n : Nat) (x : PdRec) : (s.setPd n x).engAcc = s.engAcc := rfl
@[simp] theorem State.setPd_engEccAt (s : State) (n : Nat) (x : PdRec) : (s.setPd n x).engEccAt = s.engEccAt := rfl
@[simp] theorem State.setPd_cmpBadAt (s : State) (n : Nat) (x : PdRec) : (s.setPd n x).cmpBadAt = s.cmpBadAt := rfl
@[simp] theorem State.setPd_lanes (s : State) (n : Nat) (x : PdRec) : (s.setPd n x).lanes = s.lanes := rfl
@[simp] theorem State.setPd_links (s : State) (n : Nat) (x : PdRec) : (s.setPd n x).links = s.links := rfl
@[simp] theorem State.setPd_palis (s : State) (n : Nat) (x : PdRec) : (s.setPd n x).palis = s.palis := rfl
@[simp] theorem State.setPd_subs (s : State) (n : Nat) (x : PdRec) : (s.setPd n x).subs = s.subs := rfl
@[simp] theorem State.setPd_tree (s : State) (n : Nat) (x : PdRec) : (s.setPd n x).tree = s.tree := rfl
@[simp] theorem State.setPd_twin (s : State) (n : Nat) (x : PdRec) : (s.setPd n x).twin = s.twin := rfl
@[simp] theorem State.setPd_island (s : State) (n : Nat) (x : PdRec) : (s.setPd n x).island = s.island := rfl
@[simp] theorem State.setPd_cals (s : State) (n : Nat) (x : PdRec) : (s.setPd n x).cals = s.cals := rfl
@[simp] theorem State.setPd_geode (s : State) (n : Nat) (x : PdRec) : (s.setPd n x).geode = s.geode := rfl
@[simp] theorem State.setPd_store (s : State) (n : Nat) (x : PdRec) : (s.setPd n x).store = s.store := rfl
@[simp] theorem State.setPd_power (s : State) (n : Nat) (x : PdRec) : (s.setPd n x).power = s.power := rfl
@[simp] theorem State.setPd_rd (s : State) (n : Nat) (x : PdRec) (r : Nat) : (s.setPd n x).rd r = s.rd r := rfl
@[simp] theorem State.setPd_fld (s : State) (n : Nat) (x : PdRec) (f : Fld) : (s.setPd n x).fld f = s.fld f := rfl
@[simp] theorem State.setPd_tb (s : State) (n : Nat) (x : PdRec) (k : Nat) : (s.setPd n x).tb k = s.tb k := rfl
@[simp] theorem State.setPd_cw (s : State) (n : Nat) (x : PdRec) (k : Nat) : (s.setPd n x).cw k = s.cw k := rfl
@[simp] theorem State.setPd_port (s : State) (n : Nat) (x : PdRec) (k : Nat) : (s.setPd n x).port k = s.port k := rfl
@[simp] theorem State.setPd_queue (s : State) (n : Nat) (x : PdRec) (k : Nat) : (s.setPd n x).queue k = s.queue k := rfl
@[simp] theorem State.setPd_chan (s : State) (n : Nat) (x : PdRec) (k : Nat) : (s.setPd n x).chan k = s.chan k := rfl
@[simp] theorem State.setPd_str (s : State) (n : Nat) (x : PdRec) (k : Nat) : (s.setPd n x).str k = s.str k := rfl
@[simp] theorem State.setPd_grp (s : State) (n : Nat) (x : PdRec) (k : Nat) : (s.setPd n x).grp k = s.grp k := rfl
@[simp] theorem State.setPd_bank (s : State) (n : Nat) (x : PdRec) (k : Nat) : (s.setPd n x).bank k = s.bank k := rfl
@[simp] theorem State.setPd_pipe (s : State) (n : Nat) (x : PdRec) (k : Nat) : (s.setPd n x).pipe k = s.pipe k := rfl
@[simp] theorem State.setPd_axis (s : State) (n : Nat) (x : PdRec) (k : Nat) : (s.setPd n x).axis k = s.axis k := rfl
@[simp] theorem State.setPd_tile (s : State) (n : Nat) (x : PdRec) (k : Nat) : (s.setPd n x).tile k = s.tile k := rfl
@[simp] theorem State.setPd_enc (s : State) (n : Nat) (x : PdRec) (k : Nat) : (s.setPd n x).enc k = s.enc k := rfl
@[simp] theorem State.setPd_th (s : State) (n : Nat) (x : PdRec) (k : Nat) : (s.setPd n x).th k = s.th k := rfl
@[simp] theorem State.setPd_barrier (s : State) (n : Nat) (x : PdRec) (k : Nat) : (s.setPd n x).barrier k = s.barrier k := rfl
@[simp] theorem State.setPd_lane (s : State) (n : Nat) (x : PdRec) (k : Nat) : (s.setPd n x).lane k = s.lane k := rfl
@[simp] theorem State.setPd_link (s : State) (n : Nat) (x : PdRec) (k : Nat) : (s.setPd n x).link k = s.link k := rfl
@[simp] theorem State.setPd_palisPort (s : State) (n : Nat) (x : PdRec) (k : Nat) : (s.setPd n x).palisPort k = s.palisPort k := rfl
@[simp] theorem State.setPd_sub (s : State) (n : Nat) (x : PdRec) (k : Nat) : (s.setPd n x).sub k = s.sub k := rfl
@[simp] theorem State.setPd_cal (s : State) (n : Nat) (x : PdRec) (k : Nat) : (s.setPd n x).cal k = s.cal k := rfl

/-! ### State.setBank -/

@[simp] theorem State.setBank_pending (s : State) (n : Nat) (x : BankRec) : (s.setBank n x).pending = s.pending := rfl
@[simp] theorem State.setBank_now (s : State) (n : Nat) (x : BankRec) : (s.setBank n x).now = s.now := rfl
@[simp] theorem State.setBank_showAcc (s : State) (n : Nat) (x : BankRec) : (s.setBank n x).showAcc = s.showAcc := rfl
@[simp] theorem State.setBank_regs (s : State) (n : Nat) (x : BankRec) : (s.setBank n x).regs = s.regs := rfl
@[simp] theorem State.setBank_heldLow (s : State) (n : Nat) (x : BankRec) : (s.setBank n x).heldLow = s.heldLow := rfl
@[simp] theorem State.setBank_latchedHi (s : State) (n : Nat) (x : BankRec) : (s.setBank n x).latchedHi = s.latchedHi := rfl
@[simp] theorem State.setBank_lastRead (s : State) (n : Nat) (x : BankRec) : (s.setBank n x).lastRead = s.lastRead := rfl
@[simp] theorem State.setBank_freeCtr (s : State) (n : Nat) (x : BankRec) : (s.setBank n x).freeCtr = s.freeCtr := rfl
@[simp] theorem State.setBank_dram (s : State) (n : Nat) (x : BankRec) : (s.setBank n x).dram = s.dram := rfl
@[simp] theorem State.setBank_host (s : State) (n : Nat) (x : BankRec) : (s.setBank n x).host = s.host := rfl
@[simp] theorem State.setBank_bindPend (s : State) (n : Nat) (x : BankRec) : (s.setBank n x).bindPend = s.bindPend := rfl
@[simp] theorem State.setBank_tbs (s : State) (n : Nat) (x : BankRec) : (s.setBank n x).tbs = s.tbs := rfl
@[simp] theorem State.setBank_cws (s : State) (n : Nat) (x : BankRec) : (s.setBank n x).cws = s.cws := rfl
@[simp] theorem State.setBank_ports (s : State) (n : Nat) (x : BankRec) : (s.setBank n x).ports = s.ports := rfl
@[simp] theorem State.setBank_mmu (s : State) (n : Nat) (x : BankRec) : (s.setBank n x).mmu = s.mmu := rfl
@[simp] theorem State.setBank_chans (s : State) (n : Nat) (x : BankRec) : (s.setBank n x).chans = s.chans := rfl
@[simp] theorem State.setBank_memc (s : State) (n : Nat) (x : BankRec) : (s.setBank n x).memc = s.memc := rfl
@[simp] theorem State.setBank_queues (s : State) (n : Nat) (x : BankRec) : (s.setBank n x).queues = s.queues := rfl
@[simp] theorem State.setBank_msix (s : State) (n : Nat) (x : BankRec) : (s.setBank n x).msix = s.msix := rfl
@[simp] theorem State.setBank_hostIf (s : State) (n : Nat) (x : BankRec) : (s.setBank n x).hostIf = s.hostIf := rfl
@[simp] theorem State.setBank_hostMsgs (s : State) (n : Nat) (x : BankRec) : (s.setBank n x).hostMsgs = s.hostMsgs := rfl
@[simp] theorem State.setBank_heldEvents (s : State) (n : Nat) (x : BankRec) : (s.setBank n x).heldEvents = s.heldEvents := rfl
@[simp] theorem State.setBank_pipes (s : State) (n : Nat) (x : BankRec) : (s.setBank n x).pipes = s.pipes := rfl
@[simp] theorem State.setBank_strings (s : State) (n : Nat) (x : BankRec) : (s.setBank n x).strings = s.strings := rfl
@[simp] theorem State.setBank_groups (s : State) (n : Nat) (x : BankRec) : (s.setBank n x).groups = s.groups := rfl
@[simp] theorem State.setBank_pds (s : State) (n : Nat) (x : BankRec) : (s.setBank n x).pds = s.pds := rfl
@[simp] theorem State.setBank_shdEdges (s : State) (n : Nat) (x : BankRec) : (s.setBank n x).shdEdges = s.shdEdges := rfl
@[simp] theorem State.setBank_vin10 (s : State) (n : Nat) (x : BankRec) : (s.setBank n x).vin10 = s.vin10 := rfl
@[simp] theorem State.setBank_axes (s : State) (n : Nat) (x : BankRec) : (s.setBank n x).axes = s.axes := rfl
@[simp] theorem State.setBank_tiles (s : State) (n : Nat) (x : BankRec) : (s.setBank n x).tiles = s.tiles := rfl
@[simp] theorem State.setBank_encs (s : State) (n : Nat) (x : BankRec) : (s.setBank n x).encs = s.encs := rfl
@[simp] theorem State.setBank_sds (s : State) (n : Nat) (x : BankRec) : (s.setBank n x).sds = s.sds := rfl
@[simp] theorem State.setBank_ctlTables (s : State) (n : Nat) (x : BankRec) : (s.setBank n x).ctlTables = s.ctlTables := rfl
@[simp] theorem State.setBank_ctlLoad (s : State) (n : Nat) (x : BankRec) : (s.setBank n x).ctlLoad = s.ctlLoad := rfl
@[simp] theorem State.setBank_threads (s : State) (n : Nat) (x : BankRec) : (s.setBank n x).threads = s.threads := rfl
@[simp] theorem State.setBank_padMem (s : State) (n : Nat) (x : BankRec) : (s.setBank n x).padMem = s.padMem := rfl
@[simp] theorem State.setBank_pilMem (s : State) (n : Nat) (x : BankRec) : (s.setBank n x).pilMem = s.pilMem := rfl
@[simp] theorem State.setBank_barriers (s : State) (n : Nat) (x : BankRec) : (s.setBank n x).barriers = s.barriers := rfl
@[simp] theorem State.setBank_engAcc (s : State) (n : Nat) (x : BankRec) : (s.setBank n x).engAcc = s.engAcc := rfl
@[simp] theorem State.setBank_engEccAt (s : State) (n : Nat) (x : BankRec) : (s.setBank n x).engEccAt = s.engEccAt := rfl
@[simp] theorem State.setBank_cmpBadAt (s : State) (n : Nat) (x : BankRec) : (s.setBank n x).cmpBadAt = s.cmpBadAt := rfl
@[simp] theorem State.setBank_lanes (s : State) (n : Nat) (x : BankRec) : (s.setBank n x).lanes = s.lanes := rfl
@[simp] theorem State.setBank_links (s : State) (n : Nat) (x : BankRec) : (s.setBank n x).links = s.links := rfl
@[simp] theorem State.setBank_palis (s : State) (n : Nat) (x : BankRec) : (s.setBank n x).palis = s.palis := rfl
@[simp] theorem State.setBank_subs (s : State) (n : Nat) (x : BankRec) : (s.setBank n x).subs = s.subs := rfl
@[simp] theorem State.setBank_tree (s : State) (n : Nat) (x : BankRec) : (s.setBank n x).tree = s.tree := rfl
@[simp] theorem State.setBank_twin (s : State) (n : Nat) (x : BankRec) : (s.setBank n x).twin = s.twin := rfl
@[simp] theorem State.setBank_island (s : State) (n : Nat) (x : BankRec) : (s.setBank n x).island = s.island := rfl
@[simp] theorem State.setBank_cals (s : State) (n : Nat) (x : BankRec) : (s.setBank n x).cals = s.cals := rfl
@[simp] theorem State.setBank_geode (s : State) (n : Nat) (x : BankRec) : (s.setBank n x).geode = s.geode := rfl
@[simp] theorem State.setBank_store (s : State) (n : Nat) (x : BankRec) : (s.setBank n x).store = s.store := rfl
@[simp] theorem State.setBank_power (s : State) (n : Nat) (x : BankRec) : (s.setBank n x).power = s.power := rfl
@[simp] theorem State.setBank_rd (s : State) (n : Nat) (x : BankRec) (r : Nat) : (s.setBank n x).rd r = s.rd r := rfl
@[simp] theorem State.setBank_fld (s : State) (n : Nat) (x : BankRec) (f : Fld) : (s.setBank n x).fld f = s.fld f := rfl
@[simp] theorem State.setBank_tb (s : State) (n : Nat) (x : BankRec) (k : Nat) : (s.setBank n x).tb k = s.tb k := rfl
@[simp] theorem State.setBank_cw (s : State) (n : Nat) (x : BankRec) (k : Nat) : (s.setBank n x).cw k = s.cw k := rfl
@[simp] theorem State.setBank_port (s : State) (n : Nat) (x : BankRec) (k : Nat) : (s.setBank n x).port k = s.port k := rfl
@[simp] theorem State.setBank_queue (s : State) (n : Nat) (x : BankRec) (k : Nat) : (s.setBank n x).queue k = s.queue k := rfl
@[simp] theorem State.setBank_chan (s : State) (n : Nat) (x : BankRec) (k : Nat) : (s.setBank n x).chan k = s.chan k := rfl
@[simp] theorem State.setBank_str (s : State) (n : Nat) (x : BankRec) (k : Nat) : (s.setBank n x).str k = s.str k := rfl
@[simp] theorem State.setBank_grp (s : State) (n : Nat) (x : BankRec) (k : Nat) : (s.setBank n x).grp k = s.grp k := rfl
@[simp] theorem State.setBank_pd (s : State) (n : Nat) (x : BankRec) (k : Nat) : (s.setBank n x).pd k = s.pd k := rfl
@[simp] theorem State.setBank_pipe (s : State) (n : Nat) (x : BankRec) (k : Nat) : (s.setBank n x).pipe k = s.pipe k := rfl
@[simp] theorem State.setBank_axis (s : State) (n : Nat) (x : BankRec) (k : Nat) : (s.setBank n x).axis k = s.axis k := rfl
@[simp] theorem State.setBank_tile (s : State) (n : Nat) (x : BankRec) (k : Nat) : (s.setBank n x).tile k = s.tile k := rfl
@[simp] theorem State.setBank_enc (s : State) (n : Nat) (x : BankRec) (k : Nat) : (s.setBank n x).enc k = s.enc k := rfl
@[simp] theorem State.setBank_th (s : State) (n : Nat) (x : BankRec) (k : Nat) : (s.setBank n x).th k = s.th k := rfl
@[simp] theorem State.setBank_barrier (s : State) (n : Nat) (x : BankRec) (k : Nat) : (s.setBank n x).barrier k = s.barrier k := rfl
@[simp] theorem State.setBank_lane (s : State) (n : Nat) (x : BankRec) (k : Nat) : (s.setBank n x).lane k = s.lane k := rfl
@[simp] theorem State.setBank_link (s : State) (n : Nat) (x : BankRec) (k : Nat) : (s.setBank n x).link k = s.link k := rfl
@[simp] theorem State.setBank_palisPort (s : State) (n : Nat) (x : BankRec) (k : Nat) : (s.setBank n x).palisPort k = s.palisPort k := rfl
@[simp] theorem State.setBank_sub (s : State) (n : Nat) (x : BankRec) (k : Nat) : (s.setBank n x).sub k = s.sub k := rfl
@[simp] theorem State.setBank_cal (s : State) (n : Nat) (x : BankRec) (k : Nat) : (s.setBank n x).cal k = s.cal k := rfl

/-! ### State.setPipe -/

@[simp] theorem State.setPipe_pending (s : State) (n : Nat) (x : PipeRec) : (s.setPipe n x).pending = s.pending := rfl
@[simp] theorem State.setPipe_now (s : State) (n : Nat) (x : PipeRec) : (s.setPipe n x).now = s.now := rfl
@[simp] theorem State.setPipe_showAcc (s : State) (n : Nat) (x : PipeRec) : (s.setPipe n x).showAcc = s.showAcc := rfl
@[simp] theorem State.setPipe_regs (s : State) (n : Nat) (x : PipeRec) : (s.setPipe n x).regs = s.regs := rfl
@[simp] theorem State.setPipe_heldLow (s : State) (n : Nat) (x : PipeRec) : (s.setPipe n x).heldLow = s.heldLow := rfl
@[simp] theorem State.setPipe_latchedHi (s : State) (n : Nat) (x : PipeRec) : (s.setPipe n x).latchedHi = s.latchedHi := rfl
@[simp] theorem State.setPipe_lastRead (s : State) (n : Nat) (x : PipeRec) : (s.setPipe n x).lastRead = s.lastRead := rfl
@[simp] theorem State.setPipe_freeCtr (s : State) (n : Nat) (x : PipeRec) : (s.setPipe n x).freeCtr = s.freeCtr := rfl
@[simp] theorem State.setPipe_dram (s : State) (n : Nat) (x : PipeRec) : (s.setPipe n x).dram = s.dram := rfl
@[simp] theorem State.setPipe_host (s : State) (n : Nat) (x : PipeRec) : (s.setPipe n x).host = s.host := rfl
@[simp] theorem State.setPipe_bindPend (s : State) (n : Nat) (x : PipeRec) : (s.setPipe n x).bindPend = s.bindPend := rfl
@[simp] theorem State.setPipe_tbs (s : State) (n : Nat) (x : PipeRec) : (s.setPipe n x).tbs = s.tbs := rfl
@[simp] theorem State.setPipe_cws (s : State) (n : Nat) (x : PipeRec) : (s.setPipe n x).cws = s.cws := rfl
@[simp] theorem State.setPipe_ports (s : State) (n : Nat) (x : PipeRec) : (s.setPipe n x).ports = s.ports := rfl
@[simp] theorem State.setPipe_mmu (s : State) (n : Nat) (x : PipeRec) : (s.setPipe n x).mmu = s.mmu := rfl
@[simp] theorem State.setPipe_chans (s : State) (n : Nat) (x : PipeRec) : (s.setPipe n x).chans = s.chans := rfl
@[simp] theorem State.setPipe_memc (s : State) (n : Nat) (x : PipeRec) : (s.setPipe n x).memc = s.memc := rfl
@[simp] theorem State.setPipe_queues (s : State) (n : Nat) (x : PipeRec) : (s.setPipe n x).queues = s.queues := rfl
@[simp] theorem State.setPipe_msix (s : State) (n : Nat) (x : PipeRec) : (s.setPipe n x).msix = s.msix := rfl
@[simp] theorem State.setPipe_hostIf (s : State) (n : Nat) (x : PipeRec) : (s.setPipe n x).hostIf = s.hostIf := rfl
@[simp] theorem State.setPipe_hostMsgs (s : State) (n : Nat) (x : PipeRec) : (s.setPipe n x).hostMsgs = s.hostMsgs := rfl
@[simp] theorem State.setPipe_heldEvents (s : State) (n : Nat) (x : PipeRec) : (s.setPipe n x).heldEvents = s.heldEvents := rfl
@[simp] theorem State.setPipe_strings (s : State) (n : Nat) (x : PipeRec) : (s.setPipe n x).strings = s.strings := rfl
@[simp] theorem State.setPipe_groups (s : State) (n : Nat) (x : PipeRec) : (s.setPipe n x).groups = s.groups := rfl
@[simp] theorem State.setPipe_pds (s : State) (n : Nat) (x : PipeRec) : (s.setPipe n x).pds = s.pds := rfl
@[simp] theorem State.setPipe_banks (s : State) (n : Nat) (x : PipeRec) : (s.setPipe n x).banks = s.banks := rfl
@[simp] theorem State.setPipe_shdEdges (s : State) (n : Nat) (x : PipeRec) : (s.setPipe n x).shdEdges = s.shdEdges := rfl
@[simp] theorem State.setPipe_vin10 (s : State) (n : Nat) (x : PipeRec) : (s.setPipe n x).vin10 = s.vin10 := rfl
@[simp] theorem State.setPipe_axes (s : State) (n : Nat) (x : PipeRec) : (s.setPipe n x).axes = s.axes := rfl
@[simp] theorem State.setPipe_tiles (s : State) (n : Nat) (x : PipeRec) : (s.setPipe n x).tiles = s.tiles := rfl
@[simp] theorem State.setPipe_encs (s : State) (n : Nat) (x : PipeRec) : (s.setPipe n x).encs = s.encs := rfl
@[simp] theorem State.setPipe_sds (s : State) (n : Nat) (x : PipeRec) : (s.setPipe n x).sds = s.sds := rfl
@[simp] theorem State.setPipe_ctlTables (s : State) (n : Nat) (x : PipeRec) : (s.setPipe n x).ctlTables = s.ctlTables := rfl
@[simp] theorem State.setPipe_ctlLoad (s : State) (n : Nat) (x : PipeRec) : (s.setPipe n x).ctlLoad = s.ctlLoad := rfl
@[simp] theorem State.setPipe_threads (s : State) (n : Nat) (x : PipeRec) : (s.setPipe n x).threads = s.threads := rfl
@[simp] theorem State.setPipe_padMem (s : State) (n : Nat) (x : PipeRec) : (s.setPipe n x).padMem = s.padMem := rfl
@[simp] theorem State.setPipe_pilMem (s : State) (n : Nat) (x : PipeRec) : (s.setPipe n x).pilMem = s.pilMem := rfl
@[simp] theorem State.setPipe_barriers (s : State) (n : Nat) (x : PipeRec) : (s.setPipe n x).barriers = s.barriers := rfl
@[simp] theorem State.setPipe_engAcc (s : State) (n : Nat) (x : PipeRec) : (s.setPipe n x).engAcc = s.engAcc := rfl
@[simp] theorem State.setPipe_engEccAt (s : State) (n : Nat) (x : PipeRec) : (s.setPipe n x).engEccAt = s.engEccAt := rfl
@[simp] theorem State.setPipe_cmpBadAt (s : State) (n : Nat) (x : PipeRec) : (s.setPipe n x).cmpBadAt = s.cmpBadAt := rfl
@[simp] theorem State.setPipe_lanes (s : State) (n : Nat) (x : PipeRec) : (s.setPipe n x).lanes = s.lanes := rfl
@[simp] theorem State.setPipe_links (s : State) (n : Nat) (x : PipeRec) : (s.setPipe n x).links = s.links := rfl
@[simp] theorem State.setPipe_palis (s : State) (n : Nat) (x : PipeRec) : (s.setPipe n x).palis = s.palis := rfl
@[simp] theorem State.setPipe_subs (s : State) (n : Nat) (x : PipeRec) : (s.setPipe n x).subs = s.subs := rfl
@[simp] theorem State.setPipe_tree (s : State) (n : Nat) (x : PipeRec) : (s.setPipe n x).tree = s.tree := rfl
@[simp] theorem State.setPipe_twin (s : State) (n : Nat) (x : PipeRec) : (s.setPipe n x).twin = s.twin := rfl
@[simp] theorem State.setPipe_island (s : State) (n : Nat) (x : PipeRec) : (s.setPipe n x).island = s.island := rfl
@[simp] theorem State.setPipe_cals (s : State) (n : Nat) (x : PipeRec) : (s.setPipe n x).cals = s.cals := rfl
@[simp] theorem State.setPipe_geode (s : State) (n : Nat) (x : PipeRec) : (s.setPipe n x).geode = s.geode := rfl
@[simp] theorem State.setPipe_store (s : State) (n : Nat) (x : PipeRec) : (s.setPipe n x).store = s.store := rfl
@[simp] theorem State.setPipe_power (s : State) (n : Nat) (x : PipeRec) : (s.setPipe n x).power = s.power := rfl
@[simp] theorem State.setPipe_rd (s : State) (n : Nat) (x : PipeRec) (r : Nat) : (s.setPipe n x).rd r = s.rd r := rfl
@[simp] theorem State.setPipe_fld (s : State) (n : Nat) (x : PipeRec) (f : Fld) : (s.setPipe n x).fld f = s.fld f := rfl
@[simp] theorem State.setPipe_tb (s : State) (n : Nat) (x : PipeRec) (k : Nat) : (s.setPipe n x).tb k = s.tb k := rfl
@[simp] theorem State.setPipe_cw (s : State) (n : Nat) (x : PipeRec) (k : Nat) : (s.setPipe n x).cw k = s.cw k := rfl
@[simp] theorem State.setPipe_port (s : State) (n : Nat) (x : PipeRec) (k : Nat) : (s.setPipe n x).port k = s.port k := rfl
@[simp] theorem State.setPipe_queue (s : State) (n : Nat) (x : PipeRec) (k : Nat) : (s.setPipe n x).queue k = s.queue k := rfl
@[simp] theorem State.setPipe_chan (s : State) (n : Nat) (x : PipeRec) (k : Nat) : (s.setPipe n x).chan k = s.chan k := rfl
@[simp] theorem State.setPipe_str (s : State) (n : Nat) (x : PipeRec) (k : Nat) : (s.setPipe n x).str k = s.str k := rfl
@[simp] theorem State.setPipe_grp (s : State) (n : Nat) (x : PipeRec) (k : Nat) : (s.setPipe n x).grp k = s.grp k := rfl
@[simp] theorem State.setPipe_pd (s : State) (n : Nat) (x : PipeRec) (k : Nat) : (s.setPipe n x).pd k = s.pd k := rfl
@[simp] theorem State.setPipe_bank (s : State) (n : Nat) (x : PipeRec) (k : Nat) : (s.setPipe n x).bank k = s.bank k := rfl
@[simp] theorem State.setPipe_axis (s : State) (n : Nat) (x : PipeRec) (k : Nat) : (s.setPipe n x).axis k = s.axis k := rfl
@[simp] theorem State.setPipe_tile (s : State) (n : Nat) (x : PipeRec) (k : Nat) : (s.setPipe n x).tile k = s.tile k := rfl
@[simp] theorem State.setPipe_enc (s : State) (n : Nat) (x : PipeRec) (k : Nat) : (s.setPipe n x).enc k = s.enc k := rfl
@[simp] theorem State.setPipe_th (s : State) (n : Nat) (x : PipeRec) (k : Nat) : (s.setPipe n x).th k = s.th k := rfl
@[simp] theorem State.setPipe_barrier (s : State) (n : Nat) (x : PipeRec) (k : Nat) : (s.setPipe n x).barrier k = s.barrier k := rfl
@[simp] theorem State.setPipe_lane (s : State) (n : Nat) (x : PipeRec) (k : Nat) : (s.setPipe n x).lane k = s.lane k := rfl
@[simp] theorem State.setPipe_link (s : State) (n : Nat) (x : PipeRec) (k : Nat) : (s.setPipe n x).link k = s.link k := rfl
@[simp] theorem State.setPipe_palisPort (s : State) (n : Nat) (x : PipeRec) (k : Nat) : (s.setPipe n x).palisPort k = s.palisPort k := rfl
@[simp] theorem State.setPipe_sub (s : State) (n : Nat) (x : PipeRec) (k : Nat) : (s.setPipe n x).sub k = s.sub k := rfl
@[simp] theorem State.setPipe_cal (s : State) (n : Nat) (x : PipeRec) (k : Nat) : (s.setPipe n x).cal k = s.cal k := rfl

/-! ### State.setAxis -/

@[simp] theorem State.setAxis_pending (s : State) (n : Nat) (x : AxisRec) : (s.setAxis n x).pending = s.pending := rfl
@[simp] theorem State.setAxis_now (s : State) (n : Nat) (x : AxisRec) : (s.setAxis n x).now = s.now := rfl
@[simp] theorem State.setAxis_showAcc (s : State) (n : Nat) (x : AxisRec) : (s.setAxis n x).showAcc = s.showAcc := rfl
@[simp] theorem State.setAxis_regs (s : State) (n : Nat) (x : AxisRec) : (s.setAxis n x).regs = s.regs := rfl
@[simp] theorem State.setAxis_heldLow (s : State) (n : Nat) (x : AxisRec) : (s.setAxis n x).heldLow = s.heldLow := rfl
@[simp] theorem State.setAxis_latchedHi (s : State) (n : Nat) (x : AxisRec) : (s.setAxis n x).latchedHi = s.latchedHi := rfl
@[simp] theorem State.setAxis_lastRead (s : State) (n : Nat) (x : AxisRec) : (s.setAxis n x).lastRead = s.lastRead := rfl
@[simp] theorem State.setAxis_freeCtr (s : State) (n : Nat) (x : AxisRec) : (s.setAxis n x).freeCtr = s.freeCtr := rfl
@[simp] theorem State.setAxis_dram (s : State) (n : Nat) (x : AxisRec) : (s.setAxis n x).dram = s.dram := rfl
@[simp] theorem State.setAxis_host (s : State) (n : Nat) (x : AxisRec) : (s.setAxis n x).host = s.host := rfl
@[simp] theorem State.setAxis_bindPend (s : State) (n : Nat) (x : AxisRec) : (s.setAxis n x).bindPend = s.bindPend := rfl
@[simp] theorem State.setAxis_tbs (s : State) (n : Nat) (x : AxisRec) : (s.setAxis n x).tbs = s.tbs := rfl
@[simp] theorem State.setAxis_cws (s : State) (n : Nat) (x : AxisRec) : (s.setAxis n x).cws = s.cws := rfl
@[simp] theorem State.setAxis_ports (s : State) (n : Nat) (x : AxisRec) : (s.setAxis n x).ports = s.ports := rfl
@[simp] theorem State.setAxis_mmu (s : State) (n : Nat) (x : AxisRec) : (s.setAxis n x).mmu = s.mmu := rfl
@[simp] theorem State.setAxis_chans (s : State) (n : Nat) (x : AxisRec) : (s.setAxis n x).chans = s.chans := rfl
@[simp] theorem State.setAxis_memc (s : State) (n : Nat) (x : AxisRec) : (s.setAxis n x).memc = s.memc := rfl
@[simp] theorem State.setAxis_queues (s : State) (n : Nat) (x : AxisRec) : (s.setAxis n x).queues = s.queues := rfl
@[simp] theorem State.setAxis_msix (s : State) (n : Nat) (x : AxisRec) : (s.setAxis n x).msix = s.msix := rfl
@[simp] theorem State.setAxis_hostIf (s : State) (n : Nat) (x : AxisRec) : (s.setAxis n x).hostIf = s.hostIf := rfl
@[simp] theorem State.setAxis_hostMsgs (s : State) (n : Nat) (x : AxisRec) : (s.setAxis n x).hostMsgs = s.hostMsgs := rfl
@[simp] theorem State.setAxis_heldEvents (s : State) (n : Nat) (x : AxisRec) : (s.setAxis n x).heldEvents = s.heldEvents := rfl
@[simp] theorem State.setAxis_pipes (s : State) (n : Nat) (x : AxisRec) : (s.setAxis n x).pipes = s.pipes := rfl
@[simp] theorem State.setAxis_strings (s : State) (n : Nat) (x : AxisRec) : (s.setAxis n x).strings = s.strings := rfl
@[simp] theorem State.setAxis_groups (s : State) (n : Nat) (x : AxisRec) : (s.setAxis n x).groups = s.groups := rfl
@[simp] theorem State.setAxis_pds (s : State) (n : Nat) (x : AxisRec) : (s.setAxis n x).pds = s.pds := rfl
@[simp] theorem State.setAxis_banks (s : State) (n : Nat) (x : AxisRec) : (s.setAxis n x).banks = s.banks := rfl
@[simp] theorem State.setAxis_shdEdges (s : State) (n : Nat) (x : AxisRec) : (s.setAxis n x).shdEdges = s.shdEdges := rfl
@[simp] theorem State.setAxis_vin10 (s : State) (n : Nat) (x : AxisRec) : (s.setAxis n x).vin10 = s.vin10 := rfl
@[simp] theorem State.setAxis_tiles (s : State) (n : Nat) (x : AxisRec) : (s.setAxis n x).tiles = s.tiles := rfl
@[simp] theorem State.setAxis_encs (s : State) (n : Nat) (x : AxisRec) : (s.setAxis n x).encs = s.encs := rfl
@[simp] theorem State.setAxis_sds (s : State) (n : Nat) (x : AxisRec) : (s.setAxis n x).sds = s.sds := rfl
@[simp] theorem State.setAxis_ctlTables (s : State) (n : Nat) (x : AxisRec) : (s.setAxis n x).ctlTables = s.ctlTables := rfl
@[simp] theorem State.setAxis_ctlLoad (s : State) (n : Nat) (x : AxisRec) : (s.setAxis n x).ctlLoad = s.ctlLoad := rfl
@[simp] theorem State.setAxis_threads (s : State) (n : Nat) (x : AxisRec) : (s.setAxis n x).threads = s.threads := rfl
@[simp] theorem State.setAxis_padMem (s : State) (n : Nat) (x : AxisRec) : (s.setAxis n x).padMem = s.padMem := rfl
@[simp] theorem State.setAxis_pilMem (s : State) (n : Nat) (x : AxisRec) : (s.setAxis n x).pilMem = s.pilMem := rfl
@[simp] theorem State.setAxis_barriers (s : State) (n : Nat) (x : AxisRec) : (s.setAxis n x).barriers = s.barriers := rfl
@[simp] theorem State.setAxis_engAcc (s : State) (n : Nat) (x : AxisRec) : (s.setAxis n x).engAcc = s.engAcc := rfl
@[simp] theorem State.setAxis_engEccAt (s : State) (n : Nat) (x : AxisRec) : (s.setAxis n x).engEccAt = s.engEccAt := rfl
@[simp] theorem State.setAxis_cmpBadAt (s : State) (n : Nat) (x : AxisRec) : (s.setAxis n x).cmpBadAt = s.cmpBadAt := rfl
@[simp] theorem State.setAxis_lanes (s : State) (n : Nat) (x : AxisRec) : (s.setAxis n x).lanes = s.lanes := rfl
@[simp] theorem State.setAxis_links (s : State) (n : Nat) (x : AxisRec) : (s.setAxis n x).links = s.links := rfl
@[simp] theorem State.setAxis_palis (s : State) (n : Nat) (x : AxisRec) : (s.setAxis n x).palis = s.palis := rfl
@[simp] theorem State.setAxis_subs (s : State) (n : Nat) (x : AxisRec) : (s.setAxis n x).subs = s.subs := rfl
@[simp] theorem State.setAxis_tree (s : State) (n : Nat) (x : AxisRec) : (s.setAxis n x).tree = s.tree := rfl
@[simp] theorem State.setAxis_twin (s : State) (n : Nat) (x : AxisRec) : (s.setAxis n x).twin = s.twin := rfl
@[simp] theorem State.setAxis_island (s : State) (n : Nat) (x : AxisRec) : (s.setAxis n x).island = s.island := rfl
@[simp] theorem State.setAxis_cals (s : State) (n : Nat) (x : AxisRec) : (s.setAxis n x).cals = s.cals := rfl
@[simp] theorem State.setAxis_geode (s : State) (n : Nat) (x : AxisRec) : (s.setAxis n x).geode = s.geode := rfl
@[simp] theorem State.setAxis_store (s : State) (n : Nat) (x : AxisRec) : (s.setAxis n x).store = s.store := rfl
@[simp] theorem State.setAxis_power (s : State) (n : Nat) (x : AxisRec) : (s.setAxis n x).power = s.power := rfl
@[simp] theorem State.setAxis_rd (s : State) (n : Nat) (x : AxisRec) (r : Nat) : (s.setAxis n x).rd r = s.rd r := rfl
@[simp] theorem State.setAxis_fld (s : State) (n : Nat) (x : AxisRec) (f : Fld) : (s.setAxis n x).fld f = s.fld f := rfl
@[simp] theorem State.setAxis_tb (s : State) (n : Nat) (x : AxisRec) (k : Nat) : (s.setAxis n x).tb k = s.tb k := rfl
@[simp] theorem State.setAxis_cw (s : State) (n : Nat) (x : AxisRec) (k : Nat) : (s.setAxis n x).cw k = s.cw k := rfl
@[simp] theorem State.setAxis_port (s : State) (n : Nat) (x : AxisRec) (k : Nat) : (s.setAxis n x).port k = s.port k := rfl
@[simp] theorem State.setAxis_queue (s : State) (n : Nat) (x : AxisRec) (k : Nat) : (s.setAxis n x).queue k = s.queue k := rfl
@[simp] theorem State.setAxis_chan (s : State) (n : Nat) (x : AxisRec) (k : Nat) : (s.setAxis n x).chan k = s.chan k := rfl
@[simp] theorem State.setAxis_str (s : State) (n : Nat) (x : AxisRec) (k : Nat) : (s.setAxis n x).str k = s.str k := rfl
@[simp] theorem State.setAxis_grp (s : State) (n : Nat) (x : AxisRec) (k : Nat) : (s.setAxis n x).grp k = s.grp k := rfl
@[simp] theorem State.setAxis_pd (s : State) (n : Nat) (x : AxisRec) (k : Nat) : (s.setAxis n x).pd k = s.pd k := rfl
@[simp] theorem State.setAxis_bank (s : State) (n : Nat) (x : AxisRec) (k : Nat) : (s.setAxis n x).bank k = s.bank k := rfl
@[simp] theorem State.setAxis_pipe (s : State) (n : Nat) (x : AxisRec) (k : Nat) : (s.setAxis n x).pipe k = s.pipe k := rfl
@[simp] theorem State.setAxis_tile (s : State) (n : Nat) (x : AxisRec) (k : Nat) : (s.setAxis n x).tile k = s.tile k := rfl
@[simp] theorem State.setAxis_enc (s : State) (n : Nat) (x : AxisRec) (k : Nat) : (s.setAxis n x).enc k = s.enc k := rfl
@[simp] theorem State.setAxis_th (s : State) (n : Nat) (x : AxisRec) (k : Nat) : (s.setAxis n x).th k = s.th k := rfl
@[simp] theorem State.setAxis_barrier (s : State) (n : Nat) (x : AxisRec) (k : Nat) : (s.setAxis n x).barrier k = s.barrier k := rfl
@[simp] theorem State.setAxis_lane (s : State) (n : Nat) (x : AxisRec) (k : Nat) : (s.setAxis n x).lane k = s.lane k := rfl
@[simp] theorem State.setAxis_link (s : State) (n : Nat) (x : AxisRec) (k : Nat) : (s.setAxis n x).link k = s.link k := rfl
@[simp] theorem State.setAxis_palisPort (s : State) (n : Nat) (x : AxisRec) (k : Nat) : (s.setAxis n x).palisPort k = s.palisPort k := rfl
@[simp] theorem State.setAxis_sub (s : State) (n : Nat) (x : AxisRec) (k : Nat) : (s.setAxis n x).sub k = s.sub k := rfl
@[simp] theorem State.setAxis_cal (s : State) (n : Nat) (x : AxisRec) (k : Nat) : (s.setAxis n x).cal k = s.cal k := rfl

/-! ### State.setTile -/

@[simp] theorem State.setTile_pending (s : State) (n : Nat) (x : TileRec) : (s.setTile n x).pending = s.pending := rfl
@[simp] theorem State.setTile_now (s : State) (n : Nat) (x : TileRec) : (s.setTile n x).now = s.now := rfl
@[simp] theorem State.setTile_showAcc (s : State) (n : Nat) (x : TileRec) : (s.setTile n x).showAcc = s.showAcc := rfl
@[simp] theorem State.setTile_regs (s : State) (n : Nat) (x : TileRec) : (s.setTile n x).regs = s.regs := rfl
@[simp] theorem State.setTile_heldLow (s : State) (n : Nat) (x : TileRec) : (s.setTile n x).heldLow = s.heldLow := rfl
@[simp] theorem State.setTile_latchedHi (s : State) (n : Nat) (x : TileRec) : (s.setTile n x).latchedHi = s.latchedHi := rfl
@[simp] theorem State.setTile_lastRead (s : State) (n : Nat) (x : TileRec) : (s.setTile n x).lastRead = s.lastRead := rfl
@[simp] theorem State.setTile_freeCtr (s : State) (n : Nat) (x : TileRec) : (s.setTile n x).freeCtr = s.freeCtr := rfl
@[simp] theorem State.setTile_dram (s : State) (n : Nat) (x : TileRec) : (s.setTile n x).dram = s.dram := rfl
@[simp] theorem State.setTile_host (s : State) (n : Nat) (x : TileRec) : (s.setTile n x).host = s.host := rfl
@[simp] theorem State.setTile_bindPend (s : State) (n : Nat) (x : TileRec) : (s.setTile n x).bindPend = s.bindPend := rfl
@[simp] theorem State.setTile_tbs (s : State) (n : Nat) (x : TileRec) : (s.setTile n x).tbs = s.tbs := rfl
@[simp] theorem State.setTile_cws (s : State) (n : Nat) (x : TileRec) : (s.setTile n x).cws = s.cws := rfl
@[simp] theorem State.setTile_ports (s : State) (n : Nat) (x : TileRec) : (s.setTile n x).ports = s.ports := rfl
@[simp] theorem State.setTile_mmu (s : State) (n : Nat) (x : TileRec) : (s.setTile n x).mmu = s.mmu := rfl
@[simp] theorem State.setTile_chans (s : State) (n : Nat) (x : TileRec) : (s.setTile n x).chans = s.chans := rfl
@[simp] theorem State.setTile_memc (s : State) (n : Nat) (x : TileRec) : (s.setTile n x).memc = s.memc := rfl
@[simp] theorem State.setTile_queues (s : State) (n : Nat) (x : TileRec) : (s.setTile n x).queues = s.queues := rfl
@[simp] theorem State.setTile_msix (s : State) (n : Nat) (x : TileRec) : (s.setTile n x).msix = s.msix := rfl
@[simp] theorem State.setTile_hostIf (s : State) (n : Nat) (x : TileRec) : (s.setTile n x).hostIf = s.hostIf := rfl
@[simp] theorem State.setTile_hostMsgs (s : State) (n : Nat) (x : TileRec) : (s.setTile n x).hostMsgs = s.hostMsgs := rfl
@[simp] theorem State.setTile_heldEvents (s : State) (n : Nat) (x : TileRec) : (s.setTile n x).heldEvents = s.heldEvents := rfl
@[simp] theorem State.setTile_pipes (s : State) (n : Nat) (x : TileRec) : (s.setTile n x).pipes = s.pipes := rfl
@[simp] theorem State.setTile_strings (s : State) (n : Nat) (x : TileRec) : (s.setTile n x).strings = s.strings := rfl
@[simp] theorem State.setTile_groups (s : State) (n : Nat) (x : TileRec) : (s.setTile n x).groups = s.groups := rfl
@[simp] theorem State.setTile_pds (s : State) (n : Nat) (x : TileRec) : (s.setTile n x).pds = s.pds := rfl
@[simp] theorem State.setTile_banks (s : State) (n : Nat) (x : TileRec) : (s.setTile n x).banks = s.banks := rfl
@[simp] theorem State.setTile_shdEdges (s : State) (n : Nat) (x : TileRec) : (s.setTile n x).shdEdges = s.shdEdges := rfl
@[simp] theorem State.setTile_vin10 (s : State) (n : Nat) (x : TileRec) : (s.setTile n x).vin10 = s.vin10 := rfl
@[simp] theorem State.setTile_axes (s : State) (n : Nat) (x : TileRec) : (s.setTile n x).axes = s.axes := rfl
@[simp] theorem State.setTile_encs (s : State) (n : Nat) (x : TileRec) : (s.setTile n x).encs = s.encs := rfl
@[simp] theorem State.setTile_sds (s : State) (n : Nat) (x : TileRec) : (s.setTile n x).sds = s.sds := rfl
@[simp] theorem State.setTile_ctlTables (s : State) (n : Nat) (x : TileRec) : (s.setTile n x).ctlTables = s.ctlTables := rfl
@[simp] theorem State.setTile_ctlLoad (s : State) (n : Nat) (x : TileRec) : (s.setTile n x).ctlLoad = s.ctlLoad := rfl
@[simp] theorem State.setTile_threads (s : State) (n : Nat) (x : TileRec) : (s.setTile n x).threads = s.threads := rfl
@[simp] theorem State.setTile_padMem (s : State) (n : Nat) (x : TileRec) : (s.setTile n x).padMem = s.padMem := rfl
@[simp] theorem State.setTile_pilMem (s : State) (n : Nat) (x : TileRec) : (s.setTile n x).pilMem = s.pilMem := rfl
@[simp] theorem State.setTile_barriers (s : State) (n : Nat) (x : TileRec) : (s.setTile n x).barriers = s.barriers := rfl
@[simp] theorem State.setTile_engAcc (s : State) (n : Nat) (x : TileRec) : (s.setTile n x).engAcc = s.engAcc := rfl
@[simp] theorem State.setTile_engEccAt (s : State) (n : Nat) (x : TileRec) : (s.setTile n x).engEccAt = s.engEccAt := rfl
@[simp] theorem State.setTile_cmpBadAt (s : State) (n : Nat) (x : TileRec) : (s.setTile n x).cmpBadAt = s.cmpBadAt := rfl
@[simp] theorem State.setTile_lanes (s : State) (n : Nat) (x : TileRec) : (s.setTile n x).lanes = s.lanes := rfl
@[simp] theorem State.setTile_links (s : State) (n : Nat) (x : TileRec) : (s.setTile n x).links = s.links := rfl
@[simp] theorem State.setTile_palis (s : State) (n : Nat) (x : TileRec) : (s.setTile n x).palis = s.palis := rfl
@[simp] theorem State.setTile_subs (s : State) (n : Nat) (x : TileRec) : (s.setTile n x).subs = s.subs := rfl
@[simp] theorem State.setTile_tree (s : State) (n : Nat) (x : TileRec) : (s.setTile n x).tree = s.tree := rfl
@[simp] theorem State.setTile_twin (s : State) (n : Nat) (x : TileRec) : (s.setTile n x).twin = s.twin := rfl
@[simp] theorem State.setTile_island (s : State) (n : Nat) (x : TileRec) : (s.setTile n x).island = s.island := rfl
@[simp] theorem State.setTile_cals (s : State) (n : Nat) (x : TileRec) : (s.setTile n x).cals = s.cals := rfl
@[simp] theorem State.setTile_geode (s : State) (n : Nat) (x : TileRec) : (s.setTile n x).geode = s.geode := rfl
@[simp] theorem State.setTile_store (s : State) (n : Nat) (x : TileRec) : (s.setTile n x).store = s.store := rfl
@[simp] theorem State.setTile_power (s : State) (n : Nat) (x : TileRec) : (s.setTile n x).power = s.power := rfl
@[simp] theorem State.setTile_rd (s : State) (n : Nat) (x : TileRec) (r : Nat) : (s.setTile n x).rd r = s.rd r := rfl
@[simp] theorem State.setTile_fld (s : State) (n : Nat) (x : TileRec) (f : Fld) : (s.setTile n x).fld f = s.fld f := rfl
@[simp] theorem State.setTile_tb (s : State) (n : Nat) (x : TileRec) (k : Nat) : (s.setTile n x).tb k = s.tb k := rfl
@[simp] theorem State.setTile_cw (s : State) (n : Nat) (x : TileRec) (k : Nat) : (s.setTile n x).cw k = s.cw k := rfl
@[simp] theorem State.setTile_port (s : State) (n : Nat) (x : TileRec) (k : Nat) : (s.setTile n x).port k = s.port k := rfl
@[simp] theorem State.setTile_queue (s : State) (n : Nat) (x : TileRec) (k : Nat) : (s.setTile n x).queue k = s.queue k := rfl
@[simp] theorem State.setTile_chan (s : State) (n : Nat) (x : TileRec) (k : Nat) : (s.setTile n x).chan k = s.chan k := rfl
@[simp] theorem State.setTile_str (s : State) (n : Nat) (x : TileRec) (k : Nat) : (s.setTile n x).str k = s.str k := rfl
@[simp] theorem State.setTile_grp (s : State) (n : Nat) (x : TileRec) (k : Nat) : (s.setTile n x).grp k = s.grp k := rfl
@[simp] theorem State.setTile_pd (s : State) (n : Nat) (x : TileRec) (k : Nat) : (s.setTile n x).pd k = s.pd k := rfl
@[simp] theorem State.setTile_bank (s : State) (n : Nat) (x : TileRec) (k : Nat) : (s.setTile n x).bank k = s.bank k := rfl
@[simp] theorem State.setTile_pipe (s : State) (n : Nat) (x : TileRec) (k : Nat) : (s.setTile n x).pipe k = s.pipe k := rfl
@[simp] theorem State.setTile_axis (s : State) (n : Nat) (x : TileRec) (k : Nat) : (s.setTile n x).axis k = s.axis k := rfl
@[simp] theorem State.setTile_enc (s : State) (n : Nat) (x : TileRec) (k : Nat) : (s.setTile n x).enc k = s.enc k := rfl
@[simp] theorem State.setTile_th (s : State) (n : Nat) (x : TileRec) (k : Nat) : (s.setTile n x).th k = s.th k := rfl
@[simp] theorem State.setTile_barrier (s : State) (n : Nat) (x : TileRec) (k : Nat) : (s.setTile n x).barrier k = s.barrier k := rfl
@[simp] theorem State.setTile_lane (s : State) (n : Nat) (x : TileRec) (k : Nat) : (s.setTile n x).lane k = s.lane k := rfl
@[simp] theorem State.setTile_link (s : State) (n : Nat) (x : TileRec) (k : Nat) : (s.setTile n x).link k = s.link k := rfl
@[simp] theorem State.setTile_palisPort (s : State) (n : Nat) (x : TileRec) (k : Nat) : (s.setTile n x).palisPort k = s.palisPort k := rfl
@[simp] theorem State.setTile_sub (s : State) (n : Nat) (x : TileRec) (k : Nat) : (s.setTile n x).sub k = s.sub k := rfl
@[simp] theorem State.setTile_cal (s : State) (n : Nat) (x : TileRec) (k : Nat) : (s.setTile n x).cal k = s.cal k := rfl

/-! ### State.setEnc -/

@[simp] theorem State.setEnc_pending (s : State) (n : Nat) (x : EncRec) : (s.setEnc n x).pending = s.pending := rfl
@[simp] theorem State.setEnc_now (s : State) (n : Nat) (x : EncRec) : (s.setEnc n x).now = s.now := rfl
@[simp] theorem State.setEnc_showAcc (s : State) (n : Nat) (x : EncRec) : (s.setEnc n x).showAcc = s.showAcc := rfl
@[simp] theorem State.setEnc_regs (s : State) (n : Nat) (x : EncRec) : (s.setEnc n x).regs = s.regs := rfl
@[simp] theorem State.setEnc_heldLow (s : State) (n : Nat) (x : EncRec) : (s.setEnc n x).heldLow = s.heldLow := rfl
@[simp] theorem State.setEnc_latchedHi (s : State) (n : Nat) (x : EncRec) : (s.setEnc n x).latchedHi = s.latchedHi := rfl
@[simp] theorem State.setEnc_lastRead (s : State) (n : Nat) (x : EncRec) : (s.setEnc n x).lastRead = s.lastRead := rfl
@[simp] theorem State.setEnc_freeCtr (s : State) (n : Nat) (x : EncRec) : (s.setEnc n x).freeCtr = s.freeCtr := rfl
@[simp] theorem State.setEnc_dram (s : State) (n : Nat) (x : EncRec) : (s.setEnc n x).dram = s.dram := rfl
@[simp] theorem State.setEnc_host (s : State) (n : Nat) (x : EncRec) : (s.setEnc n x).host = s.host := rfl
@[simp] theorem State.setEnc_bindPend (s : State) (n : Nat) (x : EncRec) : (s.setEnc n x).bindPend = s.bindPend := rfl
@[simp] theorem State.setEnc_tbs (s : State) (n : Nat) (x : EncRec) : (s.setEnc n x).tbs = s.tbs := rfl
@[simp] theorem State.setEnc_cws (s : State) (n : Nat) (x : EncRec) : (s.setEnc n x).cws = s.cws := rfl
@[simp] theorem State.setEnc_ports (s : State) (n : Nat) (x : EncRec) : (s.setEnc n x).ports = s.ports := rfl
@[simp] theorem State.setEnc_mmu (s : State) (n : Nat) (x : EncRec) : (s.setEnc n x).mmu = s.mmu := rfl
@[simp] theorem State.setEnc_chans (s : State) (n : Nat) (x : EncRec) : (s.setEnc n x).chans = s.chans := rfl
@[simp] theorem State.setEnc_memc (s : State) (n : Nat) (x : EncRec) : (s.setEnc n x).memc = s.memc := rfl
@[simp] theorem State.setEnc_queues (s : State) (n : Nat) (x : EncRec) : (s.setEnc n x).queues = s.queues := rfl
@[simp] theorem State.setEnc_msix (s : State) (n : Nat) (x : EncRec) : (s.setEnc n x).msix = s.msix := rfl
@[simp] theorem State.setEnc_hostIf (s : State) (n : Nat) (x : EncRec) : (s.setEnc n x).hostIf = s.hostIf := rfl
@[simp] theorem State.setEnc_hostMsgs (s : State) (n : Nat) (x : EncRec) : (s.setEnc n x).hostMsgs = s.hostMsgs := rfl
@[simp] theorem State.setEnc_heldEvents (s : State) (n : Nat) (x : EncRec) : (s.setEnc n x).heldEvents = s.heldEvents := rfl
@[simp] theorem State.setEnc_pipes (s : State) (n : Nat) (x : EncRec) : (s.setEnc n x).pipes = s.pipes := rfl
@[simp] theorem State.setEnc_strings (s : State) (n : Nat) (x : EncRec) : (s.setEnc n x).strings = s.strings := rfl
@[simp] theorem State.setEnc_groups (s : State) (n : Nat) (x : EncRec) : (s.setEnc n x).groups = s.groups := rfl
@[simp] theorem State.setEnc_pds (s : State) (n : Nat) (x : EncRec) : (s.setEnc n x).pds = s.pds := rfl
@[simp] theorem State.setEnc_banks (s : State) (n : Nat) (x : EncRec) : (s.setEnc n x).banks = s.banks := rfl
@[simp] theorem State.setEnc_shdEdges (s : State) (n : Nat) (x : EncRec) : (s.setEnc n x).shdEdges = s.shdEdges := rfl
@[simp] theorem State.setEnc_vin10 (s : State) (n : Nat) (x : EncRec) : (s.setEnc n x).vin10 = s.vin10 := rfl
@[simp] theorem State.setEnc_axes (s : State) (n : Nat) (x : EncRec) : (s.setEnc n x).axes = s.axes := rfl
@[simp] theorem State.setEnc_tiles (s : State) (n : Nat) (x : EncRec) : (s.setEnc n x).tiles = s.tiles := rfl
@[simp] theorem State.setEnc_sds (s : State) (n : Nat) (x : EncRec) : (s.setEnc n x).sds = s.sds := rfl
@[simp] theorem State.setEnc_ctlTables (s : State) (n : Nat) (x : EncRec) : (s.setEnc n x).ctlTables = s.ctlTables := rfl
@[simp] theorem State.setEnc_ctlLoad (s : State) (n : Nat) (x : EncRec) : (s.setEnc n x).ctlLoad = s.ctlLoad := rfl
@[simp] theorem State.setEnc_threads (s : State) (n : Nat) (x : EncRec) : (s.setEnc n x).threads = s.threads := rfl
@[simp] theorem State.setEnc_padMem (s : State) (n : Nat) (x : EncRec) : (s.setEnc n x).padMem = s.padMem := rfl
@[simp] theorem State.setEnc_pilMem (s : State) (n : Nat) (x : EncRec) : (s.setEnc n x).pilMem = s.pilMem := rfl
@[simp] theorem State.setEnc_barriers (s : State) (n : Nat) (x : EncRec) : (s.setEnc n x).barriers = s.barriers := rfl
@[simp] theorem State.setEnc_engAcc (s : State) (n : Nat) (x : EncRec) : (s.setEnc n x).engAcc = s.engAcc := rfl
@[simp] theorem State.setEnc_engEccAt (s : State) (n : Nat) (x : EncRec) : (s.setEnc n x).engEccAt = s.engEccAt := rfl
@[simp] theorem State.setEnc_cmpBadAt (s : State) (n : Nat) (x : EncRec) : (s.setEnc n x).cmpBadAt = s.cmpBadAt := rfl
@[simp] theorem State.setEnc_lanes (s : State) (n : Nat) (x : EncRec) : (s.setEnc n x).lanes = s.lanes := rfl
@[simp] theorem State.setEnc_links (s : State) (n : Nat) (x : EncRec) : (s.setEnc n x).links = s.links := rfl
@[simp] theorem State.setEnc_palis (s : State) (n : Nat) (x : EncRec) : (s.setEnc n x).palis = s.palis := rfl
@[simp] theorem State.setEnc_subs (s : State) (n : Nat) (x : EncRec) : (s.setEnc n x).subs = s.subs := rfl
@[simp] theorem State.setEnc_tree (s : State) (n : Nat) (x : EncRec) : (s.setEnc n x).tree = s.tree := rfl
@[simp] theorem State.setEnc_twin (s : State) (n : Nat) (x : EncRec) : (s.setEnc n x).twin = s.twin := rfl
@[simp] theorem State.setEnc_island (s : State) (n : Nat) (x : EncRec) : (s.setEnc n x).island = s.island := rfl
@[simp] theorem State.setEnc_cals (s : State) (n : Nat) (x : EncRec) : (s.setEnc n x).cals = s.cals := rfl
@[simp] theorem State.setEnc_geode (s : State) (n : Nat) (x : EncRec) : (s.setEnc n x).geode = s.geode := rfl
@[simp] theorem State.setEnc_store (s : State) (n : Nat) (x : EncRec) : (s.setEnc n x).store = s.store := rfl
@[simp] theorem State.setEnc_power (s : State) (n : Nat) (x : EncRec) : (s.setEnc n x).power = s.power := rfl
@[simp] theorem State.setEnc_rd (s : State) (n : Nat) (x : EncRec) (r : Nat) : (s.setEnc n x).rd r = s.rd r := rfl
@[simp] theorem State.setEnc_fld (s : State) (n : Nat) (x : EncRec) (f : Fld) : (s.setEnc n x).fld f = s.fld f := rfl
@[simp] theorem State.setEnc_tb (s : State) (n : Nat) (x : EncRec) (k : Nat) : (s.setEnc n x).tb k = s.tb k := rfl
@[simp] theorem State.setEnc_cw (s : State) (n : Nat) (x : EncRec) (k : Nat) : (s.setEnc n x).cw k = s.cw k := rfl
@[simp] theorem State.setEnc_port (s : State) (n : Nat) (x : EncRec) (k : Nat) : (s.setEnc n x).port k = s.port k := rfl
@[simp] theorem State.setEnc_queue (s : State) (n : Nat) (x : EncRec) (k : Nat) : (s.setEnc n x).queue k = s.queue k := rfl
@[simp] theorem State.setEnc_chan (s : State) (n : Nat) (x : EncRec) (k : Nat) : (s.setEnc n x).chan k = s.chan k := rfl
@[simp] theorem State.setEnc_str (s : State) (n : Nat) (x : EncRec) (k : Nat) : (s.setEnc n x).str k = s.str k := rfl
@[simp] theorem State.setEnc_grp (s : State) (n : Nat) (x : EncRec) (k : Nat) : (s.setEnc n x).grp k = s.grp k := rfl
@[simp] theorem State.setEnc_pd (s : State) (n : Nat) (x : EncRec) (k : Nat) : (s.setEnc n x).pd k = s.pd k := rfl
@[simp] theorem State.setEnc_bank (s : State) (n : Nat) (x : EncRec) (k : Nat) : (s.setEnc n x).bank k = s.bank k := rfl
@[simp] theorem State.setEnc_pipe (s : State) (n : Nat) (x : EncRec) (k : Nat) : (s.setEnc n x).pipe k = s.pipe k := rfl
@[simp] theorem State.setEnc_axis (s : State) (n : Nat) (x : EncRec) (k : Nat) : (s.setEnc n x).axis k = s.axis k := rfl
@[simp] theorem State.setEnc_tile (s : State) (n : Nat) (x : EncRec) (k : Nat) : (s.setEnc n x).tile k = s.tile k := rfl
@[simp] theorem State.setEnc_th (s : State) (n : Nat) (x : EncRec) (k : Nat) : (s.setEnc n x).th k = s.th k := rfl
@[simp] theorem State.setEnc_barrier (s : State) (n : Nat) (x : EncRec) (k : Nat) : (s.setEnc n x).barrier k = s.barrier k := rfl
@[simp] theorem State.setEnc_lane (s : State) (n : Nat) (x : EncRec) (k : Nat) : (s.setEnc n x).lane k = s.lane k := rfl
@[simp] theorem State.setEnc_link (s : State) (n : Nat) (x : EncRec) (k : Nat) : (s.setEnc n x).link k = s.link k := rfl
@[simp] theorem State.setEnc_palisPort (s : State) (n : Nat) (x : EncRec) (k : Nat) : (s.setEnc n x).palisPort k = s.palisPort k := rfl
@[simp] theorem State.setEnc_sub (s : State) (n : Nat) (x : EncRec) (k : Nat) : (s.setEnc n x).sub k = s.sub k := rfl
@[simp] theorem State.setEnc_cal (s : State) (n : Nat) (x : EncRec) (k : Nat) : (s.setEnc n x).cal k = s.cal k := rfl

/-! ### State.setTh -/

@[simp] theorem State.setTh_pending (s : State) (n : Nat) (x : Thread) : (s.setTh n x).pending = s.pending := rfl
@[simp] theorem State.setTh_now (s : State) (n : Nat) (x : Thread) : (s.setTh n x).now = s.now := rfl
@[simp] theorem State.setTh_showAcc (s : State) (n : Nat) (x : Thread) : (s.setTh n x).showAcc = s.showAcc := rfl
@[simp] theorem State.setTh_regs (s : State) (n : Nat) (x : Thread) : (s.setTh n x).regs = s.regs := rfl
@[simp] theorem State.setTh_heldLow (s : State) (n : Nat) (x : Thread) : (s.setTh n x).heldLow = s.heldLow := rfl
@[simp] theorem State.setTh_latchedHi (s : State) (n : Nat) (x : Thread) : (s.setTh n x).latchedHi = s.latchedHi := rfl
@[simp] theorem State.setTh_lastRead (s : State) (n : Nat) (x : Thread) : (s.setTh n x).lastRead = s.lastRead := rfl
@[simp] theorem State.setTh_freeCtr (s : State) (n : Nat) (x : Thread) : (s.setTh n x).freeCtr = s.freeCtr := rfl
@[simp] theorem State.setTh_dram (s : State) (n : Nat) (x : Thread) : (s.setTh n x).dram = s.dram := rfl
@[simp] theorem State.setTh_host (s : State) (n : Nat) (x : Thread) : (s.setTh n x).host = s.host := rfl
@[simp] theorem State.setTh_bindPend (s : State) (n : Nat) (x : Thread) : (s.setTh n x).bindPend = s.bindPend := rfl
@[simp] theorem State.setTh_tbs (s : State) (n : Nat) (x : Thread) : (s.setTh n x).tbs = s.tbs := rfl
@[simp] theorem State.setTh_cws (s : State) (n : Nat) (x : Thread) : (s.setTh n x).cws = s.cws := rfl
@[simp] theorem State.setTh_ports (s : State) (n : Nat) (x : Thread) : (s.setTh n x).ports = s.ports := rfl
@[simp] theorem State.setTh_mmu (s : State) (n : Nat) (x : Thread) : (s.setTh n x).mmu = s.mmu := rfl
@[simp] theorem State.setTh_chans (s : State) (n : Nat) (x : Thread) : (s.setTh n x).chans = s.chans := rfl
@[simp] theorem State.setTh_memc (s : State) (n : Nat) (x : Thread) : (s.setTh n x).memc = s.memc := rfl
@[simp] theorem State.setTh_queues (s : State) (n : Nat) (x : Thread) : (s.setTh n x).queues = s.queues := rfl
@[simp] theorem State.setTh_msix (s : State) (n : Nat) (x : Thread) : (s.setTh n x).msix = s.msix := rfl
@[simp] theorem State.setTh_hostIf (s : State) (n : Nat) (x : Thread) : (s.setTh n x).hostIf = s.hostIf := rfl
@[simp] theorem State.setTh_hostMsgs (s : State) (n : Nat) (x : Thread) : (s.setTh n x).hostMsgs = s.hostMsgs := rfl
@[simp] theorem State.setTh_heldEvents (s : State) (n : Nat) (x : Thread) : (s.setTh n x).heldEvents = s.heldEvents := rfl
@[simp] theorem State.setTh_pipes (s : State) (n : Nat) (x : Thread) : (s.setTh n x).pipes = s.pipes := rfl
@[simp] theorem State.setTh_strings (s : State) (n : Nat) (x : Thread) : (s.setTh n x).strings = s.strings := rfl
@[simp] theorem State.setTh_groups (s : State) (n : Nat) (x : Thread) : (s.setTh n x).groups = s.groups := rfl
@[simp] theorem State.setTh_pds (s : State) (n : Nat) (x : Thread) : (s.setTh n x).pds = s.pds := rfl
@[simp] theorem State.setTh_banks (s : State) (n : Nat) (x : Thread) : (s.setTh n x).banks = s.banks := rfl
@[simp] theorem State.setTh_shdEdges (s : State) (n : Nat) (x : Thread) : (s.setTh n x).shdEdges = s.shdEdges := rfl
@[simp] theorem State.setTh_vin10 (s : State) (n : Nat) (x : Thread) : (s.setTh n x).vin10 = s.vin10 := rfl
@[simp] theorem State.setTh_axes (s : State) (n : Nat) (x : Thread) : (s.setTh n x).axes = s.axes := rfl
@[simp] theorem State.setTh_tiles (s : State) (n : Nat) (x : Thread) : (s.setTh n x).tiles = s.tiles := rfl
@[simp] theorem State.setTh_encs (s : State) (n : Nat) (x : Thread) : (s.setTh n x).encs = s.encs := rfl
@[simp] theorem State.setTh_sds (s : State) (n : Nat) (x : Thread) : (s.setTh n x).sds = s.sds := rfl
@[simp] theorem State.setTh_ctlTables (s : State) (n : Nat) (x : Thread) : (s.setTh n x).ctlTables = s.ctlTables := rfl
@[simp] theorem State.setTh_ctlLoad (s : State) (n : Nat) (x : Thread) : (s.setTh n x).ctlLoad = s.ctlLoad := rfl
@[simp] theorem State.setTh_padMem (s : State) (n : Nat) (x : Thread) : (s.setTh n x).padMem = s.padMem := rfl
@[simp] theorem State.setTh_pilMem (s : State) (n : Nat) (x : Thread) : (s.setTh n x).pilMem = s.pilMem := rfl
@[simp] theorem State.setTh_barriers (s : State) (n : Nat) (x : Thread) : (s.setTh n x).barriers = s.barriers := rfl
@[simp] theorem State.setTh_engAcc (s : State) (n : Nat) (x : Thread) : (s.setTh n x).engAcc = s.engAcc := rfl
@[simp] theorem State.setTh_engEccAt (s : State) (n : Nat) (x : Thread) : (s.setTh n x).engEccAt = s.engEccAt := rfl
@[simp] theorem State.setTh_cmpBadAt (s : State) (n : Nat) (x : Thread) : (s.setTh n x).cmpBadAt = s.cmpBadAt := rfl
@[simp] theorem State.setTh_lanes (s : State) (n : Nat) (x : Thread) : (s.setTh n x).lanes = s.lanes := rfl
@[simp] theorem State.setTh_links (s : State) (n : Nat) (x : Thread) : (s.setTh n x).links = s.links := rfl
@[simp] theorem State.setTh_palis (s : State) (n : Nat) (x : Thread) : (s.setTh n x).palis = s.palis := rfl
@[simp] theorem State.setTh_subs (s : State) (n : Nat) (x : Thread) : (s.setTh n x).subs = s.subs := rfl
@[simp] theorem State.setTh_tree (s : State) (n : Nat) (x : Thread) : (s.setTh n x).tree = s.tree := rfl
@[simp] theorem State.setTh_twin (s : State) (n : Nat) (x : Thread) : (s.setTh n x).twin = s.twin := rfl
@[simp] theorem State.setTh_island (s : State) (n : Nat) (x : Thread) : (s.setTh n x).island = s.island := rfl
@[simp] theorem State.setTh_cals (s : State) (n : Nat) (x : Thread) : (s.setTh n x).cals = s.cals := rfl
@[simp] theorem State.setTh_geode (s : State) (n : Nat) (x : Thread) : (s.setTh n x).geode = s.geode := rfl
@[simp] theorem State.setTh_store (s : State) (n : Nat) (x : Thread) : (s.setTh n x).store = s.store := rfl
@[simp] theorem State.setTh_power (s : State) (n : Nat) (x : Thread) : (s.setTh n x).power = s.power := rfl
@[simp] theorem State.setTh_rd (s : State) (n : Nat) (x : Thread) (r : Nat) : (s.setTh n x).rd r = s.rd r := rfl
@[simp] theorem State.setTh_fld (s : State) (n : Nat) (x : Thread) (f : Fld) : (s.setTh n x).fld f = s.fld f := rfl
@[simp] theorem State.setTh_tb (s : State) (n : Nat) (x : Thread) (k : Nat) : (s.setTh n x).tb k = s.tb k := rfl
@[simp] theorem State.setTh_cw (s : State) (n : Nat) (x : Thread) (k : Nat) : (s.setTh n x).cw k = s.cw k := rfl
@[simp] theorem State.setTh_port (s : State) (n : Nat) (x : Thread) (k : Nat) : (s.setTh n x).port k = s.port k := rfl
@[simp] theorem State.setTh_queue (s : State) (n : Nat) (x : Thread) (k : Nat) : (s.setTh n x).queue k = s.queue k := rfl
@[simp] theorem State.setTh_chan (s : State) (n : Nat) (x : Thread) (k : Nat) : (s.setTh n x).chan k = s.chan k := rfl
@[simp] theorem State.setTh_str (s : State) (n : Nat) (x : Thread) (k : Nat) : (s.setTh n x).str k = s.str k := rfl
@[simp] theorem State.setTh_grp (s : State) (n : Nat) (x : Thread) (k : Nat) : (s.setTh n x).grp k = s.grp k := rfl
@[simp] theorem State.setTh_pd (s : State) (n : Nat) (x : Thread) (k : Nat) : (s.setTh n x).pd k = s.pd k := rfl
@[simp] theorem State.setTh_bank (s : State) (n : Nat) (x : Thread) (k : Nat) : (s.setTh n x).bank k = s.bank k := rfl
@[simp] theorem State.setTh_pipe (s : State) (n : Nat) (x : Thread) (k : Nat) : (s.setTh n x).pipe k = s.pipe k := rfl
@[simp] theorem State.setTh_axis (s : State) (n : Nat) (x : Thread) (k : Nat) : (s.setTh n x).axis k = s.axis k := rfl
@[simp] theorem State.setTh_tile (s : State) (n : Nat) (x : Thread) (k : Nat) : (s.setTh n x).tile k = s.tile k := rfl
@[simp] theorem State.setTh_enc (s : State) (n : Nat) (x : Thread) (k : Nat) : (s.setTh n x).enc k = s.enc k := rfl
@[simp] theorem State.setTh_barrier (s : State) (n : Nat) (x : Thread) (k : Nat) : (s.setTh n x).barrier k = s.barrier k := rfl
@[simp] theorem State.setTh_lane (s : State) (n : Nat) (x : Thread) (k : Nat) : (s.setTh n x).lane k = s.lane k := rfl
@[simp] theorem State.setTh_link (s : State) (n : Nat) (x : Thread) (k : Nat) : (s.setTh n x).link k = s.link k := rfl
@[simp] theorem State.setTh_palisPort (s : State) (n : Nat) (x : Thread) (k : Nat) : (s.setTh n x).palisPort k = s.palisPort k := rfl
@[simp] theorem State.setTh_sub (s : State) (n : Nat) (x : Thread) (k : Nat) : (s.setTh n x).sub k = s.sub k := rfl
@[simp] theorem State.setTh_cal (s : State) (n : Nat) (x : Thread) (k : Nat) : (s.setTh n x).cal k = s.cal k := rfl

/-! ### State.setBarrier -/

@[simp] theorem State.setBarrier_pending (s : State) (n : Nat) (x : Barrier) : (s.setBarrier n x).pending = s.pending := rfl
@[simp] theorem State.setBarrier_now (s : State) (n : Nat) (x : Barrier) : (s.setBarrier n x).now = s.now := rfl
@[simp] theorem State.setBarrier_showAcc (s : State) (n : Nat) (x : Barrier) : (s.setBarrier n x).showAcc = s.showAcc := rfl
@[simp] theorem State.setBarrier_regs (s : State) (n : Nat) (x : Barrier) : (s.setBarrier n x).regs = s.regs := rfl
@[simp] theorem State.setBarrier_heldLow (s : State) (n : Nat) (x : Barrier) : (s.setBarrier n x).heldLow = s.heldLow := rfl
@[simp] theorem State.setBarrier_latchedHi (s : State) (n : Nat) (x : Barrier) : (s.setBarrier n x).latchedHi = s.latchedHi := rfl
@[simp] theorem State.setBarrier_lastRead (s : State) (n : Nat) (x : Barrier) : (s.setBarrier n x).lastRead = s.lastRead := rfl
@[simp] theorem State.setBarrier_freeCtr (s : State) (n : Nat) (x : Barrier) : (s.setBarrier n x).freeCtr = s.freeCtr := rfl
@[simp] theorem State.setBarrier_dram (s : State) (n : Nat) (x : Barrier) : (s.setBarrier n x).dram = s.dram := rfl
@[simp] theorem State.setBarrier_host (s : State) (n : Nat) (x : Barrier) : (s.setBarrier n x).host = s.host := rfl
@[simp] theorem State.setBarrier_bindPend (s : State) (n : Nat) (x : Barrier) : (s.setBarrier n x).bindPend = s.bindPend := rfl
@[simp] theorem State.setBarrier_tbs (s : State) (n : Nat) (x : Barrier) : (s.setBarrier n x).tbs = s.tbs := rfl
@[simp] theorem State.setBarrier_cws (s : State) (n : Nat) (x : Barrier) : (s.setBarrier n x).cws = s.cws := rfl
@[simp] theorem State.setBarrier_ports (s : State) (n : Nat) (x : Barrier) : (s.setBarrier n x).ports = s.ports := rfl
@[simp] theorem State.setBarrier_mmu (s : State) (n : Nat) (x : Barrier) : (s.setBarrier n x).mmu = s.mmu := rfl
@[simp] theorem State.setBarrier_chans (s : State) (n : Nat) (x : Barrier) : (s.setBarrier n x).chans = s.chans := rfl
@[simp] theorem State.setBarrier_memc (s : State) (n : Nat) (x : Barrier) : (s.setBarrier n x).memc = s.memc := rfl
@[simp] theorem State.setBarrier_queues (s : State) (n : Nat) (x : Barrier) : (s.setBarrier n x).queues = s.queues := rfl
@[simp] theorem State.setBarrier_msix (s : State) (n : Nat) (x : Barrier) : (s.setBarrier n x).msix = s.msix := rfl
@[simp] theorem State.setBarrier_hostIf (s : State) (n : Nat) (x : Barrier) : (s.setBarrier n x).hostIf = s.hostIf := rfl
@[simp] theorem State.setBarrier_hostMsgs (s : State) (n : Nat) (x : Barrier) : (s.setBarrier n x).hostMsgs = s.hostMsgs := rfl
@[simp] theorem State.setBarrier_heldEvents (s : State) (n : Nat) (x : Barrier) : (s.setBarrier n x).heldEvents = s.heldEvents := rfl
@[simp] theorem State.setBarrier_pipes (s : State) (n : Nat) (x : Barrier) : (s.setBarrier n x).pipes = s.pipes := rfl
@[simp] theorem State.setBarrier_strings (s : State) (n : Nat) (x : Barrier) : (s.setBarrier n x).strings = s.strings := rfl
@[simp] theorem State.setBarrier_groups (s : State) (n : Nat) (x : Barrier) : (s.setBarrier n x).groups = s.groups := rfl
@[simp] theorem State.setBarrier_pds (s : State) (n : Nat) (x : Barrier) : (s.setBarrier n x).pds = s.pds := rfl
@[simp] theorem State.setBarrier_banks (s : State) (n : Nat) (x : Barrier) : (s.setBarrier n x).banks = s.banks := rfl
@[simp] theorem State.setBarrier_shdEdges (s : State) (n : Nat) (x : Barrier) : (s.setBarrier n x).shdEdges = s.shdEdges := rfl
@[simp] theorem State.setBarrier_vin10 (s : State) (n : Nat) (x : Barrier) : (s.setBarrier n x).vin10 = s.vin10 := rfl
@[simp] theorem State.setBarrier_axes (s : State) (n : Nat) (x : Barrier) : (s.setBarrier n x).axes = s.axes := rfl
@[simp] theorem State.setBarrier_tiles (s : State) (n : Nat) (x : Barrier) : (s.setBarrier n x).tiles = s.tiles := rfl
@[simp] theorem State.setBarrier_encs (s : State) (n : Nat) (x : Barrier) : (s.setBarrier n x).encs = s.encs := rfl
@[simp] theorem State.setBarrier_sds (s : State) (n : Nat) (x : Barrier) : (s.setBarrier n x).sds = s.sds := rfl
@[simp] theorem State.setBarrier_ctlTables (s : State) (n : Nat) (x : Barrier) : (s.setBarrier n x).ctlTables = s.ctlTables := rfl
@[simp] theorem State.setBarrier_ctlLoad (s : State) (n : Nat) (x : Barrier) : (s.setBarrier n x).ctlLoad = s.ctlLoad := rfl
@[simp] theorem State.setBarrier_threads (s : State) (n : Nat) (x : Barrier) : (s.setBarrier n x).threads = s.threads := rfl
@[simp] theorem State.setBarrier_padMem (s : State) (n : Nat) (x : Barrier) : (s.setBarrier n x).padMem = s.padMem := rfl
@[simp] theorem State.setBarrier_pilMem (s : State) (n : Nat) (x : Barrier) : (s.setBarrier n x).pilMem = s.pilMem := rfl
@[simp] theorem State.setBarrier_engAcc (s : State) (n : Nat) (x : Barrier) : (s.setBarrier n x).engAcc = s.engAcc := rfl
@[simp] theorem State.setBarrier_engEccAt (s : State) (n : Nat) (x : Barrier) : (s.setBarrier n x).engEccAt = s.engEccAt := rfl
@[simp] theorem State.setBarrier_cmpBadAt (s : State) (n : Nat) (x : Barrier) : (s.setBarrier n x).cmpBadAt = s.cmpBadAt := rfl
@[simp] theorem State.setBarrier_lanes (s : State) (n : Nat) (x : Barrier) : (s.setBarrier n x).lanes = s.lanes := rfl
@[simp] theorem State.setBarrier_links (s : State) (n : Nat) (x : Barrier) : (s.setBarrier n x).links = s.links := rfl
@[simp] theorem State.setBarrier_palis (s : State) (n : Nat) (x : Barrier) : (s.setBarrier n x).palis = s.palis := rfl
@[simp] theorem State.setBarrier_subs (s : State) (n : Nat) (x : Barrier) : (s.setBarrier n x).subs = s.subs := rfl
@[simp] theorem State.setBarrier_tree (s : State) (n : Nat) (x : Barrier) : (s.setBarrier n x).tree = s.tree := rfl
@[simp] theorem State.setBarrier_twin (s : State) (n : Nat) (x : Barrier) : (s.setBarrier n x).twin = s.twin := rfl
@[simp] theorem State.setBarrier_island (s : State) (n : Nat) (x : Barrier) : (s.setBarrier n x).island = s.island := rfl
@[simp] theorem State.setBarrier_cals (s : State) (n : Nat) (x : Barrier) : (s.setBarrier n x).cals = s.cals := rfl
@[simp] theorem State.setBarrier_geode (s : State) (n : Nat) (x : Barrier) : (s.setBarrier n x).geode = s.geode := rfl
@[simp] theorem State.setBarrier_store (s : State) (n : Nat) (x : Barrier) : (s.setBarrier n x).store = s.store := rfl
@[simp] theorem State.setBarrier_power (s : State) (n : Nat) (x : Barrier) : (s.setBarrier n x).power = s.power := rfl
@[simp] theorem State.setBarrier_rd (s : State) (n : Nat) (x : Barrier) (r : Nat) : (s.setBarrier n x).rd r = s.rd r := rfl
@[simp] theorem State.setBarrier_fld (s : State) (n : Nat) (x : Barrier) (f : Fld) : (s.setBarrier n x).fld f = s.fld f := rfl
@[simp] theorem State.setBarrier_tb (s : State) (n : Nat) (x : Barrier) (k : Nat) : (s.setBarrier n x).tb k = s.tb k := rfl
@[simp] theorem State.setBarrier_cw (s : State) (n : Nat) (x : Barrier) (k : Nat) : (s.setBarrier n x).cw k = s.cw k := rfl
@[simp] theorem State.setBarrier_port (s : State) (n : Nat) (x : Barrier) (k : Nat) : (s.setBarrier n x).port k = s.port k := rfl
@[simp] theorem State.setBarrier_queue (s : State) (n : Nat) (x : Barrier) (k : Nat) : (s.setBarrier n x).queue k = s.queue k := rfl
@[simp] theorem State.setBarrier_chan (s : State) (n : Nat) (x : Barrier) (k : Nat) : (s.setBarrier n x).chan k = s.chan k := rfl
@[simp] theorem State.setBarrier_str (s : State) (n : Nat) (x : Barrier) (k : Nat) : (s.setBarrier n x).str k = s.str k := rfl
@[simp] theorem State.setBarrier_grp (s : State) (n : Nat) (x : Barrier) (k : Nat) : (s.setBarrier n x).grp k = s.grp k := rfl
@[simp] theorem State.setBarrier_pd (s : State) (n : Nat) (x : Barrier) (k : Nat) : (s.setBarrier n x).pd k = s.pd k := rfl
@[simp] theorem State.setBarrier_bank (s : State) (n : Nat) (x : Barrier) (k : Nat) : (s.setBarrier n x).bank k = s.bank k := rfl
@[simp] theorem State.setBarrier_pipe (s : State) (n : Nat) (x : Barrier) (k : Nat) : (s.setBarrier n x).pipe k = s.pipe k := rfl
@[simp] theorem State.setBarrier_axis (s : State) (n : Nat) (x : Barrier) (k : Nat) : (s.setBarrier n x).axis k = s.axis k := rfl
@[simp] theorem State.setBarrier_tile (s : State) (n : Nat) (x : Barrier) (k : Nat) : (s.setBarrier n x).tile k = s.tile k := rfl
@[simp] theorem State.setBarrier_enc (s : State) (n : Nat) (x : Barrier) (k : Nat) : (s.setBarrier n x).enc k = s.enc k := rfl
@[simp] theorem State.setBarrier_th (s : State) (n : Nat) (x : Barrier) (k : Nat) : (s.setBarrier n x).th k = s.th k := rfl
@[simp] theorem State.setBarrier_lane (s : State) (n : Nat) (x : Barrier) (k : Nat) : (s.setBarrier n x).lane k = s.lane k := rfl
@[simp] theorem State.setBarrier_link (s : State) (n : Nat) (x : Barrier) (k : Nat) : (s.setBarrier n x).link k = s.link k := rfl
@[simp] theorem State.setBarrier_palisPort (s : State) (n : Nat) (x : Barrier) (k : Nat) : (s.setBarrier n x).palisPort k = s.palisPort k := rfl
@[simp] theorem State.setBarrier_sub (s : State) (n : Nat) (x : Barrier) (k : Nat) : (s.setBarrier n x).sub k = s.sub k := rfl
@[simp] theorem State.setBarrier_cal (s : State) (n : Nat) (x : Barrier) (k : Nat) : (s.setBarrier n x).cal k = s.cal k := rfl

/-! ### State.setLane -/

@[simp] theorem State.setLane_pending (s : State) (n : Nat) (x : LaneRec) : (s.setLane n x).pending = s.pending := rfl
@[simp] theorem State.setLane_now (s : State) (n : Nat) (x : LaneRec) : (s.setLane n x).now = s.now := rfl
@[simp] theorem State.setLane_showAcc (s : State) (n : Nat) (x : LaneRec) : (s.setLane n x).showAcc = s.showAcc := rfl
@[simp] theorem State.setLane_regs (s : State) (n : Nat) (x : LaneRec) : (s.setLane n x).regs = s.regs := rfl
@[simp] theorem State.setLane_heldLow (s : State) (n : Nat) (x : LaneRec) : (s.setLane n x).heldLow = s.heldLow := rfl
@[simp] theorem State.setLane_latchedHi (s : State) (n : Nat) (x : LaneRec) : (s.setLane n x).latchedHi = s.latchedHi := rfl
@[simp] theorem State.setLane_lastRead (s : State) (n : Nat) (x : LaneRec) : (s.setLane n x).lastRead = s.lastRead := rfl
@[simp] theorem State.setLane_freeCtr (s : State) (n : Nat) (x : LaneRec) : (s.setLane n x).freeCtr = s.freeCtr := rfl
@[simp] theorem State.setLane_dram (s : State) (n : Nat) (x : LaneRec) : (s.setLane n x).dram = s.dram := rfl
@[simp] theorem State.setLane_host (s : State) (n : Nat) (x : LaneRec) : (s.setLane n x).host = s.host := rfl
@[simp] theorem State.setLane_bindPend (s : State) (n : Nat) (x : LaneRec) : (s.setLane n x).bindPend = s.bindPend := rfl
@[simp] theorem State.setLane_tbs (s : State) (n : Nat) (x : LaneRec) : (s.setLane n x).tbs = s.tbs := rfl
@[simp] theorem State.setLane_cws (s : State) (n : Nat) (x : LaneRec) : (s.setLane n x).cws = s.cws := rfl
@[simp] theorem State.setLane_ports (s : State) (n : Nat) (x : LaneRec) : (s.setLane n x).ports = s.ports := rfl
@[simp] theorem State.setLane_mmu (s : State) (n : Nat) (x : LaneRec) : (s.setLane n x).mmu = s.mmu := rfl
@[simp] theorem State.setLane_chans (s : State) (n : Nat) (x : LaneRec) : (s.setLane n x).chans = s.chans := rfl
@[simp] theorem State.setLane_memc (s : State) (n : Nat) (x : LaneRec) : (s.setLane n x).memc = s.memc := rfl
@[simp] theorem State.setLane_queues (s : State) (n : Nat) (x : LaneRec) : (s.setLane n x).queues = s.queues := rfl
@[simp] theorem State.setLane_msix (s : State) (n : Nat) (x : LaneRec) : (s.setLane n x).msix = s.msix := rfl
@[simp] theorem State.setLane_hostIf (s : State) (n : Nat) (x : LaneRec) : (s.setLane n x).hostIf = s.hostIf := rfl
@[simp] theorem State.setLane_hostMsgs (s : State) (n : Nat) (x : LaneRec) : (s.setLane n x).hostMsgs = s.hostMsgs := rfl
@[simp] theorem State.setLane_heldEvents (s : State) (n : Nat) (x : LaneRec) : (s.setLane n x).heldEvents = s.heldEvents := rfl
@[simp] theorem State.setLane_pipes (s : State) (n : Nat) (x : LaneRec) : (s.setLane n x).pipes = s.pipes := rfl
@[simp] theorem State.setLane_strings (s : State) (n : Nat) (x : LaneRec) : (s.setLane n x).strings = s.strings := rfl
@[simp] theorem State.setLane_groups (s : State) (n : Nat) (x : LaneRec) : (s.setLane n x).groups = s.groups := rfl
@[simp] theorem State.setLane_pds (s : State) (n : Nat) (x : LaneRec) : (s.setLane n x).pds = s.pds := rfl
@[simp] theorem State.setLane_banks (s : State) (n : Nat) (x : LaneRec) : (s.setLane n x).banks = s.banks := rfl
@[simp] theorem State.setLane_shdEdges (s : State) (n : Nat) (x : LaneRec) : (s.setLane n x).shdEdges = s.shdEdges := rfl
@[simp] theorem State.setLane_vin10 (s : State) (n : Nat) (x : LaneRec) : (s.setLane n x).vin10 = s.vin10 := rfl
@[simp] theorem State.setLane_axes (s : State) (n : Nat) (x : LaneRec) : (s.setLane n x).axes = s.axes := rfl
@[simp] theorem State.setLane_tiles (s : State) (n : Nat) (x : LaneRec) : (s.setLane n x).tiles = s.tiles := rfl
@[simp] theorem State.setLane_encs (s : State) (n : Nat) (x : LaneRec) : (s.setLane n x).encs = s.encs := rfl
@[simp] theorem State.setLane_sds (s : State) (n : Nat) (x : LaneRec) : (s.setLane n x).sds = s.sds := rfl
@[simp] theorem State.setLane_ctlTables (s : State) (n : Nat) (x : LaneRec) : (s.setLane n x).ctlTables = s.ctlTables := rfl
@[simp] theorem State.setLane_ctlLoad (s : State) (n : Nat) (x : LaneRec) : (s.setLane n x).ctlLoad = s.ctlLoad := rfl
@[simp] theorem State.setLane_threads (s : State) (n : Nat) (x : LaneRec) : (s.setLane n x).threads = s.threads := rfl
@[simp] theorem State.setLane_padMem (s : State) (n : Nat) (x : LaneRec) : (s.setLane n x).padMem = s.padMem := rfl
@[simp] theorem State.setLane_pilMem (s : State) (n : Nat) (x : LaneRec) : (s.setLane n x).pilMem = s.pilMem := rfl
@[simp] theorem State.setLane_barriers (s : State) (n : Nat) (x : LaneRec) : (s.setLane n x).barriers = s.barriers := rfl
@[simp] theorem State.setLane_engAcc (s : State) (n : Nat) (x : LaneRec) : (s.setLane n x).engAcc = s.engAcc := rfl
@[simp] theorem State.setLane_engEccAt (s : State) (n : Nat) (x : LaneRec) : (s.setLane n x).engEccAt = s.engEccAt := rfl
@[simp] theorem State.setLane_cmpBadAt (s : State) (n : Nat) (x : LaneRec) : (s.setLane n x).cmpBadAt = s.cmpBadAt := rfl
@[simp] theorem State.setLane_links (s : State) (n : Nat) (x : LaneRec) : (s.setLane n x).links = s.links := rfl
@[simp] theorem State.setLane_palis (s : State) (n : Nat) (x : LaneRec) : (s.setLane n x).palis = s.palis := rfl
@[simp] theorem State.setLane_subs (s : State) (n : Nat) (x : LaneRec) : (s.setLane n x).subs = s.subs := rfl
@[simp] theorem State.setLane_tree (s : State) (n : Nat) (x : LaneRec) : (s.setLane n x).tree = s.tree := rfl
@[simp] theorem State.setLane_twin (s : State) (n : Nat) (x : LaneRec) : (s.setLane n x).twin = s.twin := rfl
@[simp] theorem State.setLane_island (s : State) (n : Nat) (x : LaneRec) : (s.setLane n x).island = s.island := rfl
@[simp] theorem State.setLane_cals (s : State) (n : Nat) (x : LaneRec) : (s.setLane n x).cals = s.cals := rfl
@[simp] theorem State.setLane_geode (s : State) (n : Nat) (x : LaneRec) : (s.setLane n x).geode = s.geode := rfl
@[simp] theorem State.setLane_store (s : State) (n : Nat) (x : LaneRec) : (s.setLane n x).store = s.store := rfl
@[simp] theorem State.setLane_power (s : State) (n : Nat) (x : LaneRec) : (s.setLane n x).power = s.power := rfl
@[simp] theorem State.setLane_rd (s : State) (n : Nat) (x : LaneRec) (r : Nat) : (s.setLane n x).rd r = s.rd r := rfl
@[simp] theorem State.setLane_fld (s : State) (n : Nat) (x : LaneRec) (f : Fld) : (s.setLane n x).fld f = s.fld f := rfl
@[simp] theorem State.setLane_tb (s : State) (n : Nat) (x : LaneRec) (k : Nat) : (s.setLane n x).tb k = s.tb k := rfl
@[simp] theorem State.setLane_cw (s : State) (n : Nat) (x : LaneRec) (k : Nat) : (s.setLane n x).cw k = s.cw k := rfl
@[simp] theorem State.setLane_port (s : State) (n : Nat) (x : LaneRec) (k : Nat) : (s.setLane n x).port k = s.port k := rfl
@[simp] theorem State.setLane_queue (s : State) (n : Nat) (x : LaneRec) (k : Nat) : (s.setLane n x).queue k = s.queue k := rfl
@[simp] theorem State.setLane_chan (s : State) (n : Nat) (x : LaneRec) (k : Nat) : (s.setLane n x).chan k = s.chan k := rfl
@[simp] theorem State.setLane_str (s : State) (n : Nat) (x : LaneRec) (k : Nat) : (s.setLane n x).str k = s.str k := rfl
@[simp] theorem State.setLane_grp (s : State) (n : Nat) (x : LaneRec) (k : Nat) : (s.setLane n x).grp k = s.grp k := rfl
@[simp] theorem State.setLane_pd (s : State) (n : Nat) (x : LaneRec) (k : Nat) : (s.setLane n x).pd k = s.pd k := rfl
@[simp] theorem State.setLane_bank (s : State) (n : Nat) (x : LaneRec) (k : Nat) : (s.setLane n x).bank k = s.bank k := rfl
@[simp] theorem State.setLane_pipe (s : State) (n : Nat) (x : LaneRec) (k : Nat) : (s.setLane n x).pipe k = s.pipe k := rfl
@[simp] theorem State.setLane_axis (s : State) (n : Nat) (x : LaneRec) (k : Nat) : (s.setLane n x).axis k = s.axis k := rfl
@[simp] theorem State.setLane_tile (s : State) (n : Nat) (x : LaneRec) (k : Nat) : (s.setLane n x).tile k = s.tile k := rfl
@[simp] theorem State.setLane_enc (s : State) (n : Nat) (x : LaneRec) (k : Nat) : (s.setLane n x).enc k = s.enc k := rfl
@[simp] theorem State.setLane_th (s : State) (n : Nat) (x : LaneRec) (k : Nat) : (s.setLane n x).th k = s.th k := rfl
@[simp] theorem State.setLane_barrier (s : State) (n : Nat) (x : LaneRec) (k : Nat) : (s.setLane n x).barrier k = s.barrier k := rfl
@[simp] theorem State.setLane_link (s : State) (n : Nat) (x : LaneRec) (k : Nat) : (s.setLane n x).link k = s.link k := rfl
@[simp] theorem State.setLane_palisPort (s : State) (n : Nat) (x : LaneRec) (k : Nat) : (s.setLane n x).palisPort k = s.palisPort k := rfl
@[simp] theorem State.setLane_sub (s : State) (n : Nat) (x : LaneRec) (k : Nat) : (s.setLane n x).sub k = s.sub k := rfl
@[simp] theorem State.setLane_cal (s : State) (n : Nat) (x : LaneRec) (k : Nat) : (s.setLane n x).cal k = s.cal k := rfl

/-! ### State.setLink -/

@[simp] theorem State.setLink_pending (s : State) (n : Nat) (x : LinkRec) : (s.setLink n x).pending = s.pending := rfl
@[simp] theorem State.setLink_now (s : State) (n : Nat) (x : LinkRec) : (s.setLink n x).now = s.now := rfl
@[simp] theorem State.setLink_showAcc (s : State) (n : Nat) (x : LinkRec) : (s.setLink n x).showAcc = s.showAcc := rfl
@[simp] theorem State.setLink_regs (s : State) (n : Nat) (x : LinkRec) : (s.setLink n x).regs = s.regs := rfl
@[simp] theorem State.setLink_heldLow (s : State) (n : Nat) (x : LinkRec) : (s.setLink n x).heldLow = s.heldLow := rfl
@[simp] theorem State.setLink_latchedHi (s : State) (n : Nat) (x : LinkRec) : (s.setLink n x).latchedHi = s.latchedHi := rfl
@[simp] theorem State.setLink_lastRead (s : State) (n : Nat) (x : LinkRec) : (s.setLink n x).lastRead = s.lastRead := rfl
@[simp] theorem State.setLink_freeCtr (s : State) (n : Nat) (x : LinkRec) : (s.setLink n x).freeCtr = s.freeCtr := rfl
@[simp] theorem State.setLink_dram (s : State) (n : Nat) (x : LinkRec) : (s.setLink n x).dram = s.dram := rfl
@[simp] theorem State.setLink_host (s : State) (n : Nat) (x : LinkRec) : (s.setLink n x).host = s.host := rfl
@[simp] theorem State.setLink_bindPend (s : State) (n : Nat) (x : LinkRec) : (s.setLink n x).bindPend = s.bindPend := rfl
@[simp] theorem State.setLink_tbs (s : State) (n : Nat) (x : LinkRec) : (s.setLink n x).tbs = s.tbs := rfl
@[simp] theorem State.setLink_cws (s : State) (n : Nat) (x : LinkRec) : (s.setLink n x).cws = s.cws := rfl
@[simp] theorem State.setLink_ports (s : State) (n : Nat) (x : LinkRec) : (s.setLink n x).ports = s.ports := rfl
@[simp] theorem State.setLink_mmu (s : State) (n : Nat) (x : LinkRec) : (s.setLink n x).mmu = s.mmu := rfl
@[simp] theorem State.setLink_chans (s : State) (n : Nat) (x : LinkRec) : (s.setLink n x).chans = s.chans := rfl
@[simp] theorem State.setLink_memc (s : State) (n : Nat) (x : LinkRec) : (s.setLink n x).memc = s.memc := rfl
@[simp] theorem State.setLink_queues (s : State) (n : Nat) (x : LinkRec) : (s.setLink n x).queues = s.queues := rfl
@[simp] theorem State.setLink_msix (s : State) (n : Nat) (x : LinkRec) : (s.setLink n x).msix = s.msix := rfl
@[simp] theorem State.setLink_hostIf (s : State) (n : Nat) (x : LinkRec) : (s.setLink n x).hostIf = s.hostIf := rfl
@[simp] theorem State.setLink_hostMsgs (s : State) (n : Nat) (x : LinkRec) : (s.setLink n x).hostMsgs = s.hostMsgs := rfl
@[simp] theorem State.setLink_heldEvents (s : State) (n : Nat) (x : LinkRec) : (s.setLink n x).heldEvents = s.heldEvents := rfl
@[simp] theorem State.setLink_pipes (s : State) (n : Nat) (x : LinkRec) : (s.setLink n x).pipes = s.pipes := rfl
@[simp] theorem State.setLink_strings (s : State) (n : Nat) (x : LinkRec) : (s.setLink n x).strings = s.strings := rfl
@[simp] theorem State.setLink_groups (s : State) (n : Nat) (x : LinkRec) : (s.setLink n x).groups = s.groups := rfl
@[simp] theorem State.setLink_pds (s : State) (n : Nat) (x : LinkRec) : (s.setLink n x).pds = s.pds := rfl
@[simp] theorem State.setLink_banks (s : State) (n : Nat) (x : LinkRec) : (s.setLink n x).banks = s.banks := rfl
@[simp] theorem State.setLink_shdEdges (s : State) (n : Nat) (x : LinkRec) : (s.setLink n x).shdEdges = s.shdEdges := rfl
@[simp] theorem State.setLink_vin10 (s : State) (n : Nat) (x : LinkRec) : (s.setLink n x).vin10 = s.vin10 := rfl
@[simp] theorem State.setLink_axes (s : State) (n : Nat) (x : LinkRec) : (s.setLink n x).axes = s.axes := rfl
@[simp] theorem State.setLink_tiles (s : State) (n : Nat) (x : LinkRec) : (s.setLink n x).tiles = s.tiles := rfl
@[simp] theorem State.setLink_encs (s : State) (n : Nat) (x : LinkRec) : (s.setLink n x).encs = s.encs := rfl
@[simp] theorem State.setLink_sds (s : State) (n : Nat) (x : LinkRec) : (s.setLink n x).sds = s.sds := rfl
@[simp] theorem State.setLink_ctlTables (s : State) (n : Nat) (x : LinkRec) : (s.setLink n x).ctlTables = s.ctlTables := rfl
@[simp] theorem State.setLink_ctlLoad (s : State) (n : Nat) (x : LinkRec) : (s.setLink n x).ctlLoad = s.ctlLoad := rfl
@[simp] theorem State.setLink_threads (s : State) (n : Nat) (x : LinkRec) : (s.setLink n x).threads = s.threads := rfl
@[simp] theorem State.setLink_padMem (s : State) (n : Nat) (x : LinkRec) : (s.setLink n x).padMem = s.padMem := rfl
@[simp] theorem State.setLink_pilMem (s : State) (n : Nat) (x : LinkRec) : (s.setLink n x).pilMem = s.pilMem := rfl
@[simp] theorem State.setLink_barriers (s : State) (n : Nat) (x : LinkRec) : (s.setLink n x).barriers = s.barriers := rfl
@[simp] theorem State.setLink_engAcc (s : State) (n : Nat) (x : LinkRec) : (s.setLink n x).engAcc = s.engAcc := rfl
@[simp] theorem State.setLink_engEccAt (s : State) (n : Nat) (x : LinkRec) : (s.setLink n x).engEccAt = s.engEccAt := rfl
@[simp] theorem State.setLink_cmpBadAt (s : State) (n : Nat) (x : LinkRec) : (s.setLink n x).cmpBadAt = s.cmpBadAt := rfl
@[simp] theorem State.setLink_lanes (s : State) (n : Nat) (x : LinkRec) : (s.setLink n x).lanes = s.lanes := rfl
@[simp] theorem State.setLink_palis (s : State) (n : Nat) (x : LinkRec) : (s.setLink n x).palis = s.palis := rfl
@[simp] theorem State.setLink_subs (s : State) (n : Nat) (x : LinkRec) : (s.setLink n x).subs = s.subs := rfl
@[simp] theorem State.setLink_tree (s : State) (n : Nat) (x : LinkRec) : (s.setLink n x).tree = s.tree := rfl
@[simp] theorem State.setLink_twin (s : State) (n : Nat) (x : LinkRec) : (s.setLink n x).twin = s.twin := rfl
@[simp] theorem State.setLink_island (s : State) (n : Nat) (x : LinkRec) : (s.setLink n x).island = s.island := rfl
@[simp] theorem State.setLink_cals (s : State) (n : Nat) (x : LinkRec) : (s.setLink n x).cals = s.cals := rfl
@[simp] theorem State.setLink_geode (s : State) (n : Nat) (x : LinkRec) : (s.setLink n x).geode = s.geode := rfl
@[simp] theorem State.setLink_store (s : State) (n : Nat) (x : LinkRec) : (s.setLink n x).store = s.store := rfl
@[simp] theorem State.setLink_power (s : State) (n : Nat) (x : LinkRec) : (s.setLink n x).power = s.power := rfl
@[simp] theorem State.setLink_rd (s : State) (n : Nat) (x : LinkRec) (r : Nat) : (s.setLink n x).rd r = s.rd r := rfl
@[simp] theorem State.setLink_fld (s : State) (n : Nat) (x : LinkRec) (f : Fld) : (s.setLink n x).fld f = s.fld f := rfl
@[simp] theorem State.setLink_tb (s : State) (n : Nat) (x : LinkRec) (k : Nat) : (s.setLink n x).tb k = s.tb k := rfl
@[simp] theorem State.setLink_cw (s : State) (n : Nat) (x : LinkRec) (k : Nat) : (s.setLink n x).cw k = s.cw k := rfl
@[simp] theorem State.setLink_port (s : State) (n : Nat) (x : LinkRec) (k : Nat) : (s.setLink n x).port k = s.port k := rfl
@[simp] theorem State.setLink_queue (s : State) (n : Nat) (x : LinkRec) (k : Nat) : (s.setLink n x).queue k = s.queue k := rfl
@[simp] theorem State.setLink_chan (s : State) (n : Nat) (x : LinkRec) (k : Nat) : (s.setLink n x).chan k = s.chan k := rfl
@[simp] theorem State.setLink_str (s : State) (n : Nat) (x : LinkRec) (k : Nat) : (s.setLink n x).str k = s.str k := rfl
@[simp] theorem State.setLink_grp (s : State) (n : Nat) (x : LinkRec) (k : Nat) : (s.setLink n x).grp k = s.grp k := rfl
@[simp] theorem State.setLink_pd (s : State) (n : Nat) (x : LinkRec) (k : Nat) : (s.setLink n x).pd k = s.pd k := rfl
@[simp] theorem State.setLink_bank (s : State) (n : Nat) (x : LinkRec) (k : Nat) : (s.setLink n x).bank k = s.bank k := rfl
@[simp] theorem State.setLink_pipe (s : State) (n : Nat) (x : LinkRec) (k : Nat) : (s.setLink n x).pipe k = s.pipe k := rfl
@[simp] theorem State.setLink_axis (s : State) (n : Nat) (x : LinkRec) (k : Nat) : (s.setLink n x).axis k = s.axis k := rfl
@[simp] theorem State.setLink_tile (s : State) (n : Nat) (x : LinkRec) (k : Nat) : (s.setLink n x).tile k = s.tile k := rfl
@[simp] theorem State.setLink_enc (s : State) (n : Nat) (x : LinkRec) (k : Nat) : (s.setLink n x).enc k = s.enc k := rfl
@[simp] theorem State.setLink_th (s : State) (n : Nat) (x : LinkRec) (k : Nat) : (s.setLink n x).th k = s.th k := rfl
@[simp] theorem State.setLink_barrier (s : State) (n : Nat) (x : LinkRec) (k : Nat) : (s.setLink n x).barrier k = s.barrier k := rfl
@[simp] theorem State.setLink_lane (s : State) (n : Nat) (x : LinkRec) (k : Nat) : (s.setLink n x).lane k = s.lane k := rfl
@[simp] theorem State.setLink_palisPort (s : State) (n : Nat) (x : LinkRec) (k : Nat) : (s.setLink n x).palisPort k = s.palisPort k := rfl
@[simp] theorem State.setLink_sub (s : State) (n : Nat) (x : LinkRec) (k : Nat) : (s.setLink n x).sub k = s.sub k := rfl
@[simp] theorem State.setLink_cal (s : State) (n : Nat) (x : LinkRec) (k : Nat) : (s.setLink n x).cal k = s.cal k := rfl

/-! ### State.setPalis -/

@[simp] theorem State.setPalis_pending (s : State) (n : Nat) (x : PalisPort) : (s.setPalis n x).pending = s.pending := rfl
@[simp] theorem State.setPalis_now (s : State) (n : Nat) (x : PalisPort) : (s.setPalis n x).now = s.now := rfl
@[simp] theorem State.setPalis_showAcc (s : State) (n : Nat) (x : PalisPort) : (s.setPalis n x).showAcc = s.showAcc := rfl
@[simp] theorem State.setPalis_regs (s : State) (n : Nat) (x : PalisPort) : (s.setPalis n x).regs = s.regs := rfl
@[simp] theorem State.setPalis_heldLow (s : State) (n : Nat) (x : PalisPort) : (s.setPalis n x).heldLow = s.heldLow := rfl
@[simp] theorem State.setPalis_latchedHi (s : State) (n : Nat) (x : PalisPort) : (s.setPalis n x).latchedHi = s.latchedHi := rfl
@[simp] theorem State.setPalis_lastRead (s : State) (n : Nat) (x : PalisPort) : (s.setPalis n x).lastRead = s.lastRead := rfl
@[simp] theorem State.setPalis_freeCtr (s : State) (n : Nat) (x : PalisPort) : (s.setPalis n x).freeCtr = s.freeCtr := rfl
@[simp] theorem State.setPalis_dram (s : State) (n : Nat) (x : PalisPort) : (s.setPalis n x).dram = s.dram := rfl
@[simp] theorem State.setPalis_host (s : State) (n : Nat) (x : PalisPort) : (s.setPalis n x).host = s.host := rfl
@[simp] theorem State.setPalis_bindPend (s : State) (n : Nat) (x : PalisPort) : (s.setPalis n x).bindPend = s.bindPend := rfl
@[simp] theorem State.setPalis_tbs (s : State) (n : Nat) (x : PalisPort) : (s.setPalis n x).tbs = s.tbs := rfl
@[simp] theorem State.setPalis_cws (s : State) (n : Nat) (x : PalisPort) : (s.setPalis n x).cws = s.cws := rfl
@[simp] theorem State.setPalis_ports (s : State) (n : Nat) (x : PalisPort) : (s.setPalis n x).ports = s.ports := rfl
@[simp] theorem State.setPalis_mmu (s : State) (n : Nat) (x : PalisPort) : (s.setPalis n x).mmu = s.mmu := rfl
@[simp] theorem State.setPalis_chans (s : State) (n : Nat) (x : PalisPort) : (s.setPalis n x).chans = s.chans := rfl
@[simp] theorem State.setPalis_memc (s : State) (n : Nat) (x : PalisPort) : (s.setPalis n x).memc = s.memc := rfl
@[simp] theorem State.setPalis_queues (s : State) (n : Nat) (x : PalisPort) : (s.setPalis n x).queues = s.queues := rfl
@[simp] theorem State.setPalis_msix (s : State) (n : Nat) (x : PalisPort) : (s.setPalis n x).msix = s.msix := rfl
@[simp] theorem State.setPalis_hostIf (s : State) (n : Nat) (x : PalisPort) : (s.setPalis n x).hostIf = s.hostIf := rfl
@[simp] theorem State.setPalis_hostMsgs (s : State) (n : Nat) (x : PalisPort) : (s.setPalis n x).hostMsgs = s.hostMsgs := rfl
@[simp] theorem State.setPalis_heldEvents (s : State) (n : Nat) (x : PalisPort) : (s.setPalis n x).heldEvents = s.heldEvents := rfl
@[simp] theorem State.setPalis_pipes (s : State) (n : Nat) (x : PalisPort) : (s.setPalis n x).pipes = s.pipes := rfl
@[simp] theorem State.setPalis_strings (s : State) (n : Nat) (x : PalisPort) : (s.setPalis n x).strings = s.strings := rfl
@[simp] theorem State.setPalis_groups (s : State) (n : Nat) (x : PalisPort) : (s.setPalis n x).groups = s.groups := rfl
@[simp] theorem State.setPalis_pds (s : State) (n : Nat) (x : PalisPort) : (s.setPalis n x).pds = s.pds := rfl
@[simp] theorem State.setPalis_banks (s : State) (n : Nat) (x : PalisPort) : (s.setPalis n x).banks = s.banks := rfl
@[simp] theorem State.setPalis_shdEdges (s : State) (n : Nat) (x : PalisPort) : (s.setPalis n x).shdEdges = s.shdEdges := rfl
@[simp] theorem State.setPalis_vin10 (s : State) (n : Nat) (x : PalisPort) : (s.setPalis n x).vin10 = s.vin10 := rfl
@[simp] theorem State.setPalis_axes (s : State) (n : Nat) (x : PalisPort) : (s.setPalis n x).axes = s.axes := rfl
@[simp] theorem State.setPalis_tiles (s : State) (n : Nat) (x : PalisPort) : (s.setPalis n x).tiles = s.tiles := rfl
@[simp] theorem State.setPalis_encs (s : State) (n : Nat) (x : PalisPort) : (s.setPalis n x).encs = s.encs := rfl
@[simp] theorem State.setPalis_sds (s : State) (n : Nat) (x : PalisPort) : (s.setPalis n x).sds = s.sds := rfl
@[simp] theorem State.setPalis_ctlTables (s : State) (n : Nat) (x : PalisPort) : (s.setPalis n x).ctlTables = s.ctlTables := rfl
@[simp] theorem State.setPalis_ctlLoad (s : State) (n : Nat) (x : PalisPort) : (s.setPalis n x).ctlLoad = s.ctlLoad := rfl
@[simp] theorem State.setPalis_threads (s : State) (n : Nat) (x : PalisPort) : (s.setPalis n x).threads = s.threads := rfl
@[simp] theorem State.setPalis_padMem (s : State) (n : Nat) (x : PalisPort) : (s.setPalis n x).padMem = s.padMem := rfl
@[simp] theorem State.setPalis_pilMem (s : State) (n : Nat) (x : PalisPort) : (s.setPalis n x).pilMem = s.pilMem := rfl
@[simp] theorem State.setPalis_barriers (s : State) (n : Nat) (x : PalisPort) : (s.setPalis n x).barriers = s.barriers := rfl
@[simp] theorem State.setPalis_engAcc (s : State) (n : Nat) (x : PalisPort) : (s.setPalis n x).engAcc = s.engAcc := rfl
@[simp] theorem State.setPalis_engEccAt (s : State) (n : Nat) (x : PalisPort) : (s.setPalis n x).engEccAt = s.engEccAt := rfl
@[simp] theorem State.setPalis_cmpBadAt (s : State) (n : Nat) (x : PalisPort) : (s.setPalis n x).cmpBadAt = s.cmpBadAt := rfl
@[simp] theorem State.setPalis_lanes (s : State) (n : Nat) (x : PalisPort) : (s.setPalis n x).lanes = s.lanes := rfl
@[simp] theorem State.setPalis_links (s : State) (n : Nat) (x : PalisPort) : (s.setPalis n x).links = s.links := rfl
@[simp] theorem State.setPalis_subs (s : State) (n : Nat) (x : PalisPort) : (s.setPalis n x).subs = s.subs := rfl
@[simp] theorem State.setPalis_tree (s : State) (n : Nat) (x : PalisPort) : (s.setPalis n x).tree = s.tree := rfl
@[simp] theorem State.setPalis_twin (s : State) (n : Nat) (x : PalisPort) : (s.setPalis n x).twin = s.twin := rfl
@[simp] theorem State.setPalis_island (s : State) (n : Nat) (x : PalisPort) : (s.setPalis n x).island = s.island := rfl
@[simp] theorem State.setPalis_cals (s : State) (n : Nat) (x : PalisPort) : (s.setPalis n x).cals = s.cals := rfl
@[simp] theorem State.setPalis_geode (s : State) (n : Nat) (x : PalisPort) : (s.setPalis n x).geode = s.geode := rfl
@[simp] theorem State.setPalis_store (s : State) (n : Nat) (x : PalisPort) : (s.setPalis n x).store = s.store := rfl
@[simp] theorem State.setPalis_power (s : State) (n : Nat) (x : PalisPort) : (s.setPalis n x).power = s.power := rfl
@[simp] theorem State.setPalis_rd (s : State) (n : Nat) (x : PalisPort) (r : Nat) : (s.setPalis n x).rd r = s.rd r := rfl
@[simp] theorem State.setPalis_fld (s : State) (n : Nat) (x : PalisPort) (f : Fld) : (s.setPalis n x).fld f = s.fld f := rfl
@[simp] theorem State.setPalis_tb (s : State) (n : Nat) (x : PalisPort) (k : Nat) : (s.setPalis n x).tb k = s.tb k := rfl
@[simp] theorem State.setPalis_cw (s : State) (n : Nat) (x : PalisPort) (k : Nat) : (s.setPalis n x).cw k = s.cw k := rfl
@[simp] theorem State.setPalis_port (s : State) (n : Nat) (x : PalisPort) (k : Nat) : (s.setPalis n x).port k = s.port k := rfl
@[simp] theorem State.setPalis_queue (s : State) (n : Nat) (x : PalisPort) (k : Nat) : (s.setPalis n x).queue k = s.queue k := rfl
@[simp] theorem State.setPalis_chan (s : State) (n : Nat) (x : PalisPort) (k : Nat) : (s.setPalis n x).chan k = s.chan k := rfl
@[simp] theorem State.setPalis_str (s : State) (n : Nat) (x : PalisPort) (k : Nat) : (s.setPalis n x).str k = s.str k := rfl
@[simp] theorem State.setPalis_grp (s : State) (n : Nat) (x : PalisPort) (k : Nat) : (s.setPalis n x).grp k = s.grp k := rfl
@[simp] theorem State.setPalis_pd (s : State) (n : Nat) (x : PalisPort) (k : Nat) : (s.setPalis n x).pd k = s.pd k := rfl
@[simp] theorem State.setPalis_bank (s : State) (n : Nat) (x : PalisPort) (k : Nat) : (s.setPalis n x).bank k = s.bank k := rfl
@[simp] theorem State.setPalis_pipe (s : State) (n : Nat) (x : PalisPort) (k : Nat) : (s.setPalis n x).pipe k = s.pipe k := rfl
@[simp] theorem State.setPalis_axis (s : State) (n : Nat) (x : PalisPort) (k : Nat) : (s.setPalis n x).axis k = s.axis k := rfl
@[simp] theorem State.setPalis_tile (s : State) (n : Nat) (x : PalisPort) (k : Nat) : (s.setPalis n x).tile k = s.tile k := rfl
@[simp] theorem State.setPalis_enc (s : State) (n : Nat) (x : PalisPort) (k : Nat) : (s.setPalis n x).enc k = s.enc k := rfl
@[simp] theorem State.setPalis_th (s : State) (n : Nat) (x : PalisPort) (k : Nat) : (s.setPalis n x).th k = s.th k := rfl
@[simp] theorem State.setPalis_barrier (s : State) (n : Nat) (x : PalisPort) (k : Nat) : (s.setPalis n x).barrier k = s.barrier k := rfl
@[simp] theorem State.setPalis_lane (s : State) (n : Nat) (x : PalisPort) (k : Nat) : (s.setPalis n x).lane k = s.lane k := rfl
@[simp] theorem State.setPalis_link (s : State) (n : Nat) (x : PalisPort) (k : Nat) : (s.setPalis n x).link k = s.link k := rfl
@[simp] theorem State.setPalis_sub (s : State) (n : Nat) (x : PalisPort) (k : Nat) : (s.setPalis n x).sub k = s.sub k := rfl
@[simp] theorem State.setPalis_cal (s : State) (n : Nat) (x : PalisPort) (k : Nat) : (s.setPalis n x).cal k = s.cal k := rfl

/-! ### State.setSub -/

@[simp] theorem State.setSub_pending (s : State) (n : Nat) (x : SubRec) : (s.setSub n x).pending = s.pending := rfl
@[simp] theorem State.setSub_now (s : State) (n : Nat) (x : SubRec) : (s.setSub n x).now = s.now := rfl
@[simp] theorem State.setSub_showAcc (s : State) (n : Nat) (x : SubRec) : (s.setSub n x).showAcc = s.showAcc := rfl
@[simp] theorem State.setSub_regs (s : State) (n : Nat) (x : SubRec) : (s.setSub n x).regs = s.regs := rfl
@[simp] theorem State.setSub_heldLow (s : State) (n : Nat) (x : SubRec) : (s.setSub n x).heldLow = s.heldLow := rfl
@[simp] theorem State.setSub_latchedHi (s : State) (n : Nat) (x : SubRec) : (s.setSub n x).latchedHi = s.latchedHi := rfl
@[simp] theorem State.setSub_lastRead (s : State) (n : Nat) (x : SubRec) : (s.setSub n x).lastRead = s.lastRead := rfl
@[simp] theorem State.setSub_freeCtr (s : State) (n : Nat) (x : SubRec) : (s.setSub n x).freeCtr = s.freeCtr := rfl
@[simp] theorem State.setSub_dram (s : State) (n : Nat) (x : SubRec) : (s.setSub n x).dram = s.dram := rfl
@[simp] theorem State.setSub_host (s : State) (n : Nat) (x : SubRec) : (s.setSub n x).host = s.host := rfl
@[simp] theorem State.setSub_bindPend (s : State) (n : Nat) (x : SubRec) : (s.setSub n x).bindPend = s.bindPend := rfl
@[simp] theorem State.setSub_tbs (s : State) (n : Nat) (x : SubRec) : (s.setSub n x).tbs = s.tbs := rfl
@[simp] theorem State.setSub_cws (s : State) (n : Nat) (x : SubRec) : (s.setSub n x).cws = s.cws := rfl
@[simp] theorem State.setSub_ports (s : State) (n : Nat) (x : SubRec) : (s.setSub n x).ports = s.ports := rfl
@[simp] theorem State.setSub_mmu (s : State) (n : Nat) (x : SubRec) : (s.setSub n x).mmu = s.mmu := rfl
@[simp] theorem State.setSub_chans (s : State) (n : Nat) (x : SubRec) : (s.setSub n x).chans = s.chans := rfl
@[simp] theorem State.setSub_memc (s : State) (n : Nat) (x : SubRec) : (s.setSub n x).memc = s.memc := rfl
@[simp] theorem State.setSub_queues (s : State) (n : Nat) (x : SubRec) : (s.setSub n x).queues = s.queues := rfl
@[simp] theorem State.setSub_msix (s : State) (n : Nat) (x : SubRec) : (s.setSub n x).msix = s.msix := rfl
@[simp] theorem State.setSub_hostIf (s : State) (n : Nat) (x : SubRec) : (s.setSub n x).hostIf = s.hostIf := rfl
@[simp] theorem State.setSub_hostMsgs (s : State) (n : Nat) (x : SubRec) : (s.setSub n x).hostMsgs = s.hostMsgs := rfl
@[simp] theorem State.setSub_heldEvents (s : State) (n : Nat) (x : SubRec) : (s.setSub n x).heldEvents = s.heldEvents := rfl
@[simp] theorem State.setSub_pipes (s : State) (n : Nat) (x : SubRec) : (s.setSub n x).pipes = s.pipes := rfl
@[simp] theorem State.setSub_strings (s : State) (n : Nat) (x : SubRec) : (s.setSub n x).strings = s.strings := rfl
@[simp] theorem State.setSub_groups (s : State) (n : Nat) (x : SubRec) : (s.setSub n x).groups = s.groups := rfl
@[simp] theorem State.setSub_pds (s : State) (n : Nat) (x : SubRec) : (s.setSub n x).pds = s.pds := rfl
@[simp] theorem State.setSub_banks (s : State) (n : Nat) (x : SubRec) : (s.setSub n x).banks = s.banks := rfl
@[simp] theorem State.setSub_shdEdges (s : State) (n : Nat) (x : SubRec) : (s.setSub n x).shdEdges = s.shdEdges := rfl
@[simp] theorem State.setSub_vin10 (s : State) (n : Nat) (x : SubRec) : (s.setSub n x).vin10 = s.vin10 := rfl
@[simp] theorem State.setSub_axes (s : State) (n : Nat) (x : SubRec) : (s.setSub n x).axes = s.axes := rfl
@[simp] theorem State.setSub_tiles (s : State) (n : Nat) (x : SubRec) : (s.setSub n x).tiles = s.tiles := rfl
@[simp] theorem State.setSub_encs (s : State) (n : Nat) (x : SubRec) : (s.setSub n x).encs = s.encs := rfl
@[simp] theorem State.setSub_sds (s : State) (n : Nat) (x : SubRec) : (s.setSub n x).sds = s.sds := rfl
@[simp] theorem State.setSub_ctlTables (s : State) (n : Nat) (x : SubRec) : (s.setSub n x).ctlTables = s.ctlTables := rfl
@[simp] theorem State.setSub_ctlLoad (s : State) (n : Nat) (x : SubRec) : (s.setSub n x).ctlLoad = s.ctlLoad := rfl
@[simp] theorem State.setSub_threads (s : State) (n : Nat) (x : SubRec) : (s.setSub n x).threads = s.threads := rfl
@[simp] theorem State.setSub_padMem (s : State) (n : Nat) (x : SubRec) : (s.setSub n x).padMem = s.padMem := rfl
@[simp] theorem State.setSub_pilMem (s : State) (n : Nat) (x : SubRec) : (s.setSub n x).pilMem = s.pilMem := rfl
@[simp] theorem State.setSub_barriers (s : State) (n : Nat) (x : SubRec) : (s.setSub n x).barriers = s.barriers := rfl
@[simp] theorem State.setSub_engAcc (s : State) (n : Nat) (x : SubRec) : (s.setSub n x).engAcc = s.engAcc := rfl
@[simp] theorem State.setSub_engEccAt (s : State) (n : Nat) (x : SubRec) : (s.setSub n x).engEccAt = s.engEccAt := rfl
@[simp] theorem State.setSub_cmpBadAt (s : State) (n : Nat) (x : SubRec) : (s.setSub n x).cmpBadAt = s.cmpBadAt := rfl
@[simp] theorem State.setSub_lanes (s : State) (n : Nat) (x : SubRec) : (s.setSub n x).lanes = s.lanes := rfl
@[simp] theorem State.setSub_links (s : State) (n : Nat) (x : SubRec) : (s.setSub n x).links = s.links := rfl
@[simp] theorem State.setSub_palis (s : State) (n : Nat) (x : SubRec) : (s.setSub n x).palis = s.palis := rfl
@[simp] theorem State.setSub_tree (s : State) (n : Nat) (x : SubRec) : (s.setSub n x).tree = s.tree := rfl
@[simp] theorem State.setSub_twin (s : State) (n : Nat) (x : SubRec) : (s.setSub n x).twin = s.twin := rfl
@[simp] theorem State.setSub_island (s : State) (n : Nat) (x : SubRec) : (s.setSub n x).island = s.island := rfl
@[simp] theorem State.setSub_cals (s : State) (n : Nat) (x : SubRec) : (s.setSub n x).cals = s.cals := rfl
@[simp] theorem State.setSub_geode (s : State) (n : Nat) (x : SubRec) : (s.setSub n x).geode = s.geode := rfl
@[simp] theorem State.setSub_store (s : State) (n : Nat) (x : SubRec) : (s.setSub n x).store = s.store := rfl
@[simp] theorem State.setSub_power (s : State) (n : Nat) (x : SubRec) : (s.setSub n x).power = s.power := rfl
@[simp] theorem State.setSub_rd (s : State) (n : Nat) (x : SubRec) (r : Nat) : (s.setSub n x).rd r = s.rd r := rfl
@[simp] theorem State.setSub_fld (s : State) (n : Nat) (x : SubRec) (f : Fld) : (s.setSub n x).fld f = s.fld f := rfl
@[simp] theorem State.setSub_tb (s : State) (n : Nat) (x : SubRec) (k : Nat) : (s.setSub n x).tb k = s.tb k := rfl
@[simp] theorem State.setSub_cw (s : State) (n : Nat) (x : SubRec) (k : Nat) : (s.setSub n x).cw k = s.cw k := rfl
@[simp] theorem State.setSub_port (s : State) (n : Nat) (x : SubRec) (k : Nat) : (s.setSub n x).port k = s.port k := rfl
@[simp] theorem State.setSub_queue (s : State) (n : Nat) (x : SubRec) (k : Nat) : (s.setSub n x).queue k = s.queue k := rfl
@[simp] theorem State.setSub_chan (s : State) (n : Nat) (x : SubRec) (k : Nat) : (s.setSub n x).chan k = s.chan k := rfl
@[simp] theorem State.setSub_str (s : State) (n : Nat) (x : SubRec) (k : Nat) : (s.setSub n x).str k = s.str k := rfl
@[simp] theorem State.setSub_grp (s : State) (n : Nat) (x : SubRec) (k : Nat) : (s.setSub n x).grp k = s.grp k := rfl
@[simp] theorem State.setSub_pd (s : State) (n : Nat) (x : SubRec) (k : Nat) : (s.setSub n x).pd k = s.pd k := rfl
@[simp] theorem State.setSub_bank (s : State) (n : Nat) (x : SubRec) (k : Nat) : (s.setSub n x).bank k = s.bank k := rfl
@[simp] theorem State.setSub_pipe (s : State) (n : Nat) (x : SubRec) (k : Nat) : (s.setSub n x).pipe k = s.pipe k := rfl
@[simp] theorem State.setSub_axis (s : State) (n : Nat) (x : SubRec) (k : Nat) : (s.setSub n x).axis k = s.axis k := rfl
@[simp] theorem State.setSub_tile (s : State) (n : Nat) (x : SubRec) (k : Nat) : (s.setSub n x).tile k = s.tile k := rfl
@[simp] theorem State.setSub_enc (s : State) (n : Nat) (x : SubRec) (k : Nat) : (s.setSub n x).enc k = s.enc k := rfl
@[simp] theorem State.setSub_th (s : State) (n : Nat) (x : SubRec) (k : Nat) : (s.setSub n x).th k = s.th k := rfl
@[simp] theorem State.setSub_barrier (s : State) (n : Nat) (x : SubRec) (k : Nat) : (s.setSub n x).barrier k = s.barrier k := rfl
@[simp] theorem State.setSub_lane (s : State) (n : Nat) (x : SubRec) (k : Nat) : (s.setSub n x).lane k = s.lane k := rfl
@[simp] theorem State.setSub_link (s : State) (n : Nat) (x : SubRec) (k : Nat) : (s.setSub n x).link k = s.link k := rfl
@[simp] theorem State.setSub_palisPort (s : State) (n : Nat) (x : SubRec) (k : Nat) : (s.setSub n x).palisPort k = s.palisPort k := rfl
@[simp] theorem State.setSub_cal (s : State) (n : Nat) (x : SubRec) (k : Nat) : (s.setSub n x).cal k = s.cal k := rfl

/-! ### State.setCal -/

@[simp] theorem State.setCal_pending (s : State) (n : Nat) (x : CalTarget) : (s.setCal n x).pending = s.pending := rfl
@[simp] theorem State.setCal_now (s : State) (n : Nat) (x : CalTarget) : (s.setCal n x).now = s.now := rfl
@[simp] theorem State.setCal_showAcc (s : State) (n : Nat) (x : CalTarget) : (s.setCal n x).showAcc = s.showAcc := rfl
@[simp] theorem State.setCal_regs (s : State) (n : Nat) (x : CalTarget) : (s.setCal n x).regs = s.regs := rfl
@[simp] theorem State.setCal_heldLow (s : State) (n : Nat) (x : CalTarget) : (s.setCal n x).heldLow = s.heldLow := rfl
@[simp] theorem State.setCal_latchedHi (s : State) (n : Nat) (x : CalTarget) : (s.setCal n x).latchedHi = s.latchedHi := rfl
@[simp] theorem State.setCal_lastRead (s : State) (n : Nat) (x : CalTarget) : (s.setCal n x).lastRead = s.lastRead := rfl
@[simp] theorem State.setCal_freeCtr (s : State) (n : Nat) (x : CalTarget) : (s.setCal n x).freeCtr = s.freeCtr := rfl
@[simp] theorem State.setCal_dram (s : State) (n : Nat) (x : CalTarget) : (s.setCal n x).dram = s.dram := rfl
@[simp] theorem State.setCal_host (s : State) (n : Nat) (x : CalTarget) : (s.setCal n x).host = s.host := rfl
@[simp] theorem State.setCal_bindPend (s : State) (n : Nat) (x : CalTarget) : (s.setCal n x).bindPend = s.bindPend := rfl
@[simp] theorem State.setCal_tbs (s : State) (n : Nat) (x : CalTarget) : (s.setCal n x).tbs = s.tbs := rfl
@[simp] theorem State.setCal_cws (s : State) (n : Nat) (x : CalTarget) : (s.setCal n x).cws = s.cws := rfl
@[simp] theorem State.setCal_ports (s : State) (n : Nat) (x : CalTarget) : (s.setCal n x).ports = s.ports := rfl
@[simp] theorem State.setCal_mmu (s : State) (n : Nat) (x : CalTarget) : (s.setCal n x).mmu = s.mmu := rfl
@[simp] theorem State.setCal_chans (s : State) (n : Nat) (x : CalTarget) : (s.setCal n x).chans = s.chans := rfl
@[simp] theorem State.setCal_memc (s : State) (n : Nat) (x : CalTarget) : (s.setCal n x).memc = s.memc := rfl
@[simp] theorem State.setCal_queues (s : State) (n : Nat) (x : CalTarget) : (s.setCal n x).queues = s.queues := rfl
@[simp] theorem State.setCal_msix (s : State) (n : Nat) (x : CalTarget) : (s.setCal n x).msix = s.msix := rfl
@[simp] theorem State.setCal_hostIf (s : State) (n : Nat) (x : CalTarget) : (s.setCal n x).hostIf = s.hostIf := rfl
@[simp] theorem State.setCal_hostMsgs (s : State) (n : Nat) (x : CalTarget) : (s.setCal n x).hostMsgs = s.hostMsgs := rfl
@[simp] theorem State.setCal_heldEvents (s : State) (n : Nat) (x : CalTarget) : (s.setCal n x).heldEvents = s.heldEvents := rfl
@[simp] theorem State.setCal_pipes (s : State) (n : Nat) (x : CalTarget) : (s.setCal n x).pipes = s.pipes := rfl
@[simp] theorem State.setCal_strings (s : State) (n : Nat) (x : CalTarget) : (s.setCal n x).strings = s.strings := rfl
@[simp] theorem State.setCal_groups (s : State) (n : Nat) (x : CalTarget) : (s.setCal n x).groups = s.groups := rfl
@[simp] theorem State.setCal_pds (s : State) (n : Nat) (x : CalTarget) : (s.setCal n x).pds = s.pds := rfl
@[simp] theorem State.setCal_banks (s : State) (n : Nat) (x : CalTarget) : (s.setCal n x).banks = s.banks := rfl
@[simp] theorem State.setCal_shdEdges (s : State) (n : Nat) (x : CalTarget) : (s.setCal n x).shdEdges = s.shdEdges := rfl
@[simp] theorem State.setCal_vin10 (s : State) (n : Nat) (x : CalTarget) : (s.setCal n x).vin10 = s.vin10 := rfl
@[simp] theorem State.setCal_axes (s : State) (n : Nat) (x : CalTarget) : (s.setCal n x).axes = s.axes := rfl
@[simp] theorem State.setCal_tiles (s : State) (n : Nat) (x : CalTarget) : (s.setCal n x).tiles = s.tiles := rfl
@[simp] theorem State.setCal_encs (s : State) (n : Nat) (x : CalTarget) : (s.setCal n x).encs = s.encs := rfl
@[simp] theorem State.setCal_sds (s : State) (n : Nat) (x : CalTarget) : (s.setCal n x).sds = s.sds := rfl
@[simp] theorem State.setCal_ctlTables (s : State) (n : Nat) (x : CalTarget) : (s.setCal n x).ctlTables = s.ctlTables := rfl
@[simp] theorem State.setCal_ctlLoad (s : State) (n : Nat) (x : CalTarget) : (s.setCal n x).ctlLoad = s.ctlLoad := rfl
@[simp] theorem State.setCal_threads (s : State) (n : Nat) (x : CalTarget) : (s.setCal n x).threads = s.threads := rfl
@[simp] theorem State.setCal_padMem (s : State) (n : Nat) (x : CalTarget) : (s.setCal n x).padMem = s.padMem := rfl
@[simp] theorem State.setCal_pilMem (s : State) (n : Nat) (x : CalTarget) : (s.setCal n x).pilMem = s.pilMem := rfl
@[simp] theorem State.setCal_barriers (s : State) (n : Nat) (x : CalTarget) : (s.setCal n x).barriers = s.barriers := rfl
@[simp] theorem State.setCal_engAcc (s : State) (n : Nat) (x : CalTarget) : (s.setCal n x).engAcc = s.engAcc := rfl
@[simp] theorem State.setCal_engEccAt (s : State) (n : Nat) (x : CalTarget) : (s.setCal n x).engEccAt = s.engEccAt := rfl
@[simp] theorem State.setCal_cmpBadAt (s : State) (n : Nat) (x : CalTarget) : (s.setCal n x).cmpBadAt = s.cmpBadAt := rfl
@[simp] theorem State.setCal_lanes (s : State) (n : Nat) (x : CalTarget) : (s.setCal n x).lanes = s.lanes := rfl
@[simp] theorem State.setCal_links (s : State) (n : Nat) (x : CalTarget) : (s.setCal n x).links = s.links := rfl
@[simp] theorem State.setCal_palis (s : State) (n : Nat) (x : CalTarget) : (s.setCal n x).palis = s.palis := rfl
@[simp] theorem State.setCal_subs (s : State) (n : Nat) (x : CalTarget) : (s.setCal n x).subs = s.subs := rfl
@[simp] theorem State.setCal_tree (s : State) (n : Nat) (x : CalTarget) : (s.setCal n x).tree = s.tree := rfl
@[simp] theorem State.setCal_twin (s : State) (n : Nat) (x : CalTarget) : (s.setCal n x).twin = s.twin := rfl
@[simp] theorem State.setCal_island (s : State) (n : Nat) (x : CalTarget) : (s.setCal n x).island = s.island := rfl
@[simp] theorem State.setCal_geode (s : State) (n : Nat) (x : CalTarget) : (s.setCal n x).geode = s.geode := rfl
@[simp] theorem State.setCal_store (s : State) (n : Nat) (x : CalTarget) : (s.setCal n x).store = s.store := rfl
@[simp] theorem State.setCal_power (s : State) (n : Nat) (x : CalTarget) : (s.setCal n x).power = s.power := rfl
@[simp] theorem State.setCal_rd (s : State) (n : Nat) (x : CalTarget) (r : Nat) : (s.setCal n x).rd r = s.rd r := rfl
@[simp] theorem State.setCal_fld (s : State) (n : Nat) (x : CalTarget) (f : Fld) : (s.setCal n x).fld f = s.fld f := rfl
@[simp] theorem State.setCal_tb (s : State) (n : Nat) (x : CalTarget) (k : Nat) : (s.setCal n x).tb k = s.tb k := rfl
@[simp] theorem State.setCal_cw (s : State) (n : Nat) (x : CalTarget) (k : Nat) : (s.setCal n x).cw k = s.cw k := rfl
@[simp] theorem State.setCal_port (s : State) (n : Nat) (x : CalTarget) (k : Nat) : (s.setCal n x).port k = s.port k := rfl
@[simp] theorem State.setCal_queue (s : State) (n : Nat) (x : CalTarget) (k : Nat) : (s.setCal n x).queue k = s.queue k := rfl
@[simp] theorem State.setCal_chan (s : State) (n : Nat) (x : CalTarget) (k : Nat) : (s.setCal n x).chan k = s.chan k := rfl
@[simp] theorem State.setCal_str (s : State) (n : Nat) (x : CalTarget) (k : Nat) : (s.setCal n x).str k = s.str k := rfl
@[simp] theorem State.setCal_grp (s : State) (n : Nat) (x : CalTarget) (k : Nat) : (s.setCal n x).grp k = s.grp k := rfl
@[simp] theorem State.setCal_pd (s : State) (n : Nat) (x : CalTarget) (k : Nat) : (s.setCal n x).pd k = s.pd k := rfl
@[simp] theorem State.setCal_bank (s : State) (n : Nat) (x : CalTarget) (k : Nat) : (s.setCal n x).bank k = s.bank k := rfl
@[simp] theorem State.setCal_pipe (s : State) (n : Nat) (x : CalTarget) (k : Nat) : (s.setCal n x).pipe k = s.pipe k := rfl
@[simp] theorem State.setCal_axis (s : State) (n : Nat) (x : CalTarget) (k : Nat) : (s.setCal n x).axis k = s.axis k := rfl
@[simp] theorem State.setCal_tile (s : State) (n : Nat) (x : CalTarget) (k : Nat) : (s.setCal n x).tile k = s.tile k := rfl
@[simp] theorem State.setCal_enc (s : State) (n : Nat) (x : CalTarget) (k : Nat) : (s.setCal n x).enc k = s.enc k := rfl
@[simp] theorem State.setCal_th (s : State) (n : Nat) (x : CalTarget) (k : Nat) : (s.setCal n x).th k = s.th k := rfl
@[simp] theorem State.setCal_barrier (s : State) (n : Nat) (x : CalTarget) (k : Nat) : (s.setCal n x).barrier k = s.barrier k := rfl
@[simp] theorem State.setCal_lane (s : State) (n : Nat) (x : CalTarget) (k : Nat) : (s.setCal n x).lane k = s.lane k := rfl
@[simp] theorem State.setCal_link (s : State) (n : Nat) (x : CalTarget) (k : Nat) : (s.setCal n x).link k = s.link k := rfl
@[simp] theorem State.setCal_palisPort (s : State) (n : Nat) (x : CalTarget) (k : Nat) : (s.setCal n x).palisPort k = s.palisPort k := rfl
@[simp] theorem State.setCal_sub (s : State) (n : Nat) (x : CalTarget) (k : Nat) : (s.setCal n x).sub k = s.sub k := rfl

end Sys2Proof.Machine
end

