-- ==== Sys2Proof/Laws/Maps.lean ====
section
/-! SUPPORT. Laws/Maps.lean: reading back a sparse map, its canonical form, and what follows for registers, fields and memories. -/

namespace Sys2Proof.Machine

/-! ### Reading back -/

theorem kget_filter_ne {α : Type} (d : Nat → α) (m : KMap α) (k k' : Nat) (h : k' ≠ k) :
    kget d (m.filter (fun e => e.1 != k)) k' = kget d m k' := by
  induction m with
  | nil => rfl
  | cons e m ih =>
    by_cases he : e.1 = k
    · simp [he, kget, ih, Ne.symm h]
    · simp [he, kget, ih]

theorem kget_filter_self {α : Type} (d : Nat → α) (m : KMap α) (k : Nat) :
    kget d (m.filter (fun e => e.1 != k)) k = d k := by
  induction m with
  | nil => rfl
  | cons e m ih =>
    by_cases he : e.1 = k
    · simp [he, ih]
    · simp [he, kget, ih]

theorem kget_kinsert_ne {α : Type} (d : Nat → α) (m : KMap α) (k k' : Nat) (v : α) (h : k' ≠ k) :
    kget d (kinsert k v m) k' = kget d m k' := by
  induction m with
  | nil => simp [kinsert, kget, Ne.symm h]
  | cons e m ih =>
    unfold kinsert
    split
    · simp [kget, Ne.symm h]
    · simp [kget, ih]

theorem kget_kinsert_self {α : Type} (d : Nat → α) (m : KMap α) (k : Nat) (v : α) (h : ∀ e ∈ m, e.1 ≠ k) :
    kget d (kinsert k v m) k = v := by
  induction m with
  | nil => simp [kinsert, kget]
  | cons e m ih =>
    unfold kinsert
    split
    · simp [kget]
    · simp [kget, h e (by simp), ih (fun x hx => h x (by simp [hx]))]

/-- A map read at the key just set, and at another. -/
theorem kget_kset {α : Type} [DecidableEq α] (d : Nat → α) (m : KMap α) (k k' : Nat) (v : α) :
    kget d (kset d m k v) k' = if k' = k then v else kget d m k' := by
  unfold kset
  by_cases hk : k' = k
  · subst hk
    split
    · simp [kget_filter_self, *]
    · rw [kget_kinsert_self]
      · simp
      · intro e he; simpa using (List.mem_filter.1 he).2
  · split
    · simp [kget_filter_ne, hk]
    · simp [kget_kinsert_ne, kget_filter_ne, hk]

@[simp] theorem kget_kset_self {α : Type} [DecidableEq α] (d : Nat → α) (m : KMap α) (k : Nat) (v : α) :
    kget d (kset d m k v) k = v := by simp [kget_kset]

theorem kget_kset_ne {α : Type} [DecidableEq α] (d : Nat → α) (m : KMap α) (k k' : Nat) (v : α) (h : k' ≠ k) :
    kget d (kset d m k v) k' = kget d m k' := by simp [kget_kset, h]

/-! ### The canonical form -/

/-- Every key of a map is above a bound. -/
def above {α : Type} (b : Nat) (m : KMap α) : Prop := ∀ e ∈ m, b < e.1

theorem wf_cons {α : Type} [DecidableEq α] (d : Nat → α) (e : Nat × α) (m : KMap α) :
    KMap.wf d (e :: m) = true ↔ e.2 ≠ d e.1 ∧ above e.1 m ∧ KMap.wf d m = true := by
  induction m generalizing e with
  | nil => simp [KMap.wf, above]
  | cons f m ih =>
    have h := ih f
    simp only [KMap.wf, Bool.and_eq_true, decide_eq_true_eq] at h ⊢
    constructor
    · rintro ⟨⟨h1, h2⟩, h3⟩
      refine ⟨h1, ?_, h3⟩
      intro x hx
      rcases List.mem_cons.1 hx with rfl | hx
      · exact h2
      · exact Nat.lt_trans h2 ((h.1 h3).2.1 x hx)
    · rintro ⟨h1, h2, h3⟩
      exact ⟨⟨h1, h2 f (by simp)⟩, h3⟩

theorem above_filter {α : Type} (b : Nat) (m : KMap α) (p : Nat × α → Bool) (h : above b m) : above b (m.filter p) :=
  fun e he => h e (List.mem_filter.1 he).1

/-- A part of a canonical map is canonical. -/
theorem wf_filter {α : Type} [DecidableEq α] (d : Nat → α) (m : KMap α) (p : Nat × α → Bool) (h : KMap.wf d m = true) :
    KMap.wf d (m.filter p) = true := by
  induction m with
  | nil => rfl
  | cons e m ih =>
    obtain ⟨h1, h2, h3⟩ := (wf_cons d e m).1 h
    by_cases hp : p e
    · simp only [List.filter_cons, hp, if_true]
      exact (wf_cons d e _).2 ⟨h1, above_filter _ _ _ h2, ih h3⟩
    · simp only [List.filter_cons, hp]
      exact ih h3

theorem above_kinsert {α : Type} (b k : Nat) (v : α) (m : KMap α) (hb : b < k) (h : above b m) : above b (kinsert k v m) := by
  induction m with
  | nil => intro e he; simp only [kinsert, List.mem_singleton] at he; subst he; exact hb
  | cons f m ih =>
    unfold kinsert
    split
    · intro e he
      rcases List.mem_cons.1 he with rfl | he
      · exact hb
      · exact h e he
    · intro e he
      rcases List.mem_cons.1 he with rfl | he
      · exact h _ (by simp)
      · exact ih (fun x hx => h x (by simp [hx])) e he

theorem wf_kinsert {α : Type} [DecidableEq α] (d : Nat → α) (m : KMap α) (k : Nat) (v : α) (hv : v ≠ d k)
    (hk : ∀ e ∈ m, e.1 ≠ k) (h : KMap.wf d m = true) : KMap.wf d (kinsert k v m) = true := by
  induction m with
  | nil => simpa [kinsert, KMap.wf] using hv
  | cons f m ih =>
    obtain ⟨h1, h2, h3⟩ := (wf_cons d f m).1 h
    unfold kinsert
    split
    · next hlt =>
      refine (wf_cons d _ _).2 ⟨hv, ?_, h⟩
      intro e he
      rcases List.mem_cons.1 he with rfl | he
      · exact hlt
      · exact Nat.lt_trans hlt (h2 e he)
    · next hlt =>
      have hne := hk f (by simp)
      have hlt' : f.1 < k := Nat.lt_of_le_of_ne (Nat.le_of_not_lt hlt) hne
      exact (wf_cons d f _).2 ⟨h1, above_kinsert _ _ _ _ hlt' h2, ih (fun e he => hk e (by simp [he])) h3⟩

/-- Setting a key keeps the canonical form. -/
theorem wf_kset {α : Type} [DecidableEq α] (d : Nat → α) (m : KMap α) (k : Nat) (v : α) (h : KMap.wf d m = true) :
    KMap.wf d (kset d m k v) = true := by
  unfold kset
  split
  · exact wf_filter d m _ h
  · next hv =>
    refine wf_kinsert d _ k v hv ?_ (wf_filter d m _ h)
    intro e he
    simpa using (List.mem_filter.1 he).2

/-! ### Memories -/

/-- Storing bytes keeps a memory's canonical form (log entry 2). -/
theorem wf_writeMem (m : List Host.Cell) (a : Nat) (bs : List Byte) (h : Memory.wf m = true) : Memory.wf (writeMem m a bs) = true := by
  induction bs generalizing m a with
  | nil => exact h
  | cons b t ih => exact ih _ _ (wf_kset unwritten m a b h)

theorem wf_writeNat (m : List Host.Cell) (a n v : Nat) (h : Memory.wf m = true) : Memory.wf (writeNat m a n v) = true :=
  wf_writeMem m a _ h

/-- A byte of a memory after bytes were stored from an address. -/
theorem kget_writeMem (m : List Host.Cell) (a x : Nat) (bs : List Byte) :
    kget unwritten (writeMem m a bs) x = if a ≤ x ∧ x < a + bs.length then bs.getD (x - a) 0#8 else kget unwritten m x := by
  induction bs generalizing m a with
  | nil =>
    rw [writeMem, if_neg (by simp only [List.length_nil]; omega)]
  | cons b t ih =>
    simp only [writeMem, ih, kget_kset, List.length_cons]
    by_cases h1 : a + 1 ≤ x ∧ x < a + 1 + t.length
    · have h2 : a ≤ x ∧ x < a + (t.length + 1) := by omega
      have h3 : x - a = (x - (a + 1)) + 1 := by omega
      simp [h1, h2, h3]
    · by_cases hx : x = a
      · subst hx
        rw [if_neg h1]; simp
      · have h2 : ¬ (a ≤ x ∧ x < a + (t.length + 1)) := by omega
        rw [if_neg h1, if_neg hx, if_neg h2]

/-! ### Registers and fields -/

@[simp] theorem State.rd_wr_self (s : State) (r : Nat) (v : Word) : (s.wr r v).rd r = v := by simp [State.rd, State.wr]

theorem State.rd_wr_ne (s : State) (r r' : Nat) (v : Word) (h : r' ≠ r) : (s.wr r v).rd r' = s.rd r' := by
  simp [State.rd, State.wr, kget_kset_ne, h]

theorem State.rd_wr (s : State) (r r' : Nat) (v : Word) : (s.wr r v).rd r' = if r' = r then v else s.rd r' := by
  simp [State.rd, State.wr, kget_kset]

theorem State.rd_wrN (s : State) (r r' v : Nat) : (s.wrN r v).rd r' = if r' = r then BitVec.ofNat 64 v else s.rd r' := State.rd_wr s r r' _

theorem State.rd_setFld_ne (s : State) (f : Fld) (v r : Nat) (h : r ≠ f.reg) : (s.setFld f v).rd r = s.rd r := State.rd_wr_ne s _ _ _ h

theorem State.fld_setFld_reg (s : State) (f g : Fld) (v : Nat) (h : g.reg ≠ f.reg) : (s.setFld f v).fld g = s.fld g := by
  simp [State.fld, State.rd_setFld_ne s f v g.reg h]

theorem State.fld_wrN_reg (s : State) (r v : Nat) (g : Fld) (h : g.reg ≠ r) : (s.wrN r v).fld g = s.fld g := by
  simp [State.fld, State.rd_wrN, h]

theorem putBits_toNat (old : Word) (f : Fld) (v i : Nat) (hi : i < 64) :
    (putBits old f v).getLsbD i = if f.lo ≤ i ∧ i < f.lo + f.w then v.testBit (i - f.lo) else old.getLsbD i := by
  unfold putBits Fld.mask
  simp only [BitVec.getLsbD_or, BitVec.getLsbD_and, BitVec.getLsbD_not, BitVec.getLsbD_shiftLeft, BitVec.getLsbD_ofNat, hi, decide_true, Bool.true_and,
    Nat.testBit_two_pow_sub_one, Nat.testBit_mod_two_pow]
  by_cases h1 : f.lo ≤ i
  · have h2 : ¬ i < f.lo := by omega
    have h3 : i - f.lo < 64 := by omega
    by_cases h4 : i < f.lo + f.w
    · have h5 : i - f.lo < f.w := by omega
      simp [h1, h2, h3, h4, h5]
    · have h5 : ¬ i - f.lo < f.w := by omega
      simp [h1, h2, h3, h4, h5]
  · have h2 : i < f.lo := by omega
    simp [h1, h2]

theorem State.fld_testBit (s : State) (f : Fld) (i : Nat) : (s.fld f).testBit i = (decide (i < f.w) && (s.rd f.reg).getLsbD (i + f.lo)) := by
  unfold State.fld
  rw [Nat.testBit_mod_two_pow, Nat.testBit_div_two_pow, BitVec.getLsbD]

/-- A field reads back what was written to it, modulo its width. -/
theorem State.fld_setFld_self (s : State) (f : Fld) (v : Nat) (h : f.lo + f.w ≤ 64) : (s.setFld f v).fld f = v % 2 ^ f.w := by
  apply Nat.eq_of_testBit_eq
  intro i
  rw [State.fld_testBit, Nat.testBit_mod_two_pow]
  by_cases hi : i < f.w
  · simp only [hi, decide_true, Bool.true_and, State.setFld, State.rd_wr_self]
    rw [putBits_toNat _ _ _ _ (by omega), if_pos (by omega), Nat.add_sub_cancel]
  · simp [hi]

/-- A field of the same register that does not overlap the one written is left alone. -/
theorem State.fld_setFld_disj (s : State) (f g : Fld) (v : Nat) (hr : g.reg = f.reg) (hg : g.lo + g.w ≤ 64) (h : g.lo + g.w ≤ f.lo ∨ f.lo + f.w ≤ g.lo) :
    (s.setFld f v).fld g = s.fld g := by
  apply Nat.eq_of_testBit_eq
  intro i
  rw [State.fld_testBit, State.fld_testBit]
  by_cases hi : i < g.w
  · simp only [hi, decide_true, Bool.true_and, State.setFld, hr, State.rd_wr_self]
    rw [putBits_toNat _ _ _ _ (by omega), if_neg (by omega)]
  · simp [hi]

/-- A record read at the number just set, and at another. -/
theorem State.th_setTh (s : State) (u k : Nat) (x : Thread) : (s.setTh u x).th k = if k = u then x else s.th k := by
  simp [State.th, State.setTh, kget_kset]

@[simp] theorem State.th_setTh_self (s : State) (u : Nat) (x : Thread) : (s.setTh u x).th u = x := by simp [State.th_setTh]

end Sys2Proof.Machine
end

