-- ==== Sys2Proof/Laws/Time.lean ====
section
/-! SUPPORT. Laws/Time.lean: what the passing of time leaves as it was: everything but the clocks and the timebases' accumulators. -/

namespace Sys2Proof.Machine

theorem advanceTb_pending (dt n : Nat) (s : State) : (advanceTb dt n s).pending = s.pending := by unfold advanceTb; split <;> rfl
theorem advanceTb_now (dt n : Nat) (s : State) : (advanceTb dt n s).now = s.now := by unfold advanceTb; split <;> rfl
theorem advanceTb_showAcc (dt n : Nat) (s : State) : (advanceTb dt n s).showAcc = s.showAcc := by unfold advanceTb; split <;> rfl
theorem advanceTb_regs (dt n : Nat) (s : State) : (advanceTb dt n s).regs = s.regs := by unfold advanceTb; split <;> rfl
theorem advanceTb_heldLow (dt n : Nat) (s : State) : (advanceTb dt n s).heldLow = s.heldLow := by unfold advanceTb; split <;> rfl
theorem advanceTb_latchedHi (dt n : Nat) (s : State) : (advanceTb dt n s).latchedHi = s.latchedHi := by unfold advanceTb; split <;> rfl
theorem advanceTb_lastRead (dt n : Nat) (s : State) : (advanceTb dt n s).lastRead = s.lastRead := by unfold advanceTb; split <;> rfl
theorem advanceTb_freeCtr (dt n : Nat) (s : State) : (advanceTb dt n s).freeCtr = s.freeCtr := by unfold advanceTb; split <;> rfl
theorem advanceTb_dram (dt n : Nat) (s : State) : (advanceTb dt n s).dram = s.dram := by unfold advanceTb; split <;> rfl
theorem advanceTb_host (dt n : Nat) (s : State) : (advanceTb dt n s).host = s.host := by unfold advanceTb; split <;> rfl
theorem advanceTb_bindPend (dt n : Nat) (s : State) : (advanceTb dt n s).bindPend = s.bindPend := by unfold advanceTb; split <;> rfl
theorem advanceTb_cws (dt n : Nat) (s : State) : (advanceTb dt n s).cws = s.cws := by unfold advanceTb; split <;> rfl
theorem advanceTb_ports (dt n : Nat) (s : State) : (advanceTb dt n s).ports = s.ports := by unfold advanceTb; split <;> rfl
theorem advanceTb_mmu (dt n : Nat) (s : State) : (advanceTb dt n s).mmu = s.mmu := by unfold advanceTb; split <;> rfl
theorem advanceTb_chans (dt n : Nat) (s : State) : (advanceTb dt n s).chans = s.chans := by unfold advanceTb; split <;> rfl
theorem advanceTb_memc (dt n : Nat) (s : State) : (advanceTb dt n s).memc = s.memc := by unfold advanceTb; split <;> rfl
theorem advanceTb_queues (dt n : Nat) (s : State) : (advanceTb dt n s).queues = s.queues := by unfold advanceTb; split <;> rfl
theorem advanceTb_msix (dt n : Nat) (s : State) : (advanceTb dt n s).msix = s.msix := by unfold advanceTb; split <;> rfl
theorem advanceTb_hostIf (dt n : Nat) (s : State) : (advanceTb dt n s).hostIf = s.hostIf := by unfold advanceTb; split <;> rfl
theorem advanceTb_hostMsgs (dt n : Nat) (s : State) : (advanceTb dt n s).hostMsgs = s.hostMsgs := by unfold advanceTb; split <;> rfl
theorem advanceTb_heldEvents (dt n : Nat) (s : State) : (advanceTb dt n s).heldEvents = s.heldEvents := by unfold advanceTb; split <;> rfl
theorem advanceTb_pipes (dt n : Nat) (s : State) : (advanceTb dt n s).pipes = s.pipes := by unfold advanceTb; split <;> rfl
theorem advanceTb_strings (dt n : Nat) (s : State) : (advanceTb dt n s).strings = s.strings := by unfold advanceTb; split <;> rfl
theorem advanceTb_groups (dt n : Nat) (s : State) : (advanceTb dt n s).groups = s.groups := by unfold advanceTb; split <;> rfl
theorem advanceTb_pds (dt n : Nat) (s : State) : (advanceTb dt n s).pds = s.pds := by unfold advanceTb; split <;> rfl
theorem advanceTb_banks (dt n : Nat) (s : State) : (advanceTb dt n s).banks = s.banks := by unfold advanceTb; split <;> rfl
theorem advanceTb_shdEdges (dt n : Nat) (s : State) : (advanceTb dt n s).shdEdges = s.shdEdges := by unfold advanceTb; split <;> rfl
theorem advanceTb_vin10 (dt n : Nat) (s : State) : (advanceTb dt n s).vin10 = s.vin10 := by unfold advanceTb; split <;> rfl
theorem advanceTb_axes (dt n : Nat) (s : State) : (advanceTb dt n s).axes = s.axes := by unfold advanceTb; split <;> rfl
theorem advanceTb_tiles (dt n : Nat) (s : State) : (advanceTb dt n s).tiles = s.tiles := by unfold advanceTb; split <;> rfl
theorem advanceTb_encs (dt n : Nat) (s : State) : (advanceTb dt n s).encs = s.encs := by unfold advanceTb; split <;> rfl
theorem advanceTb_sds (dt n : Nat) (s : State) : (advanceTb dt n s).sds = s.sds := by unfold advanceTb; split <;> rfl
theorem advanceTb_ctlTables (dt n : Nat) (s : State) : (advanceTb dt n s).ctlTables = s.ctlTables := by unfold advanceTb; split <;> rfl
theorem advanceTb_ctlLoad (dt n : Nat) (s : State) : (advanceTb dt n s).ctlLoad = s.ctlLoad := by unfold advanceTb; split <;> rfl
theorem advanceTb_threads (dt n : Nat) (s : State) : (advanceTb dt n s).threads = s.threads := by unfold advanceTb; split <;> rfl
theorem advanceTb_padMem (dt n : Nat) (s : State) : (advanceTb dt n s).padMem = s.padMem := by unfold advanceTb; split <;> rfl
theorem advanceTb_pilMem (dt n : Nat) (s : State) : (advanceTb dt n s).pilMem = s.pilMem := by unfold advanceTb; split <;> rfl
theorem advanceTb_barriers (dt n : Nat) (s : State) : (advanceTb dt n s).barriers = s.barriers := by unfold advanceTb; split <;> rfl
theorem advanceTb_engAcc (dt n : Nat) (s : State) : (advanceTb dt n s).engAcc = s.engAcc := by unfold advanceTb; split <;> rfl
theorem advanceTb_engEccAt (dt n : Nat) (s : State) : (advanceTb dt n s).engEccAt = s.engEccAt := by unfold advanceTb; split <;> rfl
theorem advanceTb_cmpBadAt (dt n : Nat) (s : State) : (advanceTb dt n s).cmpBadAt = s.cmpBadAt := by unfold advanceTb; split <;> rfl
theorem advanceTb_lanes (dt n : Nat) (s : State) : (advanceTb dt n s).lanes = s.lanes := by unfold advanceTb; split <;> rfl
theorem advanceTb_links (dt n : Nat) (s : State) : (advanceTb dt n s).links = s.links := by unfold advanceTb; split <;> rfl
theorem advanceTb_palis (dt n : Nat) (s : State) : (advanceTb dt n s).palis = s.palis := by unfold advanceTb; split <;> rfl
theorem advanceTb_subs (dt n : Nat) (s : State) : (advanceTb dt n s).subs = s.subs := by unfold advanceTb; split <;> rfl
theorem advanceTb_tree (dt n : Nat) (s : State) : (advanceTb dt n s).tree = s.tree := by unfold advanceTb; split <;> rfl
theorem advanceTb_twin (dt n : Nat) (s : State) : (advanceTb dt n s).twin = s.twin := by unfold advanceTb; split <;> rfl
theorem advanceTb_island (dt n : Nat) (s : State) : (advanceTb dt n s).island = s.island := by unfold advanceTb; split <;> rfl
theorem advanceTb_cals (dt n : Nat) (s : State) : (advanceTb dt n s).cals = s.cals := by unfold advanceTb; split <;> rfl
theorem advanceTb_geode (dt n : Nat) (s : State) : (advanceTb dt n s).geode = s.geode := by unfold advanceTb; split <;> rfl
theorem advanceTb_store (dt n : Nat) (s : State) : (advanceTb dt n s).store = s.store := by unfold advanceTb; split <;> rfl
theorem advanceTb_power (dt n : Nat) (s : State) : (advanceTb dt n s).power = s.power := by unfold advanceTb; split <;> rfl
@[simp] theorem passTime_pending (dt : Nat) (s : State) : (passTime dt s).pending = s.pending := by simp only [passTime, advanceTb_pending]
@[simp] theorem passTime_regs (dt : Nat) (s : State) : (passTime dt s).regs = s.regs := by simp only [passTime, advanceTb_regs]
@[simp] theorem passTime_heldLow (dt : Nat) (s : State) : (passTime dt s).heldLow = s.heldLow := by simp only [passTime, advanceTb_heldLow]
@[simp] theorem passTime_latchedHi (dt : Nat) (s : State) : (passTime dt s).latchedHi = s.latchedHi := by simp only [passTime, advanceTb_latchedHi]
@[simp] theorem passTime_lastRead (dt : Nat) (s : State) : (passTime dt s).lastRead = s.lastRead := by simp only [passTime, advanceTb_lastRead]
@[simp] theorem passTime_freeCtr (dt : Nat) (s : State) : (passTime dt s).freeCtr = s.freeCtr := by simp only [passTime, advanceTb_freeCtr]
@[simp] theorem passTime_dram (dt : Nat) (s : State) : (passTime dt s).dram = s.dram := by simp only [passTime, advanceTb_dram]
@[simp] theorem passTime_host (dt : Nat) (s : State) : (passTime dt s).host = s.host := by simp only [passTime, advanceTb_host]
@[simp] theorem passTime_bindPend (dt : Nat) (s : State) : (passTime dt s).bindPend = s.bindPend := by simp only [passTime, advanceTb_bindPend]
@[simp] theorem passTime_cws (dt : Nat) (s : State) : (passTime dt s).cws = s.cws := by simp only [passTime, advanceTb_cws]
@[simp] theorem passTime_ports (dt : Nat) (s : State) : (passTime dt s).ports = s.ports := by simp only [passTime, advanceTb_ports]
@[simp] theorem passTime_mmu (dt : Nat) (s : State) : (passTime dt s).mmu = s.mmu := by simp only [passTime, advanceTb_mmu]
@[simp] theorem passTime_chans (dt : Nat) (s : State) : (passTime dt s).chans = s.chans := by simp only [passTime, advanceTb_chans]
@[simp] theorem passTime_memc (dt : Nat) (s : State) : (passTime dt s).memc = s.memc := by simp only [passTime, advanceTb_memc]
@[simp] theorem passTime_queues (dt : Nat) (s : State) : (passTime dt s).queues = s.queues := by simp only [passTime, advanceTb_queues]
@[simp] theorem passTime_msix (dt : Nat) (s : State) : (passTime dt s).msix = s.msix := by simp only [passTime, advanceTb_msix]
@[simp] theorem passTime_hostIf (dt : Nat) (s : State) : (passTime dt s).hostIf = s.hostIf := by simp only [passTime, advanceTb_hostIf]
@[simp] theorem passTime_hostMsgs (dt : Nat) (s : State) : (passTime dt s).hostMsgs = s.hostMsgs := by simp only [passTime, advanceTb_hostMsgs]
@[simp] theorem passTime_heldEvents (dt : Nat) (s : State) : (passTime dt s).heldEvents = s.heldEvents := by simp only [passTime, advanceTb_heldEvents]
@[simp] theorem passTime_pipes (dt : Nat) (s : State) : (passTime dt s).pipes = s.pipes := by simp only [passTime, advanceTb_pipes]
@[simp] theorem passTime_strings (dt : Nat) (s : State) : (passTime dt s).strings = s.strings := by simp only [passTime, advanceTb_strings]
@[simp] theorem passTime_groups (dt : Nat) (s : State) : (passTime dt s).groups = s.groups := by simp only [passTime, advanceTb_groups]
@[simp] theorem passTime_pds (dt : Nat) (s : State) : (passTime dt s).pds = s.pds := by simp only [passTime, advanceTb_pds]
@[simp] theorem passTime_banks (dt : Nat) (s : State) : (passTime dt s).banks = s.banks := by simp only [passTime, advanceTb_banks]
@[simp] theorem passTime_shdEdges (dt : Nat) (s : State) : (passTime dt s).shdEdges = s.shdEdges := by simp only [passTime, advanceTb_shdEdges]
@[simp] theorem passTime_vin10 (dt : Nat) (s : State) : (passTime dt s).vin10 = s.vin10 := by simp only [passTime, advanceTb_vin10]
@[simp] theorem passTime_axes (dt : Nat) (s : State) : (passTime dt s).axes = s.axes := by simp only [passTime, advanceTb_axes]
@[simp] theorem passTime_tiles (dt : Nat) (s : State) : (passTime dt s).tiles = s.tiles := by simp only [passTime, advanceTb_tiles]
@[simp] theorem passTime_encs (dt : Nat) (s : State) : (passTime dt s).encs = s.encs := by simp only [passTime, advanceTb_encs]
@[simp] theorem passTime_sds (dt : Nat) (s : State) : (passTime dt s).sds = s.sds := by simp only [passTime, advanceTb_sds]
@[simp] theorem passTime_ctlTables (dt : Nat) (s : State) : (passTime dt s).ctlTables = s.ctlTables := by simp only [passTime, advanceTb_ctlTables]
@[simp] theorem passTime_ctlLoad (dt : Nat) (s : State) : (passTime dt s).ctlLoad = s.ctlLoad := by simp only [passTime, advanceTb_ctlLoad]
@[simp] theorem passTime_threads (dt : Nat) (s : State) : (passTime dt s).threads = s.threads := by simp only [passTime, advanceTb_threads]
@[simp] theorem passTime_padMem (dt : Nat) (s : State) : (passTime dt s).padMem = s.padMem := by simp only [passTime, advanceTb_padMem]
@[simp] theorem passTime_pilMem (dt : Nat) (s : State) : (passTime dt s).pilMem = s.pilMem := by simp only [passTime, advanceTb_pilMem]
@[simp] theorem passTime_barriers (dt : Nat) (s : State) : (passTime dt s).barriers = s.barriers := by simp only [passTime, advanceTb_barriers]
@[simp] theorem passTime_engEccAt (dt : Nat) (s : State) : (passTime dt s).engEccAt = s.engEccAt := by simp only [passTime, advanceTb_engEccAt]
@[simp] theorem passTime_cmpBadAt (dt : Nat) (s : State) : (passTime dt s).cmpBadAt = s.cmpBadAt := by simp only [passTime, advanceTb_cmpBadAt]
@[simp] theorem passTime_lanes (dt : Nat) (s : State) : (passTime dt s).lanes = s.lanes := by simp only [passTime, advanceTb_lanes]
@[simp] theorem passTime_links (dt : Nat) (s : State) : (passTime dt s).links = s.links := by simp only [passTime, advanceTb_links]
@[simp] theorem passTime_palis (dt : Nat) (s : State) : (passTime dt s).palis = s.palis := by simp only [passTime, advanceTb_palis]
@[simp] theorem passTime_subs (dt : Nat) (s : State) : (passTime dt s).subs = s.subs := by simp only [passTime, advanceTb_subs]
@[simp] theorem passTime_tree (dt : Nat) (s : State) : (passTime dt s).tree = s.tree := by simp only [passTime, advanceTb_tree]
@[simp] theorem passTime_twin (dt : Nat) (s : State) : (passTime dt s).twin = s.twin := by simp only [passTime, advanceTb_twin]
@[simp] theorem passTime_island (dt : Nat) (s : State) : (passTime dt s).island = s.island := by simp only [passTime, advanceTb_island]
@[simp] theorem passTime_cals (dt : Nat) (s : State) : (passTime dt s).cals = s.cals := by simp only [passTime, advanceTb_cals]
@[simp] theorem passTime_geode (dt : Nat) (s : State) : (passTime dt s).geode = s.geode := by simp only [passTime, advanceTb_geode]
@[simp] theorem passTime_store (dt : Nat) (s : State) : (passTime dt s).store = s.store := by simp only [passTime, advanceTb_store]
@[simp] theorem passTime_power (dt : Nat) (s : State) : (passTime dt s).power = s.power := by simp only [passTime, advanceTb_power]

@[simp] theorem passTime_now (dt : Nat) (s : State) : (passTime dt s).now = s.now + dt := by simp only [passTime, advanceTb_now]
@[simp] theorem passTime_rd (dt : Nat) (s : State) (r : Nat) : (passTime dt s).rd r = s.rd r := by simp only [State.rd, passTime_regs]
@[simp] theorem passTime_fld (dt : Nat) (s : State) (f : Fld) : (passTime dt s).fld f = s.fld f := by simp only [State.fld, passTime_rd]
@[simp] theorem passTime_flag (dt : Nat) (s : State) (f : Fld) : (passTime dt s).flag f = s.flag f := by simp only [State.flag, passTime_fld]
@[simp] theorem passTime_rdN (dt : Nat) (s : State) (r : Nat) : (passTime dt s).rdN r = s.rdN r := by simp only [State.rdN, passTime_rd]
@[simp] theorem passTime_mainOn (dt : Nat) (s : State) : (passTime dt s).mainOn = s.mainOn := by simp only [State.mainOn, passTime_power]
@[simp] theorem passTime_clocked (dt : Nat) (s : State) : (passTime dt s).clocked = s.clocked := by simp only [State.clocked, passTime_mainOn, passTime_island]
@[simp] theorem passTime_driving (dt : Nat) (s : State) : (passTime dt s).driving = s.driving := by simp only [State.driving, passTime_flag, passTime_fld]

end Sys2Proof.Machine
end

