-- ==== Sys2Proof/Laws/Events.lean ====
section
/-! SUPPORT. Laws/Events.lean: what writing events and meeting a fault leave as it was: everything but the rings' own state, the memories and the host's messages. -/

namespace Sys2Proof.Machine

@[simp] theorem emitAll_pending (es : List EventRec) (s : State) : (emitAll es s).pending = s.pending := rfl
@[simp] theorem emit_pending (b c v l a : Nat) (s : State) : (emit b c v l a s).pending = s.pending := rfl
@[simp] theorem emitIf_pending (p : Bool) (b c v l a : Nat) (s : State) : (emitIf p b c v l a s).pending = s.pending := by cases p <;> rfl
@[simp] theorem faultOn_pending (x : FaultInfo) (s : State) : (faultOn x s).pending = s.pending := rfl
@[simp] theorem emitAll_now (es : List EventRec) (s : State) : (emitAll es s).now = s.now := rfl
@[simp] theorem emit_now (b c v l a : Nat) (s : State) : (emit b c v l a s).now = s.now := rfl
@[simp] theorem emitIf_now (p : Bool) (b c v l a : Nat) (s : State) : (emitIf p b c v l a s).now = s.now := by cases p <;> rfl
@[simp] theorem faultOn_now (x : FaultInfo) (s : State) : (faultOn x s).now = s.now := rfl
@[simp] theorem emitAll_showAcc (es : List EventRec) (s : State) : (emitAll es s).showAcc = s.showAcc := rfl
@[simp] theorem emit_showAcc (b c v l a : Nat) (s : State) : (emit b c v l a s).showAcc = s.showAcc := rfl
@[simp] theorem emitIf_showAcc (p : Bool) (b c v l a : Nat) (s : State) : (emitIf p b c v l a s).showAcc = s.showAcc := by cases p <;> rfl
@[simp] theorem faultOn_showAcc (x : FaultInfo) (s : State) : (faultOn x s).showAcc = s.showAcc := rfl
@[simp] theorem emitAll_heldLow (es : List EventRec) (s : State) : (emitAll es s).heldLow = s.heldLow := rfl
@[simp] theorem emit_heldLow (b c v l a : Nat) (s : State) : (emit b c v l a s).heldLow = s.heldLow := rfl
@[simp] theorem emitIf_heldLow (p : Bool) (b c v l a : Nat) (s : State) : (emitIf p b c v l a s).heldLow = s.heldLow := by cases p <;> rfl
@[simp] theorem faultOn_heldLow (x : FaultInfo) (s : State) : (faultOn x s).heldLow = s.heldLow := rfl
@[simp] theorem emitAll_latchedHi (es : List EventRec) (s : State) : (emitAll es s).latchedHi = s.latchedHi := rfl
@[simp] theorem emit_latchedHi (b c v l a : Nat) (s : State) : (emit b c v l a s).latchedHi = s.latchedHi := rfl
@[simp] theorem emitIf_latchedHi (p : Bool) (b c v l a : Nat) (s : State) : (emitIf p b c v l a s).latchedHi = s.latchedHi := by cases p <;> rfl
@[simp] theorem faultOn_latchedHi (x : FaultInfo) (s : State) : (faultOn x s).latchedHi = s.latchedHi := rfl
@[simp] theorem emitAll_lastRead (es : List EventRec) (s : State) : (emitAll es s).lastRead = s.lastRead := rfl
@[simp] theorem emit_lastRead (b c v l a : Nat) (s : State) : (emit b c v l a s).lastRead = s.lastRead := rfl
@[simp] theorem emitIf_lastRead (p : Bool) (b c v l a : Nat) (s : State) : (emitIf p b c v l a s).lastRead = s.lastRead := by cases p <;> rfl
@[simp] theorem faultOn_lastRead (x : FaultInfo) (s : State) : (faultOn x s).lastRead = s.lastRead := rfl
@[simp] theorem emitAll_freeCtr (es : List EventRec) (s : State) : (emitAll es s).freeCtr = s.freeCtr := rfl
@[simp] theorem emit_freeCtr (b c v l a : Nat) (s : State) : (emit b c v l a s).freeCtr = s.freeCtr := rfl
@[simp] theorem emitIf_freeCtr (p : Bool) (b c v l a : Nat) (s : State) : (emitIf p b c v l a s).freeCtr = s.freeCtr := by cases p <;> rfl
@[simp] theorem faultOn_freeCtr (x : FaultInfo) (s : State) : (faultOn x s).freeCtr = s.freeCtr := rfl
@[simp] theorem emitAll_bindPend (es : List EventRec) (s : State) : (emitAll es s).bindPend = s.bindPend := rfl
@[simp] theorem emit_bindPend (b c v l a : Nat) (s : State) : (emit b c v l a s).bindPend = s.bindPend := rfl
@[simp] theorem emitIf_bindPend (p : Bool) (b c v l a : Nat) (s : State) : (emitIf p b c v l a s).bindPend = s.bindPend := by cases p <;> rfl
@[simp] theorem faultOn_bindPend (x : FaultInfo) (s : State) : (faultOn x s).bindPend = s.bindPend := rfl
@[simp] theorem emitAll_tbs (es : List EventRec) (s : State) : (emitAll es s).tbs = s.tbs := rfl
@[simp] theorem emit_tbs (b c v l a : Nat) (s : State) : (emit b c v l a s).tbs = s.tbs := rfl
@[simp] theorem emitIf_tbs (p : Bool) (b c v l a : Nat) (s : State) : (emitIf p b c v l a s).tbs = s.tbs := by cases p <;> rfl
@[simp] theorem faultOn_tbs (x : FaultInfo) (s : State) : (faultOn x s).tbs = s.tbs := rfl
@[simp] theorem emitAll_cws (es : List EventRec) (s : State) : (emitAll es s).cws = s.cws := rfl
@[simp] theorem emit_cws (b c v l a : Nat) (s : State) : (emit b c v l a s).cws = s.cws := rfl
@[simp] theorem emitIf_cws (p : Bool) (b c v l a : Nat) (s : State) : (emitIf p b c v l a s).cws = s.cws := by cases p <;> rfl
@[simp] theorem faultOn_cws (x : FaultInfo) (s : State) : (faultOn x s).cws = s.cws := rfl
@[simp] theorem emitAll_ports (es : List EventRec) (s : State) : (emitAll es s).ports = s.ports := rfl
@[simp] theorem emit_ports (b c v l a : Nat) (s : State) : (emit b c v l a s).ports = s.ports := rfl
@[simp] theorem emitIf_ports (p : Bool) (b c v l a : Nat) (s : State) : (emitIf p b c v l a s).ports = s.ports := by cases p <;> rfl
@[simp] theorem faultOn_ports (x : FaultInfo) (s : State) : (faultOn x s).ports = s.ports := rfl
@[simp] theorem emitAll_chans (es : List EventRec) (s : State) : (emitAll es s).chans = s.chans := rfl
@[simp] theorem emit_chans (b c v l a : Nat) (s : State) : (emit b c v l a s).chans = s.chans := rfl
@[simp] theorem emitIf_chans (p : Bool) (b c v l a : Nat) (s : State) : (emitIf p b c v l a s).chans = s.chans := by cases p <;> rfl
@[simp] theorem faultOn_chans (x : FaultInfo) (s : State) : (faultOn x s).chans = s.chans := rfl
@[simp] theorem emitAll_hostIf (es : List EventRec) (s : State) : (emitAll es s).hostIf = s.hostIf := rfl
@[simp] theorem emit_hostIf (b c v l a : Nat) (s : State) : (emit b c v l a s).hostIf = s.hostIf := rfl
@[simp] theorem emitIf_hostIf (p : Bool) (b c v l a : Nat) (s : State) : (emitIf p b c v l a s).hostIf = s.hostIf := by cases p <;> rfl
@[simp] theorem faultOn_hostIf (x : FaultInfo) (s : State) : (faultOn x s).hostIf = s.hostIf := rfl
@[simp] theorem emitAll_heldEvents (es : List EventRec) (s : State) : (emitAll es s).heldEvents = s.heldEvents := rfl
@[simp] theorem emit_heldEvents (b c v l a : Nat) (s : State) : (emit b c v l a s).heldEvents = s.heldEvents := rfl
@[simp] theorem emitIf_heldEvents (p : Bool) (b c v l a : Nat) (s : State) : (emitIf p b c v l a s).heldEvents = s.heldEvents := by cases p <;> rfl
@[simp] theorem faultOn_heldEvents (x : FaultInfo) (s : State) : (faultOn x s).heldEvents = s.heldEvents := rfl
@[simp] theorem emitAll_pipes (es : List EventRec) (s : State) : (emitAll es s).pipes = s.pipes := rfl
@[simp] theorem emit_pipes (b c v l a : Nat) (s : State) : (emit b c v l a s).pipes = s.pipes := rfl
@[simp] theorem emitIf_pipes (p : Bool) (b c v l a : Nat) (s : State) : (emitIf p b c v l a s).pipes = s.pipes := by cases p <;> rfl
@[simp] theorem faultOn_pipes (x : FaultInfo) (s : State) : (faultOn x s).pipes = s.pipes := rfl
@[simp] theorem emitAll_strings (es : List EventRec) (s : State) : (emitAll es s).strings = s.strings := rfl
@[simp] theorem emit_strings (b c v l a : Nat) (s : State) : (emit b c v l a s).strings = s.strings := rfl
@[simp] theorem emitIf_strings (p : Bool) (b c v l a : Nat) (s : State) : (emitIf p b c v l a s).strings = s.strings := by cases p <;> rfl
@[simp] theorem faultOn_strings (x : FaultInfo) (s : State) : (faultOn x s).strings = s.strings := rfl
@[simp] theorem emitAll_groups (es : List EventRec) (s : State) : (emitAll es s).groups = s.groups := rfl
@[simp] theorem emit_groups (b c v l a : Nat) (s : State) : (emit b c v l a s).groups = s.groups := rfl
@[simp] theorem emitIf_groups (p : Bool) (b c v l a : Nat) (s : State) : (emitIf p b c v l a s).groups = s.groups := by cases p <;> rfl
@[simp] theorem faultOn_groups (x : FaultInfo) (s : State) : (faultOn x s).groups = s.groups := rfl
@[simp] theorem emitAll_pds (es : List EventRec) (s : State) : (emitAll es s).pds = s.pds := rfl
@[simp] theorem emit_pds (b c v l a : Nat) (s : State) : (emit b c v l a s).pds = s.pds := rfl
@[simp] theorem emitIf_pds (p : Bool) (b c v l a : Nat) (s : State) : (emitIf p b c v l a s).pds = s.pds := by cases p <;> rfl
@[simp] theorem faultOn_pds (x : FaultInfo) (s : State) : (faultOn x s).pds = s.pds := rfl
@[simp] theorem emitAll_banks (es : List EventRec) (s : State) : (emitAll es s).banks = s.banks := rfl
@[simp] theorem emit_banks (b c v l a : Nat) (s : State) : (emit b c v l a s).banks = s.banks := rfl
@[simp] theorem emitIf_banks (p : Bool) (b c v l a : Nat) (s : State) : (emitIf p b c v l a s).banks = s.banks := by cases p <;> rfl
@[simp] theorem faultOn_banks (x : FaultInfo) (s : State) : (faultOn x s).banks = s.banks := rfl
@[simp] theorem emitAll_shdEdges (es : List EventRec) (s : State) : (emitAll es s).shdEdges = s.shdEdges := rfl
@[simp] theorem emit_shdEdges (b c v l a : Nat) (s : State) : (emit b c v l a s).shdEdges = s.shdEdges := rfl
@[simp] theorem emitIf_shdEdges (p : Bool) (b c v l a : Nat) (s : State) : (emitIf p b c v l a s).shdEdges = s.shdEdges := by cases p <;> rfl
@[simp] theorem faultOn_shdEdges (x : FaultInfo) (s : State) : (faultOn x s).shdEdges = s.shdEdges := rfl
@[simp] theorem emitAll_vin10 (es : List EventRec) (s : State) : (emitAll es s).vin10 = s.vin10 := rfl
@[simp] theorem emit_vin10 (b c v l a : Nat) (s : State) : (emit b c v l a s).vin10 = s.vin10 := rfl
@[simp] theorem emitIf_vin10 (p : Bool) (b c v l a : Nat) (s : State) : (emitIf p b c v l a s).vin10 = s.vin10 := by cases p <;> rfl
@[simp] theorem faultOn_vin10 (x : FaultInfo) (s : State) : (faultOn x s).vin10 = s.vin10 := rfl
@[simp] theorem emitAll_axes (es : List EventRec) (s : State) : (emitAll es s).axes = s.axes := rfl
@[simp] theorem emit_axes (b c v l a : Nat) (s : State) : (emit b c v l a s).axes = s.axes := rfl
@[simp] theorem emitIf_axes (p : Bool) (b c v l a : Nat) (s : State) : (emitIf p b c v l a s).axes = s.axes := by cases p <;> rfl
@[simp] theorem faultOn_axes (x : FaultInfo) (s : State) : (faultOn x s).axes = s.axes := rfl
@[simp] theorem emitAll_tiles (es : List EventRec) (s : State) : (emitAll es s).tiles = s.tiles := rfl
@[simp] theorem emit_tiles (b c v l a : Nat) (s : State) : (emit b c v l a s).tiles = s.tiles := rfl
@[simp] theorem emitIf_tiles (p : Bool) (b c v l a : Nat) (s : State) : (emitIf p b c v l a s).tiles = s.tiles := by cases p <;> rfl
@[simp] theorem faultOn_tiles (x : FaultInfo) (s : State) : (faultOn x s).tiles = s.tiles := rfl
@[simp] theorem emitAll_encs (es : List EventRec) (s : State) : (emitAll es s).encs = s.encs := rfl
@[simp] theorem emit_encs (b c v l a : Nat) (s : State) : (emit b c v l a s).encs = s.encs := rfl
@[simp] theorem emitIf_encs (p : Bool) (b c v l a : Nat) (s : State) : (emitIf p b c v l a s).encs = s.encs := by cases p <;> rfl
@[simp] theorem faultOn_encs (x : FaultInfo) (s : State) : (faultOn x s).encs = s.encs := rfl
@[simp] theorem emitAll_sds (es : List EventRec) (s : State) : (emitAll es s).sds = s.sds := rfl
@[simp] theorem emit_sds (b c v l a : Nat) (s : State) : (emit b c v l a s).sds = s.sds := rfl
@[simp] theorem emitIf_sds (p : Bool) (b c v l a : Nat) (s : State) : (emitIf p b c v l a s).sds = s.sds := by cases p <;> rfl
@[simp] theorem faultOn_sds (x : FaultInfo) (s : State) : (faultOn x s).sds = s.sds := rfl
@[simp] theorem emitAll_ctlTables (es : List EventRec) (s : State) : (emitAll es s).ctlTables = s.ctlTables := rfl
@[simp] theorem emit_ctlTables (b c v l a : Nat) (s : State) : (emit b c v l a s).ctlTables = s.ctlTables := rfl
@[simp] theorem emitIf_ctlTables (p : Bool) (b c v l a : Nat) (s : State) : (emitIf p b c v l a s).ctlTables = s.ctlTables := by cases p <;> rfl
@[simp] theorem faultOn_ctlTables (x : FaultInfo) (s : State) : (faultOn x s).ctlTables = s.ctlTables := rfl
@[simp] theorem emitAll_ctlLoad (es : List EventRec) (s : State) : (emitAll es s).ctlLoad = s.ctlLoad := rfl
@[simp] theorem emit_ctlLoad (b c v l a : Nat) (s : State) : (emit b c v l a s).ctlLoad = s.ctlLoad := rfl
@[simp] theorem emitIf_ctlLoad (p : Bool) (b c v l a : Nat) (s : State) : (emitIf p b c v l a s).ctlLoad = s.ctlLoad := by cases p <;> rfl
@[simp] theorem faultOn_ctlLoad (x : FaultInfo) (s : State) : (faultOn x s).ctlLoad = s.ctlLoad := rfl
@[simp] theorem emitAll_threads (es : List EventRec) (s : State) : (emitAll es s).threads = s.threads := rfl
@[simp] theorem emit_threads (b c v l a : Nat) (s : State) : (emit b c v l a s).threads = s.threads := rfl
@[simp] theorem emitIf_threads (p : Bool) (b c v l a : Nat) (s : State) : (emitIf p b c v l a s).threads = s.threads := by cases p <;> rfl
@[simp] theorem faultOn_threads (x : FaultInfo) (s : State) : (faultOn x s).threads = s.threads := rfl
@[simp] theorem emitAll_padMem (es : List EventRec) (s : State) : (emitAll es s).padMem = s.padMem := rfl
@[simp] theorem emit_padMem (b c v l a : Nat) (s : State) : (emit b c v l a s).padMem = s.padMem := rfl
@[simp] theorem emitIf_padMem (p : Bool) (b c v l a : Nat) (s : State) : (emitIf p b c v l a s).padMem = s.padMem := by cases p <;> rfl
@[simp] theorem faultOn_padMem (x : FaultInfo) (s : State) : (faultOn x s).padMem = s.padMem := rfl
@[simp] theorem emitAll_pilMem (es : List EventRec) (s : State) : (emitAll es s).pilMem = s.pilMem := rfl
@[simp] theorem emit_pilMem (b c v l a : Nat) (s : State) : (emit b c v l a s).pilMem = s.pilMem := rfl
@[simp] theorem emitIf_pilMem (p : Bool) (b c v l a : Nat) (s : State) : (emitIf p b c v l a s).pilMem = s.pilMem := by cases p <;> rfl
@[simp] theorem faultOn_pilMem (x : FaultInfo) (s : State) : (faultOn x s).pilMem = s.pilMem := rfl
@[simp] theorem emitAll_barriers (es : List EventRec) (s : State) : (emitAll es s).barriers = s.barriers := rfl
@[simp] theorem emit_barriers (b c v l a : Nat) (s : State) : (emit b c v l a s).barriers = s.barriers := rfl
@[simp] theorem emitIf_barriers (p : Bool) (b c v l a : Nat) (s : State) : (emitIf p b c v l a s).barriers = s.barriers := by cases p <;> rfl
@[simp] theorem faultOn_barriers (x : FaultInfo) (s : State) : (faultOn x s).barriers = s.barriers := rfl
@[simp] theorem emitAll_engAcc (es : List EventRec) (s : State) : (emitAll es s).engAcc = s.engAcc := rfl
@[simp] theorem emit_engAcc (b c v l a : Nat) (s : State) : (emit b c v l a s).engAcc = s.engAcc := rfl
@[simp] theorem emitIf_engAcc (p : Bool) (b c v l a : Nat) (s : State) : (emitIf p b c v l a s).engAcc = s.engAcc := by cases p <;> rfl
@[simp] theorem faultOn_engAcc (x : FaultInfo) (s : State) : (faultOn x s).engAcc = s.engAcc := rfl
@[simp] theorem emitAll_engEccAt (es : List EventRec) (s : State) : (emitAll es s).engEccAt = s.engEccAt := rfl
@[simp] theorem emit_engEccAt (b c v l a : Nat) (s : State) : (emit b c v l a s).engEccAt = s.engEccAt := rfl
@[simp] theorem emitIf_engEccAt (p : Bool) (b c v l a : Nat) (s : State) : (emitIf p b c v l a s).engEccAt = s.engEccAt := by cases p <;> rfl
@[simp] theorem faultOn_engEccAt (x : FaultInfo) (s : State) : (faultOn x s).engEccAt = s.engEccAt := rfl
@[simp] theorem emitAll_cmpBadAt (es : List EventRec) (s : State) : (emitAll es s).cmpBadAt = s.cmpBadAt := rfl
@[simp] theorem emit_cmpBadAt (b c v l a : Nat) (s : State) : (emit b c v l a s).cmpBadAt = s.cmpBadAt := rfl
@[simp] theorem emitIf_cmpBadAt (p : Bool) (b c v l a : Nat) (s : State) : (emitIf p b c v l a s).cmpBadAt = s.cmpBadAt := by cases p <;> rfl
@[simp] theorem faultOn_cmpBadAt (x : FaultInfo) (s : State) : (faultOn x s).cmpBadAt = s.cmpBadAt := rfl
@[simp] theorem emitAll_lanes (es : List EventRec) (s : State) : (emitAll es s).lanes = s.lanes := rfl
@[simp] theorem emit_lanes (b c v l a : Nat) (s : State) : (emit b c v l a s).lanes = s.lanes := rfl
@[simp] theorem emitIf_lanes (p : Bool) (b c v l a : Nat) (s : State) : (emitIf p b c v l a s).lanes = s.lanes := by cases p <;> rfl
@[simp] theorem faultOn_lanes (x : FaultInfo) (s : State) : (faultOn x s).lanes = s.lanes := rfl
@[simp] theorem emitAll_links (es : List EventRec) (s : State) : (emitAll es s).links = s.links := rfl
@[simp] theorem emit_links (b c v l a : Nat) (s : State) : (emit b c v l a s).links = s.links := rfl
@[simp] theorem emitIf_links (p : Bool) (b c v l a : Nat) (s : State) : (emitIf p b c v l a s).links = s.links := by cases p <;> rfl
@[simp] theorem faultOn_links (x : FaultInfo) (s : State) : (faultOn x s).links = s.links := rfl
@[simp] theorem emitAll_palis (es : List EventRec) (s : State) : (emitAll es s).palis = s.palis := rfl
@[simp] theorem emit_palis (b c v l a : Nat) (s : State) : (emit b c v l a s).palis = s.palis := rfl
@[simp] theorem emitIf_palis (p : Bool) (b c v l a : Nat) (s : State) : (emitIf p b c v l a s).palis = s.palis := by cases p <;> rfl
@[simp] theorem faultOn_palis (x : FaultInfo) (s : State) : (faultOn x s).palis = s.palis := rfl
@[simp] theorem emitAll_subs (es : List EventRec) (s : State) : (emitAll es s).subs = s.subs := rfl
@[simp] theorem emit_subs (b c v l a : Nat) (s : State) : (emit b c v l a s).subs = s.subs := rfl
@[simp] theorem emitIf_subs (p : Bool) (b c v l a : Nat) (s : State) : (emitIf p b c v l a s).subs = s.subs := by cases p <;> rfl
@[simp] theorem faultOn_subs (x : FaultInfo) (s : State) : (faultOn x s).subs = s.subs := rfl
@[simp] theorem emitAll_tree (es : List EventRec) (s : State) : (emitAll es s).tree = s.tree := rfl
@[simp] theorem emit_tree (b c v l a : Nat) (s : State) : (emit b c v l a s).tree = s.tree := rfl
@[simp] theorem emitIf_tree (p : Bool) (b c v l a : Nat) (s : State) : (emitIf p b c v l a s).tree = s.tree := by cases p <;> rfl
@[simp] theorem faultOn_tree (x : FaultInfo) (s : State) : (faultOn x s).tree = s.tree := rfl
@[simp] theorem emitAll_twin (es : List EventRec) (s : State) : (emitAll es s).twin = s.twin := rfl
@[simp] theorem emit_twin (b c v l a : Nat) (s : State) : (emit b c v l a s).twin = s.twin := rfl
@[simp] theorem emitIf_twin (p : Bool) (b c v l a : Nat) (s : State) : (emitIf p b c v l a s).twin = s.twin := by cases p <;> rfl
@[simp] theorem faultOn_twin (x : FaultInfo) (s : State) : (faultOn x s).twin = s.twin := rfl
@[simp] theorem emitAll_island (es : List EventRec) (s : State) : (emitAll es s).island = s.island := rfl
@[simp] theorem emit_island (b c v l a : Nat) (s : State) : (emit b c v l a s).island = s.island := rfl
@[simp] theorem emitIf_island (p : Bool) (b c v l a : Nat) (s : State) : (emitIf p b c v l a s).island = s.island := by cases p <;> rfl
@[simp] theorem faultOn_island (x : FaultInfo) (s : State) : (faultOn x s).island = s.island := rfl
@[simp] theorem emitAll_cals (es : List EventRec) (s : State) : (emitAll es s).cals = s.cals := rfl
@[simp] theorem emit_cals (b c v l a : Nat) (s : State) : (emit b c v l a s).cals = s.cals := rfl
@[simp] theorem emitIf_cals (p : Bool) (b c v l a : Nat) (s : State) : (emitIf p b c v l a s).cals = s.cals := by cases p <;> rfl
@[simp] theorem faultOn_cals (x : FaultInfo) (s : State) : (faultOn x s).cals = s.cals := rfl
@[simp] theorem emitAll_geode (es : List EventRec) (s : State) : (emitAll es s).geode = s.geode := rfl
@[simp] theorem emit_geode (b c v l a : Nat) (s : State) : (emit b c v l a s).geode = s.geode := rfl
@[simp] theorem emitIf_geode (p : Bool) (b c v l a : Nat) (s : State) : (emitIf p b c v l a s).geode = s.geode := by cases p <;> rfl
@[simp] theorem faultOn_geode (x : FaultInfo) (s : State) : (faultOn x s).geode = s.geode := rfl
@[simp] theorem emitAll_store (es : List EventRec) (s : State) : (emitAll es s).store = s.store := rfl
@[simp] theorem emit_store (b c v l a : Nat) (s : State) : (emit b c v l a s).store = s.store := rfl
@[simp] theorem emitIf_store (p : Bool) (b c v l a : Nat) (s : State) : (emitIf p b c v l a s).store = s.store := by cases p <;> rfl
@[simp] theorem faultOn_store (x : FaultInfo) (s : State) : (faultOn x s).store = s.store := rfl
@[simp] theorem emitAll_power (es : List EventRec) (s : State) : (emitAll es s).power = s.power := rfl
@[simp] theorem emit_power (b c v l a : Nat) (s : State) : (emit b c v l a s).power = s.power := rfl
@[simp] theorem emitIf_power (p : Bool) (b c v l a : Nat) (s : State) : (emitIf p b c v l a s).power = s.power := by cases p <;> rfl
@[simp] theorem faultOn_power (x : FaultInfo) (s : State) : (faultOn x s).power = s.power := rfl
@[simp] theorem memArrive_dram (s : State) : (memArrive s).dram = s.dram := by simp only [memArrive]; split <;> rfl
@[simp] theorem memArrive_host (s : State) : (memArrive s).host = s.host := by simp only [memArrive]; split <;> rfl
@[simp] theorem memArrive_padMem (s : State) : (memArrive s).padMem = s.padMem := by simp only [memArrive]; split <;> rfl
@[simp] theorem memArrive_pilMem (s : State) : (memArrive s).pilMem = s.pilMem := by simp only [memArrive]; split <;> rfl
@[simp] theorem memArrive_store (s : State) : (memArrive s).store = s.store := by simp only [memArrive]; split <;> rfl

/-! ### The memories -/

/-- A store at a target keeps every memory's canonical form. -/
theorem storeAt_wf (g : Target) (bs : List Byte) (s : State) (h : MemoriesWf s) : MemoriesWf (storeAt g bs s) := by
  obtain ⟨h1, h2, h3, h4, h5⟩ := h
  unfold storeAt storeDev
  split
  · exact ⟨h1, wf_writeMem _ _ _ h2, h3, h4, h5⟩
  · refine ⟨wf_writeMem _ _ _ ?_, ?_, ?_, ?_, ?_⟩ <;> simpa only [memArrive_dram, memArrive_host, memArrive_padMem, memArrive_pilMem, memArrive_store]

/-- The passing of time keeps every memory. -/
theorem passTime_wf (dt : Nat) (s : State) (h : MemoriesWf s) : MemoriesWf (passTime dt s) := by
  simpa only [MemoriesWf, passTime_dram, passTime_host, passTime_padMem, passTime_pilMem, passTime_store] using h

/-- A register write keeps every memory. -/
theorem wr_wf (r : Nat) (v : Word) (s : State) (h : MemoriesWf s) : MemoriesWf (s.wr r v) := h

end Sys2Proof.Machine
end

