-- ==== Sys2Proof/Laws/PerInstr.lean ====
section
/-! SUPPORT. Laws/PerInstr.lean: the words of the instructions have 32 bits, one lemma for each command. -/

namespace Sys2Proof.Laws

/-- The word of a command, where it has one, has 32 bits (R311). -/
def Word32.Statement (i : Instr) : Prop := ∀ w, encodeW i = some w → w < 2 ^ 32

theorem Word32.illegalInstruction (b : Fin 128) (t : Fin 4) (w : BitVec 32) (finding : Fin 5) (off : BitVec 17) : Word32.Statement (.illegalInstruction b t w finding off) := by intro _ h_; exact nomatch h_
theorem Word32.wAdd (b : Fin 128) (t : Fin 4) (d : Fin 64) (a : Fin 64) (c : Fin 64) : Word32.Statement (.wAdd b t d a c) := by
  intro w_ h_; obtain rfl := Option.some.inj h_; simp only [wR]; omega
theorem Word32.wSub (b : Fin 128) (t : Fin 4) (d : Fin 64) (a : Fin 64) (c : Fin 64) : Word32.Statement (.wSub b t d a c) := by
  intro w_ h_; obtain rfl := Option.some.inj h_; simp only [wR]; omega
theorem Word32.wAnd (b : Fin 128) (t : Fin 4) (d : Fin 64) (a : Fin 64) (c : Fin 64) : Word32.Statement (.wAnd b t d a c) := by
  intro w_ h_; obtain rfl := Option.some.inj h_; simp only [wR]; omega
theorem Word32.wOr (b : Fin 128) (t : Fin 4) (d : Fin 64) (a : Fin 64) (c : Fin 64) : Word32.Statement (.wOr b t d a c) := by
  intro w_ h_; obtain rfl := Option.some.inj h_; simp only [wR]; omega
theorem Word32.wXor (b : Fin 128) (t : Fin 4) (d : Fin 64) (a : Fin 64) (c : Fin 64) : Word32.Statement (.wXor b t d a c) := by
  intro w_ h_; obtain rfl := Option.some.inj h_; simp only [wR]; omega
theorem Word32.wAndn (b : Fin 128) (t : Fin 4) (d : Fin 64) (a : Fin 64) (c : Fin 64) : Word32.Statement (.wAndn b t d a c) := by
  intro w_ h_; obtain rfl := Option.some.inj h_; simp only [wR]; omega
theorem Word32.wShl (b : Fin 128) (t : Fin 4) (d : Fin 64) (a : Fin 64) (c : Fin 64) : Word32.Statement (.wShl b t d a c) := by
  intro w_ h_; obtain rfl := Option.some.inj h_; simp only [wR]; omega
theorem Word32.wShr (b : Fin 128) (t : Fin 4) (d : Fin 64) (a : Fin 64) (c : Fin 64) : Word32.Statement (.wShr b t d a c) := by
  intro w_ h_; obtain rfl := Option.some.inj h_; simp only [wR]; omega
theorem Word32.wSar (b : Fin 128) (t : Fin 4) (d : Fin 64) (a : Fin 64) (c : Fin 64) : Word32.Statement (.wSar b t d a c) := by
  intro w_ h_; obtain rfl := Option.some.inj h_; simp only [wR]; omega
theorem Word32.wRor (b : Fin 128) (t : Fin 4) (d : Fin 64) (a : Fin 64) (c : Fin 64) : Word32.Statement (.wRor b t d a c) := by
  intro w_ h_; obtain rfl := Option.some.inj h_; simp only [wR]; omega
theorem Word32.wMin (b : Fin 128) (t : Fin 4) (d : Fin 64) (a : Fin 64) (c : Fin 64) : Word32.Statement (.wMin b t d a c) := by
  intro w_ h_; obtain rfl := Option.some.inj h_; simp only [wR]; omega
theorem Word32.wMax (b : Fin 128) (t : Fin 4) (d : Fin 64) (a : Fin 64) (c : Fin 64) : Word32.Statement (.wMax b t d a c) := by
  intro w_ h_; obtain rfl := Option.some.inj h_; simp only [wR]; omega
theorem Word32.wMinu (b : Fin 128) (t : Fin 4) (d : Fin 64) (a : Fin 64) (c : Fin 64) : Word32.Statement (.wMinu b t d a c) := by
  intro w_ h_; obtain rfl := Option.some.inj h_; simp only [wR]; omega
theorem Word32.wMaxu (b : Fin 128) (t : Fin 4) (d : Fin 64) (a : Fin 64) (c : Fin 64) : Word32.Statement (.wMaxu b t d a c) := by
  intro w_ h_; obtain rfl := Option.some.inj h_; simp only [wR]; omega
theorem Word32.wClz (b : Fin 128) (t : Fin 4) (d : Fin 64) (a : Fin 64) : Word32.Statement (.wClz b t d a) := by
  intro w_ h_; obtain rfl := Option.some.inj h_; simp only [wR]; omega
theorem Word32.wPopc (b : Fin 128) (t : Fin 4) (d : Fin 64) (a : Fin 64) : Word32.Statement (.wPopc b t d a) := by
  intro w_ h_; obtain rfl := Option.some.inj h_; simp only [wR]; omega
theorem Word32.wBrev (b : Fin 128) (t : Fin 4) (d : Fin 64) (a : Fin 64) : Word32.Statement (.wBrev b t d a) := by
  intro w_ h_; obtain rfl := Option.some.inj h_; simp only [wR]; omega
theorem Word32.wBswap (b : Fin 128) (t : Fin 4) (d : Fin 64) (a : Fin 64) : Word32.Statement (.wBswap b t d a) := by
  intro w_ h_; obtain rfl := Option.some.inj h_; simp only [wR]; omega
theorem Word32.wSelp (b : Fin 128) (t : Fin 4) (d : Fin 64) (a : Fin 64) (c : Fin 64) (k : Fin 8) : Word32.Statement (.wSelp b t d a c k) := by
  intro w_ h_; obtain rfl := Option.some.inj h_; simp only [wR]; omega
theorem Word32.wAddi (b : Fin 128) (t : Fin 4) (d : Fin 64) (a : Fin 64) (i : BitVec 10) : Word32.Statement (.wAddi b t d a i) := by
  intro w_ h_; obtain rfl := Option.some.inj h_; simp only [wR]; omega
theorem Word32.wAndi (b : Fin 128) (t : Fin 4) (d : Fin 64) (a : Fin 64) (i : BitVec 10) : Word32.Statement (.wAndi b t d a i) := by
  intro w_ h_; obtain rfl := Option.some.inj h_; simp only [wR]; omega
theorem Word32.wOri (b : Fin 128) (t : Fin 4) (d : Fin 64) (a : Fin 64) (i : BitVec 10) : Word32.Statement (.wOri b t d a i) := by
  intro w_ h_; obtain rfl := Option.some.inj h_; simp only [wR]; omega
theorem Word32.wXori (b : Fin 128) (t : Fin 4) (d : Fin 64) (a : Fin 64) (i : BitVec 10) : Word32.Statement (.wXori b t d a i) := by
  intro w_ h_; obtain rfl := Option.some.inj h_; simp only [wR]; omega
theorem Word32.wShli (b : Fin 128) (t : Fin 4) (d : Fin 64) (a : Fin 64) (i : BitVec 10) : Word32.Statement (.wShli b t d a i) := by
  intro w_ h_; obtain rfl := Option.some.inj h_; simp only [wR]; omega
theorem Word32.wShri (b : Fin 128) (t : Fin 4) (d : Fin 64) (a : Fin 64) (i : BitVec 10) : Word32.Statement (.wShri b t d a i) := by
  intro w_ h_; obtain rfl := Option.some.inj h_; simp only [wR]; omega
theorem Word32.wSari (b : Fin 128) (t : Fin 4) (d : Fin 64) (a : Fin 64) (i : BitVec 10) : Word32.Statement (.wSari b t d a i) := by
  intro w_ h_; obtain rfl := Option.some.inj h_; simp only [wR]; omega
theorem Word32.wRori (b : Fin 128) (t : Fin 4) (d : Fin 64) (a : Fin 64) (i : BitVec 10) : Word32.Statement (.wRori b t d a i) := by
  intro w_ h_; obtain rfl := Option.some.inj h_; simp only [wR]; omega
theorem Word32.wMini (b : Fin 128) (t : Fin 4) (d : Fin 64) (a : Fin 64) (i : BitVec 10) : Word32.Statement (.wMini b t d a i) := by
  intro w_ h_; obtain rfl := Option.some.inj h_; simp only [wR]; omega
theorem Word32.wMaxi (b : Fin 128) (t : Fin 4) (d : Fin 64) (a : Fin 64) (i : BitVec 10) : Word32.Statement (.wMaxi b t d a i) := by
  intro w_ h_; obtain rfl := Option.some.inj h_; simp only [wR]; omega
theorem Word32.wConstSet (b : Fin 128) (t : Fin 4) (d : Fin 64) (k : Fin 4) (v : BitVec 16) : Word32.Statement (.wConstSet b t d k v) := by
  intro w_ h_; obtain rfl := Option.some.inj h_; simp only [wR]; omega
theorem Word32.wConstIns (b : Fin 128) (t : Fin 4) (d : Fin 64) (k : Fin 4) (v : BitVec 16) : Word32.Statement (.wConstIns b t d k v) := by
  intro w_ h_; obtain rfl := Option.some.inj h_; simp only [wR]; omega
theorem Word32.wConstSets (b : Fin 128) (t : Fin 4) (d : Fin 64) (k : Fin 4) (v : BitVec 16) : Word32.Statement (.wConstSets b t d k v) := by
  intro w_ h_; obtain rfl := Option.some.inj h_; simp only [wR]; omega
theorem Word32.wMul (b : Fin 128) (t : Fin 4) (d : Fin 64) (a : Fin 64) (c : Fin 64) : Word32.Statement (.wMul b t d a c) := by
  intro w_ h_; obtain rfl := Option.some.inj h_; simp only [wR]; omega
theorem Word32.wMulh (b : Fin 128) (t : Fin 4) (d : Fin 64) (a : Fin 64) (c : Fin 64) : Word32.Statement (.wMulh b t d a c) := by
  intro w_ h_; obtain rfl := Option.some.inj h_; simp only [wR]; omega
theorem Word32.wMulhu (b : Fin 128) (t : Fin 4) (d : Fin 64) (a : Fin 64) (c : Fin 64) : Word32.Statement (.wMulhu b t d a c) := by
  intro w_ h_; obtain rfl := Option.some.inj h_; simp only [wR]; omega
theorem Word32.wDiv (b : Fin 128) (t : Fin 4) (d : Fin 64) (a : Fin 64) (c : Fin 64) : Word32.Statement (.wDiv b t d a c) := by
  intro w_ h_; obtain rfl := Option.some.inj h_; simp only [wR]; omega
theorem Word32.wDivu (b : Fin 128) (t : Fin 4) (d : Fin 64) (a : Fin 64) (c : Fin 64) : Word32.Statement (.wDivu b t d a c) := by
  intro w_ h_; obtain rfl := Option.some.inj h_; simp only [wR]; omega
theorem Word32.wRem (b : Fin 128) (t : Fin 4) (d : Fin 64) (a : Fin 64) (c : Fin 64) : Word32.Statement (.wRem b t d a c) := by
  intro w_ h_; obtain rfl := Option.some.inj h_; simp only [wR]; omega
theorem Word32.wRemu (b : Fin 128) (t : Fin 4) (d : Fin 64) (a : Fin 64) (c : Fin 64) : Word32.Statement (.wRemu b t d a c) := by
  intro w_ h_; obtain rfl := Option.some.inj h_; simp only [wR]; omega
theorem Word32.wMulq (b : Fin 128) (t : Fin 4) (d : Fin 64) (a : Fin 64) (c : Fin 64) : Word32.Statement (.wMulq b t d a c) := by
  intro w_ h_; obtain rfl := Option.some.inj h_; simp only [wR]; omega
theorem Word32.wFadd (b : Fin 128) (t : Fin 4) (d : Fin 64) (a : Fin 64) (c : Fin 64) : Word32.Statement (.wFadd b t d a c) := by
  intro w_ h_; obtain rfl := Option.some.inj h_; simp only [wR]; omega
theorem Word32.wFsub (b : Fin 128) (t : Fin 4) (d : Fin 64) (a : Fin 64) (c : Fin 64) : Word32.Statement (.wFsub b t d a c) := by
  intro w_ h_; obtain rfl := Option.some.inj h_; simp only [wR]; omega
theorem Word32.wFmul (b : Fin 128) (t : Fin 4) (d : Fin 64) (a : Fin 64) (c : Fin 64) : Word32.Statement (.wFmul b t d a c) := by
  intro w_ h_; obtain rfl := Option.some.inj h_; simp only [wR]; omega
theorem Word32.wFdiv (b : Fin 128) (t : Fin 4) (d : Fin 64) (a : Fin 64) (c : Fin 64) : Word32.Statement (.wFdiv b t d a c) := by
  intro w_ h_; obtain rfl := Option.some.inj h_; simp only [wR]; omega
theorem Word32.wFsqrt (b : Fin 128) (t : Fin 4) (d : Fin 64) (a : Fin 64) : Word32.Statement (.wFsqrt b t d a) := by
  intro w_ h_; obtain rfl := Option.some.inj h_; simp only [wR]; omega
theorem Word32.wFma (b : Fin 128) (t : Fin 4) (d : Fin 64) (a : Fin 64) (c : Fin 64) : Word32.Statement (.wFma b t d a c) := by
  intro w_ h_; obtain rfl := Option.some.inj h_; simp only [wR]; omega
theorem Word32.wFmin (b : Fin 128) (t : Fin 4) (d : Fin 64) (a : Fin 64) (c : Fin 64) : Word32.Statement (.wFmin b t d a c) := by
  intro w_ h_; obtain rfl := Option.some.inj h_; simp only [wR]; omega
theorem Word32.wFmax (b : Fin 128) (t : Fin 4) (d : Fin 64) (a : Fin 64) (c : Fin 64) : Word32.Statement (.wFmax b t d a c) := by
  intro w_ h_; obtain rfl := Option.some.inj h_; simp only [wR]; omega
theorem Word32.wFabs (b : Fin 128) (t : Fin 4) (d : Fin 64) (a : Fin 64) : Word32.Statement (.wFabs b t d a) := by
  intro w_ h_; obtain rfl := Option.some.inj h_; simp only [wR]; omega
theorem Word32.wFneg (b : Fin 128) (t : Fin 4) (d : Fin 64) (a : Fin 64) : Word32.Statement (.wFneg b t d a) := by
  intro w_ h_; obtain rfl := Option.some.inj h_; simp only [wR]; omega
theorem Word32.wFcvtfi (b : Fin 128) (t : Fin 4) (d : Fin 64) (a : Fin 64) : Word32.Statement (.wFcvtfi b t d a) := by
  intro w_ h_; obtain rfl := Option.some.inj h_; simp only [wR]; omega
theorem Word32.wFcvtif (b : Fin 128) (t : Fin 4) (d : Fin 64) (a : Fin 64) : Word32.Statement (.wFcvtif b t d a) := by
  intro w_ h_; obtain rfl := Option.some.inj h_; simp only [wR]; omega
theorem Word32.wFcvtfq (b : Fin 128) (t : Fin 4) (d : Fin 64) (a : Fin 64) : Word32.Statement (.wFcvtfq b t d a) := by
  intro w_ h_; obtain rfl := Option.some.inj h_; simp only [wR]; omega
theorem Word32.wFcvtqf (b : Fin 128) (t : Fin 4) (d : Fin 64) (a : Fin 64) : Word32.Statement (.wFcvtqf b t d a) := by
  intro w_ h_; obtain rfl := Option.some.inj h_; simp only [wR]; omega
theorem Word32.wEq (b : Fin 128) (t : Fin 4) (d : Fin 8) (a : Fin 64) (c : Fin 64) : Word32.Statement (.wEq b t d a c) := by
  intro w_ h_; obtain rfl := Option.some.inj h_; simp only [wR]; omega
theorem Word32.wNe (b : Fin 128) (t : Fin 4) (d : Fin 8) (a : Fin 64) (c : Fin 64) : Word32.Statement (.wNe b t d a c) := by
  intro w_ h_; obtain rfl := Option.some.inj h_; simp only [wR]; omega
theorem Word32.wLt (b : Fin 128) (t : Fin 4) (d : Fin 8) (a : Fin 64) (c : Fin 64) : Word32.Statement (.wLt b t d a c) := by
  intro w_ h_; obtain rfl := Option.some.inj h_; simp only [wR]; omega
theorem Word32.wGe (b : Fin 128) (t : Fin 4) (d : Fin 8) (a : Fin 64) (c : Fin 64) : Word32.Statement (.wGe b t d a c) := by
  intro w_ h_; obtain rfl := Option.some.inj h_; simp only [wR]; omega
theorem Word32.wLtu (b : Fin 128) (t : Fin 4) (d : Fin 8) (a : Fin 64) (c : Fin 64) : Word32.Statement (.wLtu b t d a c) := by
  intro w_ h_; obtain rfl := Option.some.inj h_; simp only [wR]; omega
theorem Word32.wGeu (b : Fin 128) (t : Fin 4) (d : Fin 8) (a : Fin 64) (c : Fin 64) : Word32.Statement (.wGeu b t d a c) := by
  intro w_ h_; obtain rfl := Option.some.inj h_; simp only [wR]; omega
theorem Word32.wFeq (b : Fin 128) (t : Fin 4) (d : Fin 8) (a : Fin 64) (c : Fin 64) : Word32.Statement (.wFeq b t d a c) := by
  intro w_ h_; obtain rfl := Option.some.inj h_; simp only [wR]; omega
theorem Word32.wFlt (b : Fin 128) (t : Fin 4) (d : Fin 8) (a : Fin 64) (c : Fin 64) : Word32.Statement (.wFlt b t d a c) := by
  intro w_ h_; obtain rfl := Option.some.inj h_; simp only [wR]; omega
theorem Word32.wFle (b : Fin 128) (t : Fin 4) (d : Fin 8) (a : Fin 64) (c : Fin 64) : Word32.Statement (.wFle b t d a c) := by
  intro w_ h_; obtain rfl := Option.some.inj h_; simp only [wR]; omega
theorem Word32.wPand (b : Fin 128) (t : Fin 4) (d : Fin 8) (a : Fin 8) (c : Fin 8) : Word32.Statement (.wPand b t d a c) := by
  intro w_ h_; obtain rfl := Option.some.inj h_; simp only [wR]; omega
theorem Word32.wPor (b : Fin 128) (t : Fin 4) (d : Fin 8) (a : Fin 8) (c : Fin 8) : Word32.Statement (.wPor b t d a c) := by
  intro w_ h_; obtain rfl := Option.some.inj h_; simp only [wR]; omega
theorem Word32.wPxor (b : Fin 128) (t : Fin 4) (d : Fin 8) (a : Fin 8) (c : Fin 8) : Word32.Statement (.wPxor b t d a c) := by
  intro w_ h_; obtain rfl := Option.some.inj h_; simp only [wR]; omega
theorem Word32.wPnot (b : Fin 128) (t : Fin 4) (d : Fin 8) (a : Fin 8) : Word32.Statement (.wPnot b t d a) := by
  intro w_ h_; obtain rfl := Option.some.inj h_; simp only [wR]; omega
theorem Word32.wB (b : Fin 128) (t : Fin 4) (k : Fin 8) (n : Bool) (o : BitVec 22) : Word32.Statement (.wB b t k n o) := by
  intro w_ h_; obtain rfl := Option.some.inj h_; simp only [wR]; have hn_ : nb n ≤ 1 := (by unfold nb; split <;> decide); omega
theorem Word32.wCall (b : Fin 128) (t : Fin 4) (k : Fin 8) (n : Bool) (o : BitVec 22) : Word32.Statement (.wCall b t k n o) := by
  intro w_ h_; obtain rfl := Option.some.inj h_; simp only [wR]; have hn_ : nb n ≤ 1 := (by unfold nb; split <;> decide); omega
theorem Word32.wJr (b : Fin 128) (t : Fin 4) (k : Fin 8) (n : Bool) (a : Fin 64) : Word32.Statement (.wJr b t k n a) := by
  intro w_ h_; obtain rfl := Option.some.inj h_; simp only [wR]; have hn_ : nb n ≤ 1 := (by unfold nb; split <;> decide); omega
theorem Word32.wJalr (b : Fin 128) (t : Fin 4) (k : Fin 8) (n : Bool) (a : Fin 64) : Word32.Statement (.wJalr b t k n a) := by
  intro w_ h_; obtain rfl := Option.some.inj h_; simp only [wR]; have hn_ : nb n ≤ 1 := (by unfold nb; split <;> decide); omega
theorem Word32.wLb (b : Fin 128) (t : Fin 4) (d : Fin 64) (a : Fin 64) (o : BitVec 12) (x : Fin 5) : Word32.Statement (.wLb b t d a o x) := by
  intro w_ h_; obtain rfl := Option.some.inj h_; simp only [wR]; omega
theorem Word32.wLbu (b : Fin 128) (t : Fin 4) (d : Fin 64) (a : Fin 64) (o : BitVec 12) (x : Fin 5) : Word32.Statement (.wLbu b t d a o x) := by
  intro w_ h_; obtain rfl := Option.some.inj h_; simp only [wR]; omega
theorem Word32.wLh (b : Fin 128) (t : Fin 4) (d : Fin 64) (a : Fin 64) (o : BitVec 12) (x : Fin 5) : Word32.Statement (.wLh b t d a o x) := by
  intro w_ h_; obtain rfl := Option.some.inj h_; simp only [wR]; omega
theorem Word32.wLhu (b : Fin 128) (t : Fin 4) (d : Fin 64) (a : Fin 64) (o : BitVec 12) (x : Fin 5) : Word32.Statement (.wLhu b t d a o x) := by
  intro w_ h_; obtain rfl := Option.some.inj h_; simp only [wR]; omega
theorem Word32.wLw (b : Fin 128) (t : Fin 4) (d : Fin 64) (a : Fin 64) (o : BitVec 12) (x : Fin 5) : Word32.Statement (.wLw b t d a o x) := by
  intro w_ h_; obtain rfl := Option.some.inj h_; simp only [wR]; omega
theorem Word32.wLwu (b : Fin 128) (t : Fin 4) (d : Fin 64) (a : Fin 64) (o : BitVec 12) (x : Fin 5) : Word32.Statement (.wLwu b t d a o x) := by
  intro w_ h_; obtain rfl := Option.some.inj h_; simp only [wR]; omega
theorem Word32.wLd (b : Fin 128) (t : Fin 4) (d : Fin 64) (a : Fin 64) (o : BitVec 12) (x : Fin 5) : Word32.Statement (.wLd b t d a o x) := by
  intro w_ h_; obtain rfl := Option.some.inj h_; simp only [wR]; omega
theorem Word32.wLda (b : Fin 128) (t : Fin 4) (d : Fin 64) (a : Fin 64) (o : BitVec 12) (x : Fin 5) : Word32.Statement (.wLda b t d a o x) := by
  intro w_ h_; obtain rfl := Option.some.inj h_; simp only [wR]; omega
theorem Word32.wLwa (b : Fin 128) (t : Fin 4) (d : Fin 64) (a : Fin 64) (o : BitVec 12) (x : Fin 5) : Word32.Statement (.wLwa b t d a o x) := by
  intro w_ h_; obtain rfl := Option.some.inj h_; simp only [wR]; omega
theorem Word32.wSb (b : Fin 128) (t : Fin 4) (d : Fin 64) (a : Fin 64) (o : BitVec 12) : Word32.Statement (.wSb b t d a o) := by
  intro w_ h_; obtain rfl := Option.some.inj h_; simp only [wR]; omega
theorem Word32.wSh (b : Fin 128) (t : Fin 4) (d : Fin 64) (a : Fin 64) (o : BitVec 12) : Word32.Statement (.wSh b t d a o) := by
  intro w_ h_; obtain rfl := Option.some.inj h_; simp only [wR]; omega
theorem Word32.wSw (b : Fin 128) (t : Fin 4) (d : Fin 64) (a : Fin 64) (o : BitVec 12) : Word32.Statement (.wSw b t d a o) := by
  intro w_ h_; obtain rfl := Option.some.inj h_; simp only [wR]; omega
theorem Word32.wSd (b : Fin 128) (t : Fin 4) (d : Fin 64) (a : Fin 64) (o : BitVec 12) : Word32.Statement (.wSd b t d a o) := by
  intro w_ h_; obtain rfl := Option.some.inj h_; simp only [wR]; omega
theorem Word32.wSwr (b : Fin 128) (t : Fin 4) (d : Fin 64) (a : Fin 64) (o : BitVec 12) : Word32.Statement (.wSwr b t d a o) := by
  intro w_ h_; obtain rfl := Option.some.inj h_; simp only [wR]; omega
theorem Word32.wSdr (b : Fin 128) (t : Fin 4) (d : Fin 64) (a : Fin 64) (o : BitVec 12) : Word32.Statement (.wSdr b t d a o) := by
  intro w_ h_; obtain rfl := Option.some.inj h_; simp only [wR]; omega
theorem Word32.wSwap (b : Fin 128) (t : Fin 4) (d : Fin 64) (a : Fin 64) (c : Fin 64) (x : Fin 5) : Word32.Statement (.wSwap b t d a c x) := by
  intro w_ h_; obtain rfl := Option.some.inj h_; simp only [wR]; omega
theorem Word32.wAadd (b : Fin 128) (t : Fin 4) (d : Fin 64) (a : Fin 64) (c : Fin 64) (x : Fin 5) : Word32.Statement (.wAadd b t d a c x) := by
  intro w_ h_; obtain rfl := Option.some.inj h_; simp only [wR]; omega
theorem Word32.wAand (b : Fin 128) (t : Fin 4) (d : Fin 64) (a : Fin 64) (c : Fin 64) (x : Fin 5) : Word32.Statement (.wAand b t d a c x) := by
  intro w_ h_; obtain rfl := Option.some.inj h_; simp only [wR]; omega
theorem Word32.wAor (b : Fin 128) (t : Fin 4) (d : Fin 64) (a : Fin 64) (c : Fin 64) (x : Fin 5) : Word32.Statement (.wAor b t d a c x) := by
  intro w_ h_; obtain rfl := Option.some.inj h_; simp only [wR]; omega
theorem Word32.wAmaxu (b : Fin 128) (t : Fin 4) (d : Fin 64) (a : Fin 64) (c : Fin 64) (x : Fin 5) : Word32.Statement (.wAmaxu b t d a c x) := by
  intro w_ h_; obtain rfl := Option.some.inj h_; simp only [wR]; omega
theorem Word32.wCas (b : Fin 128) (t : Fin 4) (d : Fin 64) (a : Fin 64) (c : Fin 64) (x : Fin 5) : Word32.Statement (.wCas b t d a c x) := by
  intro w_ h_; obtain rfl := Option.some.inj h_; simp only [wR]; omega
theorem Word32.wAaddw (b : Fin 128) (t : Fin 4) (d : Fin 64) (a : Fin 64) (c : Fin 64) (x : Fin 5) : Word32.Statement (.wAaddw b t d a c x) := by
  intro w_ h_; obtain rfl := Option.some.inj h_; simp only [wR]; omega
theorem Word32.wCasw (b : Fin 128) (t : Fin 4) (d : Fin 64) (a : Fin 64) (c : Fin 64) (x : Fin 5) : Word32.Statement (.wCasw b t d a c x) := by
  intro w_ h_; obtain rfl := Option.some.inj h_; simp only [wR]; omega
theorem Word32.wFenceR (b : Fin 128) (t : Fin 4) : Word32.Statement (.wFenceR b t) := by
  intro w_ h_; obtain rfl := Option.some.inj h_; simp only [wR]; omega
theorem Word32.wFenceW (b : Fin 128) (t : Fin 4) : Word32.Statement (.wFenceW b t) := by
  intro w_ h_; obtain rfl := Option.some.inj h_; simp only [wR]; omega
theorem Word32.wFenceRw (b : Fin 128) (t : Fin 4) : Word32.Statement (.wFenceRw b t) := by
  intro w_ h_; obtain rfl := Option.some.inj h_; simp only [wR]; omega
theorem Word32.wFenceIo (b : Fin 128) (t : Fin 4) : Word32.Statement (.wFenceIo b t) := by
  intro w_ h_; obtain rfl := Option.some.inj h_; simp only [wR]; omega
theorem Word32.wFenceI (b : Fin 128) (t : Fin 4) : Word32.Statement (.wFenceI b t) := by
  intro w_ h_; obtain rfl := Option.some.inj h_; simp only [wR]; omega
theorem Word32.wVadd (b : Fin 128) (t : Fin 4) (w : Fin 4) (d : Fin 16) (a : Fin 16) (c : Fin 16) : Word32.Statement (.wVadd b t w d a c) := by
  intro w_ h_; obtain rfl := Option.some.inj h_; simp only [wR]; omega
theorem Word32.wVsub (b : Fin 128) (t : Fin 4) (w : Fin 4) (d : Fin 16) (a : Fin 16) (c : Fin 16) : Word32.Statement (.wVsub b t w d a c) := by
  intro w_ h_; obtain rfl := Option.some.inj h_; simp only [wR]; omega
theorem Word32.wVand (b : Fin 128) (t : Fin 4) (w : Fin 4) (d : Fin 16) (a : Fin 16) (c : Fin 16) : Word32.Statement (.wVand b t w d a c) := by
  intro w_ h_; obtain rfl := Option.some.inj h_; simp only [wR]; omega
theorem Word32.wVor (b : Fin 128) (t : Fin 4) (w : Fin 4) (d : Fin 16) (a : Fin 16) (c : Fin 16) : Word32.Statement (.wVor b t w d a c) := by
  intro w_ h_; obtain rfl := Option.some.inj h_; simp only [wR]; omega
theorem Word32.wVxor (b : Fin 128) (t : Fin 4) (w : Fin 4) (d : Fin 16) (a : Fin 16) (c : Fin 16) : Word32.Statement (.wVxor b t w d a c) := by
  intro w_ h_; obtain rfl := Option.some.inj h_; simp only [wR]; omega
theorem Word32.wVminu (b : Fin 128) (t : Fin 4) (w : Fin 4) (d : Fin 16) (a : Fin 16) (c : Fin 16) : Word32.Statement (.wVminu b t w d a c) := by
  intro w_ h_; obtain rfl := Option.some.inj h_; simp only [wR]; omega
theorem Word32.wVmaxu (b : Fin 128) (t : Fin 4) (w : Fin 4) (d : Fin 16) (a : Fin 16) (c : Fin 16) : Word32.Statement (.wVmaxu b t w d a c) := by
  intro w_ h_; obtain rfl := Option.some.inj h_; simp only [wR]; omega
theorem Word32.wVmin (b : Fin 128) (t : Fin 4) (w : Fin 4) (d : Fin 16) (a : Fin 16) (c : Fin 16) : Word32.Statement (.wVmin b t w d a c) := by
  intro w_ h_; obtain rfl := Option.some.inj h_; simp only [wR]; omega
theorem Word32.wVmax (b : Fin 128) (t : Fin 4) (w : Fin 4) (d : Fin 16) (a : Fin 16) (c : Fin 16) : Word32.Statement (.wVmax b t w d a c) := by
  intro w_ h_; obtain rfl := Option.some.inj h_; simp only [wR]; omega
theorem Word32.wVmul (b : Fin 128) (t : Fin 4) (w : Fin 3) (d : Fin 16) (a : Fin 16) (c : Fin 16) : Word32.Statement (.wVmul b t w d a c) := by
  intro w_ h_; obtain rfl := Option.some.inj h_; simp only [wR]; omega
theorem Word32.wVshl (b : Fin 128) (t : Fin 4) (w : Fin 4) (d : Fin 16) (a : Fin 16) (c : Fin 16) : Word32.Statement (.wVshl b t w d a c) := by
  intro w_ h_; obtain rfl := Option.some.inj h_; simp only [wR]; omega
theorem Word32.wVshr (b : Fin 128) (t : Fin 4) (w : Fin 4) (d : Fin 16) (a : Fin 16) (c : Fin 16) : Word32.Statement (.wVshr b t w d a c) := by
  intro w_ h_; obtain rfl := Option.some.inj h_; simp only [wR]; omega
theorem Word32.wVaddus (b : Fin 128) (t : Fin 4) (w : Fin 2) (d : Fin 16) (a : Fin 16) (c : Fin 16) : Word32.Statement (.wVaddus b t w d a c) := by
  intro w_ h_; obtain rfl := Option.some.inj h_; simp only [wR]; omega
theorem Word32.wVcmpeq (b : Fin 128) (t : Fin 4) (w : Fin 4) (d : Fin 16) (a : Fin 16) (c : Fin 16) : Word32.Statement (.wVcmpeq b t w d a c) := by
  intro w_ h_; obtain rfl := Option.some.inj h_; simp only [wR]; omega
theorem Word32.wVcmplt (b : Fin 128) (t : Fin 4) (w : Fin 4) (d : Fin 16) (a : Fin 16) (c : Fin 16) : Word32.Statement (.wVcmplt b t w d a c) := by
  intro w_ h_; obtain rfl := Option.some.inj h_; simp only [wR]; omega
theorem Word32.wVsel (b : Fin 128) (t : Fin 4) (w : Fin 4) (d : Fin 16) (a : Fin 16) (c : Fin 16) : Word32.Statement (.wVsel b t w d a c) := by
  intro w_ h_; obtain rfl := Option.some.inj h_; simp only [wR]; omega
theorem Word32.wVfadd (b : Fin 128) (t : Fin 4) (d : Fin 16) (a : Fin 16) (c : Fin 16) : Word32.Statement (.wVfadd b t d a c) := by
  intro w_ h_; obtain rfl := Option.some.inj h_; simp only [wR]; omega
theorem Word32.wVfmul (b : Fin 128) (t : Fin 4) (d : Fin 16) (a : Fin 16) (c : Fin 16) : Word32.Statement (.wVfmul b t d a c) := by
  intro w_ h_; obtain rfl := Option.some.inj h_; simp only [wR]; omega
theorem Word32.wVfma (b : Fin 128) (t : Fin 4) (d : Fin 16) (a : Fin 16) (c : Fin 16) : Word32.Statement (.wVfma b t d a c) := by
  intro w_ h_; obtain rfl := Option.some.inj h_; simp only [wR]; omega
theorem Word32.wVsplat (b : Fin 128) (t : Fin 4) (w : Fin 4) (d : Fin 16) (a : Fin 64) : Word32.Statement (.wVsplat b t w d a) := by
  intro w_ h_; obtain rfl := Option.some.inj h_; simp only [wR]; omega
theorem Word32.wVext (b : Fin 128) (t : Fin 4) (w : Fin 4) (d : Fin 64) (a : Fin 16) (k : Fin 32) : Word32.Statement (.wVext b t w d a k) := by
  intro w_ h_; obtain rfl := Option.some.inj h_; simp only [wR]; omega
theorem Word32.wVins (b : Fin 128) (t : Fin 4) (w : Fin 4) (d : Fin 16) (a : Fin 64) (k : Fin 32) : Word32.Statement (.wVins b t w d a k) := by
  intro w_ h_; obtain rfl := Option.some.inj h_; simp only [wR]; omega
theorem Word32.wVredadd (b : Fin 128) (t : Fin 4) (w : Fin 4) (d : Fin 64) (a : Fin 16) : Word32.Statement (.wVredadd b t w d a) := by
  intro w_ h_; obtain rfl := Option.some.inj h_; simp only [wR]; omega
theorem Word32.wVperm (b : Fin 128) (t : Fin 4) (d : Fin 16) (a : Fin 16) (c : Fin 16) : Word32.Statement (.wVperm b t d a c) := by
  intro w_ h_; obtain rfl := Option.some.inj h_; simp only [wR]; omega
theorem Word32.wVtrans (b : Fin 128) (t : Fin 4) (d : Fin 16) (a : Fin 16) : Word32.Statement (.wVtrans b t d a) := by
  intro w_ h_; obtain rfl := Option.some.inj h_; simp only [wR]; omega
theorem Word32.wVld (b : Fin 128) (t : Fin 4) (v : Fin 16) (a : Fin 64) (o : BitVec 12) (x : Fin 5) : Word32.Statement (.wVld b t v a o x) := by
  intro w_ h_; obtain rfl := Option.some.inj h_; simp only [wR]; omega
theorem Word32.wVst (b : Fin 128) (t : Fin 4) (v : Fin 16) (a : Fin 64) (o : BitVec 12) : Word32.Statement (.wVst b t v a o) := by
  intro w_ h_; obtain rfl := Option.some.inj h_; simp only [wR]; omega
theorem Word32.wMove (b : Fin 128) (t : Fin 4) (l : Fin 64) (a : Fin 64) (e : Fin 64) : Word32.Statement (.wMove b t l a e) := by
  intro w_ h_; obtain rfl := Option.some.inj h_; simp only [wR]; omega
theorem Word32.moveDone (b : Fin 128) (t : Fin 4) (k : Fin 8) (dt : Nat) : Word32.Statement (.moveDone b t k dt) := by intro _ h_; exact nomatch h_
theorem Word32.wMwait (b : Fin 128) (t : Fin 4) (d : Fin 64) : Word32.Statement (.wMwait b t d) := by
  intro w_ h_; obtain rfl := Option.some.inj h_; simp only [wR]; omega
theorem Word32.wQpop (b : Fin 128) (t : Fin 4) (d : Fin 64) (a : Fin 64) : Word32.Statement (.wQpop b t d a) := by
  intro w_ h_; obtain rfl := Option.some.inj h_; simp only [wR]; omega
theorem Word32.wQwait (b : Fin 128) (t : Fin 4) (d : Fin 64) (a : Fin 64) : Word32.Statement (.wQwait b t d a) := by
  intro w_ h_; obtain rfl := Option.some.inj h_; simp only [wR]; omega
theorem Word32.qwaitWake (b : Fin 128) (t : Fin 4) : Word32.Statement (.qwaitWake b t) := by intro _ h_; exact nomatch h_
theorem Word32.wQprog (b : Fin 128) (t : Fin 4) (_d : Fin 64) (a : Fin 64) (c : Fin 64) : Word32.Statement (.wQprog b t _d a c) := by
  intro w_ h_; obtain rfl := Option.some.inj h_; simp only [wR]; omega
theorem Word32.wQdone (b : Fin 128) (t : Fin 4) (d : Fin 64) (a : Fin 64) (c : Fin 64) : Word32.Statement (.wQdone b t d a c) := by
  intro w_ h_; obtain rfl := Option.some.inj h_; simp only [wR]; omega
theorem Word32.wQchk (b : Fin 128) (t : Fin 4) (d : Fin 64) (a : Fin 64) : Word32.Statement (.wQchk b t d a) := by
  intro w_ h_; obtain rfl := Option.some.inj h_; simp only [wR]; omega
theorem Word32.wQpush (b : Fin 128) (t : Fin 4) (d : Fin 64) (a : Fin 64) (c : Fin 64) : Word32.Statement (.wQpush b t d a c) := by
  intro w_ h_; obtain rfl := Option.some.inj h_; simp only [wR]; omega
theorem Word32.wQevent (b : Fin 128) (t : Fin 4) (d : Fin 64) (a : Fin 64) (c : Fin 64) : Word32.Statement (.wQevent b t d a c) := by
  intro w_ h_; obtain rfl := Option.some.inj h_; simp only [wR]; omega
theorem Word32.wPhread (b : Fin 128) (t : Fin 4) (d : Fin 64) (a : Fin 64) : Word32.Statement (.wPhread b t d a) := by
  intro w_ h_; obtain rfl := Option.some.inj h_; simp only [wR]; omega
theorem Word32.wPhwait (b : Fin 128) (t : Fin 4) (d : Fin 64) (a : Fin 64) (c : Fin 64) : Word32.Statement (.wPhwait b t d a c) := by
  intro w_ h_; obtain rfl := Option.some.inj h_; simp only [wR]; omega
theorem Word32.phwaitWake (b : Fin 128) (t : Fin 4) (lag : Fin 101) : Word32.Statement (.phwaitWake b t lag) := by intro _ h_; exact nomatch h_
theorem Word32.wPinpost (b : Fin 128) (t : Fin 4) (_d : Fin 64) (a : Fin 64) (c : Fin 64) : Word32.Statement (.wPinpost b t _d a c) := by
  intro w_ h_; obtain rfl := Option.some.inj h_; simp only [wR]; omega
theorem Word32.wShowtime (b : Fin 128) (t : Fin 4) (d : Fin 64) : Word32.Statement (.wShowtime b t d) := by
  intro w_ h_; obtain rfl := Option.some.inj h_; simp only [wR]; omega
theorem Word32.wWaitev (b : Fin 128) (t : Fin 4) (d : Fin 64) (c : Fin 64) : Word32.Statement (.wWaitev b t d c) := by
  intro w_ h_; obtain rfl := Option.some.inj h_; simp only [wR]; omega
theorem Word32.waitevTimeout (b : Fin 128) (t : Fin 4) : Word32.Statement (.waitevTimeout b t) := by intro _ h_; exact nomatch h_
theorem Word32.wSignal (b : Fin 128) (t : Fin 4) (_d : Fin 64) (a : Fin 64) (c : Fin 64) : Word32.Statement (.wSignal b t _d a c) := by
  intro w_ h_; obtain rfl := Option.some.inj h_; simp only [wR]; omega
theorem Word32.wBarrier (b : Fin 128) (t : Fin 4) (_d : Fin 64) (a : Fin 64) (c : Fin 64) : Word32.Statement (.wBarrier b t _d a c) := by
  intro w_ h_; obtain rfl := Option.some.inj h_; simp only [wR]; omega
theorem Word32.wCsrr (b : Fin 128) (t : Fin 4) (d : Fin 64) (n : Fin 11) : Word32.Statement (.wCsrr b t d n) := by
  intro w_ h_; obtain rfl := Option.some.inj h_; simp only [wR]; omega
theorem Word32.wCsrw (b : Fin 128) (t : Fin 4) (d : Fin 64) (a : Fin 64) (n : Fin 11) : Word32.Statement (.wCsrw b t d a n) := by
  intro w_ h_; obtain rfl := Option.some.inj h_; simp only [wR]; omega
theorem Word32.wCsrs (b : Fin 128) (t : Fin 4) (d : Fin 64) (a : Fin 64) (n : Fin 11) : Word32.Statement (.wCsrs b t d a n) := by
  intro w_ h_; obtain rfl := Option.some.inj h_; simp only [wR]; omega
theorem Word32.wCsrc (b : Fin 128) (t : Fin 4) (d : Fin 64) (a : Fin 64) (n : Fin 11) : Word32.Statement (.wCsrc b t d a n) := by
  intro w_ h_; obtain rfl := Option.some.inj h_; simp only [wR]; omega
theorem Word32.wYield (b : Fin 128) (t : Fin 4) : Word32.Statement (.wYield b t) := by
  intro w_ h_; obtain rfl := Option.some.inj h_; simp only [wR]; omega
theorem Word32.wHalt (b : Fin 128) (t : Fin 4) : Word32.Statement (.wHalt b t) := by
  intro w_ h_; obtain rfl := Option.some.inj h_; simp only [wR]; omega
theorem Word32.wTrap (b : Fin 128) (t : Fin 4) (v : BitVec 12) : Word32.Statement (.wTrap b t v) := by
  intro w_ h_; obtain rfl := Option.some.inj h_; simp only [wR]; omega
theorem Word32.wBkpt (b : Fin 128) (t : Fin 4) : Word32.Statement (.wBkpt b t) := by
  intro w_ h_; obtain rfl := Option.some.inj h_; simp only [wR]; omega
theorem Word32.wTstart (b : Fin 128) (t : Fin 4) (a : Fin 64) (c : Fin 64) : Word32.Statement (.wTstart b t a c) := by
  intro w_ h_; obtain rfl := Option.some.inj h_; simp only [wR]; omega
theorem Word32.wTstop (b : Fin 128) (t : Fin 4) (a : Fin 64) : Word32.Statement (.wTstop b t a) := by
  intro w_ h_; obtain rfl := Option.some.inj h_; simp only [wR]; omega
theorem Word32.registerWrite (fn : Fin 64) (bar4 : Bool) (off : BitVec 26) (wide : Bool) (v : BitVec 64) : Word32.Statement (.registerWrite fn bar4 off wide v) := by intro _ h_; exact nomatch h_
theorem Word32.badWidthAccess (fn : Fin 64) (off : BitVec 26) (size : Fin 8) (write : Bool) : Word32.Statement (.badWidthAccess fn off size write) := by intro _ h_; exact nomatch h_
theorem Word32.lowerHalfWrite (fn : Fin 64) (off : BitVec 26) (v : BitVec 32) : Word32.Statement (.lowerHalfWrite fn off v) := by intro _ h_; exact nomatch h_
theorem Word32.upperHalfWrite (fn : Fin 64) (off : BitVec 26) (v : BitVec 32) : Word32.Statement (.upperHalfWrite fn off v) := by intro _ h_; exact nomatch h_
theorem Word32.lowerHalfRead (fn : Fin 64) (bar4 : Bool) (off : BitVec 26) (wide : Bool) : Word32.Statement (.lowerHalfRead fn bar4 off wide) := by intro _ h_; exact nomatch h_
theorem Word32.adaptValueWrite (a : AdaptPar) (v : BitVec 32) : Word32.Statement (.adaptValueWrite a v) := by intro _ h_; exact nomatch h_
theorem Word32.adaptRelease (a : AdaptPar) : Word32.Statement (.adaptRelease a) := by intro _ h_; exact nomatch h_
theorem Word32.adaptBoundsWrite (a : AdaptPar) (hi : Bool) (v : BitVec 32) : Word32.Statement (.adaptBoundsWrite a hi v) := by intro _ h_; exact nomatch h_
theorem Word32.bindingWrite (kind : Fin 5) (i : Fin 48) (tb : Fin 4) : Word32.Statement (.bindingWrite kind i tb) := by intro _ h_; exact nomatch h_
theorem Word32.bindingEffect (kind : Fin 5) (i : Fin 48) : Word32.Statement (.bindingEffect kind i) := by intro _ h_; exact nomatch h_
theorem Word32.cycleBoundary (n : Fin 4) : Word32.Statement (.cycleBoundary n) := by intro _ h_; exact nomatch h_
theorem Word32.tbEnable (n : Fin 4) : Word32.Statement (.tbEnable n) := by intro _ h_; exact nomatch h_
theorem Word32.tbDisable (n : Fin 4) : Word32.Statement (.tbDisable n) := by intro _ h_; exact nomatch h_
theorem Word32.tbStop (n : Fin 4) : Word32.Statement (.tbStop n) := by intro _ h_; exact nomatch h_
theorem Word32.incBaseWrite (n : Fin 4) (v : BitVec 64) : Word32.Statement (.incBaseWrite n v) := by intro _ h_; exact nomatch h_
theorem Word32.srcWrite (n : Fin 4) (v : BitVec 32) : Word32.Statement (.srcWrite n v) := by intro _ h_; exact nomatch h_
theorem Word32.phase0Reference (n : Fin 4) (dt : Nat) (q : Fin 4) (sample : BitVec 64) : Word32.Statement (.phase0Reference n dt q sample) := by intro _ h_; exact nomatch h_
theorem Word32.subcycleReference (n : Fin 4) (dt : Nat) (q : Fin 4) (pos : BitVec 32) : Word32.Statement (.subcycleReference n dt q pos) := by intro _ h_; exact nomatch h_
theorem Word32.referenceMissed (n : Fin 4) : Word32.Statement (.referenceMissed n) := by intro _ h_; exact nomatch h_
theorem Word32.cycleCountSet (n : Fin 4) : Word32.Statement (.cycleCountSet n) := by intro _ h_; exact nomatch h_
theorem Word32.cycleStep (n : Fin 4) : Word32.Statement (.cycleStep n) := by intro _ h_; exact nomatch h_
theorem Word32.cmdAlign (n : Fin 4) : Word32.Statement (.cmdAlign n) := by intro _ h_; exact nomatch h_
theorem Word32.alignment (n : Fin 4) (dt : Nat) (q : Fin 4) : Word32.Statement (.alignment n dt q) := by intro _ h_; exact nomatch h_
theorem Word32.armGo (n : Fin 4) (v : BitVec 32) : Word32.Statement (.armGo n v) := by intro _ h_; exact nomatch h_
theorem Word32.armValidationDone (n : Fin 4) (dt : Nat) : Word32.Statement (.armValidationDone n dt) := by intro _ h_; exact nomatch h_
theorem Word32.cancelArm (n : Fin 4) : Word32.Statement (.cancelArm n) := by intro _ h_; exact nomatch h_
theorem Word32.bankSwap (n : Fin 4) : Word32.Statement (.bankSwap n) := by intro _ h_; exact nomatch h_
theorem Word32.pinReadahead (n : Fin 4) (dt : Nat) (coming : Bool) (finding : Fin 5) : Word32.Statement (.pinReadahead n dt coming finding) := by intro _ h_; exact nomatch h_
theorem Word32.pinDispatch (n : Fin 4) : Word32.Statement (.pinDispatch n) := by intro _ h_; exact nomatch h_
theorem Word32.nop (n : Fin 4) : Word32.Statement (.nop n) := by intro _ h_; exact nomatch h_
theorem Word32.blockLoad (n : Fin 4) : Word32.Statement (.blockLoad n) := by intro _ h_; exact nomatch h_
theorem Word32.mirrorReset (n : Fin 4) : Word32.Statement (.mirrorReset n) := by intro _ h_; exact nomatch h_
theorem Word32.levelLo (n : Fin 4) : Word32.Statement (.levelLo n) := by intro _ h_; exact nomatch h_
theorem Word32.levelHi (n : Fin 4) : Word32.Statement (.levelHi n) := by intro _ h_; exact nomatch h_
theorem Word32.shunt (n : Fin 4) : Word32.Statement (.shunt n) := by intro _ h_; exact nomatch h_
theorem Word32.pdWindow (n : Fin 4) : Word32.Statement (.pdWindow n) := by intro _ h_; exact nomatch h_
theorem Word32.loopTrigger (n : Fin 4) : Word32.Statement (.loopTrigger n) := by intro _ h_; exact nomatch h_
theorem Word32.vbLatch (n : Fin 4) : Word32.Statement (.vbLatch n) := by intro _ h_; exact nomatch h_
theorem Word32.parkAtLatch (p : Fin 4) : Word32.Statement (.parkAtLatch p) := by intro _ h_; exact nomatch h_
theorem Word32.unparkAtLatch (p : Fin 4) : Word32.Statement (.unparkAtLatch p) := by intro _ h_; exact nomatch h_
theorem Word32.tripRelease (p : Fin 4) : Word32.Statement (.tripRelease p) := by intro _ h_; exact nomatch h_
theorem Word32.calSlot (n : Fin 4) (ok : Bool) : Word32.Statement (.calSlot n ok) := by intro _ h_; exact nomatch h_
theorem Word32.beamSweep (n : Fin 4) : Word32.Statement (.beamSweep n) := by intro _ h_; exact nomatch h_
theorem Word32.wake (n : Fin 4) : Word32.Statement (.wake n) := by intro _ h_; exact nomatch h_
theorem Word32.mark (n : Fin 4) : Word32.Statement (.mark n) := by intro _ h_; exact nomatch h_
theorem Word32.cwWrite (w : Fin 4) (reg : Fin 4) (v : BitVec 32) : Word32.Statement (.cwWrite w reg v) := by intro _ h_; exact nomatch h_
theorem Word32.cwChangeEffect (w : Fin 4) : Word32.Statement (.cwChangeEffect w) := by intro _ h_; exact nomatch h_
theorem Word32.shutterOpenEdge (k : Fin 4) (dt : Nat) : Word32.Statement (.shutterOpenEdge k dt) := by intro _ h_; exact nomatch h_
theorem Word32.shutterCloseEdge (k : Fin 4) (dt : Nat) : Word32.Statement (.shutterCloseEdge k dt) := by intro _ h_; exact nomatch h_
theorem Word32.setReadyWrite (p : Fin 4) (v : BitVec 32) : Word32.Statement (.setReadyWrite p v) := by intro _ h_; exact nomatch h_
theorem Word32.planeFetchStart (p : Fin 4) : Word32.Statement (.planeFetchStart p) := by intro _ h_; exact nomatch h_
theorem Word32.planeFetchData (p : Fin 4) (b : Fin 2) (dt : Nat) (cnt : Nat) : Word32.Statement (.planeFetchData p b dt cnt) := by intro _ h_; exact nomatch h_
theorem Word32.loadQueuedStart (p : Fin 4) : Word32.Statement (.loadQueuedStart p) := by intro _ h_; exact nomatch h_
theorem Word32.loadStreamDone (p : Fin 4) : Word32.Statement (.loadStreamDone p) := by intro _ h_; exact nomatch h_
theorem Word32.seqPortEnable (p : Fin 4) : Word32.Statement (.seqPortEnable p) := by intro _ h_; exact nomatch h_
theorem Word32.seqPortDisable (p : Fin 4) : Word32.Statement (.seqPortDisable p) := by intro _ h_; exact nomatch h_
theorem Word32.statusWord (p : Fin 4) (a : Fin 3) (parked : BitVec 16) (floating : BitVec 16) (flags : BitVec 8) : Word32.Statement (.statusWord p a parked floating flags) := by intro _ h_; exact nomatch h_
theorem Word32.ack (p : Fin 4) (a : Fin 3) (blk : Fin 16) (lseq : BitVec 16) (result : Fin 8) (group : BitVec 8) : Word32.Statement (.ack p a blk lseq result group) := by intro _ h_; exact nomatch h_
theorem Word32.ackTimeout (p : Fin 4) : Word32.Statement (.ackTimeout p) := by intro _ h_; exact nomatch h_
theorem Word32.tempWord (p : Fin 4) (a : Fin 3) (k : Fin 4) (dt : Nat) (temp : BitVec 16) : Word32.Statement (.tempWord p a k dt temp) := by intro _ h_; exact nomatch h_
theorem Word32.tempStale (p : Fin 4) (a : Fin 3) (k : Fin 4) (dt : Nat) : Word32.Statement (.tempStale p a k dt) := by intro _ h_; exact nomatch h_
theorem Word32.resetNak (p : Fin 4) (a : Fin 3) (rseq : BitVec 8) (blocks : BitVec 16) (reason : Fin 16) : Word32.Statement (.resetNak p a rseq blocks reason) := by intro _ h_; exact nomatch h_
theorem Word32.echoWord (p : Fin 4) (arg : BitVec 40) (dt : Nat) : Word32.Statement (.echoWord p arg dt) := by intro _ h_; exact nomatch h_
theorem Word32.capWord (p : Fin 4) (a : Fin 3) (index : Fin 7) (value : BitVec 32) : Word32.Statement (.capWord p a index value) := by intro _ h_; exact nomatch h_
theorem Word32.backWordDiscard (p : Fin 4) : Word32.Statement (.backWordDiscard p) := by intro _ h_; exact nomatch h_
theorem Word32.cmdPark (p : Fin 4) : Word32.Statement (.cmdPark p) := by intro _ h_; exact nomatch h_
theorem Word32.cmdUnpark (p : Fin 4) : Word32.Statement (.cmdUnpark p) := by intro _ h_; exact nomatch h_
theorem Word32.cmdClearTrip (p : Fin 4) : Word32.Statement (.cmdClearTrip p) := by intro _ h_; exact nomatch h_
theorem Word32.cmdRecap (p : Fin 4) : Word32.Statement (.cmdRecap p) := by intro _ h_; exact nomatch h_
theorem Word32.facetCapsDone (p : Fin 4) : Word32.Statement (.facetCapsDone p) := by intro _ h_; exact nomatch h_
theorem Word32.tlimWrite (p : Fin 4) (a : Fin 3) (v : BitVec 32) : Word32.Statement (.tlimWrite p a v) := by intro _ h_; exact nomatch h_
theorem Word32.tempIntWrite (p : Fin 4) (v : BitVec 8) : Word32.Statement (.tempIntWrite p v) := by intro _ h_; exact nomatch h_
theorem Word32.cloneWrite (p : Fin 4) (en : Bool) (src : Fin 4) : Word32.Statement (.cloneWrite p en src) := by intro _ h_; exact nomatch h_
theorem Word32.commitGo (p : Fin 4) : Word32.Statement (.commitGo p) := by intro _ h_; exact nomatch h_
theorem Word32.commitCancel (p : Fin 4) : Word32.Statement (.commitCancel p) := by intro _ h_; exact nomatch h_
theorem Word32.renderDone (p : Fin 4) (dt : Nat) : Word32.Statement (.renderDone p dt) := by intro _ h_; exact nomatch h_
theorem Word32.fenceRead (p : Fin 4) (l : Fin 8) : Word32.Statement (.fenceRead p l) := by intro _ h_; exact nomatch h_
theorem Word32.fenceReadReturn (p : Fin 4) (l : Fin 8) (dt : Nat) : Word32.Statement (.fenceReadReturn p l dt) := by intro _ h_; exact nomatch h_
theorem Word32.tableLoad (p : Fin 4) (kind : Fin 2) (b : Fin 2) : Word32.Statement (.tableLoad p kind b) := by intro _ h_; exact nomatch h_
theorem Word32.tableLoadDone (p : Fin 4) (kind : Fin 2) (dt : Nat) : Word32.Statement (.tableLoadDone p kind dt) := by intro _ h_; exact nomatch h_
theorem Word32.stringModeOff (n : Fin 24) : Word32.Statement (.stringModeOff n) := by intro _ h_; exact nomatch h_
theorem Word32.stringModePlane (n : Fin 24) : Word32.Statement (.stringModePlane n) := by intro _ h_; exact nomatch h_
theorem Word32.stringModeFree (n : Fin 24) : Word32.Statement (.stringModeFree n) := by intro _ h_; exact nomatch h_
theorem Word32.bandThreshold (n : Fin 24) (dt : Nat) (code : BitVec 12) : Word32.Statement (.bandThreshold n dt code) := by intro _ h_; exact nomatch h_
theorem Word32.hystAdapt (n : Fin 24) : Word32.Statement (.hystAdapt n) := by intro _ h_; exact nomatch h_
theorem Word32.updatePointEvaluation (pt : UpdPoint) : Word32.Statement (.updatePointEvaluation pt) := by intro _ h_; exact nomatch h_
theorem Word32.fadeGo (g : Fin 8) (curve : Bool) : Word32.Statement (.fadeGo g curve) := by intro _ h_; exact nomatch h_
theorem Word32.fadeCancel (g : Fin 8) : Word32.Statement (.fadeCancel g) := by intro _ h_; exact nomatch h_
theorem Word32.groupVWrite (g : Fin 8) (v : BitVec 32) : Word32.Statement (.groupVWrite g v) := by intro _ h_; exact nomatch h_
theorem Word32.freePeriodStart (n : Fin 24) : Word32.Statement (.freePeriodStart n) := by intro _ h_; exact nomatch h_
theorem Word32.freeShuntEdge (n : Fin 24) : Word32.Statement (.freeShuntEdge n) := by intro _ h_; exact nomatch h_
theorem Word32.pdSegmentDone (i : Fin 8) (code : BitVec 18) : Word32.Statement (.pdSegmentDone i code) := by intro _ h_; exact nomatch h_
theorem Word32.pdWindowClose (i : Fin 8) : Word32.Statement (.pdWindowClose i) := by intro _ h_; exact nomatch h_
theorem Word32.interlockOpen (i : Fin 4) (w : Nat) : Word32.Statement (.interlockOpen i w) := by intro _ h_; exact nomatch h_
theorem Word32.stringOvercurrent (n : Fin 24) (i : BitVec 22) : Word32.Statement (.stringOvercurrent n i) := by intro _ h_; exact nomatch h_
theorem Word32.stringOpen (n : Fin 24) : Word32.Statement (.stringOpen n) := by intro _ h_; exact nomatch h_
theorem Word32.safeClr (v : BitVec 32) : Word32.Statement (.safeClr v) := by intro _ h_; exact nomatch h_
theorem Word32.derateFallTimeout (b : Fin 4) : Word32.Statement (.derateFallTimeout b) := by intro _ h_; exact nomatch h_
theorem Word32.diagWindowEnd (n : Fin 24) : Word32.Statement (.diagWindowEnd n) := by intro _ h_; exact nomatch h_
theorem Word32.probeReq (mask : BitVec 24) : Word32.Statement (.probeReq mask) := by intro _ h_; exact nomatch h_
theorem Word32.probeStart (n : Fin 24) : Word32.Statement (.probeStart n) := by intro _ h_; exact nomatch h_
theorem Word32.probeMiss (n : Fin 24) : Word32.Statement (.probeMiss n) := by intro _ h_; exact nomatch h_
theorem Word32.vgdLow (b : Fin 4) (dt : Nat) (mv : BitVec 16) : Word32.Statement (.vgdLow b dt mv) := by intro _ h_; exact nomatch h_
theorem Word32.axisEn (n : Fin 16) : Word32.Statement (.axisEn n) := by intro _ h_; exact nomatch h_
theorem Word32.axisRunStart (n : Fin 16) (dt : Nat) : Word32.Statement (.axisRunStart n dt) := by intro _ h_; exact nomatch h_
theorem Word32.axisDisable (n : Fin 16) : Word32.Statement (.axisDisable n) := by intro _ h_; exact nomatch h_
theorem Word32.axisClear (n : Fin 16) : Word32.Statement (.axisClear n) := by intro _ h_; exact nomatch h_
theorem Word32.axisGo (n : Fin 16) : Word32.Statement (.axisGo n) := by intro _ h_; exact nomatch h_
theorem Word32.limitWrite (n : Fin 16) (which : Fin 3) (v : BitVec 32) : Word32.Statement (.limitWrite n which v) := by intro _ h_; exact nomatch h_
theorem Word32.carrierPeriodStart (n : Fin 16) : Word32.Statement (.carrierPeriodStart n) := by intro _ h_; exact nomatch h_
theorem Word32.carrierPeak (n : Fin 16) : Word32.Statement (.carrierPeak n) := by intro _ h_; exact nomatch h_
theorem Word32.tileSampleStart (t : Fin 48) (fs : List Int) : Word32.Statement (.tileSampleStart t fs) := by intro _ h_; exact nomatch h_
theorem Word32.tileOutput (t : Fin 48) : Word32.Statement (.tileOutput t) := by intro _ h_; exact nomatch h_
theorem Word32.deadlineMiss (t : Fin 48) : Word32.Statement (.deadlineMiss t) := by intro _ h_; exact nomatch h_
theorem Word32.axisOvercurrent (k : Fin 48) (f : Int) : Word32.Statement (.axisOvercurrent k f) := by intro _ h_; exact nomatch h_
theorem Word32.quadratureEdge (e : Fin 16) (dt : Nat) (kind : Fin 3) : Word32.Statement (.quadratureEdge e dt kind) := by intro _ h_; exact nomatch h_
theorem Word32.encoderIndex (e : Fin 16) : Word32.Statement (.encoderIndex e) := by intro _ h_; exact nomatch h_
theorem Word32.encoderIdleRequest (e : Fin 16) : Word32.Statement (.encoderIdleRequest e) := by intro _ h_; exact nomatch h_
theorem Word32.encoderFrameDone (e : Fin 16) (dt : Nat) (data : BitVec 32) (err : Bool) (noData : Bool) : Word32.Statement (.encoderFrameDone e dt data err noData) := by intro _ h_; exact nomatch h_
theorem Word32.encFaultClear (e : Fin 16) : Word32.Statement (.encFaultClear e) := by intro _ h_; exact nomatch h_
theorem Word32.streamStarved (n : Fin 16) (dt : Nat) : Word32.Statement (.streamStarved n dt) := by intro _ h_; exact nomatch h_
theorem Word32.ctlTableLoad (n : Fin 16) (kind : Fin 2) (b : Fin 2) : Word32.Statement (.ctlTableLoad n kind b) := by intro _ h_; exact nomatch h_
theorem Word32.ctlTableLoadDone (dt : Nat) : Word32.Statement (.ctlTableLoadDone dt) := by intro _ h_; exact nomatch h_
theorem Word32.breakpoint (b : Fin 128) (t : Fin 4) : Word32.Statement (.breakpoint b t) := by intro _ h_; exact nomatch h_
theorem Word32.cmdStart (b : Fin 128) (t : Fin 4) : Word32.Statement (.cmdStart b t) := by intro _ h_; exact nomatch h_
theorem Word32.cmdStop (b : Fin 128) (t : Fin 4) : Word32.Statement (.cmdStop b t) := by intro _ h_; exact nomatch h_
theorem Word32.cmdPreempt (b : Fin 128) (t : Fin 4) : Word32.Statement (.cmdPreempt b t) := by intro _ h_; exact nomatch h_
theorem Word32.contextSaveDone (b : Fin 128) (t : Fin 4) : Word32.Statement (.contextSaveDone b t) := by intro _ h_; exact nomatch h_
theorem Word32.cmdRestore (b : Fin 128) (t : Fin 4) : Word32.Statement (.cmdRestore b t) := by intro _ h_; exact nomatch h_
theorem Word32.contextRestoreDone (b : Fin 128) (t : Fin 4) : Word32.Statement (.contextRestoreDone b t) := by intro _ h_; exact nomatch h_
theorem Word32.cmdHalt (b : Fin 128) (t : Fin 4) : Word32.Statement (.cmdHalt b t) := by intro _ h_; exact nomatch h_
theorem Word32.cmdRun (b : Fin 128) (t : Fin 4) : Word32.Statement (.cmdRun b t) := by intro _ h_; exact nomatch h_
theorem Word32.cmdStep (b : Fin 128) (t : Fin 4) : Word32.Statement (.cmdStep b t) := by intro _ h_; exact nomatch h_
theorem Word32.stepDone (b : Fin 128) (t : Fin 4) : Word32.Statement (.stepDone b t) := by intro _ h_; exact nomatch h_
theorem Word32.debugRegAccess (b : Fin 128) (t : Fin 4) (write : Bool) (v : BitVec 64) : Word32.Statement (.debugRegAccess b t write v) := by intro _ h_; exact nomatch h_
theorem Word32.icacheInvalidate (_b : Fin 128) : Word32.Statement (.icacheInvalidate _b) := by intro _ h_; exact nomatch h_
theorem Word32.map  : Word32.Statement (.map) := by intro _ h_; exact nomatch h_
theorem Word32.unmap  : Word32.Statement (.unmap) := by intro _ h_; exact nomatch h_
theorem Word32.protect  : Word32.Statement (.protect) := by intro _ h_; exact nomatch h_
theorem Word32.pin  : Word32.Statement (.pin) := by intro _ h_; exact nomatch h_
theorem Word32.unpin  : Word32.Statement (.unpin) := by intro _ h_; exact nomatch h_
theorem Word32.tableAdd  : Word32.Statement (.tableAdd) := by intro _ h_; exact nomatch h_
theorem Word32.tableRemove  : Word32.Statement (.tableRemove) := by intro _ h_; exact nomatch h_
theorem Word32.ctxCreate  : Word32.Statement (.ctxCreate) := by intro _ h_; exact nomatch h_
theorem Word32.ctxDestroy  : Word32.Statement (.ctxDestroy) := by intro _ h_; exact nomatch h_
theorem Word32.resolvePage  : Word32.Statement (.resolvePage) := by intro _ h_; exact nomatch h_
theorem Word32.mmuCommandComplete  : Word32.Statement (.mmuCommandComplete) := by intro _ h_; exact nomatch h_
theorem Word32.resolve (v : BitVec 64) : Word32.Statement (.resolve v) := by intro _ h_; exact nomatch h_
theorem Word32.pageRequestResponse (asid : BitVec 16) (page : BitVec 52) (code : Fin 3) : Word32.Statement (.pageRequestResponse asid page code) := by intro _ h_; exact nomatch h_
theorem Word32.priTimeout (asid : BitVec 16) (page : BitVec 52) : Word32.Statement (.priTimeout asid page) := by intro _ h_; exact nomatch h_
theorem Word32.atsInvalidate (asid : BitVec 16) (page : BitVec 52) (count : Nat) : Word32.Statement (.atsInvalidate asid page count) := by intro _ h_; exact nomatch h_
theorem Word32.bar2Write (off : BitVec 32) (bs : List (BitVec 8)) : Word32.Statement (.bar2Write off bs) := by intro _ h_; exact nomatch h_
theorem Word32.bar2Read (off : BitVec 32) (len : Nat) (finding : Fin 5) : Word32.Statement (.bar2Read off len finding) := by intro _ h_; exact nomatch h_
theorem Word32.scrubRead (finding : Fin 5) : Word32.Statement (.scrubRead finding) := by intro _ h_; exact nomatch h_
theorem Word32.refresh (c : Fin 16) (die : Fin 2) : Word32.Statement (.refresh c die) := by intro _ h_; exact nomatch h_
theorem Word32.neighbourRefresh (c : Fin 16) : Word32.Statement (.neighbourRefresh c) := by intro _ h_; exact nomatch h_
theorem Word32.dramTempReport (c : Fin 16) (die : Fin 2) (t : BitVec 8) : Word32.Statement (.dramTempReport c die t) := by intro _ h_; exact nomatch h_
theorem Word32.srEntryStart  : Word32.Statement (.srEntryStart) := by intro _ h_; exact nomatch h_
theorem Word32.srCommand  : Word32.Statement (.srCommand) := by intro _ h_; exact nomatch h_
theorem Word32.srExitStart (dt : Nat) : Word32.Statement (.srExitStart dt) := by intro _ h_; exact nomatch h_
theorem Word32.srExitDone  : Word32.Statement (.srExitDone) := by intro _ h_; exact nomatch h_
theorem Word32.keepAwake  : Word32.Statement (.keepAwake) := by intro _ h_; exact nomatch h_
theorem Word32.channelOnlineWrite (c : Fin 16) (on : Bool) : Word32.Statement (.channelOnlineWrite c on) := by intro _ h_; exact nomatch h_
theorem Word32.trnWrite (c : Fin 16) (live : Bool) : Word32.Statement (.trnWrite c live) := by intro _ h_; exact nomatch h_
theorem Word32.trnRead (c : Fin 16) (live : Bool) : Word32.Statement (.trnRead c live) := by intro _ h_; exact nomatch h_
theorem Word32.trnWriteRead (c : Fin 16) (live : Bool) : Word32.Statement (.trnWriteRead c live) := by intro _ h_; exact nomatch h_
theorem Word32.trnCancel (c : Fin 16) : Word32.Statement (.trnCancel c) := by intro _ h_; exact nomatch h_
theorem Word32.trnClrErr (c : Fin 16) : Word32.Statement (.trnClrErr c) := by intro _ h_; exact nomatch h_
theorem Word32.trainDone (c : Fin 16) (dt : Nat) (done : Nat) (noise : List Nat) : Word32.Statement (.trainDone c dt done noise) := by intro _ h_; exact nomatch h_
theorem Word32.trainLiveTimeout (c : Fin 16) (dt : Nat) : Word32.Statement (.trainLiveTimeout c dt) := by intro _ h_; exact nomatch h_
theorem Word32.memDelayWrite (c : Fin 16) (k : Fin 38) (v : BitVec 32) : Word32.Statement (.memDelayWrite c k v) := by intro _ h_; exact nomatch h_
theorem Word32.hostReset (kind : Fin 4) : Word32.Statement (.hostReset kind) := by intro _ h_; exact nomatch h_
theorem Word32.vfReset (v : Fin 64) (flr : Bool) : Word32.Statement (.vfReset v flr) := by intro _ h_; exact nomatch h_
theorem Word32.queueDrained (q : Fin 4096) : Word32.Statement (.queueDrained q) := by intro _ h_; exact nomatch h_
theorem Word32.queueEnable (q : Fin 4096) : Word32.Statement (.queueEnable q) := by intro _ h_; exact nomatch h_
theorem Word32.queueStop (q : Fin 4096) : Word32.Statement (.queueStop q) := by intro _ h_; exact nomatch h_
theorem Word32.queueResume (q : Fin 4096) : Word32.Statement (.queueResume q) := by intro _ h_; exact nomatch h_
theorem Word32.queueDisable (q : Fin 4096) : Word32.Statement (.queueDisable q) := by intro _ h_; exact nomatch h_
theorem Word32.sqDoorbell (fn : Fin 64) (q : Fin 4096) (v : BitVec 32) : Word32.Statement (.sqDoorbell fn q v) := by intro _ h_; exact nomatch h_
theorem Word32.cqDoorbell (fn : Fin 64) (q : Fin 4096) (v : BitVec 32) : Word32.Statement (.cqDoorbell fn q v) := by intro _ h_; exact nomatch h_
theorem Word32.abort (q : Fin 4096) (v : BitVec 32) : Word32.Statement (.abort q v) := by intro _ h_; exact nomatch h_
theorem Word32.descriptorClaim (q : Fin 4096) : Word32.Statement (.descriptorClaim q) := by intro _ h_; exact nomatch h_
theorem Word32.dmaNop (q : Fin 4096) (idx : BitVec 16) : Word32.Statement (.dmaNop q idx) := by intro _ h_; exact nomatch h_
theorem Word32.copy (q : Fin 4096) (idx : BitVec 16) (bursts : Nat) : Word32.Statement (.copy q idx bursts) := by intro _ h_; exact nomatch h_
theorem Word32.fill (q : Fin 4096) (idx : BitVec 16) (bursts : Nat) : Word32.Statement (.fill q idx bursts) := by intro _ h_; exact nomatch h_
theorem Word32.write64 (q : Fin 4096) (idx : BitVec 16) : Word32.Statement (.write64 q idx) := by intro _ h_; exact nomatch h_
theorem Word32.dmaJobDone (q : Fin 4096) (idx : BitVec 16) : Word32.Statement (.dmaJobDone q idx) := by intro _ h_; exact nomatch h_
theorem Word32.irqTimer (q : Fin 4096) : Word32.Statement (.irqTimer q) := by intro _ h_; exact nomatch h_
theorem Word32.abortTimeout (q : Fin 4096) (idx : BitVec 16) : Word32.Statement (.abortTimeout q idx) := by intro _ h_; exact nomatch h_
theorem Word32.pcieLinkUp (width : Nat) (speed : Fin 7) (flit : Bool) : Word32.Statement (.pcieLinkUp width speed flit) := by intro _ h_; exact nomatch h_
theorem Word32.pcieLinkDown  : Word32.Statement (.pcieLinkDown) := by intro _ h_; exact nomatch h_
theorem Word32.compress (q : Fin 4096) (idx : BitVec 16) (blocks : Nat) : Word32.Statement (.compress q idx blocks) := by intro _ h_; exact nomatch h_
theorem Word32.decompress (q : Fin 4096) (idx : BitVec 16) (blocks : Nat) : Word32.Statement (.decompress q idx blocks) := by intro _ h_; exact nomatch h_
theorem Word32.verify (q : Fin 4096) (idx : BitVec 16) (blocks : Nat) : Word32.Statement (.verify q idx blocks) := by intro _ h_; exact nomatch h_
theorem Word32.cmpJobDone (q : Fin 4096) (idx : BitVec 16) : Word32.Statement (.cmpJobDone q idx) := by intro _ h_; exact nomatch h_
theorem Word32.linkEnable (k : Fin 8) : Word32.Statement (.linkEnable k) := by intro _ h_; exact nomatch h_
theorem Word32.linkDisable (k : Fin 8) : Word32.Statement (.linkDisable k) := by intro _ h_; exact nomatch h_
theorem Word32.linkRetry (k : Fin 8) : Word32.Statement (.linkRetry k) := by intro _ h_; exact nomatch h_
theorem Word32.detectPoll (k : Fin 8) (dt : Nat) (heard : Bool) (rate : Fin 8) : Word32.Statement (.detectPoll k dt heard rate) := by intro _ h_; exact nomatch h_
theorem Word32.trainComplete (k : Fin 8) : Word32.Statement (.trainComplete k) := by intro _ h_; exact nomatch h_
theorem Word32.lockComplete (k : Fin 8) : Word32.Statement (.lockComplete k) := by intro _ h_; exact nomatch h_
theorem Word32.capsComplete (k : Fin 8) : Word32.Statement (.capsComplete k) := by intro _ h_; exact nomatch h_
theorem Word32.stageTimeout (k : Fin 8) : Word32.Statement (.stageTimeout k) := by intro _ h_; exact nomatch h_
theorem Word32.lossOfSignal (n : Fin 48) : Word32.Statement (.lossOfSignal n) := by intro _ h_; exact nomatch h_
theorem Word32.blockLock (n : Fin 48) : Word32.Statement (.blockLock n) := by intro _ h_; exact nomatch h_
theorem Word32.blockLockLost (n : Fin 48) (dt : Nat) (errs : Fin 65) : Word32.Statement (.blockLockLost n dt errs) := by intro _ h_; exact nomatch h_
theorem Word32.tsWord (n : Fin 48) (dt : Nat) (stage : Fin 8) (lane : Fin 16) (ready : Bool) (req : BitVec 6) : Word32.Statement (.tsWord n dt stage lane ready req) := by intro _ h_; exact nomatch h_
theorem Word32.alignWord (n : Fin 48) (dt : Nat) (count : BitVec 16) (skew : Nat) : Word32.Statement (.alignWord n dt count skew) := by intro _ h_; exact nomatch h_
theorem Word32.eidleWord (k : Fin 8) (dt : Nat) : Word32.Statement (.eidleWord k dt) := by intro _ h_; exact nomatch h_
theorem Word32.eidleEnter (k : Fin 8) (dt : Nat) : Word32.Statement (.eidleEnter k dt) := by intro _ h_; exact nomatch h_
theorem Word32.picotStart (k : Fin 8) (dt : Nat) : Word32.Statement (.picotStart k dt) := by intro _ h_; exact nomatch h_
theorem Word32.picotDone (k : Fin 8) : Word32.Statement (.picotDone k) := by intro _ h_; exact nomatch h_
theorem Word32.idleLosWindowEnd (k : Fin 8) : Word32.Statement (.idleLosWindowEnd k) := by intro _ h_; exact nomatch h_
theorem Word32.beamLockDone (k : Fin 8) : Word32.Statement (.beamLockDone k) := by intro _ h_; exact nomatch h_
theorem Word32.lstatWord (k : Fin 4) (lane : Fin 16) (cnt : BitVec 32) : Word32.Statement (.lstatWord k lane cnt) := by intro _ h_; exact nomatch h_
theorem Word32.slip (n : Fin 48) : Word32.Statement (.slip n) := by intro _ h_; exact nomatch h_
theorem Word32.inj (n : Fin 48) : Word32.Statement (.inj n) := by intro _ h_; exact nomatch h_
theorem Word32.chkClr (n : Fin 48) : Word32.Statement (.chkClr n) := by intro _ h_; exact nomatch h_
theorem Word32.scanGo (n : Fin 48) : Word32.Statement (.scanGo n) := by intro _ h_; exact nomatch h_
theorem Word32.scanStop (n : Fin 48) : Word32.Statement (.scanStop n) := by intro _ h_; exact nomatch h_
theorem Word32.scanDone (n : Fin 48) (cnt : BitVec 64) : Word32.Statement (.scanDone n cnt) := by intro _ h_; exact nomatch h_
theorem Word32.eqAdaptStep (n : Fin 48) (k : Fin 5) (want : Int) : Word32.Statement (.eqAdaptStep n k want) := by intro _ h_; exact nomatch h_
theorem Word32.txeqWrite (n : Fin 48) (v : BitVec 32) : Word32.Statement (.txeqWrite n v) := by intro _ h_; exact nomatch h_
theorem Word32.beacon (p : Fin 4) (dt : Nat) (w : BitVec 64) (ws : List (BitVec 64)) : Word32.Statement (.beacon p dt w ws) := by intro _ h_; exact nomatch h_
theorem Word32.beaconSend  : Word32.Statement (.beaconSend) := by intro _ h_; exact nomatch h_
theorem Word32.upstreamLost  : Word32.Statement (.upstreamLost) := by intro _ h_; exact nomatch h_
theorem Word32.reroot  : Word32.Statement (.reroot) := by intro _ h_; exact nomatch h_
theorem Word32.delayReqSend (p : Fin 4) : Word32.Statement (.delayReqSend p) := by intro _ h_; exact nomatch h_
theorem Word32.delayReq (p : Fin 4) (dt : Nat) (w : BitVec 64) (ws : List (BitVec 64)) : Word32.Statement (.delayReq p dt w ws) := by intro _ h_; exact nomatch h_
theorem Word32.delayResp (p : Fin 4) (dt : Nat) (w : BitVec 64) (ws : List (BitVec 64)) : Word32.Statement (.delayResp p dt w ws) := by intro _ h_; exact nomatch h_
theorem Word32.join (p : Fin 4) (dt : Nat) (w : BitVec 64) (ws : List (BitVec 64)) : Word32.Statement (.join p dt w ws) := by intro _ h_; exact nomatch h_
theorem Word32.roster (p : Fin 4) (dt : Nat) (w : BitVec 64) (ws : List (BitVec 64)) : Word32.Statement (.roster p dt w ws) := by intro _ h_; exact nomatch h_
theorem Word32.presence (p : Fin 4) (dt : Nat) (w : BitVec 64) (ws : List (BitVec 64)) : Word32.Statement (.presence p dt w ws) := by intro _ h_; exact nomatch h_
theorem Word32.presenceSend  : Word32.Statement (.presenceSend) := by intro _ h_; exact nomatch h_
theorem Word32.content (p : Fin 4) (dt : Nat) (w : BitVec 64) (ws : List (BitVec 64)) : Word32.Statement (.content p dt w ws) := by intro _ h_; exact nomatch h_
theorem Word32.msg (p : Fin 4) (dt : Nat) (w : BitVec 64) (ws : List (BitVec 64)) : Word32.Statement (.msg p dt w ws) := by intro _ h_; exact nomatch h_
theorem Word32.follow (p : Fin 4) (dt : Nat) (w : BitVec 64) (ws : List (BitVec 64)) : Word32.Statement (.follow p dt w ws) := by intro _ h_; exact nomatch h_
theorem Word32.capsPacket (p : Fin 4) (dt : Nat) (w : BitVec 64) (ws : List (BitVec 64)) : Word32.Statement (.capsPacket p dt w ws) := by intro _ h_; exact nomatch h_
theorem Word32.txRingSend  : Word32.Statement (.txRingSend) := by intro _ h_; exact nomatch h_
theorem Word32.twinEnable (en : Bool) : Word32.Statement (.twinEnable en) := by intro _ h_; exact nomatch h_
theorem Word32.aloneTimeout  : Word32.Statement (.aloneTimeout) := by intro _ h_; exact nomatch h_
theorem Word32.heartbeatSend  : Word32.Statement (.heartbeatSend) := by intro _ h_; exact nomatch h_
theorem Word32.heartbeat (dt : Nat) (w : BitVec 64) (ws : List (BitVec 64)) : Word32.Statement (.heartbeat dt w ws) := by intro _ h_; exact nomatch h_
theorem Word32.heartbeatMiss  : Word32.Statement (.heartbeatMiss) := by intro _ h_; exact nomatch h_
theorem Word32.mirrorCommit (seq : BitVec 32) (p : Fin 4) (id : BitVec 64) (_time : BitVec 64) : Word32.Statement (.mirrorCommit seq p id _time) := by intro _ h_; exact nomatch h_
theorem Word32.mirrorSwap (seq : BitVec 32) (n : Fin 4) (_bank : Bool) (count : BitVec 32) : Word32.Statement (.mirrorSwap seq n _bank count) := by intro _ h_; exact nomatch h_
theorem Word32.mirrorAxis (seq : BitVec 32) (n : Fin 16) (ws : List (BitVec 64)) : Word32.Statement (.mirrorAxis seq n ws) := by intro _ h_; exact nomatch h_
theorem Word32.mirrorLight (seq : BitVec 32) (g : Fin 8) (ws : List (BitVec 64)) : Word32.Statement (.mirrorLight seq g ws) := by intro _ h_; exact nomatch h_
theorem Word32.mirrorQueue (seq : BitVec 32) (i : Fin 64) (head : BitVec 16) (tail : BitVec 16) (q : Fin 4096) : Word32.Statement (.mirrorQueue seq i head tail q) := by intro _ h_; exact nomatch h_
theorem Word32.mirrorEntry (seq : BitVec 32) (i : Fin 64) (idx : BitVec 16) (ended : Bool) : Word32.Statement (.mirrorEntry seq i idx ended) := by intro _ h_; exact nomatch h_
theorem Word32.fullBegin (seq : BitVec 32) : Word32.Statement (.fullBegin seq) := by intro _ h_; exact nomatch h_
theorem Word32.fullEnd (seq : BitVec 32) : Word32.Statement (.fullEnd seq) := by intro _ h_; exact nomatch h_
theorem Word32.twinYield  : Word32.Statement (.twinYield) := by intro _ h_; exact nomatch h_
theorem Word32.twinForce  : Word32.Statement (.twinForce) := by intro _ h_; exact nomatch h_
theorem Word32.twinResync  : Word32.Statement (.twinResync) := by intro _ h_; exact nomatch h_
theorem Word32.handoverStart  : Word32.Statement (.handoverStart) := by intro _ h_; exact nomatch h_
theorem Word32.tkovrDemIAssert (dt : Nat) : Word32.Statement (.tkovrDemIAssert dt) := by intro _ h_; exact nomatch h_
theorem Word32.tkovrHoldIChange (level : Bool) (dt : Nat) : Word32.Statement (.tkovrHoldIChange level dt) := by intro _ h_; exact nomatch h_
theorem Word32.holdOAssert  : Word32.Statement (.holdOAssert) := by intro _ h_; exact nomatch h_
theorem Word32.holdAcquired  : Word32.Statement (.holdAcquired) := by intro _ h_; exact nomatch h_
theorem Word32.takeoverStuck  : Word32.Statement (.takeoverStuck) := by intro _ h_; exact nomatch h_
theorem Word32.hkpConversion (code : BitVec 16) (value : BitVec 16) : Word32.Statement (.hkpConversion code value) := by intro _ h_; exact nomatch h_
theorem Word32.housekeepingRound (lag : Fin 64001) (rpm0 : BitVec 16) (rpm1 : BitVec 16) (rpm2 : BitVec 16) (rpm3 : BitVec 16) : Word32.Statement (.housekeepingRound lag rpm0 rpm1 rpm2 rpm3) := by intro _ h_; exact nomatch h_
theorem Word32.shutdownClockStop  : Word32.Statement (.shutdownClockStop) := by intro _ h_; exact nomatch h_
theorem Word32.privilegedShutdown (z : Fin 10) (dt : Nat) (temp : BitVec 16) : Word32.Statement (.privilegedShutdown z dt temp) := by intro _ h_; exact nomatch h_
theorem Word32.islandRestart (dt : Nat) : Word32.Statement (.islandRestart dt) := by intro _ h_; exact nomatch h_
theorem Word32.fanFail (f : Fin 4) : Word32.Statement (.fanFail f) := by intro _ h_; exact nomatch h_
theorem Word32.sensClr (i : BitVec 6) : Word32.Statement (.sensClr i) := by intro _ h_; exact nomatch h_
theorem Word32.sramScrub (mem : Fin 136) (off : BitVec 21) (uncorr : Bool) (dt : Nat) : Word32.Statement (.sramScrub mem off uncorr dt) := by intro _ h_; exact nomatch h_
theorem Word32.calRun (t : Fin 10) (ok : Bool) : Word32.Statement (.calRun t ok) := by intro _ h_; exact nomatch h_
theorem Word32.calRelease (t : Fin 10) (i : Fin 64) : Word32.Statement (.calRelease t i) := by intro _ h_; exact nomatch h_
theorem Word32.calRunDone (t : Fin 10) (broken : Bool) (err : BitVec 32) (residual : BitVec 32) (value : BitVec 32) : Word32.Statement (.calRunDone t broken err residual value) := by intro _ h_; exact nomatch h_
theorem Word32.calStale (t : Fin 10) (i : Fin 64) : Word32.Statement (.calStale t i) := by intro _ h_; exact nomatch h_
theorem Word32.calManualWrite (which : Fin 4) (n : Fin 48) (v : BitVec 32) : Word32.Statement (.calManualWrite which n v) := by intro _ h_; exact nomatch h_
theorem Word32.nvmWrite (o : Fin 16) : Word32.Statement (.nvmWrite o) := by intro _ h_; exact nomatch h_
theorem Word32.nvmPageDone (lag : Nat) (misread : Bool) : Word32.Statement (.nvmPageDone lag misread) := by intro _ h_; exact nomatch h_
theorem Word32.nvmRead (o : Fin 16) : Word32.Statement (.nvmRead o) := by intro _ h_; exact nomatch h_
theorem Word32.nvmReadDone (lag : Nat) (bad : Bool) : Word32.Statement (.nvmReadDone lag bad) := by intro _ h_; exact nomatch h_
theorem Word32.logAppend  : Word32.Statement (.logAppend) := by intro _ h_; exact nomatch h_
theorem Word32.logRead  : Word32.Statement (.logRead) := by intro _ h_; exact nomatch h_
theorem Word32.ledgerSave  : Word32.Statement (.ledgerSave) := by intro _ h_; exact nomatch h_
theorem Word32.svnBump  : Word32.Statement (.svnBump) := by intro _ h_; exact nomatch h_
theorem Word32.ledgerPeriodicSave  : Word32.Statement (.ledgerPeriodicSave) := by intro _ h_; exact nomatch h_
theorem Word32.powerOnReset (dt : Nat) : Word32.Statement (.powerOnReset dt) := by intro _ h_; exact nomatch h_
theorem Word32.refclkPresent (dt : Nat) (khz : BitVec 24) : Word32.Statement (.refclkPresent dt khz) := by intro _ h_; exact nomatch h_
theorem Word32.bootReadDone (dt : Nat) (misA : Bool) (misB : Bool) : Word32.Statement (.bootReadDone dt misA misB) := by intro _ h_; exact nomatch h_
theorem Word32.rcvGo (dt : Nat) : Word32.Statement (.rcvGo dt) := by intro _ h_; exact nomatch h_
theorem Word32.vinPf (dt : Nat) : Word32.Statement (.vinPf dt) := by intro _ h_; exact nomatch h_
theorem Word32.brownOut (dt : Nat) : Word32.Statement (.brownOut dt) := by intro _ h_; exact nomatch h_
theorem Word32.overvolt (dt : Nat) : Word32.Statement (.overvolt dt) := by intro _ h_; exact nomatch h_
theorem Word32.railFault (dt : Nat) : Word32.Statement (.railFault dt) := by intro _ h_; exact nomatch h_
theorem Word32.refclkLoss (dt : Nat) : Word32.Statement (.refclkLoss dt) := by intro _ h_; exact nomatch h_
theorem Word32.brownoutRecovery (dt : Nat) : Word32.Statement (.brownoutRecovery dt) := by intro _ h_; exact nomatch h_
theorem Word32.islandStop (dt : Nat) : Word32.Statement (.islandStop dt) := by intro _ h_; exact nomatch h_
theorem Word32.bankDown (v : Fin 8) (dt : Nat) (mv : BitVec 16) : Word32.Statement (.bankDown v dt mv) := by intro _ h_; exact nomatch h_
theorem Word32.warmReset (dt : Nat) : Word32.Statement (.warmReset dt) := by intro _ h_; exact nomatch h_
theorem Word32.rstCmd (v : BitVec 32) : Word32.Statement (.rstCmd v) := by intro _ h_; exact nomatch h_
theorem Word32.warmResetRelease (dt : Nat) : Word32.Statement (.warmResetRelease dt) := by intro _ h_; exact nomatch h_
theorem Word32.extest  : Word32.Statement (.extest) := by intro _ h_; exact nomatch h_
theorem Word32.idcode  : Word32.Statement (.idcode) := by intro _ h_; exact nomatch h_
theorem Word32.samplePreload  : Word32.Statement (.samplePreload) := by intro _ h_; exact nomatch h_
theorem Word32.highz  : Word32.Statement (.highz) := by intro _ h_; exact nomatch h_
theorem Word32.clamp  : Word32.Statement (.clamp) := by intro _ h_; exact nomatch h_
theorem Word32.dbgAccess  : Word32.Statement (.dbgAccess) := by intro _ h_; exact nomatch h_
theorem Word32.bypass  : Word32.Statement (.bypass) := by intro _ h_; exact nomatch h_
theorem Word32.dbgAccessUpdate (data : BitVec 64) (off : BitVec 26) (write : Bool) (wide : Bool) : Word32.Statement (.dbgAccessUpdate data off write wide) := by intro _ h_; exact nomatch h_
theorem Word32.jtagLock  : Word32.Statement (.jtagLock) := by intro _ h_; exact nomatch h_
theorem Word32.furtherPark (p : Fin 4) (a : Fin 3) : Word32.Statement (.furtherPark p a) := by intro _ h_; exact nomatch h_
theorem Word32.interlockHealthy (i : Fin 4) : Word32.Statement (.interlockHealthy i) := by intro _ h_; exact nomatch h_
theorem Word32.tkovrDemIDeassert (dt : Nat) : Word32.Statement (.tkovrDemIDeassert dt) := by intro _ h_; exact nomatch h_
theorem Word32.vgdRecovery (b : Fin 4) (dt : Nat) : Word32.Statement (.vgdRecovery b dt) := by intro _ h_; exact nomatch h_
theorem Word32.vfEnable (mask : BitVec 64) : Word32.Statement (.vfEnable mask) := by intro _ h_; exact nomatch h_
theorem Word32.priEnable  : Word32.Statement (.priEnable) := by intro _ h_; exact nomatch h_

end Sys2Proof.Laws
end

