-- ==== Sys2Proof/Laws/Threads.lean ====
section
/-! SUPPORT. Laws/Threads.lean: what issuing and retiring an instruction do. -/

namespace Sys2Proof.Machine

/-- A thread that issues does what its instruction says. -/
theorem issue_of_issues {s : State} {b : Fin 128} {t : Fin 4} (h : Issues s b t) (k : State → State) : issue (unitOf b t) k s = k s := by
  obtain ⟨_, h1, h2, h3, h4, h5⟩ := h
  unfold issue
  simp only [h1, h2, h3, h4, bne_self_eq_false, Bool.or_self, Bool.false_eq_true, if_false]
  unfold FetchOk at h5
  split at h5 <;> rename_i he <;> simp_all

theorem onThread_of_issues {s : State} {b : Fin 128} {t : Fin 4} (h : Issues s b t) (k : Nat → State → State) :
    onThread b t k s = .next (k (unitOf b t) s) := by
  have hc : s.clocked = true := h.1
  simp [onThread, hc, issue_of_issues h]

theorem getG_setG (s : State) (u d k : Nat) (v : Word) :
    getG (setG u d v s) u k = if k = 0 then 0#64 else if k = d then v else getG s u k := by
  unfold getG setG updTh
  by_cases hd : d = 0
  · subst hd; by_cases hk : k = 0 <;> simp [hk]
  · by_cases hk : k = 0 <;> simp [hd, hk, kget_kset]

end Sys2Proof.Machine
end

