-- ==== Sys2Proof/Laws/Walk.lean ====
section
/-! SUPPORT. Laws/Walk.lean: a walk depends on nothing of an address but its 64 KiB page, and what reading within a page of device memory gives. -/

namespace Sys2Proof.Machine

theorem vaIndex_page {va vb : Nat} (h : va / 65536 = vb / 65536) (lvl : Nat) : vaIndex lvl va = vaIndex lvl vb := by
  unfold vaIndex
  split <;> simp only [bits] <;> omega

theorem walkFrom_page {va vb : Nat} (h : va / 65536 = vb / 65536) (s : State) (hostOk : Bool) (n lvl tbl : Nat) :
    walkFrom s hostOk va n lvl tbl = walkFrom s hostOk vb n lvl tbl := by
  induction n generalizing lvl tbl with
  | zero => rfl
  | succ n ih => unfold walkFrom; simp only [vaIndex_page h, ih]

theorem walk_page {va vb : Nat} (h : va / 65536 = vb / 65536) (s : State) (asid : Nat) : walk s asid va = walk s asid vb := by
  have hb : 2 ^ 48 ≤ va ↔ 2 ^ 48 ≤ vb := by omega
  simp only [walk, walkFrom_page h, hb]

/-- A read within a page that a device leaf maps goes to device memory. -/
theorem xlate_read_page {s : State} {asid va vb : Nat} {l : Leaf} (fn : Nat) (hw : walk s asid vb = .ok l) (hd : l.host = false) (h : va / 65536 = vb / 65536) :
    xlate s asid fn va akREAD = .ok ⟨false, l.at_ va⟩ := by
  rw [xlate, walk_page h, hw]
  simp [hd, akREAD, akWRITE, akATOMIC, akFETCH]

/-- A context's bytes within a page that a device leaf maps, none of them in an uncorrectable burst. -/
theorem loadCtx_page {s : State} {asid va n : Nat} {l : Leaf} (hw : walk s asid va = .ok l) (hd : l.host = false) (hu : s.memc.uncorr = [])
    (hn : ∀ i, i < n → (va + i) / 65536 = va / 65536) :
    loadCtx s asid va n = some ((List.range n).map (fun i => kget unwritten s.dram (l.at_ (va + i)))) := by
  unfold loadCtx
  rw [List.map_congr_left (g := fun i => [kget unwritten s.dram (l.at_ (va + i))])]
  · rw [if_neg (by simp)]
    congr 1
    induction List.range n with
    | nil => rfl
    | cons a t ih => simp only [List.map_cons, List.flatten_cons, ih, List.singleton_append]
  · intro i hi
    rw [xlate_read_page 0 hw hd (hn i (List.mem_range.mp hi))]
    simp [readsBad, hu, loadAt, readMem]

end Sys2Proof.Machine
end

