-- ==== Sys2Proof/Tests/Slice0.lean ====
section
/-! SUPPORT. Tests/Slice0.lean: tests of the checks, the words and the commands, each also a state and operands that meet the hypotheses of a
statement. Expected values come from the manual's tables and examples, or are worked by hand from its rules. -/

namespace Sys2Proof.Tests
open Sys2Proof.Machine

set_option maxRecDepth 20000
set_option Elab.async false

/-! ### Helpers -/

/-- A state with some fields set. -/
def put (l : List (Fld × Nat)) (s : State) : State := l.foldl (fun t e => t.setFld e.1 e.2) s

/-- A state with some registers set. -/
def regs (l : List (Nat × Nat)) (s : State) : State := l.foldl (fun t e => t.wrN e.1 e.2) s

/-- The next state that a meaning answers. -/
def nx (o : Out) : State := match o with
  | .next t => t
  | .fault _ => State.reset
  | .refused _ => State.reset

/-- The state after a command. -/
def after (i : Instr) (s : State) : State := nx (exec i s)

/-- Reset, with no twin, no refresh of neighbours and every channel on line. -/
def base : State := put ((MEM_CTL_NB_EN, 0) :: (List.range 16).map (fun c => (MEM_C_STAT_ONLINE c, 1))) { State.reset with regs := [(CAS_TW_CTL, 0x1F42000#64)] }

/-- Thread 0 of bobbin 0 in RUN with PRIV 1 at the base of its pillow's memory. -/
def runs (x : Thread) : State :=
  { put [(ENG_B_T_STAT_STATE 0 0, 1), (ENG_B_T_CFG_PRIV 0 0, 1)] (setPc 0 0xFFFFFFC00000 base) with threads := [(0, x)] }

/-- A page table that maps the 2 MiB of context 0 from 0 to device memory at 0x200000. -/
def table : List Host.Cell := [(0, 1), (1, 0x10), (0x1000, 1), (0x1001, 0x20), (0x2000, 1), (0x2001, 0x30), (0x3000, 0xF), (0x3001, 1), (0x3002, 0x20)]

/-- A state with some memory in place. -/
def withDram (l : List Host.Cell) (s : State) : State := { s with dram := l }
def withPad (l : List Host.Cell) (s : State) : State := { s with padMem := l }
def withPil (l : List Host.Cell) (s : State) : State := { s with pilMem := l }

/-- Context 0 mapped. -/
def mapped (s : State) : State := withDram table s

def g12 : Thread := { g := [(1, 7#64), (2, 0xFFFFFFFFFFFFFFFE#64)] }

/-- A thread whose g1 holds an address. -/
def gAt (a : Word) : Thread := { g := [(1, a), (2, 0x1122334455667788#64)] }

/-- A pin of every cycle, dispatched for a time in ns. -/
def placedPin (action target arg ns : Nat) : Placed := { pin := { flags := 1, action := action, target := target, arg := arg }, index := 0, bank := 1, placed := 4 * ns, late := false, due := 0, stale := false }

/-- A state with one pin of timebase n dispatched. -/
def withPin (n action target arg ns : Nat) (s : State) : State := updTb n (fun t => { t with dispatched := [placedPin action target arg ns] }) s

/-- Does an address lie in a page that a device leaf maps? -/
def onDevice (s : State) (asid va : Nat) : Bool := match walk s asid va with
  | .ok l => !l.host
  | .bad _ _ _ => false

theorem onDevice_leaf {s : State} {asid va : Nat} (h : onDevice s asid va = true) : ∃ l, walk s asid va = .ok l ∧ l.host = false := by
  unfold onDevice at h
  split at h
  · exact ⟨_, ‹_›, by simpa using h⟩
  · cases h

theorem mapped_page {s : State} {asid i : Nat} (h : onDevice s asid 0 = true) (hi : i < 65536) : ∃ g, xlate s asid 0 (0 + i) akREAD = .ok g := by
  obtain ⟨l, hw, hd⟩ := onDevice_leaf h
  exact ⟨_, xlate_read_page 0 hw hd (by omega)⟩

/-! ### The checks of WellFormed -/

theorem test_wf_vext : wellFormed (.wVext 0 0 2 1 1 7) = true ∧ wellFormed (.wVext 0 0 2 1 1 8) = false := by decide +kernel
theorem test_wf_vins : wellFormed (.wVins 0 0 0 1 1 31) = true ∧ wellFormed (.wVins 0 0 3 1 1 4) = false := by decide +kernel
theorem test_wf_illegal : wellFormed (.illegalInstruction 0 0 0xF0000000 0 0) = true ∧ wellFormed (.illegalInstruction 0 0 0xD0800000 0 0) = false := by decide +kernel
theorem test_wf_width : wellFormed (.badWidthAccess 0 4 7 false) = true ∧ wellFormed (.badWidthAccess 0 8 7 false) = false := by decide +kernel
theorem test_wf_half : wellFormed (.lowerHalfWrite 0 8 1) = true ∧ wellFormed (.lowerHalfWrite 0 4 1) = false ∧ wellFormed (.upperHalfWrite 0 4 1) = false := by decide +kernel
theorem test_wf_link : wellFormed (.pcieLinkUp 16 5 true) = true ∧ wellFormed (.pcieLinkUp 3 5 true) = false ∧ wellFormed (.pcieLinkUp 32 5 true) = false ∧ wellFormed (.pcieLinkUp 4 0 true) = false := by decide +kernel
theorem test_wf_upper : wellFormed (.upperHalfWrite 0 8 1) = true ∧ wellFormed (.upperHalfWrite 0 12 1) = false := by decide +kernel
theorem test_wf_packet (l : List (BitVec 64)) : ∀ i ∈ [Instr.beacon 0 0 0 l, .delayReq 0 0 0 l, .delayResp 0 0 0 l, .join 0 0 0 l, .roster 0 0 0 l, .presence 0 0 0 l, .content 0 0 0 l, .msg 0 0 0 l, .follow 0 0 0 l,
    .capsPacket 0 0 0 l, .heartbeat 0 0 l], wellFormed i = decide (l.length ≤ 1025) := by
  intro i hi; simp only [List.mem_cons, List.not_mem_nil, or_false] at hi; rcases hi with rfl | rfl | rfl | rfl | rfl | rfl | rfl | rfl | rfl | rfl | rfl <;> rfl
theorem test_wf_long : packetOk (List.replicate 1026 0) = false ∧ packetOk (List.replicate 1025 0) = true := by unfold packetOk; rw [List.length_replicate, List.length_replicate]; decide
theorem test_wf_bar2 : wellFormed (.bar2Write 0 [1]) = true ∧ wellFormed (.bar2Write 0 []) = false ∧ wellFormed (.bar2Write 0 (List.replicate 512 0)) = true ∧ wellFormed (.bar2Write 0 (List.replicate 513 0)) = false ∧ wellFormed (.bar2Read 0 4096 0) = true ∧ wellFormed (.bar2Read 0 4097 0) = false := by decide +kernel
theorem test_wf_vf : wellFormed (.vfReset 1 false) = true ∧ wellFormed (.vfReset 0 false) = false := by decide +kernel

/-! ### Words (R311 to R334), written out from the fields: class [31:28], d [27:22], a [21:16], b [15:10], the rest [9:0] -/

theorem test_word_add : decodeW 0 0 0 0b0000_000011_000001_000010_0000000000 = some (.wAdd 0 0 3 1 2) := by decide +kernel
theorem test_word_clz : decodeW 0 0 0 0b0000_000011_000001_000000_0000001110 = some (.wClz 0 0 3 1) := by decide +kernel
theorem test_word_clz_reserved : decodeW 0 0 0 0b0000_000011_000001_000001_0000001110 = none := by decide +kernel
theorem test_word_addi : decodeW 0 0 0 0b0001_000011_000001_000000_1111111111 = some (.wAddi 0 0 3 1 0x3FF) := by decide +kernel
theorem test_word_const : decodeW 0 0 0 0b0010_000011_11_10_00_1000000000000001 = some (.wConstSets 0 0 3 3 0x8001) := by decide +kernel
theorem test_word_mulq : decodeW 0 0 0 0b0011_000011_000001_000010_0000000111 = some (.wMulq 0 0 3 1 2) := by decide +kernel
theorem test_word_fma : decodeW 0 0 0 0b0100_000011_000001_000010_0000000101 = some (.wFma 0 0 3 1 2) := by decide +kernel
theorem test_word_pand : decodeW 0 0 0 0b0101_000011_000001_000010_0000001001 = some (.wPand 0 0 3 1 2) := by decide +kernel
theorem test_word_jalr : decodeW 0 0 0 0b0110_111010_000001_000000_0000000000 = some (.wJalr 0 0 2 true 1) := by decide +kernel
theorem test_word_lwu : decodeW 0 0 0 0b0111_000011_000001_0101_111111111000 = some (.wLwu 0 0 3 1 0xFF8 0) := by decide +kernel
theorem test_word_sd : decodeW 0 0 0 0b1000_000011_000001_0011_000000001000 = some (.wSd 0 0 3 1 8) := by decide +kernel
theorem test_word_cas : decodeW 0 0 0 0b1001_000011_000001_000010_0000000101 = some (.wCas 0 0 3 1 2 0) := by decide +kernel
theorem test_word_vmul : decodeW 0 0 0 0b1010_000011_000001_000010_0100001001 = some (.wVmul 0 0 1 3 1 2) := by decide +kernel
theorem test_word_vst : decodeW 0 0 0 0b1011_000011_000001_0001_000000000001 = some (.wVst 0 0 3 1 1) := by decide +kernel
theorem test_word_qdone : decodeW 0 0 0 0b1100_000011_000001_000010_0000000011 = some (.wQdone 0 0 3 1 2) := by decide +kernel
theorem test_word_barrier : decodeW 0 0 0 0b1101_000011_000001_000010_0000000110 = some (.wBarrier 0 0 3 1 2) := by decide +kernel
theorem test_word_csrw : decodeW 0 0 0 0b1110_000011_000001_0001_000000000010 = some (.wCsrw 0 0 3 1 2) := by decide +kernel
theorem test_word_table : decodeTableWord 0 0 = none ∧ State.reset.withFetchWord 0 0 = State.reset := by decide +kernel

/-! ### The instructions of the bobbins -/

theorem wit_Issues : Issues (runs g12) 0 0 := ⟨by decide, by decide, by decide, by decide, by decide, True.intro⟩

theorem test_add : getG (after (.wAdd 0 0 3 1 2) (runs g12)) 0 3 = 5#64 ∧ thPc (after (.wAdd 0 0 3 1 2) (runs g12)) 0 = 0xFFFFFFC00004 := by decide +kernel
theorem test_g0 : getG (after (.wAdd 0 0 0 1 2) (runs g12)) 0 0 = 0#64 := by decide +kernel
theorem test_sar : getG (after (.wSar 0 0 3 2 1) (runs g12)) 0 3 = BitVec.allOnes 64 := by decide +kernel
theorem test_max : getG (after (.wMax 0 0 3 1 2) (runs g12)) 0 3 = 7#64 ∧ getG (after (.wMaxu 0 0 3 1 2) (runs g12)) 0 3 = 0xFFFFFFFFFFFFFFFE#64 := by decide +kernel
theorem test_clz : getG (after (.wClz 0 0 3 1) (runs g12)) 0 3 = 61#64 ∧ getG (after (.wClz 0 0 3 0) (runs g12)) 0 3 = 64#64 := by decide +kernel
theorem test_bswap : getG (after (.wBswap 0 0 3 2) (runs (gAt 0))) 0 3 = 0x8877665544332211#64 := by decide +kernel
theorem test_addi : getG (after (.wAddi 0 0 3 1 0x3FF) (runs g12)) 0 3 = 6#64 := by decide +kernel
theorem test_const : getG (after (.wConstSet 0 0 1 1 0xC6A7) (runs g12)) 0 1 = 0xC6A70000#64 ∧ getG (after (.wConstIns 0 0 2 0 0xEF9E) (runs g12)) 0 2 = 0xFFFFFFFFFFFFEF9E#64 := by decide +kernel
theorem test_div_zero : getG (after (.wDiv 0 0 3 1 0) (runs g12)) 0 3 = BitVec.allOnes 64 ∧ getG (after (.wRem 0 0 3 1 0) (runs g12)) 0 3 = 7#64 := by decide +kernel
theorem test_div : getG (after (.wDiv 0 0 3 1 2) (runs g12)) 0 3 = 0xFFFFFFFFFFFFFFFD#64 ∧ getG (after (.wRem 0 0 3 1 2) (runs g12)) 0 3 = 1#64 := by decide +kernel
theorem test_mulhu : getG (after (.wMulhu 0 0 3 2 2) (runs g12)) 0 3 = 0xFFFFFFFFFFFFFFFC#64 ∧ getG (after (.wMulh 0 0 3 2 2) (runs g12)) 0 3 = 0#64 := by decide +kernel
theorem test_fadd : getG (after (.wFadd 0 0 3 1 2) (runs { g := [(1, 0x3F800000#64), (2, 0x40000000#64)] })) 0 3 = 0x40400000#64 := by decide +kernel
theorem wit_FloatResult_nan : isNaN 0x7FC00000 = true ∧ isNaN 0x3F800000 = false ∧ flt0 0x3F800000 0x40000000 = true ∧
    getG (after (.wFmin 0 0 3 1 2) (runs { g := [(1, 0x7FC00000#64), (2, 0x3F800000#64)] })) 0 3 = 0x3F800000#64 := by decide +kernel
theorem test_lt : getP (after (.wLt 0 0 1 2 1) (runs g12)) 0 1 = true ∧ getP (after (.wLtu 0 0 1 2 1) (runs g12)) 0 1 = false := by decide +kernel
theorem wit_CompareResult_nan : getP (after (.wFle 0 0 1 1 1) (runs { g := [(1, 0x7FC00000#64)] })) 0 1 = false := by decide +kernel
theorem wit_BranchResult_taken : getP (runs g12) 0 0 ≠ false ∧ thPc (after (.wB 0 0 0 false 0x3FFFFD) (runs g12)) 0 = 0xFFFFFFBFFFF4 := by decide +kernel
theorem wit_BranchResult_not : getP (runs g12) 0 1 = false ∧ thPc (after (.wCall 0 0 1 false 4) (runs g12)) 0 = 0xFFFFFFC00004 := by decide +kernel
theorem wit_BranchResult_jump : thPc (after (.wJalr 0 0 0 false 1) (runs (gAt 0x100#64))) 0 = 0x100 ∧ getG (after (.wJalr 0 0 0 false 1) (runs (gAt 0x100#64))) 0 63 = 0xFFFFFFC00004#64 := by decide +kernel
theorem wit_BranchResult_misaligned : thState (after (.wJr 0 0 0 false 1) (runs (gAt 0x102#64))) 0 = 5 := by decide +kernel
theorem test_instret : (after (.wAdd 0 0 3 1 2) (runs g12)).rdN (ENG_B_T_INSTRET 0 0) = 1 := by decide +kernel
theorem wit_LoadResult_pad : place (runs (gAt 0xFFFFFFFE0008#64)) 0 0xFFFFFFFE0008 akREAD = .pad 8 ∧
    getG (after (.wLb 0 0 3 1 0 0) (withPad [(8, 0x80)] (runs (gAt 0xFFFFFFFE0008#64)))) 0 3 = 0xFFFFFFFFFFFFFF80#64 := by decide +kernel
theorem wit_LoadResult_pil : getG (after (.wLhu 0 0 3 1 0xFFE 0) (withPil [(0x10, 0x34), (0x11, 0x12)] (runs (gAt 0xFFFFFFC00012#64)))) 0 3 = 0x1234#64 := by decide +kernel
theorem wit_LoadResult_mem : place (mapped (runs (gAt 0x40#64))) 0 0x40 akREAD = .mem ⟨false, 0x200040⟩ ∧
    getG (after (.wLw 0 0 3 1 0 0) (withDram (table ++ [(0x200041, 0xFF)]) (runs (gAt 0x40#64)))) 0 3 = 0xFF00#64 := by decide +kernel
theorem wit_LoadResult_io : place (runs (gAt 0xFFFFF8100004#64)) 0 0xFFFFF8100004 akREAD = .io 0x100004 ∧
    getG (after (.wLwu 0 0 3 1 0 0) (runs (gAt 0xFFFFF8100028#64))) 0 3 = 1000#64 := by decide +kernel
theorem wit_LoadResult_misaligned : thState (after (.wLd 0 0 3 1 0 0) (runs (gAt 4#64))) 0 = 5 := by decide +kernel
theorem wit_StoreResult_pad : padByte (after (.wSh 0 0 2 1 0) (runs (gAt 0xFFFFFFFE0008#64))) 9 = 0x77 ∧ padByte (after (.wSh 0 0 2 1 0) (runs (gAt 0xFFFFFFFE0008#64))) 10 = 0 := by decide +kernel
theorem wit_StoreResult_pil : pilByte (after (.wSb 0 0 2 1 1) (runs (gAt 0xFFFFFFC00010#64))) 0x11 = 0x88 := by decide +kernel
theorem wit_StoreResult_mem : dramByte (after (.wSd 0 0 2 1 0) (mapped (runs (gAt 0x40#64)))) 0x200047 = 0x11 := by decide +kernel
theorem wit_StoreResult_io : (after (.wSw 0 0 2 1 0) (runs (gAt 0xFFFFF8E00000#64))).pending = [] := by decide +kernel
theorem wit_AtomicResult_pad : padByte (after (.wAadd 0 0 3 1 2 0) (withPad [(0, 1)] (runs (gAt 0xFFFFFFFE0000#64)))) 0 = 0x89 ∧
    getG (after (.wAadd 0 0 3 1 2 0) (withPad [(0, 1)] (runs (gAt 0xFFFFFFFE0000#64)))) 0 3 = 1#64 := by decide +kernel
theorem wit_AtomicResult_mem : dramByte (after (.wSwap 0 0 3 1 2 0) (mapped (runs (gAt 0x40#64)))) 0x200040 = 0x88 := by decide +kernel
theorem wit_AtomicResult_io : (after (.wSwap 0 0 3 1 2 0) (runs (gAt 0xFFFFF8100028#64))).rdN (ENG_B_T_FAULT 0 0) = 4 := by decide +kernel
theorem test_csrw : (after (.wTrap 0 0 0x123) (runs g12)).rdN (ENG_B_T_FAULT 0 0) = 0x1236 ∧ thState (after (.wHalt 0 0) (runs g12)) 0 = 4 := by decide +kernel
theorem wit_FencesAndSystem_bkpt : (after (.wBkpt 0 0) (runs g12)).rdN (ENG_B_T_INSTRET 0 0) = 1 ∧ thState (after (.wBkpt 0 0) (put [(ENG_B_CTL_DBG_EN 0, 1)] (runs g12))) 0 = 4 := by decide +kernel
theorem wit_ThreadControl_start : thPriv (runs g12) 0 = true ∧ thState (runs g12) 3 = 0 ∧ thState (after (.wTstart 0 0 1 2) (runs g12)) 3 = 1 := by decide +kernel
theorem wit_ThreadControl_busy : thState (put [(ENG_B_T_STAT_STATE 0 3, 6)] (runs g12)) 3 ≠ 0 ∧
    ((after (.wTstart 0 0 1 2) (put [(ENG_B_T_STAT_STATE 0 3, 6)] (runs g12))).th 0).opst = 4 := by decide +kernel
theorem wit_ThreadControl_user : thPriv (put [(ENG_B_T_CFG_PRIV 0 0, 0)] (runs g12)) 0 = false ∧
    (after (.wTstop 0 0 1) (put [(ENG_B_T_CFG_PRIV 0 0, 0)] (runs g12))).rdN (ENG_B_T_FAULT 0 0) = 3 := by decide +kernel
theorem wit_ThreadControl_stop : thState (after (.wTstop 0 0 1) (runs (gAt 0))) 0 ≠ 1 := by decide +kernel
theorem test_vadd : getV (after (.wVadd 0 0 0 3 1 2) (runs { v := [(1, 0x1FF#256), (2, 0x101#256)] })) 0 3 = 0x200#256 := by decide +kernel
theorem test_vext : getG (after (.wVext 0 0 1 3 1 15) (runs { v := [(1, 0x8001#256 <<< 240)] })) 0 3 = 0x8001#64 := by decide +kernel
theorem wit_VectorMoves_illegal : (after (.wVext 0 0 1 3 1 16) (runs { v := [(1, 1#256)] })).rdN (ENG_B_T_FAULT 0 0) = 1 := by decide +kernel
theorem wit_VectorMemory : getV (after (.wVld 0 0 3 1 1 0) (withPad [(33, 5)] (runs (gAt 0xFFFFFFFE0000#64)))) 0 3 = 0x500#256 := by decide +kernel
theorem wit_Move : liveMoves (runs { g := [(1, 64#64)] }) 0 = [] ∧ (liveMoves (after (.wMove 0 0 1 1 1) (runs { g := [(1, 64#64)] })) 0).length = 1 := by decide +kernel
theorem wit_Move_bad : ((after (.wMove 0 0 0 1 1) (runs g12)).th 0).moveFail = some 12 ∧ ((after (.wMwait 0 0 3) (runs { g := [(1, 1#64)], moveFail := some 12 })).th 0).opst = 12 := by decide +kernel
theorem wit_Mwait_waits : thState (after (.wMwait 0 0 3) (after (.wMove 0 0 1 1 1) (runs { g := [(1, 64#64)] }))) 0 = 2 := by decide +kernel

/-! ### Queues, phase and mailboxes of the bobbins -/

/-- Queue 5 of pillow 0, with one entry of operation 0x40 at address 0, completing to queue 6; thread 0 has 5 in g1. -/
def withQueue (x : Thread) : State :=
  put [(QUE_Q_CTL_SERVER 5, 2), (QUE_Q_CTL_PILLOWS 5, 1), (QUE_Q_CTL_PRODUCER 5, 1), (QUE_Q_STAT_STATE 5, 1), (QUE_Q_TAIL_TAIL 5, 1), (QUE_Q_LINK_CQ 5, 6),
    (QUE_Q_CTL_TYPE 6, 1), (QUE_Q_STAT_STATE 6, 1), (QUE_Q_BASE 6 |> fun r => ⟨r, 0, 64⟩, 0x1000), (QUE_Q_CTL_TYPE 7, 2), (QUE_Q_CTL_PILLOWS 7, 1), (QUE_Q_STAT_STATE 7, 1),
    (⟨QUE_Q_BASE 7, 0, 64⟩, 0x2000)] (withDram (table ++ [(0x200000, 0x40), (0x200002, 0x34), (0x200003, 0x12)]) (runs x))

def g5 : Thread := { g := [(1, 5#64), (2, 0#64), (4, 7#64), (5, 0xFFFFFFFE0000#64)] }

/-- The queue with its entry claimed by thread 0. -/
def claimed : State := after (.wQpop 0 0 3 1) (withQueue g5)

theorem wit_QueueClaim_issues : Issues (withQueue g5) 0 0 := ⟨by decide, by decide, by decide, by decide, by decide, True.intro⟩
theorem wit_QueueClaim : Claimable (withQueue g5) 0 5 ⟨false, 0x200000⟩ ∧ getG claimed 0 3 = 0#64 ∧ qHead claimed 5 = 1 ∧ (claimed.th 0).opst = 0 :=
  ⟨⟨by decide, by decide, by decide, by decide, by decide, by decide, by decide, by decide, by decide, by decide, by decide, by decide⟩, by decide, by decide, by decide⟩
theorem wit_QueueClaim_refused : qType (runs g5) 5 = 0 ∧ qServer (runs g5) 5 ≠ 2 ∧ ((after (.wQpop 0 0 3 1) (runs g5)).th 0).opst = 13 := by decide +kernel
theorem wit_QueueClaim_kind : qType (withQueue g5) 7 ≠ 0 ∧ ((after (.wQwait 0 0 3 4) (withQueue g5)).th 0).opst = 12 := by decide +kernel
theorem wit_QueueClaim_empty : qPresent claimed 5 = 0 ∧ thState (after (.wQwait 0 0 3 1) claimed) 0 = 2 ∧ ((after (.wQpop 0 0 3 1) claimed).th 0).opst = 0 := by decide +kernel
theorem wit_QueueClaim_wake : (((after (.wQwait 0 0 3 1) claimed).th 0).wait = .queue 5 3) ∧
    thState (after (.qwaitWake 0 0) (put [(QUE_Q_TAIL_TAIL 5, 2)] (withDram (table ++ [(0x200040, 0x40)]) (after (.wQwait 0 0 3 1) claimed)))) 0 = 1 := by decide +kernel
theorem wit_EntryOperations : (threadClaims claimed).filter (fun x => qBase claimed x.1 + 64 * x.2.idx == 0) = [(5, { idx := 0, desc := loadAt claimed ⟨false, 0x200000⟩ 64, by_ := .thread 0 })] ∧
    getG (after (.wQdone 0 0 6 2 2) claimed) 0 6 = 0#64 ∧ ((after (.wQdone 0 0 6 2 2) claimed).queue 5).claims = [] ∧
    kget (fun _ => none) ((after (.wQdone 0 0 6 2 2) claimed).queue 5).ended 0 = some (0x1234, 0) := by decide +kernel
theorem wit_EntryOperations_aborted : getG (after (.wQdone 0 0 6 2 2) (updClaim 5 0 (fun r => { r with aborted := some 0 }) claimed)) 0 6 = 2#64 ∧
    getG (after (.wQchk 0 0 6 2) (updClaim 5 0 (fun r => { r with aborted := some 0 }) claimed)) 0 6 = 1#64 := by decide +kernel
theorem wit_EntryOperations_status : 16 ≤ (getG claimed 0 5).toNat % 256 ∨ ((after (.wQdone 0 0 6 2 4) claimed).th 0).opst = 0 := by decide +kernel
theorem wit_CommitEffect : qState (put [(QUE_Q_STAT_STATE 5, 3)] claimed) 5 = 3 ∧ (commit 5 0 (loadAt claimed ⟨false, 0x200000⟩ 64) 2 0 [] (put [(QUE_Q_STAT_STATE 5, 3)] claimed)).dram = claimed.dram := by decide +kernel
theorem wit_QueueAppend_block : PadBlock (withQueue g5) 0 0xFFFFFFFE0000 0 64 := by
  intro k hk; have : ∀ k < 64, place (withQueue g5) 0 (0xFFFFFFFE0000 + k) akREAD = .pad (0 + k) ∧ localBad true (0 + k) 1 (withQueue g5) = false := by decide +kernel
  exact this k hk
theorem wit_QueueAppend : qTail (after (.wQpush 0 0 3 1 5) (withPad [(5, 9)] (withQueue g5))) 5 = 2 ∧
    dramByte (after (.wQpush 0 0 3 1 5) (withPad [(5, 9)] (withQueue g5))) 0x200045 = 9 := by decide +kernel
theorem wit_QueueAppend_full : ((after (.wQpush 0 0 3 1 5) (put [(QUE_Q_TAIL_TAIL 5, 15)] (withQueue g5))).th 0).opst = 4 := by decide +kernel
theorem wit_QueueAppend_refused : ((after (.wQpush 0 0 3 1 5) (put [(QUE_Q_CTL_PRODUCER 5, 0)] (withQueue g5))).th 0).opst = 13 := by decide +kernel
theorem wit_QueueAppend_event : dramByte (after (.wQevent 0 0 3 4 5) (withPad [(9, 3)] (withQueue g5))) 0x202009 = 3 ∧ ((after (.wQevent 0 0 3 1 5) (withQueue g5)).th 0).opst = 12 := by decide +kernel

/-- Timebase 0 in FREE, with a cycle of 2^24 ns. -/
def free (s : State) : State := after (.tbEnable 0) (regs [(PHS_TB_INC_BASE 0, 2 ^ 32)] s)

def gTb : Thread := { g := [(1, 0#64), (2, 0xFFFFFFFFFFFFFFFF#64), (4, 1#64), (5, 0xFFFFFFFE0000#64)] }

theorem wit_PhaseOperations_off : (runs gTb).tbState 0 = 0 ∧ getG (after (.wPhwait 0 0 3 1 4) (runs gTb)) 0 3 = BitVec.allOnes 64 ∧
    ((after (.wPinpost 0 0 3 1 5) (runs gTb)).th 0).opst = 7 ∧ getG (after (.wShowtime 0 0 3) (runs gTb)) 0 3 = 0#64 := by decide +kernel
theorem wit_PhaseOperations_past : (free (runs gTb)).tbState 0 ≠ 0 ∧ getG (after (.wPhwait 0 0 3 1 2) (free (runs gTb))) 0 3 = 0#64 ∧ getG (after (.wPhread 0 0 3 1) (free (runs gTb))) 0 3 = 0#64 := by decide +kernel
theorem wit_PhaseOperations_future : ((after (.wPhwait 0 0 3 1 4) (free (runs gTb))).th 0).wait = .phase 0 1 3 ∧
    thState (after (.phwaitWake 0 0 100) (after (.wPhwait 0 0 3 1 4) (free (runs gTb)))) 0 = 1 := by decide +kernel
theorem wit_PhaseOperations_pin : postable (free (runs gTb)) 0 (pinOf (readMem [(4, 5)] 0 16)) = true ∧
    ((after (.wPinpost 0 0 3 1 5) (withPad [(4, 5)] (free (runs gTb)))).tb 0).posted.length = 1 ∧
    postable (free (runs gTb)) 0 (pinOf (readMem [] 0 16)) = false ∧ ((after (.wPinpost 0 0 3 1 5) (free (runs gTb))).th 0).opst = 12 := by decide +kernel
theorem wit_WaitsEnd_mail : ((after (.wWaitev 0 0 3 4) (runs gTb)).th 0).wait = .mail 3 (some 1) ∧ thState (after (.wWaitev 0 0 3 4) (runs gTb)) 0 = 2 ∧ (runs gTb).now + 1 ≤ 1 := by decide +kernel

def gMail : Thread := { g := [(1, 511#64), (2, 512#64), (4, 2#64), (5, 1#64)], mail := 77#64, mailFull := true }

theorem wit_Mailbox_full : (runs gMail |>.th 0).mailFull = true ∧ getG (after (.wWaitev 0 0 3 0) (runs gMail)) 0 3 = 77#64 ∧ ((after (.wWaitev 0 0 3 0) (runs gMail)).th 0).mailFull = false := by decide +kernel
theorem wit_Mailbox_empty : ((runs gTb).th 0).mailFull = false ∧ ((after (.wWaitev 0 0 3 0) (runs gTb)).th 0).wait = .mail 3 none := by decide +kernel
theorem wit_Mailbox_signal : ((after (.wSignal 0 0 3 1 4) (put [(ENG_B_T_STAT_STATE 127 3, 1)] (runs gMail))).th 511).mail = 2#64 ∧ ((after (.wSignal 0 0 3 2 4) (runs gMail)).th 0).opst = 12 := by decide +kernel

def gBar : Thread := { g := [(1, 15#64), (2, 2#64), (4, 1#64)] }

/-- Two threads, the first of which waits at barrier 15. -/
def atBarrier : State := after (.wBarrier 0 0 3 1 2) (put [(ENG_B_T_STAT_STATE 0 1, 1)] (setPc 1 0xFFFFFFC00000 { runs gBar with threads := [(0, gBar), (1, gBar)] }))

theorem wit_Barrier : (atBarrier.barrier 15).arrived = [0] ∧ thState atBarrier 0 = 2 ∧ thState (after (.wBarrier 0 1 3 1 2) atBarrier) 0 = 1 ∧
    ((after (.wBarrier 0 1 3 1 2) atBarrier).barrier 15).arrived = [] ∧ ((after (.wBarrier 0 1 3 1 4) atBarrier).th 1).opst = 12 := by decide +kernel
theorem wit_Barrier_one : ((runs gBar).barrier 15).arrived = [] ∧ ((after (.wBarrier 0 0 3 1 4) (runs gBar)).th 0).opst = 0 ∧ thState (after (.wBarrier 0 0 3 1 4) (runs gBar)) 0 = 1 := by decide +kernel
theorem wit_MailboxRule_slot : thState (runs gMail) 3 = 0 ∧ (deliverMail 3 5#64 (runs gMail)).rdN (ENG_B_T_WAKE_LOST 0 3) = 1 := by decide +kernel
theorem wit_MailboxRule_full : ((deliverMail 0 5#64 (runs gMail)).th 0).mail = 5#64 ∧ (deliverMail 0 5#64 (runs gMail)).rdN (ENG_B_T_WAKE_LOST 0 0) = 1 := by decide +kernel
theorem wit_MailboxRule_waits : thState (deliverMail 0 5#64 (after (.wWaitev 0 0 3 0) (runs gTb))) 0 = 1 ∧ getG (deliverMail 0 5#64 (after (.wWaitev 0 0 3 0) (runs gTb))) 0 3 = 5#64 ∧
    ((deliverMail 0 5#64 (runs gTb)).th 0).mail = 5#64 := by decide +kernel
theorem wit_MailboxRule_wake : FiresNext (withPin 0 11 0 5 0 (free (runs gTb))) 0 11 (placedPin 11 0 5 0) ∧ ((after (.wake 0) (withPin 0 11 0 5 0 (free (runs gTb)))).th 0).mail = 5#64 := by unfold FiresNext; decide +kernel
theorem wit_IllegalInstruction : decodeW 0 0 0 (0xF0000000#32).toNat = none ∧ thState (after (.illegalInstruction 0 0 0xF0000000 0 0) (runs gTb)) 0 = 5 ∧
    (after (.illegalInstruction 0 0 0xF0000000 0 0) (runs gTb)).rdN (ENG_B_T_FAULT 0 0) = 1 := by decide +kernel
theorem wit_ThreadFaultEffect : (threadFault 0 15 4095 (2 ^ 64 - 1) 0 (runs gTb)).rdN (ENG_B_T_FAULT 0 0) = 0xFFFF ∧ (threadFault 0 15 4095 (2 ^ 64 - 1) 0 (runs gTb)).rdN (ENG_B_T_FADDR 0 0) = 2 ^ 64 - 1 := by decide +kernel

/-! ### Accesses and adaptation -/

theorem wit_AccessCodes : ∃ r ∈ rowAt (ENG_B_CTL 0), ∃ f ∈ r.fields, f.acc = .rw ∧ fieldAfter 0 (2 ^ 64 - 1) f = 2 ^ f.w - 1 := by decide +kernel
theorem test_access : (after (.registerWrite 0 false (BitVec.ofNat 26 (PHS_TB_OFFSET 0)) false 0x80) base).rdN (PHS_TB_OFFSET 0) = 0x80 := by decide +kernel
theorem wit_HalfWrites : let off : BitVec 26 := BitVec.ofNat 26 (PHS_CW_LEN 0 - PHS_CW_LEN 0 + QUE_Q_BASE 5)
    base.mainOn = true ∧ base.served (blockAt off.toNat) = true ∧ isWide off.toNat = true ∧ off.toNat % 8 = 0 ∧ off.toNat + 4 < 0x2000000 ∧
    (after (.lowerHalfWrite 0 off 0x11) base).rdN (QUE_Q_BASE 5) = 0 ∧ (after (.upperHalfWrite 0 off 0x22) (after (.lowerHalfWrite 0 off 0x11) base)).rdN (QUE_Q_BASE 5) = 0x2200000011 := by decide +kernel
theorem wit_ConsistentRead : let s := put [] { base with showAcc := (2 ^ 32 - 1) * 2 ^ 32 }
    (after (.lowerHalfRead 0 false (BitVec.ofNat 26 PHS_SHOW_TIME) false) s).lastRead = 0xFFFFFFFF#64 ∧
    (after (.lowerHalfRead 0 false (BitVec.ofNat 26 (PHS_SHOW_TIME + 4)) false) (passTime 8 (after (.lowerHalfRead 0 false (BitVec.ofNat 26 PHS_SHOW_TIME) false) s))).lastRead = 0#64 := by decide +kernel
theorem wit_RefusedAccess : fnOn 0 base = true ∧ aligned 2 4 = false ∧ (after (.badWidthAccess 0 2 3 false) base).lastRead = 0xFFFFFFFF#64 ∧
    (after (.badWidthAccess 0 2 3 false) base).rdN GLB_BAD_CNT = 1 ∧ (after (.badWidthAccess 0 2 3 false) base).rdN GLB_BAD_ADDR = 2 + 4 * 2 ^ 28 := by decide +kernel
theorem wit_MsixTable : (kget (fun _ => {}) (after (.registerWrite 0 true (BitVec.ofNat 26 (16 * 2047 + 8)) false 0xABCD) base).msix 2047).data = 0xABCD := by decide +kernel

/-- Bank 6 up and the debug register selected. -/
def tapped : State := put [(⟨DBG_VIO_STAT, 12, 2⟩, 1)] { base with power := { tap := 0x20 } }

theorem wit_TapAccess : tapped.bankUp 6 = true ∧ (after (.dbgAccessUpdate 0x55 (BitVec.ofNat 26 (PHS_TB_OFFSET 0)) true false) (put [(DBG_CTL_JTAG_LOCK, 0)] tapped)).rdN (PHS_TB_OFFSET 0) = 0x55 ∧
    (after (.dbgAccessUpdate 0x55 (BitVec.ofNat 26 (PHS_TB_OFFSET 0)) true false) (put [(DBG_CTL_JTAG_LOCK, 1)] tapped)).rdN (PHS_TB_OFFSET 0) = base.rdN (PHS_TB_OFFSET 0) := by decide +kernel

/-- SCALE of string 0 with bounds 10 and 20 around `v`, free to adapt. -/
def adapting (v : Nat) : State := let p := paramOf (.scale 0); put [(adpAEN p.adp, 1), (adpHOLD p.adp, 0), (adpOVR p.adp, 0), (adpBOUNDS_BAD p.adp, 0)] (regs [(p.lo, 10), (p.hi, 20), (p.val, v)] base)

theorem wit_AdaptationGate : (adapting 15).fld (adpAEN (paramOf (.scale 0)).adp) = 1 ∧ (adaptStep (paramOf (.scale 0)) 16 (adapting 15)).rdN (paramOf (.scale 0)).val = 16 ∧
    adaptStep (paramOf (.scale 0)) 16 (put [(adpHOLD (paramOf (.scale 0)).adp, 1)] (adapting 15)) = put [(adpHOLD (paramOf (.scale 0)).adp, 1)] (adapting 15) := by decide +kernel
theorem wit_AdaptationStep : mayAdapt (adapting 15) (paramOf (.scale 0)) = true ∧ aval (adaptStep (paramOf (.scale 0)) 21 (adapting 20)) (paramOf (.scale 0)) (paramOf (.scale 0)).val = 20 ∧
    (adaptStep (paramOf (.scale 0)) 21 (adapting 20)).flag (adpPINNED (paramOf (.scale 0)).adp) = true ∧ (adaptStep (paramOf (.scale 0)) 20 (adapting 19)).flag (adpPINNED (paramOf (.scale 0)).adp) = false ∧
    aval (adaptStep (paramOf (.scale 0)) 15 (adapting 9)) (paramOf (.scale 0)) (paramOf (.scale 0)).val = 10 ∧ aval (adaptStep (paramOf (.scale 0)) 15 (adapting 21)) (paramOf (.scale 0)) (paramOf (.scale 0)).val = 20 ∧
    aval (adaptStep (paramOf (.scale 0)) 9 (adapting 10)) (paramOf (.scale 0)) (paramOf (.scale 0)).val = 10 := by decide +kernel
theorem wit_AdaptationCommands : (after (.adaptValueWrite (.scale 0) 30) (adapting 15)).rdN (paramOf (.scale 0)).val = 30 ∧
    (after (.adaptRelease (.scale 0)) (put [(adpHOLD (paramOf (.scale 0)).adp, 1)] (adapting 15))).flag (adpHOLD (paramOf (.scale 0)).adp) = false := by decide +kernel
theorem wit_InvertedBounds : (after (.adaptBoundsWrite (.scale 0) true 9) (adapting 15)).flag (adpBOUNDS_BAD (paramOf (.scale 0)).adp) = true ∧
    (after (.adaptBoundsWrite (.scale 0) true 10) (adapting 15)).flag (adpBOUNDS_BAD (paramOf (.scale 0)).adp) = false := by decide +kernel

/-! ### Timebases, banks and pins -/

/-- Timebase 0 in FREE at cycle 0, and 1,000 ns into the cycle (its fraction 256,000). -/
def freeing : State := free base
def midCycle : State := passTime 1000 freeing

/-- A state at the next boundary of timebase 0. -/
def toEdge (s : State) : State := after (.cycleBoundary 0) s

theorem wit_BindingRule : bindCount 0 = 4 ∧ kget (fun _ => none) (after (.bindingWrite 0 1 0) freeing).bindPend (bindKey 0 1) = some (0, 0) ∧
    (after (.bindingWrite 0 1 3) freeing).fld (bindFld 0 1) = 3 := by decide +kernel
theorem wit_BindingRule_effect : boundaryAfter (toEdge (after (.bindingWrite 0 1 0) midCycle)) 0 0 = true ∧ kget (fun _ => none) (after (.bindingEffect 0 1) (toEdge (after (.bindingWrite 0 1 0) midCycle))).bindPend (bindKey 0 1) = none ∧
    boundaryAfter midCycle 0 0 = false ∧ kget (fun _ => none) (after (.bindingEffect 0 1) (after (.bindingWrite 0 1 0) midCycle)).bindPend (bindKey 0 1) = some (0, 0) := by decide +kernel
theorem wit_IncBaseRange : base.tbState 0 = 0 ∧ base.flag (PHS_TB_STAT_STOP_PEND 0) = false ∧
    (after (.tbEnable 0) (regs [(PHS_TB_INC_BASE 0, 0x0112E0BD)] base)).fld (PHS_TB_STAT_CMD_STATUS 0) = 7 ∧ (after (.tbEnable 0) (regs [(PHS_TB_INC_BASE 0, 0x0112E0BE)] base)).tbState 0 = 1 ∧
    (after (.tbEnable 0) (regs [(PHS_TB_INC_BASE 0, 0x068DB8BAC712)] base)).tbState 0 = 0 ∧ (after (.tbEnable 0) (regs [(PHS_TB_INC_BASE 0, 0x068DB8BAC711)] base)).tbState 0 = 1 := by decide +kernel
theorem wit_StartAndStop : namesPickup base (base.rdN (PHS_TB_SRC 0)) = false ∧ incInRange (freeing.incBase 0) = true ∧ freeing.tbState 0 = 1 ∧ (after (.tbDisable 0) freeing).flag (PHS_TB_STAT_STOP_PEND 0) = true ∧
    (after (.tbEnable 0) (after (.tbDisable 0) freeing)).flag (PHS_TB_STAT_STOP_PEND 0) = false ∧ (after (.tbStop 0) (after (.tbDisable 0) midCycle)).tbState 0 = 1 ∧ (after (.tbDisable 0) base).tbState 0 = 0 := by decide +kernel
theorem wit_StartAndStop_stop : let s := toEdge (after (.tbDisable 0) midCycle)
    s.flag (PHS_TB_STAT_STOP_PEND 0) = true ∧ boundaryAfter s 0 (s.tb 0).stopFrom = true ∧ (after (.tbStop 0) s).tbState 0 = 0 ∧ (after (.tbStop 0) freeing).tbState 0 = 1 := by decide +kernel
theorem wit_CycleBoundary : freeing.incEff 0 = 2 ^ 32 ∧ (after (.cycleBoundary 0) midCycle).now = 2 ^ 24 ∧ (after (.cycleBoundary 0) midCycle).cycle 0 = 1 := by decide +kernel
theorem wit_IncBaseWrite : (after (.incBaseWrite 0 0x0112E0BD) freeing).fld (PHS_TB_STAT_CMD_STATUS 0) = 7 ∧ (after (.incBaseWrite 0 0x0112E0BE) freeing).incEff 0 = 0x0112E0BE ∧
    (after (.incBaseWrite 0 7) base).rdN (PHS_TB_INC_BASE 0) = 7 ∧ (after (.incBaseWrite 0 0x2000000) (put [(PHS_TB_STAT_ACTIVE 0, 1)] freeing)).fld (PHS_TB_STAT_CMD_STATUS 0) = 13 ∧
    ((after (.incBaseWrite 0 0x2000000) (put [(PHS_TB_SRC_TYPE 0, 5)] freeing)).tb 0).scanCentre = 0x2000000 := by decide +kernel
theorem wit_SourceWrite : (after (.srcWrite 0 6) freeing).rdN (PHS_TB_SRC 0) = freeing.rdN (PHS_TB_SRC 0) ∧ (after (.srcWrite 0 1) freeing).tbState 0 = 2 ∧ (after (.srcWrite 0 1) base).tbState 0 = 0 ∧
    freeing.flag (PHS_TB_CTL_EN 0) = true := by decide +kernel
theorem wit_SourceWrite_pickup : (put [(PHS_IN_CTL_PICKUP, 1)] freeing).flag (PHS_TB_CTL_EN 0) = true ∧ namesPickup (put [(PHS_IN_CTL_PICKUP, 1)] freeing) 1 = true ∧
    (after (.srcWrite 0 1) (put [(PHS_IN_CTL_PICKUP, 1)] freeing)).fld (PHS_TB_STAT_CMD_STATUS 0) = 7 := by decide +kernel

/-- Timebase 0 locked to a genlock input, 100 ns into a cycle, every bank of lands up. -/
def locked : State := passTime 100 (put [(⟨DBG_VIO_STAT, 0, 16⟩, 0x5555), (PHS_TB_SRC_TYPE 0, 1), (PHS_TB_STAT_STATE 0, 4), (⟨PHS_TB_WIN 0, 0, 20⟩, 200), (PHS_TB_SRC_MULT 0, 1)] freeing)

/-- Its state another one, its last edge stamped at 0, one miss losing its source. -/
def refState (st : Nat) : State := put [(PHS_TB_STAT_STATE 0, st), (PHS_TB_LOCK_LOS_N 0, 1)] (updTb 0 (fun t => { t with lastEdge := some 0, agreeCnt := 0 }) locked)

theorem wit_CorrectionRule : (correct 0 4 (put [(PHS_TB_LOOP_KP 0, 3), (PHS_TB_LOOP_KI 0, 0)] locked)).rdN (PHS_TB_CORR 0) = 12 := by decide +kernel
theorem wit_CorrectionRule_railed : let s := updTb 0 (fun t => { t with railCnt := 63 }) (put [(PHS_TB_LOOP_KI 0, 255), (PHS_TB_SLEW_SLEW_PPM 0, 1)] locked)
    ((correct 0 100000 s).tb 0).integ = 4295 ∧ (correct 0 100000 s).flag (PHS_TB_STAT_RANGE 0) = true ∧ (correct 0 (-2) (correct 0 100000 s)).flag (PHS_TB_STAT_RANGE 0) = false := by decide +kernel
theorem wit_References_free : hearsSource (passTime 5 base) 0 = false ∧ (after (.phase0Reference 0 5 0 0) base).now = 5 := by decide +kernel
theorem wit_References_edge : hearsSource locked 0 = true ∧ (refError locked 0 0 0 1 false).near = -384 ∧ (after (.phase0Reference 0 0 0 0) locked).rdN (PHS_TB_ERR 0) = 2 ^ 32 - 384 ∧
    (after (.phase0Reference 0 0 0 0) (put [(⟨PHS_TB_WIN 0, 0, 20⟩, 95)] locked)).rdN (PHS_TB_REJECT_CNT 0) = 1 ∧ (locked.tb 0).alignPend = false := by decide +kernel
theorem wit_References_acquire : (refState 2).tbState 0 = 2 ∧ ((after (.phase0Reference 0 0 0 0) (refState 2)).tb 0).periods = [384] ∧
    (let s := updTb 0 (fun t => { t with periods := List.replicate 7 67108864, lastEdge := some 0 }) (put [(PHS_TB_STAT_STATE 0, 2)] (passTime 16777120 locked))
     inCapture s 0 (s.incBase 0) (7 * 67108864 + (4 * s.now - 16)) 8 = true ∧ (after (.phase0Reference 0 0 0 0) s).tbState 0 = 3) ∧
    (let s := updTb 0 (fun t => { t with periods := List.replicate 7 67108864 }) (refState 2)
     inCapture s 0 (s.incBase 0) (7 * 67108864 + 384) 8 = false ∧ ((after (.phase0Reference 0 0 0 0) s).tb 0).periods = []) := by decide +kernel
theorem wit_References_holdover : (after (.phase0Reference 0 0 0 0) (refState 5)).tbState 0 = 5 ∧ (after (.phase0Reference 0 0 0 0) (refState 5)).rdN (PHS_TB_REJECT_CNT 0) = 1 ∧
    (let s := updTb 0 (fun t => { t with lastEdge := some 0 }) (put [(PHS_TB_STAT_STATE 0, 5)] (passTime 16777120 locked))
     (4 * s.now - 16) * (refPeriod s 0 (s.incEff 0)).2 = (refPeriod s 0 (s.incEff 0)).1 ∧ (after (.phase0Reference 0 0 0 0) s).tbState 0 = 3) := by decide +kernel
theorem wit_References_scanner : let s := updTb 0 (fun t => { t with scanCentre := 2 ^ 32, lastEdge := some 0 }) (put [(PHS_TB_SRC_TYPE 0, 5), (PHS_IN_CTL_PICKUP, 1)] (passTime 16777120 locked))
    hearsSource s 0 = true ∧ inCapture s 0 (s.tb 0).scanCentre (4 * s.now - 16) 1 = true ∧ (after (.phase0Reference 0 0 0 0) s).flag (PHS_TB_STAT_BASE_UPD 0) = true := by decide +kernel
theorem wit_Subcycle : let s := put [(⟨PHS_TB_SUBDIV 0, 0, 24⟩, 2)] locked
    subError locked 0 0 0 = none ∧ subError s 0 0 0 = some (refError s 0 0 0 2 true) ∧ (refError s 0 0 0 2 true).near = -384 ∧ (after (.subcycleReference 0 0 0 0) s).rdN (PHS_TB_ERR 0) = 2 ^ 32 - 384 ∧
    (after (.subcycleReference 0 0 0 0) (put [(⟨PHS_TB_WIN 0, 0, 20⟩, 95)] s)).rdN (PHS_TB_REJECT_CNT 0) = 1 ∧ (after (.subcycleReference 0 0 0 0) (put [(PHS_TB_STAT_STATE 0, 3)] s)).rdN (PHS_TB_ERR 0) = 0 := by decide +kernel
theorem wit_Missed : (refState 4).tbState 0 = 4 ∧ (after (.referenceMissed 0) (refState 4)).tbState 0 = 5 ∧ ((after (.referenceMissed 0) (put [(PHS_TB_LOCK_LOS_N 0, 2)] (refState 4))).tb 0).missCnt = 1 ∧
    after (.referenceMissed 0) freeing = freeing := by decide +kernel
theorem wit_CountAndAlignment : (after (.cmdAlign 0) freeing).fld (PHS_TB_STAT_CMD_STATUS 0) = 7 ∧ ((after (.cmdAlign 0) locked).tb 0).alignPend = true ∧
    (after (.cmdAlign 0) (put [(PHS_TB_STAT_ARM_PEND 0, 1)] locked)).fld (PHS_TB_STAT_CMD_STATUS 0) = 13 := by decide +kernel
theorem wit_CountAndAlignment_set : let s := fun t => toEdge (updTb 0 (fun x => { x with countPend := some (9, 0), stepPend := some (9, 0) }) (put [(PHS_TB_SRC_TYPE 0, t)] midCycle))
    boundaryAfter (s 4) 0 0 = true ∧ (after (.cycleCountSet 0) (s 4)).cycle 0 = 10 ∧ (after (.cycleCountSet 0) (s 1)).cycle 0 = 0 ∧
    (after (.cycleStep 0) (put [(PHS_TB_STAT_STATE 0, 4)] (s 4))).cycle 0 = 10 ∧ (after (.cycleStep 0) (s 4)).cycle 0 = 1 := by decide +kernel
theorem wit_Alignment : (after (.alignment 0 0 0) (after (.cmdAlign 0) locked)).frac56 0 = 4 * 2 ^ 32 ∧ ((after (.alignment 0 0 0) (after (.cmdAlign 0) locked)).tb 0).alignPend = false ∧
    (after (.alignment 0 0 0) locked).frac56 0 = locked.frac56 0 := by decide +kernel

/-- Bank B of timebase 0 holds one MARK pin, at 0x100000. -/
def withBank : State := regs [(PHS_TB_BANKB_BASE 0, 0x100000), (PHS_TB_BANKB_COUNT 0, 1)] (withDram (table ++ [(0x300004, 12), (0x300005, 1)]) freeing)

/-- Its arm, validated. -/
def armed : State := after (.armValidationDone 0 10) (after (.armGo 0 5) withBank)

/-- The bank in use, and its pin read ahead. -/
def swapped : State := after (.bankSwap 0) (after (.cycleBoundary 0) armed)
def readIn : State := after (.pinReadahead 0 0 false 0) swapped

theorem wit_Arming : (after (.armGo 0 1) freeing).tbs = freeing.tbs ∧ (after (.armGo 0 5) freeing).flag (PHS_TB_STAT_ARM_PEND 0) = true ∧
    (after (.armGo 0 5) (after (.armGo 0 5) freeing)).rdN (PHS_TB_ARM_STAT 0) = 4 ∧ (after (.armGo 0 5) base).rdN (PHS_TB_ARM_STAT 0) = 7 ∧
    (after (.armGo 0 5) (put [(PHS_TB_STAT_ACTIVE 0, 1), (PHS_TB_STAT_ACTIVE_BANK 0, 1)] freeing)).rdN (PHS_TB_ARM_STAT 0) = 13 := by decide +kernel
theorem wit_Arming_cancel : ((after (.cancelArm 0) armed).tb 0).arm = none ∧ (after (.cancelArm 0) freeing).fld (PHS_TB_STAT_CMD_STATUS 0) = 3 ∧
    (let s := toEdge armed; (s.tb 0).arm.map (swapNow s 0) = some true ∧ (after (.cancelArm 0) s).fld (PHS_TB_STAT_CMD_STATUS 0) = 3) := by decide +kernel
theorem wit_Arming_valid : ((after (.armGo 0 5) withBank).tb 0).arm.map (fun a => a.bank) = some 1 ∧ armed.rdN (PHS_TB_ARM_STAT 0) = 0 ∧ ((armed.tb 0).arm.bind (fun a => a.validAt)).isSome = true := by decide +kernel
theorem wit_Arming_bad : (after (.armValidationDone 0 10) (after (.armGo 0 5) (withDram (table ++ [(0x300004, 13)]) withBank))).rdN (PHS_TB_ARM_STAT 0) = 12 + 2 * 256 := by decide +kernel
theorem wit_BankSwap : (after (.cycleBoundary 0) armed).tbState 0 ≠ 0 ∧ atBoundary (after (.cycleBoundary 0) armed) 0 = true ∧ swapped.flag (PHS_TB_STAT_ACTIVE 0) = true ∧ swapped.fld (PHS_TB_STAT_ACTIVE_BANK 0) = 1 := by decide +kernel
theorem wit_BankSwap_soon : let s := after (.armValidationDone 0 0) (after (.armGo 0 5) withBank)
    atBoundary s 0 = true ∧ s.now < 8000 ∧ (after (.bankSwap 0) s).flag (PHS_TB_STAT_ACTIVE 0) = false := by decide +kernel
theorem wit_BankSwap_lapses : let s := updTb 0 (fun t => { t with arm := t.arm.map (fun a => { a with atCycle := true }) }) (after (.cycleBoundary 0) armed)
    (after (.bankSwap 0) (regs [(PHS_TB_SWAP_CYCLE 0, 0)] s)).rdN (PHS_TB_ARM_STAT 0) = 11 ∧ (after (.bankSwap 0) (regs [(PHS_TB_SWAP_CYCLE 0, 1)] s)).flag (PHS_TB_STAT_ACTIVE 0) = true := by decide +kernel
theorem wit_ReadAhead : heldPin readIn 0 1 0 = some { frac := 0, action := 12, flags := 1 } := by decide +kernel
theorem wit_Dispatch_late : let z := after (.pinDispatch 0) readIn
    (z.tb 0).dispatched.map (fun d => (d.pin.action, d.late, d.placed)) = [(12, true, 4 * (2 ^ 24 + 64))] ∧ ((after (.mark 0) z).tb 0).dispatched = [] ∧ (after (.mark 0) z).now = 2 ^ 24 + 64 := by decide +kernel

/-- The bank in use holds another pin, read ahead. -/
def other (l : List Host.Cell) : State := after (.pinReadahead 0 0 false 0) (withDram (table ++ l) swapped)

theorem wit_Dispatch : ((after (.pinDispatch 0) (other [(0x300001, 0x64), (0x300004, 12), (0x300005, 1)])).tb 0).dispatched.map (fun d => (d.pin.action, d.late, d.placed)) = [(12, false, 4 * (2 ^ 24 + 100))] ∧
    ((after (.pinDispatch 0) (other [(0x300002, 1), (0x300004, 12), (0x300005, 1)])).now = 2 ^ 24 + 256 - 127) ∧ ((after (.pinDispatch 0) (other [(0x300001, 0x64), (0x300004, 12)])).tb 0).dispatched = [] := by decide +kernel
theorem wit_Dispatch_blind : (after (.mark 0) (put [(PHS_TB_BLIND_CNT_ALL 0, 0)] (after (.pinDispatch 0) (other [(0x300004, 12), (0x300005, 9)])))).rdN (PHS_TB_BLIND_SUP_CNT 0) = 1 := by decide +kernel
theorem wit_PinsFire : FiresNext (withPin 0 0 0 0 9 freeing) 0 0 (placedPin 0 0 0 9) ∧ (after (.nop 0) (withPin 0 0 0 0 9 freeing)).now = 9 ∧ nextPlaced freeing 0 = none ∧ after (.mark 0) (withPin 0 0 0 0 9 freeing) = withPin 0 0 0 0 9 freeing := by
  unfold FiresNext; decide +kernel
theorem wit_PinsFire_stamp : let s := put [(PHS_TB_CTL_STAMP_ALL 0, 0)] (regs [(PHS_TB_STAMP_SIZE 0, 16), (PHS_TB_STAMP_BASE 0, 0x8000)] (mapped freeing))
    ringSizeOk 16 = true ∧ (sysStore 2 0 0x8000 [1#8] s).2 = true ∧ (putStamp 0 [1#8] s).rdN (PHS_TB_STAMP_HEAD 0) = 1 ∧
    (putStamp 0 [1#8] (regs [(PHS_TB_STAMP_TAIL 0, 1)] s)).rdN (PHS_TB_STAMP_LOST_CNT 0) = 1 := by decide +kernel
theorem wit_CameraWindows : (after (.cwWrite 0 1 0x1234) freeing).flag (PHS_CW_CTL_PEND 0) = true ∧ (after (.cwWrite 0 1 0x1234) base).rdN (PHS_CW_START 0) = 0x1234 ∧
    (after (.cwChangeEffect 0) (toEdge (after (.cwWrite 0 2 0x1234) midCycle))).rdN (PHS_CW_LEN 0) = 0x1234 ∧ (after (.cwChangeEffect 0) (after (.cwWrite 0 2 0x1234) midCycle)).rdN (PHS_CW_LEN 0) = 0 := by decide +kernel

/-- Window 0 hears shutter 0. -/
def shutter : State := put [(PHS_CW_CTL_EN 0, 1), (PHS_CW_CTL_SHUT_EN 0, 1), (⟨DBG_VIO_STAT, 0, 16⟩, 0x5555)] midCycle

theorem wit_CameraWindows_shutter : shutWindows shutter 0 = [0] ∧ ((after (.shutterOpenEdge 0 0) shutter).cw 0).openFrac = some 256000 ∧ ((after (.shutterCloseEdge 0 9) (after (.shutterOpenEdge 0 0) shutter)).cw 0).measured = true ∧
    (after (.shutterCloseEdge 0 9) (after (.shutterOpenEdge 0 0) shutter)).rdN (PHS_CW_MEAS 0) = 256000 + 258304 * 2 ^ 32 := by decide +kernel
theorem wit_CameraWindows_judged : let s := fun l => regs [(PHS_CW_START 0, 200000), (PHS_CW_LEN 0, l)] shutter
    (after (.shutterCloseEdge 0 9) (after (.shutterOpenEdge 0 0) (s 58304))).rdN (PHS_CW_MISMATCH_CNT 0) = 0 ∧ (after (.shutterCloseEdge 0 9) (after (.shutterOpenEdge 0 0) (s 58303))).rdN (PHS_CW_MISMATCH_CNT 0) = 1 := by decide +kernel

/-! ### Facet ports -/

/-- Port 0 enabled and linked at 26,400 Mbaud (a row of words each 2.5 ns), of 1,024 columns and 576 rows, driven by timebase 0. -/
def ported : State := put [(SEQ_P_CTL_EN 0, 1), (SEQ_F_STAT_ACTIVE 0, 1), (LNK_K_STAT_STAGE 0, 5), (⟨SEQ_F_RATE 0, 0, 16⟩, 26400), (SEQ_P_CTL_TB 0, 0), (SEQ_P_CTL_ARRAYS 0, 1), (SEQ_P_GEOM_COLS_256 0, 4), (SEQ_P_GEOM_ROWS_16 0, 36)] (mapped freeing)

/-- A BLOCK_LOAD pin of timebase 0 for the blocks of a mask of array 0, of the all-off plane, placed at 5 ns. -/
def loadPin (m : Nat) (s : State) : State := withPin 0 1 0 (0xC00000 + m) 5 s

/-- A load of the all-off plane into block 0. -/
def loading : State := after (.blockLoad 0) (loadPin 1 ported)

theorem wit_BlockLoads : FiresNext (loadPin 1 ported) 0 1 (placedPin 1 0 0xC00001 5) ∧ portGate (loadPin 1 ported) 0 0 0 = none ∧ ((ported.port 0).cur = none ∧ (ported.port 0).due = []) ∧
    (loadOf (loadPin 1 ported) 0 0 1 0xC0).map (fun l => l.fill) = some (some false) ∧ (loading.port 0).cur.map (fun l => (l.fill, l.ready, l.next, l.sent)) = some (some false, 44, 50, 0) ∧ (loading.port 0).queue = [] := by
  unfold FiresNext; decide +kernel
theorem wit_BlockLoads_gate : (after (.blockLoad 0) (loadPin 1 (put [(SEQ_P_CTL_TB 0, 1)] ported))).rdN (PHS_TB_BIND_MISS_CNT 0) = 1 ∧
    (after (.blockLoad 0) (loadPin 1 (put [(SEQ_F_STAT_ACTIVE 0, 0)] ported))).rdN (SEQ_F_LINK_DROP_CNT 0) = 1 ∧
    portGate (put [(SEQ_P_CTL_EN 0, 0)] ported) 0 0 0 = some none ∧ loadOf (put [(SEQ_P_CTL_ARRAYS 0, 1)] ported) 0 1 1 0xC0 = none ∧ loadOf ported 0 0 1 64 = none ∧
    (after (.blockLoad 0) (withPin 0 1 4 0xC00001 5 ported)).rdN (SEQ_P_LOAD_DROP_CNT 0) = 1 := by decide +kernel

/-- Four more loads of single blocks wait behind the first. -/
def queued : State := [2, 4, 8, 16].foldl (fun t m => after (.blockLoad 0) (loadPin m t)) loading

theorem wit_BlockLoads_full : (queued.port 0).queue.map (fun l => (l.mask, l.queued)) = [(2, true), (4, true), (8, true), (16, true)] ∧ (after (.blockLoad 0) (loadPin 32 queued)).rdN (SEQ_P_LOAD_DROP_CNT 0) = 1 := by decide +kernel
theorem wit_BlockLoads_stream : (openFrom loading 0 = some 0 ∧ (loading.port 0).due = [] ∧ (loading.port 0).nextPos ≤ 50 ∧ loadTotal loading 0 ((loading.port 0).cur.getD ⟨0, 0, 0, none, none, 0, 0, 0, false, [], false, none⟩) = 1) ∧
    ((after (.loadStreamDone 0) loading).port 0).cur = none ∧ ((after (.loadStreamDone 0) loading).port 0).sent.map (fun w => w.1) = [50] ∧ (after (.loadStreamDone 0) loading).now = 13 := by decide +kernel
theorem wit_BlockLoads_next : let s := freeLink 0 (updPort 0 (fun x => { x with cur := x.cur.map (fun l => { l with sent := 1 }), nextPos := 51 }) queued)
    ((s.port 0).cur.map (fun l => (l.mask, l.queued, l.sent, l.next)) = some (2, true, 0, 60)) ∧ (openFrom s 0 = some 0) ∧ ((after (.loadQueuedStart 0) s).port 0).cur.map (fun l => l.mask) = some 4 ∧
    ((after (.loadQueuedStart 0) s).port 0).sent.map (fun w => w.1) = [60] := by decide +kernel

/-- A MIRROR_RESET pin of timebase 0 for a mask and kind, placed at 5 ns. -/
def resetPin (x : Nat) (s : State) : State := withPin 0 2 0 x 5 s

theorem wit_MirrorResets : FiresNext (resetPin 0x1FFFF ported) 0 2 (placedPin 2 0 0x1FFFF 5) ∧ (linkCarries ported 0 = true) ∧ ((after (.mirrorReset 0) (resetPin 0x1FFFF ported)).port 0).due = [.reset 0 1 0xFFFF 20 44 false] ∧
    (after (.mirrorReset 0) (resetPin 0x40001 ported)).rdN (SEQ_P_LOAD_DROP_CNT 0) = 1 ∧ (after (.mirrorReset 0) (resetPin 0x1FFFF (put [(SEQ_F_STAT_ACTIVE 0, 0)] ported))).rdN (SEQ_F_LINK_DROP_CNT 0) = 1 := by
  unfold FiresNext; decide +kernel
theorem wit_MirrorResets_word : let t := enterReset 0 51 0 1 0xFFFF 20 44 false ported
    (dwellBlocks ported 0 0 0xFFFF 20 = 0 ∧ streamingBlock ported 0 0 = none ∧ 51 / 10 * 264000 ≤ (44 + 1023) * fwdRate ported 0) ∧
    (t.port 0).sent = [(51, ctlWord 0xC3 (pack [(2, 4, 1), (6, 16, 0xFFFF), (22, 10, 6)]))] ∧ (t.port 0).arr0.rseq = 1 := by decide +kernel

/-- A port whose set fits one page. -/
def setIn : State := passTime 1 (after (.setReadyWrite 0 1) (put [(SEQ_P_CTL_COMPS 0, 1)] (regs [(SEQ_P_SET_BASE 0 0, 0)] ported)))

/-- A VB_LATCH pin of timebase 0 for port 0, placed at 5 ns. -/
def latchPin (s : State) : State := withPin 0 8 0 0 5 s

/-- The set on screen. -/
def showing : State := after (.vbLatch 0) (latchPin setIn)

theorem wit_PlaneSets_ready : setIn.fld ⟨SEQ_P_SET_READY 0, 0, 1⟩ = 1 ∧ (setIn.port 0).ready = [(0, 0)] ∧ setIn.mmu.holders.length = 1 ∧
    after (.setReadyWrite 0 1) setIn = setIn := by decide +kernel
theorem wit_PlaneSets_latch : FiresNext (latchPin setIn) 0 8 (placedPin 8 0 0 5) ∧ latchGate (latchPin setIn) 0 0 = none ∧ showing.flag (SEQ_P_SET_STAT_SHOWING 0) = true ∧ (showing.port 0).lastLatch = some 20 ∧
    (after (.vbLatch 0) (latchPin (put [(SEQ_P_CTL_TB 0, 1)] setIn))).rdN (PHS_TB_BIND_MISS_CNT 0) = 1 := by unfold FiresNext; decide +kernel
theorem wit_PlaneSets_repeat : let s := after (.setReadyWrite 0 0) showing
    (s.flag (SEQ_P_SET_STAT_SHOWING 0) = true) ∧ ((updPort 0 (fun x => { x with ready := [] }) s).port 0).ready = [] ∧ (after (.vbLatch 0) (withPin 0 8 0 0 9 (updPort 0 (fun x => { x with ready := [] }) s))).rdN (SEQ_P_SET_REPEAT_CNT 0) = 1 := by decide +kernel

/-- What a module of one array answers: version 1, and its geometry. -/
def capped : State := put [(SEQ_P_CTL_EN 0, 0)] (updPort 0 (fun x => { x with capsDone := true, arr0 := { x.arr0 with doneCaps := [(0, 0x10001), (1, BitVec.ofNat 32 (1024 + 576 * 65536))] } }) ported)

theorem wit_PlaneSets_enable : (geomOk capped 0 = true ∧ otherArrays capped 0 + pArrays capped 0 ≤ 4) ∧ capFault capped 0 = none ∧ (after (.seqPortEnable 0) capped).flag (SEQ_P_CTL_EN 0) = true ∧
    capFault (put [(SEQ_P_GEOM_ROWS_16 0, 37)] capped) 0 = some (0, 1, 1024 + 576 * 65536) ∧
    (after (.seqPortEnable 0) (put [(SEQ_P_GEOM_ROWS_16 0, 37)] capped)).flag (SEQ_F_STAT_CAP_MISMATCH 0) = true := by decide +kernel
theorem wit_PlaneSets_refused : let s := updPort 0 (fun x => { x with arr0 := { x.arr0 with doneCaps := [(0, 0x10001), (1, BitVec.ofNat 32 (1024 + 560 * 65536))] } }) (put [(SEQ_P_GEOM_ROWS_16 0, 35)] capped)
    capFault s 0 = none ∧ geomOk s 0 = false ∧ (after (.seqPortEnable 0) s).flag (SEQ_P_CTL_EN 0) = false := by decide +kernel
theorem wit_PlaneSets_beam : let s := put [(SEQ_P_CTL_MODE 0, 1), (PHS_TB_SRC_TYPE 0, 5)] capped
    geomOk s 0 = true ∧ (after (.seqPortEnable 0) s).flag (SEQ_P_CTL_EN 0) = true ∧ (after (.seqPortEnable 0) (put [(PHS_TB_SRC_TYPE 0, 1)] s)).flag (SEQ_P_CTL_EN 0) = false := by decide +kernel
theorem wit_PlaneSets_disable : (after (.seqPortDisable 0) showing).flag (SEQ_P_CTL_EN 0) = false ∧ ((after (.seqPortDisable 0) setIn).port 0).ready = [] := by decide +kernel

/-- A load of block 0 of plane 3 announced for port 0, of pin 7 of the bank in use, and that plane being fetched into buffer 0. -/
def notice : Notice := ⟨0, 1, 7, 0, 1, 3, 8000⟩
def noticed : State := fetchNotice 0 notice (put [(PHS_TB_STAT_ACTIVE 0, 1), (PHS_TB_STAT_ACTIVE_BANK 0, 1)] showing)
def fetching : State := after (.planeFetchStart 0) noticed

theorem wit_PlaneFetch : (pendingLoads noticed 0 = [notice] ∧ latchBefore noticed 0 8000 = false ∧ bufFor noticed 0 [] notice = some 0) ∧ (fetching.port 0).buf0.plane = some (0, 0, 3) ∧ (fetching.port 0).buf0.blocks = [0] ∧
    sysServed fetching (planeAddr fetching 0 0 0 3) 16 = true ∧ ((after (.planeFetchData 0 0 0 2) fetching).port 0).buf0.got = 2 ∧ ((after (.planeFetchData 0 0 0 2) fetching).port 0).buf0.fetching = some 8000 ∧
    (after (.planeFetchData 0 0 2000 2) fetching).rdN (MEM_SRC_LATE_CNT 0) = 1 := by decide +kernel

/-- A beam port, of 4 columns and 2 lines, its frame at 0 on screen. -/
def beamed : State := put [(SEQ_P_CTL_MODE 0, 1), (PHS_TB_SRC_TYPE 0, 5), (SEQ_P_BEAM_GEOM_LINES 0, 2), (SEQ_P_BEAM_GEOM_COLS 0, 4)] (regs [(SEQ_P_BEAM_STRIDE 0, 64)] (withDram (table ++ [(0x200000, 9)]) showing))

theorem wit_LineFetch : (nextLines beamed 0 = [(0, 0), (0, 1)] ∧ (beamed.port 0).line0.line = none) ∧ ((after (.planeFetchStart 0) beamed).port 0).line0.line = some (0, 0) ∧
    ((after (.planeFetchData 0 0 0 9) (after (.planeFetchStart 0) beamed)).port 0).line0.got = 4 ∧ ((after (.planeFetchData 0 0 0 9) (after (.planeFetchStart 0) beamed)).port 0).line0.words = [(0, 9#64)] := by decide +kernel
theorem wit_Parking : parkRefused ported 0 = false ∧ (after (.cmdPark 0) ported).flag (SEQ_F_STAT_PARK_PEND 0) = true ∧ (after (.cmdUnpark 0) (after (.cmdPark 0) ported)).fld (SEQ_F_STAT_CMD_STATUS 0) = 4 ∧
    (after (.cmdPark 0) base).fld (SEQ_F_STAT_CMD_STATUS 0) = 7 ∧ ((after (.vbLatch 0) (latchPin (after (.cmdPark 0) setIn))).port 0).parkDue = some (true, 20) := by decide +kernel
theorem wit_Parking_latch : let s := fun b => updPort 0 (fun x => { x with parkDue := some (b, 20) }) ported
    ((after (.parkAtLatch 0) (s true)).port 0).parkHold = true ∧ ((after (.parkAtLatch 0) (s true)).port 0).due = [.reset 0 1 0xFFFF 20 44 false] ∧ ((after (.unparkAtLatch 0) (s false)).port 0).parkDue = none ∧
    after (.parkAtLatch 0) ported = ported := by decide +kernel
theorem wit_Parking_again : let s := updPort 0 (fun x => { x with parkHold := true, arr0 := { x.arr0 with parkAgain := 3 } }) ported
    furtherAt s 0 0 = some 0 ∧ ((after (.furtherPark 0 0) s).port 0).arr0.parkAgain = 0 ∧ furtherAt ported 0 0 = none ∧ after (.furtherPark 0 0) ported = ported ∧
    (let z := updPort 0 (fun x => { x with parkHold := false }) s; after (.furtherPark 0 0) z = z) := by decide +kernel

/-- A load of block 0 that awaits its ACK. -/
def awaiting : State := after (.loadStreamDone 0) loading

theorem wit_BackChannel : (awaiting.port 0).await.map (fun x => (x.arr, x.lseq, x.sentAt.isSome)) = [(0, 0, true)] ∧ ((awaiting.port 0).cur = none ∧ (awaiting.port 0).due = [] ∧ linkCarries awaiting 0 = true) ∧ ((after (.ack 0 0 0 0 0 0) awaiting).port 0).await = [] ∧
    (after (.ack 0 0 0 0 1 0) awaiting).rdN (SEQ_F_A_CRC_ERR_CNT 0 0) = 1 ∧ (after (.ack 0 0 0 0 2 0) awaiting).rdN (SEQ_F_A_NAK_CNT 0 0) = 1 ∧
    (after (.ack 0 0 0 1 0 0) awaiting).rdN (SEQ_F_BAD_WORD_CNT 0) = 1 := by decide +kernel
theorem wit_BackChannel_timeout : ((nextTimeout (awaiting.port 0)).map (fun x => x.1.arr) = some 0) ∧ (after (.ackTimeout 0) awaiting).rdN (SEQ_F_A_ACK_MISS_CNT 0 0) = 1 ∧ ((after (.ackTimeout 0) awaiting).port 0).await = [] ∧
    nextTimeout (ported.port 0) = none ∧ after (.ackTimeout 0) ported = ported := by decide +kernel
theorem wit_BackChannel_words : (after (.statusWord 0 0 0xFFFF 1 0) ported).fld (SEQ_F_A_BSTATE_PARKED 0 0) = 0xFFFF ∧ (after (.resetNak 0 2 0 7 0) ported).rdN (SEQ_F_A_RESET_NAK_CNT 0 2) = 3 ∧
    (after (.backWordDiscard 0) ported).rdN (SEQ_F_BAD_WORD_CNT 0) = 1 ∧ bit ((after (.capWord 0 0 6 9) ported).port 0).arr0.capsSeen 6 = true ∧ linkCarries ported 3 = false ∧ after (.backWordDiscard 3) ported = ported := by decide +kernel
theorem wit_BackChannel_echo : let s := updPort 0 (fun x => { x with echoSent := [(1, 0)] }) ported
    ((after (.echoWord 0 1 8) s).port 0).echoes = [32] ∧ (after (.echoWord 3 1 8) s).now = 8 := by decide +kernel

/-- Every value of a module's array 0 known, and eight echoes back. -/
def capsIn : State := updPort 0 (fun x => { x with capsBusy := true, echoes := List.replicate 8 100, arr0 := { x.arr0 with caps := [(0, 0x10001), (1, 5)], capsSeen := 127 } }) ported

theorem wit_FacetCommands : (linkCarries capsIn 0 = true ∧ (capsIn.port 0).capsBusy = true ∧ capsComplete (capsIn.port 0) = true ∧ 8 ≤ (capsIn.port 0).echoes.length) ∧ (after (.facetCapsDone 0) capsIn).fld (SEQ_F_STAT_FOUND 0) = 1 ∧
    (after (.facetCapsDone 0) capsIn).rdN (SEQ_F_A_GEOM 0 0) = 5 ∧ (after (.facetCapsDone 0) capsIn).rdN (SEQ_F_FLIGHT 0) = 50 ∧ after (.facetCapsDone 0) ported = ported := by decide +kernel
theorem wit_FacetCommands_recap : (after (.cmdRecap 0) ported).fld (SEQ_F_STAT_CMD_STATUS 0) = 7 ∧ (after (.cmdRecap 0) (put [(SEQ_P_CTL_EN 0, 0)] ported)).fld (SEQ_F_STAT_CMD_STATUS 0) = 0 ∧
    (after (.cmdRecap 0) (put [(SEQ_P_CTL_EN 0, 0)] capsIn)).fld (SEQ_F_STAT_CMD_STATUS 0) = 4 := by decide +kernel
theorem wit_FacetCommands_limits : let s := updPort 0 (fun x => { x with arr0 := { x.arr0 with tlimRep := 0x05000400 } }) ported
    (after (.tlimWrite 0 0 0x06000300) s).rdN (SEQ_F_A_TLIM 0 0) = 0x05000300 ∧ (after (.tempIntWrite 0 9) ported).fld (SEQ_F_CTL_TEMP_INT 0) = 9 ∧
    ((after (.tempIntWrite 0 9) (put [(SEQ_F_STAT_FOUND 0, 1)] ported)).port 0).due = [.cmd 3 0 9 0] ∧ (after (.cloneWrite 1 true 2) ported).fld (SEQ_F_CTL_CLONE_SRC 1) = 2 ∧ after (.cloneWrite 0 true 2) ported = ported := by decide +kernel

/-- Array 0 tripped by a reading of sensor 0 at its limit. -/
def tripped : State := after (.tempWord 0 0 0 0 0x500) (put [(SEQ_F_A_TLIM_WARN 0 0, 0x400), (SEQ_F_A_TLIM_TRIP 0 0, 0x500)] ported)

theorem wit_Temperatures : bit (tripped.fld (SEQ_F_STAT_TRIP 0)) 0 = true ∧ (bit (tripped.port 0).arr0.reported 0 = true) ∧ (after (.cmdClearTrip 0) tripped).fld (SEQ_F_STAT_CMD_STATUS 0) = 7 ∧
    ((after (.cmdClearTrip 0) (after (.tempWord 0 0 0 0 0x3FF) tripped)).port 0).clearPend = 1 ∧ (after (.cmdClearTrip 0) (after (.cmdClearTrip 0) (after (.tempWord 0 0 0 0 0x3FF) tripped))).fld (SEQ_F_STAT_CMD_STATUS 0) = 4 ∧
    bit ((after (.tempWord 0 0 0 0 0x4FF) (put [(SEQ_F_A_TLIM_TRIP 0 0, 0x500)] ported)).fld (SEQ_F_STAT_TRIP 0)) 0 = false ∧ (after (.tempWord 3 0 0 2 0x500) ported).now = 2 := by decide +kernel
theorem wit_Temperatures_release : let s := updPort 0 (fun x => { x with tripDue := 1 }) tripped
    bit ((after (.tripRelease 0) s).fld (SEQ_F_STAT_TRIP 0)) 0 = false ∧ after (.tripRelease 0) tripped = tripped := by decide +kernel
theorem wit_Temperatures_stale : let s := put [(SEQ_F_STAT_FOUND 0, 1), (SEQ_F_CTL_TEMP_INT 0, 1)] (updPort 0 (fun x => { x with capsDone := true }) ported)
    sensors s 0 0 = 1 ∧ bit ((after (.tempStale 0 0 0 16000000) s).fld (SEQ_F_STAT_STALE 0)) 0 = true ∧ bit ((after (.tempStale 0 0 0 15999999) s).fld (SEQ_F_STAT_STALE 0)) 0 = false ∧
    bit ((after (.tempStale 0 0 1 16000000) s).fld (SEQ_F_STAT_STALE 0)) 0 = false := by decide +kernel

/-- A BEAM_SWEEP pin of timebase 0 for a port, placed at 5 ns. -/
def sweepPin (p arg : Nat) (s : State) : State := withPin 0 10 p arg 5 s

theorem wit_BeamSweeps : FiresNext (sweepPin 0 0 beamed) 0 10 (placedPin 10 0 0 5) ∧ beamDraws (sweepPin 0 0 beamed) 0 = true ∧ (after (.beamSweep 0) (sweepPin 0 0 beamed)).fld (SEQ_P_BEAM_LINE_LINE 0) = 1 ∧
    ((after (.beamSweep 0) (sweepPin 0 0 beamed)).port 0).beam.map (fun b => (b.rev, b.line, b.next, b.n)) = some (false, 0, 44, 0) := by unfold FiresNext; decide +kernel
theorem wit_BeamSweeps_not : (after (.beamSweep 0) (sweepPin 0 0 (put [(SEQ_P_CTL_TB 0, 1)] beamed))).rdN (PHS_TB_BIND_MISS_CNT 0) = 1 ∧ (after (.beamSweep 0) (sweepPin 0 0 (put [(SEQ_P_CTL_MODE 0, 0)] beamed))).rdN (PHS_TB_BIND_MISS_CNT 0) = 1 ∧
    beamDraws (put [(SEQ_P_CTL_EN 0, 0)] beamed) 0 = false ∧ (after (.beamSweep 0) (sweepPin 0 0 (put [(SEQ_F_STAT_ACTIVE 0, 0)] beamed))).rdN (SEQ_F_LINK_DROP_CNT 0) = 1 ∧
    (after (.beamSweep 0) (sweepPin 0 1 beamed)).fld (SEQ_P_BEAM_LINE_LINE 0) = 0 ∧ (after (.beamSweep 0) (sweepPin 0 0 (put [(SEQ_P_BEAM_LINE_LINE 0, 2)] beamed))).fld (SEQ_P_BEAM_LINE_LINE 0) = 2 := by decide +kernel

/-! ### Pixel pipes -/

theorem wit_PixelCommits : (after (.commitGo 0) base).flag (PIX_P_COMMIT_GO 0) = true ∧ (after (.commitCancel 0) (after (.commitGo 0) base)).fld (PIX_P_COMMIT_STATUS_CMD_STATUS 0) = 0 ∧
    (after (.commitCancel 0) base).fld (PIX_P_COMMIT_STATUS_CMD_STATUS 0) = 3 := by decide +kernel

/-- A pending commit whose layer 0 waits on the fence at 0x100, a VB_LATCH of port 0 dispatched for 5,000 ns. -/
def fenced : State := withPin 0 8 0 0 5000 (after (.commitGo 0) (regs [(PIX_P_L_FENCE_ADDR 0 0, 0x100)] (put [(PIX_P_L_CTL_WAIT 0 0, 1)] (withDram (table ++ [(0x200100, 7)]) freeing))))

theorem wit_PixelCommits_fence : (latchDue fenced 0 = some 20000 ∧ lyWAIT (shadowLayer fenced 0 0) = true ∧ fenceRead fenced 0 0 true (shadowLayer fenced 0 0) 20000 = false ∧ ((fenced.pipe 0).layer 0).carried = none) ∧
    ((((after (.fenceRead 0 0) fenced).pipe 0).layer 0).fences = [{ go := true, addr := 0x100, issued := 4000, value := some 7 }]) ∧
    (((after (.fenceReadReturn 0 0 4) (after (.fenceRead 0 0) fenced)).pipe 0).layer 0).fences = [{ go := true, addr := 0x100, issued := 4000, value := some 7, back := some 4016 }] := by decide +kernel
theorem wit_PixelCommits_unread : latchDue freeing 0 = none ∧ after (.fenceRead 0 0) freeing = freeing ∧ lyWAIT (shadowLayer fenced 0 1) = false ∧ (after (.fenceRead 0 1) fenced).now = 1000 := by decide +kernel
theorem wit_PixelCommits_reject : let s := put [(PIX_P_L_CTL_EN 0 0, 1)] fenced
    (s.pipe 0).render = none ∧ (commitCheck s 0).isSome = true ∧ (pixLatch 0 0 0 s).rdN (PIX_P_REJECT_CNT 0) = 1 ∧ (pixLatch 0 0 0 s).rdN (PIX_P_FRAME_CNT 0) = 1 := by decide +kernel
theorem wit_PixelCommits_take : commitCheck fenced 0 = none ∧ loadingBanks fenced 0 = 0 ∧ (pixLatch 0 20000 0 fenced).flag (PIX_P_COMMIT_GO 0) = false ∧ (pixLatch 0 20000 0 fenced).rdN (PIX_P_COMMIT_FRAME 0) = 1 := by decide +kernel
theorem wit_PixelCommits_defer : let s := updPipe 0 (fun x => { x with meshLoad := some (1, 0) }) (put [(PIX_P_WARP_EN 0, 1), (PIX_P_WARP_MESH_BANK 0, 1)] fenced)
    commitCheck s 0 = none ∧ loadingBanks s 0 = 1 ∧ (pixLatch 0 20000 0 s).rdN (PIX_P_DEFER_CNT 0) = 1 ∧ (pixLatch 0 20000 0 s).flag (PIX_P_COMMIT_GO 0) = true := by decide +kernel
theorem wit_Tables : (after (.tableLoad 0 0 0) base).fld (PIX_P_TBL_STAT_CMD_STATUS 0) = 13 ∧ ((after (.tableLoad 0 0 1) base).pipe 0).meshLoad = some (1, 0) ∧
    (after (.tableLoad 0 0 1) (after (.tableLoad 0 0 1) base)).fld (PIX_P_TBL_STAT_CMD_STATUS 0) = 4 ∧ (after (.tableLoadDone 0 0 3) base).now = 3 := by decide +kernel

/-- A mesh being loaded from address 0 into bank 1. -/
def meshing : State := after (.tableLoad 0 0 1) (mapped base)

theorem wit_Tables_done : (sysServed meshing 0 19240 = true ∧ meshing.flag MEM_CTL_NB_EN = false ∧ meshing.memc.uncorr = []) ∧ sysServed (put [(MEM_C_STAT_ONLINE 0, 0)] meshing) 0 19240 = false ∧
    (after (.tableLoadDone 0 0 5) (put [(MEM_C_STAT_ONLINE 0, 0)] meshing)).flag (PIX_P_TBL_STAT_MESH_BUSY 0) = true := by decide +kernel
theorem wit_Tables_mapped (i : Nat) (h : i < 19240) : ∃ g, xlate (passTime 0 meshing) (sysAsid (passTime 0 meshing)) 0 (0 + i) akREAD = .ok g :=
  mapped_page (by decide +kernel) (by omega)

/-- A render into set 0 of port 0, which draws one component. -/
def aRender : Render := { slot := 0, ports := [0], placed := 0, shown := [] }
def drawn : State := updPipe 0 (fun x => { x with render := some aRender }) (put [(SEQ_P_CTL_COMPS 0, 1)] ported)

theorem wit_Renders : (renderEnd drawn 0 aRender = 4 * 1966100 ∧ effRoutes drawn 0 = [] ∧ drawn.flag (eff (PIX_P_WARP_EN 0)) = false) ∧ (after (.renderDone 0 2) base).now = 2 ∧ ((after (.renderDone 0 1966099) drawn).pipe 0).render = some aRender ∧
    ((after (.renderDone 0 1966100) drawn).pipe 0).render = none ∧ (after (.renderDone 0 1966100) drawn).fld ⟨SEQ_P_SET_READY 0, 0, 1⟩ = 1 := by decide +kernel

/-! ### Light drive -/

/-- String 0 with its electrical settings in place, bound to timebase 0, which runs; the interlocks healthy. -/
def strung : State := put [(LDR_INTLK_STAT_LEVEL, 15)] (regs [(LDR_S_RSNS 0, 500), (LDR_S_IMAX 0, 100), (LDR_S_ILIM 0, 100), (LDR_S_ITH 0, 50)] freeing)

/-- String 0 in PLANE, its level 0 at 30 in force, its high side on. -/
def lit : State := updStr 0 (fun r => { r with hs := true, due := [] }) (applyUpdate 0 0 (after (.stringModePlane 0) (regs [(LDR_S_LVL 0 1, 40), (LDR_S_LVL 0 0, 30)] strung)))

theorem wit_StringModes : strMode strung 0 = 0 ∧ modeRefused strung 0 = false ∧ strMode (after (.stringModePlane 0) strung) 0 = 1 ∧ (after (.stringModePlane 0) base).fld (LDR_S_STAT_CMD_STATUS 0) = 7 ∧
    (after (.stringModeFree 0) (after (.stringModePlane 0) strung)).fld (LDR_S_STAT_CMD_STATUS 0) = 7 ∧ (after (.stringModePlane 0) (after (.stringModePlane 0) strung)).fld (LDR_S_STAT_CMD_STATUS 0) = 0 ∧
    strMode (after (.stringModeOff 0) (after (.stringModePlane 0) strung)) 0 = 0 := by decide +kernel
theorem wit_StringModes_free : freeRefused strung 0 = false ∧ strMode (after (.stringModeFree 0) strung) 0 = 2 ∧ freeRefused (put [(LDR_S_FREE_BITS 0, 5)] strung) 0 = true := by decide +kernel

/-- Interlock 2 opened for 10 ns. -/
def opened2 : State := nx (execInterlockOpen 2 10 strung)

theorem wit_LightOff : opened2.fld LDR_INTLK_STAT_LEVEL = 11 ∧ opened2.fld LDR_INTLK_STAT_LATCHED = 4 ∧ hasCause opened2 23 1 = true ∧ strDark opened2 0 = true ∧ (after (.interlockOpen 2 9) strung).fld LDR_INTLK_STAT_LATCHED = 0 ∧
    (after (.interlockOpen 2 8) { strung with island := { strung.island with clocksOff := true } }).fld LDR_INTLK_STAT_LATCHED = 4 := by decide +kernel
theorem wit_LightOff_again : after (.interlockOpen 2 10) opened2 = settleLight opened2 ∧ bit ((settleLight opened2).fld LDR_INTLK_STAT_LATCHED) 2 = true := by decide +kernel
theorem wit_LightOff_healthy : (after (.interlockHealthy 2) opened2).fld LDR_INTLK_STAT_LEVEL = 11 ∧ (after (.interlockHealthy 2) (put [(⟨DBG_VIO_STAT, 0, 2⟩, 1)] opened2)).fld LDR_INTLK_STAT_LEVEL = 15 := by decide +kernel
theorem wit_LightOff_clear : (after (.safeClr 0x1000000) opened2).fld LDR_SAFE_STAT_CMD_STATUS = 7 ∧ (after (.safeClr 0x1000000) (put [(LDR_INTLK_STAT_LEVEL, 15)] opened2)).fld LDR_INTLK_STAT_LATCHED = 0 ∧
    hasCause (after (.safeClr 0x1000000) (put [(LDR_INTLK_STAT_LEVEL, 15)] opened2)) 0 1 = false := by decide +kernel

/-- The shunt of string 0 open, its high side on. -/
def shining : State := put [(LDR_S_STAT_SHUNT 0, 0)] lit

theorem wit_LightOff_current : (strDark lit 0 = false ∧ NothingDue lit 0) ∧ hasCause (after (.stringOvercurrent 0 126) lit) 0 2 = true ∧ hasCause (after (.stringOvercurrent 0 100) lit) 0 2 = false ∧
    ((after (.stringOvercurrent 0 101) (put [(LDR_S_PROT_OC_N 0, 2)] lit)).str 0).overCnt = 1 ∧ strMode strung 0 = 0 := by unfold NothingDue; decide +kernel
theorem wit_LightOff_open : (litOn shining 0 = true ∧ (shining.str 0).due = []) ∧ (after (.stringOpen 0) shining).now = shining.fld (LDR_S_PROT_OPEN_NS 0) ∧ ((after (.stringOpen 0) shining).str 0).openSeen = true ∧
    hasCause (after (.stringOpen 0) lit) 0 4 = false := by decide +kernel
theorem wit_LightOff_oc : let t := after (.stringOvercurrent 0 126) lit
    t.fld (LDR_S_STAT_CAUSE 0) = 2 ∧ t.flag HKP_STAT_LATCHED = false ∧ strDark (after (.safeClr 0x2000001) t) 0 = false := by decide +kernel

/-- A pin of timebase 0 for string 0, placed at 5 ns. -/
def strPin (a t x : Nat) (s : State) : State := withPin 0 a t x 5 s

theorem wit_StringPins : FiresNext (strPin 3 1 1 lit) 0 3 (placedPin 3 1 1 5) ∧ ((strPin 3 1 1 lit).tb 0).dispatched.erase (placedPin 3 1 1 5) = [] ∧ (after (.levelLo 0) (strPin 3 1 1 lit)).fld (LDR_S_STAT_LVL_IDX 0) = 1 ∧
    ((after (.levelLo 0) (strPin 3 1 1 lit)).str 0).due = [{ at_ := 60, act := .level 1 }] := by unfold FiresNext; decide +kernel
theorem wit_StringPins_edge : ((settleStr 0 (passTime 20 (after (.levelLo 0) (strPin 3 1 1 lit)))).str 0).iref = 40 := by decide +kernel
theorem wit_StringPins_not : (after (.levelLo 0) (strPin 3 1 1 strung)).rdN (LDR_S_MODE_IGN_CNT 0) = 1 ∧ (after (.levelLo 0) (strPin 3 1 1 (put [(LDR_S_CTL_TB 0, 1)] lit))).rdN (PHS_TB_BIND_MISS_CNT 0) = 1 ∧
    (after (.shunt 0) (strPin 5 0 1 strung)).rdN (LDR_S_MODE_IGN_CNT 0) = 1 ∧ (after (.shunt 0) (strPin 5 0 1 (put [(LDR_S_CTL_TB 0, 1)] lit))).rdN (PHS_TB_BIND_MISS_CNT 0) = 1 := by decide +kernel
theorem wit_StringPins_hi : (after (.levelHi 0) (strPin 4 1 9 (put [(LDR_S_CTL_MODE 16, 1)] strung))).fld (LDR_S_STAT_LVL_IDX 16) = 9 := by decide +kernel
theorem wit_StringPins_shunt : FiresNext (strPin 5 0 1 lit) 0 5 (placedPin 5 0 1 5) ∧ ((after (.shunt 0) (strPin 5 0 1 lit)).str 0).due = [{ at_ := 60, act := .shunt false false }] := by unfold FiresNext; decide +kernel
theorem wit_StringPins_land : strClosed lit 0 = true ∧ strClosed shining 0 = false ∧ lit.driving = true ∧ (lit.bank 0).vgdLow = false ∧ strClosed (shuntAct 0 61 false false lit) 0 = false ∧ (shuntAct 0 61 false false lit).shdEdges = [⟨0, false, 61⟩] ∧
    (shuntAct 0 61 true false shining).shdEdges = [⟨0, true, 61⟩] ∧ (shuntAct 0 61 false false (put [(LDR_S_STAT_DARK 0, 1)] lit)).rdN (LDR_S_SAFE_IGN_CNT 0) = 1 := by decide +kernel
theorem wit_Band : let s := passTime 100000 lit
    ((s.str 0).iref = 30 ∧ (s.str 0).hs = true ∧ (s.str 0).ls = false ∧ NothingDue s 0) ∧ bandCodes s 0 = (0, 1) ∧ ((after (.bandThreshold 0 0 0) s).str 0).stepFrom = none := by unfold NothingDue; decide +kernel

/-- Level 0 at 100,000 in force, with a band of 1,000 about it and no dead times. -/
def banded : State := passTime 100000 (updStr 0 (fun r => { r with hs := true, due := [] }) (applyUpdate 0 0 (after (.stringModePlane 0) (put [(⟨LDR_S_HYST 0, 0, 16⟩, 1000), (⟨LDR_S_RSNS 0, 0, 20⟩, 2000)] (regs [(LDR_S_LVL 0 0, 100000), (LDR_S_IMAX 0, 1000000), (LDR_S_ILIM 0, 1000000), (LDR_S_ITH 0, 200000)] strung)))))

theorem wit_Band_gates : let lo := (bandCodes banded 0).1
    let hi := (bandCodes banded 0).2
    lo < hi ∧ hi < 4096 ∧ ((banded.str 0).iref = 100000 ∧ (banded.str 0).hs = true) ∧ ((after (.bandThreshold 0 0 (BitVec.ofNat 12 hi)) banded).str 0).hs = false ∧ ((after (.bandThreshold 0 0 (BitVec.ofNat 12 (hi - 1))) banded).str 0).hs = true := by decide +kernel
theorem wit_Band_low : let s := updStr 0 (fun r => { r with hs := false, ls := true }) banded
    ((after (.bandThreshold 0 0 0) s).str 0).ls = false ∧ (((after (.bandThreshold 0 0 0) s).str 0).hs = true ∨ ((after (.bandThreshold 0 0 0) s).str 0).due ≠ []) := by decide +kernel
theorem wit_Hyst : let s := fun sum => updStr 0 (fun r => { r with meanDue := some (256, sum) }) (put [(LDR_S_SW_FSW 0, 100)] lit)
    ((after (.hystAdapt 0) (s 1024000)).str 0).meanDue = none ∧ after (.hystAdapt 0) lit = lit ∧
    (after (.hystAdapt 0) (s 900000)).rdN (LDR_S_HYST 0) ≥ lit.rdN (LDR_S_HYST 0) ∧ (after (.hystAdapt 0) (s 1100000)).rdN (LDR_S_HYST 0) ≤ lit.rdN (LDR_S_HYST 0) := by decide +kernel

/-- String 0 in FREE with a duty of 1 slot. -/
def freeStr : State := after (.stringModeFree 0) (put [(LDR_S_FREE_DUTY 0, 1)] strung)

theorem wit_Free : (strMode freeStr 0 = 2 ∧ freeStr.tbOn (strTb freeStr 0) = true) ∧ ((after (.freePeriodStart 0) freeStr).str 0).freeDuty = 1 ∧ ((after (.freePeriodStart 0) freeStr).str 0).freeSlot = some 0 ∧
    ((after (.freePeriodStart 0) freeStr).str 0).due.map (fun e => e.act) = [.shunt false true] ∧ after (.freePeriodStart 0) strung = strung := by decide +kernel
theorem wit_Free_edge : let s := after (.freePeriodStart 0) freeStr
    (s.str 0).waitPeriod = false ∧ (nextEdge s 0).isSome = true ∧ ((after (.freeShuntEdge 0) s).str 0).freeSlot = nextEdge s 0 ∧ nextEdge strung 0 = none := by decide +kernel
theorem wit_Groups : (after (.fadeGo 3 true) base).flag (LDR_G_FADE_STAT_ACTIVE 3) = true ∧ (after (.fadeCancel 3) (after (.fadeGo 3 true) base)).flag (LDR_G_FADE_STAT_ACTIVE 3) = false ∧
    (after (.fadeCancel 3) base).fld (LDR_G_FADE_STAT_CMD_STATUS 3) = 3 ∧ ((after (.groupVWrite 3 0x1FFFF) base).grp 3).vCur = 0x10000 ∧ (after (.groupVWrite 3 0x1FFFF) base).rdN (LDR_G_V 3) = 0x1FFFF := by decide +kernel
theorem wit_Updates : latchDue (withPin 0 8 0 0 5000 lit) 0 = some 20000 ∧ ((after (.updatePointEvaluation (.port 0)) (withPin 0 8 0 0 5000 (put ((List.range 8).map (fun k => (LDR_G_CTL_PORT k, 1))) lit))).str 0).evald.map (fun t => t.imax) = some 100 ∧
    ((after (.updatePointEvaluation (.string 0)) freeStr).str 0).evald.map (fun t => t.ith) = some 50 ∧ latchDue lit 0 = none := by decide +kernel
theorem wit_Updates_skip : (after (.updatePointEvaluation (.port 0)) (withPin 0 8 0 0 5000 lit)).rdN (LDR_G_SKIP_CNT 3) = 1 ∧ lit.fld (LDR_G_CTL_PORT 3) = 0 ∧ lit.flag (LDR_G_CTL_LOOP_EN 3) = false := by decide +kernel

/-- A PD_WINDOW pin of timebase 0 for photodiode input 0, and its window of 500 ns open. -/
def pdPin (s : State) : State := withPin 0 6 0 500 5 s
def pdOpen : State := after (.pdWindow 0) (pdPin strung)

theorem wit_Photodiodes : FiresNext (pdPin strung) 0 6 (placedPin 6 0 500 5) ∧ (pdOpen.pd 0).win.map (fun w => (w.openAt, w.len)) = some (60, 500) ∧ (after (.pdWindow 0) (pdPin pdOpen)).rdN (PHS_TB_CONFLICT_CNT 0) = 1 ∧
    (after (.pdWindow 0) (pdPin (put [(⟨LDR_PD_TB, 0, 2⟩, 1)] strung))).rdN (PHS_TB_BIND_MISS_CNT 0) = 1 := by unfold FiresNext; decide +kernel
theorem wit_Photodiodes_read : ((after (.pdSegmentDone 0 262143) pdOpen).pd 0).win.map (fun w => w.codes) = some [262143] ∧ (after (.pdSegmentDone 0 262143) pdOpen).now = 515 ∧ ((after (.pdWindowClose 0) pdOpen).pd 0).win.isSome = true ∧
    ((after (.pdWindowClose 0) (after (.pdSegmentDone 0 262143) pdOpen)).pd 0).win = none ∧ (after (.pdWindowClose 0) (after (.pdSegmentDone 0 262143) pdOpen)).rdN (LDR_PD_OVL_CNT 0) = 1 ∧
    after (.pdSegmentDone 0 1) base = base := by decide +kernel
theorem wit_Photodiodes_dark : let s := strung.setPd 0 { strung.pd 0 with win := some ⟨60, 0, 500, 0, 24, false, false, false, true, [], [5]⟩ }
    (after (.pdWindowClose 0) s).rdN (LDR_PD_DARK_REJ_CNT 0) = 1 := by decide +kernel
theorem wit_Photodiodes_settle : let s := strung.setPd 0 { strung.pd 0 with win := some ⟨60, 0, 500, 0, 0, true, false, false, false, [], [5]⟩ }
    (after (.pdWindowClose 0) s).rdN (LDR_PD_BAD_WIN_CNT 0) = 1 := by decide +kernel
theorem wit_Derating : let s := base.setBank 0 { base.bank 0 with falls := [(0x8000, 7)] }
    (after (.derateFallTimeout 0) s).rdN (LDR_BANK_D 0) = 0x8000 ∧ ((after (.derateFallTimeout 0) s).str 5).taken.d = 0x8000 ∧ (after (.derateFallTimeout 0) s).now = 50000007 ∧ after (.derateFallTimeout 1) s = s := by decide +kernel
theorem wit_Diagnosis : let s := fun h => updStr 0 (fun r => { r with onTime := 16000, hsTime := h }) (put [(LDR_S_VTH_V_SHORT 0, 5)] { strung with vin10 := 10 })
    (after (.diagWindowEnd 0) (s 16000)).fld (LDR_S_DIAG_STATE 0) = 1 ∧ (after (.diagWindowEnd 0) (s 16000)).fld (LDR_S_DIAG_V_EST 0) = 10 ∧ (after (.diagWindowEnd 0) (s 6000)).fld (LDR_S_DIAG_STATE 0) = 3 ∧
    (after (.diagWindowEnd 0) (s 0)).now = 64000000 := by decide +kernel
theorem wit_Probes : (after (.probeReq 1) lit).flag (LDR_S_DIAG_PROBE_PEND 0) = true ∧ (after (.probeReq 1) base).rdN (LDR_S_PROBE_MISS_CNT 0) = 1 ∧
    (after (.probeMiss 0) (put [(PHS_TB_BLIND_CNT_ALL 0, 0)] (after (.probeReq 1) lit))).rdN (LDR_S_PROBE_MISS_CNT 0) = 1 ∧ after (.probeMiss 0) lit = lit ∧ listedGaps lit 0 = [(0, 2 ^ 32)] := by decide +kernel

/-- Timebase 0 has one blind gap, in the second half of its cycle, and a probe of string 0 is asked for. -/
def probing (b : Nat) : State := nx (execProbeReq 1 (put [(PHS_TB_BLIND_CNT_ALL 0, 0), (⟨PHS_TB_BLIND_CNT 0, 0, 7⟩, 1), (⟨PHS_TB_BLIND 0 0, 0, 32⟩, 2 ^ 31), (⟨PHS_TB_BLIND 0 0, 32, 32⟩, 2 ^ 31 + b)] lit))

theorem wit_Probes_start : (probeGapNext (probing 0x1000000) 0 0 = some (2 ^ 55, 2 ^ 48) ∧ ((probing 0x1000000).str 0).probeRun = none) ∧ ((after (.probeStart 0) (probing 0x1000000)).str 0).probeRun.isSome = true ∧
    ((after (.probeStart 0) (probing 0x1000000)).str 0).due.length = 4 ∧ (after (.probeMiss 0) (probing 0x1000000)) = probing 0x1000000 := by decide +kernel
theorem wit_Probes_short : ((after (.probeStart 0) (probing 1)).str 0).probeTried = 1 ∧ ((after (.probeStart 0) (probing 1)).str 0).probeGap = 2 ^ 55 ∧ after (.probeStart 0) lit = lit := by decide +kernel
theorem wit_Vgd : let t := after (.vgdLow 1 0 8999) strung
    (t.bank 1).vgdLow = true ∧ strClosed t 11 = true ∧ (((after (.vgdLow 1 0 9000) strung).bank 1).vgdLow = false) ∧ ((after (.vgdRecovery 1 1000000) t).bank 1).vgdLow = false ∧ ((after (.vgdRecovery 1 999999) t).bank 1).vgdLow = true := by decide +kernel
/-! ### Motion control -/

def one32 : Nat := 0x3F800000

/-- Axis 0: a DC motor on pair 0, one current tile, encoder 0 in quadrature, a carrier of 5 µs, every VIO bank up, an overcurrent at one value of over 1 A. -/
def axised : State :=
  regs [(CTL_SD_ITRIP 0, one32), (CTL_SD_GAIN 0, 0x40000000), (CTL_A_IDEM_MAX 0, one32), (CTL_A_VMAX 0, 65536), (CTL_A_AMAX 0, 65536), (CTL_A_JMAX 0, 65536), (CTL_T_DL 0, 13)]
    (put [(CTL_A_CFG_KIND 0, 1), (CTL_A_CFG_PAIR_BASE 0, 0), (CTL_T_CFG_EN 0, 1), (CTL_T_CFG_AXIS 0, 0), (CTL_T_CFG_ROLE 0, 4), (CTL_T_CFG_TRIG 0, 0), (CTL_T_CFG_DIV 0, 1),
      (CTL_E_CFG_TYPE 0, 1), (CTL_E_STAT_VALID 0, 1), (CTL_SD_CFG_EN 0, 1), (CTL_SD_CFG_OC_N 0, 1), (CTL_A_PWM_PER 0, 4000), (⟨DBG_VIO_STAT, 0, 16⟩, 0x5555)] base)

/-- Axis 0 in RUN, its current tile due. -/
def turning : State := nx (execAxisRunStart 0 0 (nx (execAxisEn 0 axised)))

/-- Axis 0 in FAULT by an overcurrent. -/
def faulted : State := nx (execAxisOvercurrent 0 256 turning)

theorem wit_AxisCommands : enRefused axised 0 = false ∧ ((after (.axisEn 0) axised).axis 0).enabling = some axised.now ∧ axState turning 0 = 1 ∧ (turning.axis 0).gates = 2 ∧
    (turning.axis 0).carrierAt = 4 * axised.now ∧ (after (.axisEn 0) turning).fld (CTL_A_STAT_CMD_STATUS 0) = 7 ∧ enRefused base 0 = true ∧ after (.axisRunStart 0 0) axised = axised ∧
    axState (after (.axisDisable 0) turning) 0 = 0 ∧ after (.axisDisable 0) (after (.axisDisable 0) turning) = after (.axisDisable 0) turning := by decide +kernel
/-- Axis 0 enabled, bound to timebase 1 at 2^40 a nanosecond, with ten carrier periods a cycle of 65,536 ns. -/
def synced : State := updAxis 0 (fun x => { x with enabling := some 0 }) (put [(CTL_A_PWM_SYNC 0, 1), (CTL_A_CFG_TB 0, 1), (⟨CTL_A_NPER 0, 0, 16⟩, 10)] (updTb 1 (fun t => { t with wraps := 3 }) (regs [(PHS_TB_INC_EFF 1, 0x10000000000), (PHS_TB_INC_BASE 1, 0x10000000000)] (put [(PHS_TB_CTL_EN 1, 1), (PHS_TB_STAT_STATE 1, 1)] axised))))

theorem wit_AxisCommands_late : let s := after (.axisEn 0) axised
    after (.axisRunStart 0 5001) s = s ∧ axState (after (.axisRunStart 0 5000) s) 0 = 1 := by decide +kernel
theorem wit_AxisCommands_sync : (nextCarrier (updAxis 0 (fun x => { x with slot := 0 }) synced) 0).1 / 4 - synced.now < toBoundary synced 1 ∧ axState (after (.axisRunStart 0 0) synced) 0 = 1 := by decide +kernel
theorem wit_AxisCommands_go : ((after (.axisGo 0) turning).axis 0).goal = some 0 ∧ (turning.flag (CTL_A_PG_CTL_MODE 0)) = false ∧ ((after (.axisGo 0) axised).axis 0).goal = none := by decide +kernel
theorem wit_AxisCommands_clear : let s := axisFault 0 acENC false turning
    axState s 0 = 2 ∧ causeStays s 0 = false ∧ axState (after (.axisClear 0) s) 0 = 0 ∧ causeStays (put [(CTL_E_STAT_VALID 0, 0)] s) 0 = true ∧
    (after (.axisClear 0) (put [(CTL_E_STAT_VALID 0, 0)] s)).fld (CTL_A_STAT_CMD_STATUS 0) = 7 := by decide +kernel
theorem wit_AxisCommands_limits : (after (.limitWrite 0 0 9) turning).rdN (CTL_A_VMAX 0) = 9 ∧ genMoving turning 0 = false ∧ genMoving (updAxis 0 (fun x => { x with v := 1 }) turning) 0 = true ∧
    (after (.limitWrite 0 2 9) (updAxis 0 (fun x => { x with v := 1 }) turning)).flag (CTL_A_STAT_LIM_PEND 0) = true := by decide +kernel
/-- Axis 0 of `synced` in RUN, resting between its gaps. -/
def quietly : State := put [(CTL_A_STAT_STATE 0, 1), (CTL_A_CFG_QUIET 0, 1), (PHS_TB_BLIND_CNT_ALL 1, 0), (⟨PHS_TB_BLIND_CNT 1, 0, 7⟩, 0)] synced

theorem wit_Carriers : axComputes turning 0 = true ∧ axComputes axised 0 = false ∧ ((after (.carrierPeriodStart 0) turning).axis 0).carrierAt = (turning.axis 0).carrierAt + 20000 ∧
    ((after (.carrierPeriodStart 0) turning).tile 0).due = [ctlEdge (turning.axis 0).carrierAt, ctlEdge ((turning.axis 0).carrierAt + 20000)] ∧
    (passCarrier 0 (nextCarrier turning 0).1 turning).isSome = true := by decide +kernel
theorem wit_Carriers_rest : (passCarrier 0 (nextCarrier quietly 0).1 quietly).isSome = true ∧ periodInGap quietly 0 (nextCarrier quietly 0).2.2 = false ∧
    (after (.carrierPeriodStart 0) quietly).flag (CTL_A_STAT_RESTING 0) = true := by decide +kernel
theorem wit_Carriers_boundary : let s := updAxis 0 (fun x => { x with slot := 3 }) (put [(⟨CTL_A_NPER 0, 0, 16⟩, 1)] quietly)
    passCarrier 0 (nextCarrier s 0).1 s = none ∧ after (.carrierPeriodStart 0) s = s := by decide +kernel
theorem wit_Carriers_peak : let s := updAxis 0 (fun x => { x with cmpPend := some (0, [7]) }) (put [(CTL_A_PWM_CARRIER 0, 0), (CTL_A_PWM_UPD 0, 1)] turning)
    ((after (.carrierPeak 0) s).axis 0).cmpEff = [7] ∧ after (.carrierPeak 0) axised = axised ∧ (after (.carrierPeak 0) turning).now = turning.now + 2500 ∧
    after (.carrierPeak 0) (after (.carrierPeak 0) turning) = after (.carrierPeak 0) turning := by decide +kernel

/-- Axis 0 in RUN, and a loop-trigger pin of timebase n with this mask at 1,000 ns. -/
def triggered (n mask : Nat) : State := withPin n 7 0 mask 1000 (updTb n (fun t => { t with wraps := 3 }) (regs [(PHS_TB_INC_EFF n, 0x10000000000), (PHS_TB_INC_BASE n, 0x10000000000)] (put [(PHS_TB_CTL_EN n, 1), (PHS_TB_STAT_STATE n, 1)] turning)))

theorem wit_Triggers : FiresNext (put [(CTL_T_CFG_TRIG 0, 1)] (triggered 0 1)) 0 7 (placedPin 7 0 1 1000) ∧ FiresNext (triggered 0 1) 0 7 (placedPin 7 0 1 1000) := by unfold FiresNext; decide +kernel
theorem wit_Triggers_effect : ((after (.loopTrigger 0) (put [(CTL_T_CFG_TRIG 0, 1)] (triggered 0 1))).tile 0).due.contains 4040 = true ∧ (after (.loopTrigger 0) (triggered 0 1)).rdN (CTL_T_PIN_IGN_CNT 0) = 1 ∧
    ((after (.loopTrigger 0) (put [(CTL_T_CFG_TRIG 1, 1), (CTL_T_CFG_AXIS 1, 1)] (triggered 0 2))).tile 1).due = [] := by decide +kernel
theorem wit_Triggers_miss : FiresNext (triggered 1 (2 ^ 47)) 1 7 (placedPin 7 0 (2 ^ 47) 1000) ∧ (after (.loopTrigger 1) (triggered 1 (2 ^ 47))).rdN (PHS_TB_BIND_MISS_CNT 1) = 1 := by unfold FiresNext; decide +kernel

/-- Tile 0 computing since its first due time. -/
def sampling : State := nx (execTileSampleStart 0 [0] turning)

theorem wit_TileSamples : tileAxis turning 0 = some 0 ∧ axInputs turning 0 = [0] ∧ genRuns turning 0 = true ∧ tileRole turning 0 = 4 ∧ (turning.tile 0).due.length = 1 ∧ (turning.axis 0).first = true ∧
    kget (fun _ => []) turning.twin.tilePend 0 = [] ∧ kget (fun _ => []) turning.twin.axPend 0 = [] ∧ (sampling.tile 0).startAt = some (ctlEdge (turning.axis 0).carrierAt) ∧
    after (.tileSampleStart 1 []) turning = turning := by decide +kernel
theorem wit_TileSamples_rest : let s := put [(CTL_A_STAT_RESTING 0, 1)] turning
    ((after (.tileSampleStart 0 []) s).tile 0) = { s.tile 0 with due := [] } := by decide +kernel
theorem wit_TileSamples_miss : let s := updTile 0 (fun r => { r with due := [ctlEdge (4 * sampling.now)] }) sampling
    (after (.tileSampleStart 0 []) s).rdN (CTL_T_MISS_CNT 0) = 1 := by decide +kernel
theorem wit_TileSamples_output : outputAt sampling 0 (ctlEdge (turning.axis 0).carrierAt) = some (tileDeadline sampling 0 (ctlEdge (turning.axis 0).carrierAt)) ∧
    after (.deadlineMiss 0) sampling = sampling ∧ ((after (.tileOutput 0) sampling).tile 0).startAt = none ∧ ((after (.tileOutput 0) sampling).axis 0).cmpPend.isSome = true ∧
    after (.tileOutput 0) turning = turning := by decide +kernel
theorem wit_TileSamples_late : let s := put [(⟨CTL_T_DL 0, 0, 16⟩, 12)] sampling
    after (.tileOutput 0) s = s ∧ (after (.deadlineMiss 0) s).rdN (CTL_T_MISS_CNT 0) = 1 ∧ ((after (.deadlineMiss 0) s).tile 0).startAt = none ∧
    after (.deadlineMiss 0) (put [(CTL_A_STAT_RESTING 0, 1)] s) = put [(CTL_A_STAT_RESTING 0, 1)] s := by decide +kernel

/-- Tile 1 a position tile of axis 0 with a velocity tile 2, due, and then computing. -/
def cascaded : State := updTile 1 (fun r => { r with due := [ctlEdge (4 * turning.now)] }) (put [(CTL_T_CFG_EN 1, 1), (CTL_T_CFG_AXIS 1, 0), (CTL_T_CFG_ROLE 1, 0), (CTL_T_CFG_EN 2, 1), (CTL_T_CFG_AXIS 2, 0), (CTL_T_CFG_ROLE 2, 1)] turning)
def outer : State := nx (execTileSampleStart 1 [] cascaded)

theorem wit_TileSamples_outer : tileAxis cascaded 1 = some 0 ∧ tileRole cascaded 1 = 0 ∧ encType cascaded (axEnc cascaded 0) = 1 ∧ (outer.tile 1).startAt = some (ctlEdge (4 * turning.now)) ∧
    (outer.tile 1).reading = some (0, outer.now) ∧ outputAt outer 1 (ctlEdge (4 * turning.now)) = some (ctlEdge (4 * turning.now) + 100) ∧ ((after (.tileOutput 1) outer).tile 1).startAt = none ∧
    (after (.tileOutput 1) outer).rdN (CTL_T_OUT 1) = 0 ∧ roleTile outer 0 1 = some 2 := by decide +kernel
theorem wit_TileSamples_waiting : let s := updTile 1 (fun r => { r with reading := none }) outer
    outputAt s 1 (ctlEdge (4 * turning.now)) = none ∧ after (.tileOutput 1) s = s := by decide +kernel
theorem wit_Encoders : encType axised 0 = 1 ∧ encLands axised 0 = true ∧ ((after (.quadratureEdge 0 0 0) axised).enc 0).count = 1 ∧ ((after (.quadratureEdge 0 0 1) axised).enc 0).count = -1 ∧
    (after (.quadratureEdge 0 0 2) axised).fld (CTL_E_STAT_CAUSE 0) = 1 ∧ after (.quadratureEdge 1 0 0) axised = axised := by decide +kernel
theorem wit_Encoders_index : let s := fun m => put [(CTL_E_CFG_IDXM 0, m)] (regs [(CTL_E_IDX_POS 0, 5), (CTL_E_CPR 0, 100), (CTL_E_IDX_TOL 0, 5)] axised)
    ((after (.encoderIndex 0) (s 1)).enc 0).count = 5 ∧ after (.encoderIndex 0) (after (.encoderIndex 0) (s 1)) = after (.encoderIndex 0) (s 1) ∧
    (after (.encoderIndex 0) (s 2)).flag (CTL_E_STAT_INDEXED 0) = true ∧ (after (.encoderIndex 0) (s 2)).flag (CTL_E_STAT_FAULT 0) = false ∧
    (after (.encoderIndex 0) (regs [(CTL_E_IDX_TOL 0, 4)] (s 2))).fld (CTL_E_STAT_CAUSE 0) = 2 := by decide +kernel
/-- Encoder 3 serial, with a frame of 8 bits in progress. -/
def serial : State := nx (execEncoderIdleRequest 3 (put [(CTL_E_CFG_TYPE 3, 2), (CTL_E_CFG_BITS 3, 8)] axised))

theorem wit_Encoders_serial : (serial.enc 3).frame = some 20000 ∧ axEnc axised 0 = 0 ∧ (after (.encoderFrameDone 3 2000 0x80 false false) serial).rdN (CTL_E_POS 3) = 0x80000000 ∧
    frameTime serial 3 = 800 ∧ after (.encoderFrameDone 3 799 0x80 false false) serial = passTime 799 serial ∧
    (after (.encoderFrameDone 3 2000 0 false true) serial).rdN (CTL_E_ERR_CNT 3) = 1 ∧ after (.encoderFrameDone 5 0 0 false false) serial = serial ∧
    (after (.encoderIdleRequest 3) serial).encs = serial.encs ∧ after (.encoderIdleRequest 5) serial = serial := by decide +kernel
theorem wit_Encoders_clear : let s := after (.quadratureEdge 0 0 2) axised
    (after (.encFaultClear 0) s).flag (CTL_E_STAT_FAULT 0) = false ∧ after (.encFaultClear 0) axised = axised := by decide +kernel
theorem wit_AxisFaults : axState faulted 0 = 2 ∧ bit (faulted.fld (CTL_A_STAT_CAUSE 0)) 2 = true ∧ (faulted.axis 0).gates = 0 ∧ axState (after (.axisOvercurrent 0 127) turning) 0 = 1 ∧
    after (.axisOvercurrent 1 256) turning = turning := by decide +kernel
theorem wit_Starved : let s := updAxis 0 (fun x => { x with recs := [{ time := 0, pos := 0, idx := 0 }] }) (put [(CTL_A_PG_CTL_MODE 0, 1), (⟨CTL_A_STARVE_MS 0, 0, 16⟩, 1), (⟨CTL_A_FOLLOW_DELAY 0, 0, 32⟩, 0)] turning)
    (after (.streamStarved 0 1000001) s).flag (CTL_A_STAT_STARVED 0) = true ∧ (after (.streamStarved 0 1000000) s).flag (CTL_A_STAT_STARVED 0) = false := by decide +kernel
theorem wit_CtlTables : (after (.ctlTableLoad 0 0 1) base).flag CTL_TBL_STAT_BUSY = true ∧ (after (.ctlTableLoad 0 0 1) (after (.ctlTableLoad 0 0 1) base)).fld CTL_TBL_STAT_CMD_STATUS = 4 ∧
    (after (.ctlTableLoad 0 0 1) (put [(CTL_A_TBL_CTL_COG_EN 0, 1), (CTL_A_TBL_CTL_COG_BANK 0, 1)] base)).fld CTL_TBL_STAT_CMD_STATUS = 13 ∧ after (.ctlTableLoadDone 0) base = base := by decide +kernel

/-- A load of 2 KiB from 0 in progress. -/
def tabling : State := nx (execCtlTableLoad 0 0 1 (mapped base))

theorem wit_CtlTables_done : sysServed tabling 0 2048 = true ∧ tabling.flag MEM_CTL_NB_EN = false ∧ tabling.memc.uncorr = [] ∧ tabling.ctlLoad = some { axis := 0, kind := 0, bank := 1, addr := 0 } ∧
    sysServed (put [(MEM_C_STAT_ONLINE 0, 0)] tabling) 0 2048 = false := by decide +kernel
theorem wit_CtlTables_mapped (i : Nat) (h : i < 2048) : ∃ g, xlate (passTime 0 tabling) (sysAsid (passTime 0 tabling)) 0 (0 + i) akREAD = .ok g :=
  mapped_page (by decide +kernel) (by omega)

/-! ### Threads under command -/

/-- Thread 0 of bobbin 0 in a state, its registers as given. -/
def inState (n : Nat) (x : Thread) : State := setThState 0 n (mapped (runs x))

/-- Thread 0 restores the context at 0x201000, whose page table is as small as can be; the context's state byte is 1. -/
def loadsCtx : State := regs [(ENG_B_T_CTX 0 0, 0x201000)] (withDram [(0, 1), (8, 0xF), (9, 1), (0x1408, 1)] (setThState 0 7 (runs g12)))

theorem wit_ThreadCommands : bobbinsHeld (inState 0 g12) = false ∧ thState (after (.cmdStart 0 0) (inState 0 g12)) 0 = 1 ∧ getG (after (.cmdStart 0 0) (inState 0 g12)) 0 1 = 0#64 ∧
    (after (.cmdStart 0 0) (inState 1 g12)).fld (ENG_B_T_STAT_CMD_STATUS 0 0) = 4 ∧ thState (after (.cmdRestore 0 0) (inState 0 g12)) 0 = 7 ∧
    bobbinsHeld (put [(DBG_BOOT_STAT_STATE, 3)] base) = true ∧ (after (.cmdStop 0 0) (inState 0 g12)).fld (ENG_B_T_STAT_CMD_STATUS 0 0) = 3 ∧
    ((after (.cmdStop 0 0) (inState 6 g12)).th 0).stopPend = true ∧ thState (after (.cmdStop 0 0) (inState 1 g12)) 0 = 0 := by decide +kernel
theorem wit_ThreadCommands_halt : thState (after (.cmdHalt 0 0) (inState 2 g12)) 0 = 4 ∧ (after (.cmdHalt 0 0) (inState 5 g12)).fld (ENG_B_T_STAT_CMD_STATUS 0 0) = 7 ∧
    (after (.cmdRun 0 0) (inState 1 g12)).fld (ENG_B_T_STAT_CMD_STATUS 0 0) = 7 ∧ ((after (.cmdStep 0 0) (inState 4 g12)).th 0).stepping = true := by decide +kernel
theorem wit_ThreadCommands_preempt : ctxPinned (inState 1 g12) 0 = true ∧ ctxPinned (withDram [] (inState 1 g12)) 0 = false ∧ thState (after (.cmdPreempt 0 0) (inState 4 g12)) 0 = 6 ∧
    ((after (.cmdPreempt 0 0) (inState 4 g12)).th 0).saveState = 4 := by decide +kernel
theorem wit_ContextsAndMoves : thState (inState 6 g12) 0 = 6 ∧ thState loadsCtx 0 = 7 ∧ ctxServed loadsCtx 0 = true ∧ ctxServed (put [(MEM_C_STAT_ONLINE 4, 0)] loadsCtx) 0 = false := by decide +kernel
theorem wit_ContextsAndMoves_ok : ∃ bs, loadCtx loadsCtx 0 0x201000 1408 = some bs ∧ contextOk bs = true := by
  refine ⟨_, (loadCtx_page (s := loadsCtx) (l := { entry := 8, large := true, w := true, x := true, host := false, pin := 1, addr := 0 }) (by decide +kernel) rfl (by decide +kernel) (by intro i hi; omega)), ?_⟩
  decide +kernel
theorem wit_ContextsAndMoves_none : thState (withDram [] loadsCtx) 0 = 7 ∧ loadCtx (withDram [] loadsCtx) 0 0x201000 1408 = none := by decide +kernel

/-- Thread 0 waits, by MWAIT into g3, for a move of 4 bytes within its pad. -/
def moving : State := withPad [(0x10, 7)] (inState 2 { wait := .moves 3, moves := [(0, { valid := true, src := 0xFFFFFFFE0010, dst := 0xFFFFFFFE0020, left := 4 })] })

theorem wit_Moves : (getMove moving 0 0).valid = true ∧ place moving 0 0xFFFFFFFE0010 akREAD = .pad 0x10 ∧ padByte (after (.moveDone 0 0 0 0) moving) 0x20 = 7 ∧
    thState (after (.moveDone 0 0 0 0) moving) 0 = 1 ∧ getG (after (.moveDone 0 0 0 0) moving) 0 3 = 0#64 ∧ (getMove (inState 1 g12) 0 0).valid = false := by decide +kernel
theorem wit_DebugCommands : let s := regs [(ENG_B_BKPT 0 0, 0x1FFFFFFC00000 / 4 % 2 ^ 46 * 4)] (put [(ENG_B_CTL_DBG_EN 0, 1), (ENG_B_BKPT_EN 0 0, 1), (ENG_B_BKPT_PC 0 0, 0xFFFFFFC00000 / 4), (⟨ENG_B_BKPT 0 0, 48, 4⟩, 1)] (inState 1 g12))
    bpHit (inState 1 g12) 0 = false ∧ bpHit (put [(ENG_B_BKPT_EN 0 0, 1), (ENG_B_BKPT_PC 0 0, 0xFFFFFFC00000 / 4), (⟨ENG_B_BKPT 0 0, 48, 4⟩, 1)] s) 0 = true ∧
    thState (after (.breakpoint 0 0) (put [(ENG_B_BKPT_EN 0 0, 1), (ENG_B_BKPT_PC 0 0, 0xFFFFFFC00000 / 4), (⟨ENG_B_BKPT 0 0, 48, 4⟩, 1)] s)) 0 = 4 ∧
    thState (after (.stepDone 0 0) (inState 1 { stepDone := true })) 0 = 4 := by decide +kernel
theorem wit_DebugCommands_data : (after (.debugRegAccess 0 0 false 0) (put [(ENG_B_T_DBG_SEL_REG 0 0, 1)] (inState 4 g12))).lastRead = 7#64 ∧
    getV (after (.debugRegAccess 0 0 true 5) (put [(ENG_B_T_DBG_SEL_REG 0 0, 0x41), (ENG_B_T_DBG_SEL_PART 0 0, 1)] (inState 4 g12))) 0 1 = 0x50000000000000000#256 ∧
    thPc (after (.debugRegAccess 0 0 true 8) (put [(ENG_B_T_DBG_SEL_REG 0 0, 0x50)] (inState 4 g12))) 0 = 8 ∧
    (after (.debugRegAccess 0 0 false 0) (put [(ENG_B_T_DBG_SEL_REG 0 0, 9), (ENG_B_T_DBG_SEL_CSR 0 0, 1)] (inState 4 g12))).lastRead = 0#64 ∧ thState (inState 1 g12) 0 ≠ 4 := by decide +kernel

/-! ### Memory management -/

/-- A command of the MMU on a large page at 0, in context 0 unless its tables are gone. -/
def cmdAt (len large : Nat) (l : List Host.Cell) : State := put [(MMU_CMD_FLAGS_LARGE, large)] (regs [(MMU_CMD_LEN, len)] (withDram l base))

theorem wit_MappingCommands : badLen (cmdAt 0 1 table) = true ∧ badLen (cmdAt 1 1 table) = false ∧ ctxValid (cmdAt 1 1 table) 0 = true ∧ ctxValid (cmdAt 1 1 []) 0 = false ∧ badVaRange (cmdAt 1 1 table) = false ∧
    badPaRange (cmdAt 1 1 table) = false ∧ otherSize (cmdAt 1 1 table) 0 0 true = false ∧ rawLeaf (cmdAt 1 1 table) 0 0 true = some (0x3000, 0x20010F) ∧ rawLeaf (cmdAt 1 0 table) 0 0 false = none ∧
    rawLeaf (cmdAt 1 1 (table.take 6)) 0 0 true = none := by decide +kernel
theorem wit_MappingCommands_pages : (after .protect (cmdAt 1 1 table)).dram.contains (0x3000, 3) = true ∧ (after .pin (cmdAt 1 1 table)).dram.contains (0x3001, 2) = true ∧
    (after .unpin (cmdAt 1 1 table)).dram.contains (0x3001, 1) = false ∧ (after .unmap (after .unpin (cmdAt 1 1 table))).flag MMU_CMD_STAT_BUSY = true ∧
    (after .unmap (cmdAt 1 1 table)).fld MMU_CMD_STAT_STATUS = 4 ∧ (after .unpin (cmdAt 1 1 (table.map (fun c => if c.1 = 0x3001 then (c.1, 2) else c)))).dram.contains (0x3001, 1) = true := by decide +kernel
theorem wit_MappingCommands_map : let s := cmdAt 1 1 (table.take 6)
    (ensureTable 0 0 2 s).map (fun r => r.1) = some 0x3000 ∧ findTable s 0 0 3 = none ∧ pageRef s 0 0 true = false ∧ (after .map s).dram.contains (0x3000, 3) = true ∧
    (after .map (cmdAt 1 1 table)).fld MMU_CMD_STAT_STATUS = 4 ∧ (after .map (put [(MMU_CMD_STAT_BUSY, 1)] s)).fld MMU_CMD_STAT_STATUS = 4 := by decide +kernel
theorem wit_MappingCommands_kinds : bit 0x20001F 4 = true ∧ bits 0x20000F 8 8 = 0 ∧ (after .pin (cmdAt 1 1 (table.map (fun c => if c.1 = 0x3000 then (c.1, 0x1F) else c)))).fld MMU_CMD_STAT_STATUS = 12 := by decide +kernel
theorem wit_TableCommands : let s := regs [(MMU_CMD_PA, 0x200000)] (cmdAt 1 0 table)
    let t := { s with mmu := { s.mmu with tblPages := [32], tables := [(0x200000, 4096)] } }
    badTablePage s = false ∧ badTablePage (cmdAt 2 0 table) = true ∧ referencedPhys s 32 = false ∧ guardedPage s 32 = false ∧ (after .tableAdd s).mmu.tblPages = [32] ∧ (after .tableRemove s).fld MMU_CMD_STAT_STATUS = 7 ∧
    (after .tableRemove t).fld MMU_CMD_STAT_STATUS = 4 ∧ (after .tableRemove { t with mmu := { t.mmu with tables := [] } }).mmu.tblPages = [] ∧ guardedPage t 32 = true ∧
    (after .tableAdd t).fld MMU_CMD_STAT_STATUS = 4 := by decide +kernel
theorem wit_TableCommands_contexts : let s := cmdAt 1 0 []
    allocTable 4096 s = none ∧ (freePieces { s with mmu := { s.mmu with tblPages := [1] } } 4096).length = 16 ∧ (after .ctxCreate (cmdAt 1 0 table)).fld MMU_CMD_STAT_STATUS = 4 ∧
    (after .ctxDestroy s).fld MMU_CMD_STAT_STATUS = 7 ∧ (after .ctxCreate s).fld MMU_CMD_STAT_STATUS = 7 ∧ ctxReferenced s 0 = false := by decide +kernel
theorem wit_TableCommands_destroy : anyPinned (cmdAt 1 0 (table.take 2)) 0 = false ∧ ctxValid (cmdAt 1 0 (table.take 2)) 0 = true := by decide +kernel
theorem wit_TableCommands_rest : (after .resolvePage (cmdAt 3 0 table)).rdN MMU_CMD_DONE = 3 ∧ badVaRange (regs [(MMU_CMD_VA, 1)] (cmdAt 1 0 table)) = true ∧ base.mmu.cmdPend = none ∧
    (after .mmuCommandComplete (after .protect (cmdAt 1 1 table))).flag MMU_CMD_STAT_BUSY = false := by decide +kernel

/-- The held access of a thread in XLATE. -/
def heldOne : HeldAccess := { seq := 5, agent := 1, unit := 0, asid := 0, va := 0x40, kind := 0, pri := true, data := [], page := 9 }

/-- A state that holds it, its page request out. -/
def holding : State := { inState 3 g12 with mmu := { held := [heldOne], priOut := [⟨0, 9, 0⟩], atc := [⟨0, 9, 1⟩, ⟨0, 10, 2⟩] } }

theorem wit_HeldAccesses : holding.mmu.held.find? (fun x => x.seq == 5) = some heldOne ∧ thState (after (.resolve 5) holding) 0 = 1 ∧ thState (after (.resolve 0x100000005) holding) 0 = 5 ∧
    (after (.resolve 6) holding).fld MMU_RESOLVE_STAT_OK = 7 := by decide +kernel
theorem wit_HeldAccesses_requests : requested holding 0 9 = some ⟨0, 9, 0⟩ ∧ requested holding 0 8 = none ∧ waitingFor holding 0 9 = [heldOne] ∧ thState (after (.pageRequestResponse 0 9 0) holding) 0 = 1 ∧
    thState (after (.pageRequestResponse 0 9 1) holding) 0 = 3 ∧ (after (.pageRequestResponse 0 9 2) holding).mmu.priStop = true ∧ (after (.priTimeout 0 9) holding).mmu.priOut = [] ∧
    (after (.priTimeout 0 9) (regs [(MMU_PRI_TO, 7)] holding)).now = 7000000 ∧ waitingFor { holding with mmu := { holding.mmu with held := [] } } 0 9 = [] ∧ (after (.atsInvalidate 0 9 1) holding).mmu.atc = [⟨0, 10, 2⟩] ∧ (after .priEnable holding).mmu.priEn = true := by decide +kernel

/-! ### Memory -/

theorem wit_HostMemory : base.flag MEM_CTL_NB_EN = false ∧ inRecovery base = false ∧ base.memc.bar2Wait = [] ∧ devServed base 0x40 2 = true ∧ badBurst base 0 = false ∧ (after (.bar2Write 0x40 [1, 2]) base).dram = [(0x40, 1), (0x41, 2)] ∧
    (after (.bar2Read 0x40 2 0) (after (.bar2Write 0x40 [1, 2]) base)).hostMsgs = [.bar2Data 0x40 [1, 2] false] ∧ (after (.bar2Write 0xFFFFFFFF [1, 2]) base).hostMsgs = [.unsupportedRequest 0xFFFFFFFF] ∧
    (after (.bar2Read 0 1 2) base).rdN (MEM_C_CORR_CNT 0) = 1 ∧ (after (.bar2Read 0x47 1 4) base).rdN MEM_UNCORR_ADDR = 0x40 ∧ badBurst (after (.bar2Read 0x47 1 4) base) 0x40 = true := by decide +kernel
theorem wit_HostMemory_waits : let s := put [(MEM_C_STAT_ONLINE 0, 0)] base
    devServed s 0 1 = false ∧ (after (.bar2Write 0 [1]) s).memc.bar2Wait = [.write 0 [1]] ∧ (after (.bar2Read 0 1 2) s).memc.bar2Wait = [.read 0 1 2] := by decide +kernel
theorem wit_HostMemory_guard : let s := { base with mmu := { tblPages := [1] } }
    guardedPage s 1 = true ∧ (after (.bar2Write 0x10000 [9]) s).dram = [] ∧ (after (.bar2Write 0x10000 [9]) s).rdN MMU_GUARD_DROP_CNT = 1 := by decide +kernel
theorem wit_HostMemory_recovery : let s := put [(DBG_BOOT_STAT_STATE, 3)] base
    inRecovery s = true ∧ (after (.bar2Write 8 [3]) s).pilMem = [(8, 3)] ∧ (after (.bar2Write 0x1000000 [3]) s).pilMem = [] := by decide +kernel
theorem wit_ScrubAndRefresh : (after (.scrubRead 4) (put [(MEM_CTL_SCRUB_EN, 1)] base)).rdN MEM_SCRUB_POS = 64 ∧ (after (.scrubRead 4) (put [(MEM_CTL_SCRUB_EN, 0)] base)).rdN MEM_SCRUB_POS = 0 ∧
    ((after (.refresh 3 1) base).chan 3).refreshRow1 = 1 ∧ (after (.neighbourRefresh 3) (updChan 3 (fun x => { x with nbQueue := [(6, 0, 4)] }) base)).rdN (MEM_C_NB_CNT 3) = 1 ∧ (base.chan 3).nbQueue = [] ∧
    ((after (.dramTempReport 2 0 85) base).chan 2).hot0 = true ∧ ((after (.dramTempReport 2 0 84) base).chan 2).hot0 = false := by decide +kernel
theorem wit_scrub_wraps : (after (.scrubRead 0) (regs [(MEM_SCRUB_POS, 0xFFFFFFC0)] (put [(MEM_CTL_SCRUB_EN, 1)] base))).rdN MEM_SCRUB_POS = 0 := by decide +kernel

/-- Memory idle with all its tolerances ample. -/
def quiet (st : Nat) : State := put [(MEM_STAT_SR_STATE, st)] { base with now := 1000000 }

theorem wit_SelfRefresh : srConditions (quiet 0) = true ∧ (after .srEntryStart (quiet 0)).fld MEM_STAT_SR_STATE = 1 ∧ (after .srCommand (after .srEntryStart (quiet 0))).fld MEM_STAT_SR_STATE = 2 ∧
    (after .srCommand (after .srEntryStart (quiet 0))).memc.srCmdAt = 1000010 ∧ (after .srEntryStart (put [(MEM_C_STAT_TRN_BUSY 3, 1)] (quiet 0))).fld MEM_STAT_SR_STATE = 0 ∧
    (after .srCommand (put [(MEM_C_STAT_TRN_BUSY 3, 1)] (quiet 1))).fld MEM_STAT_SR_STATE = 0 ∧ (after (.srExitStart 0) (put [(MEM_C_STAT_TRN_BUSY 3, 1)] (quiet 1))).fld MEM_STAT_SR_STATE = 0 ∧
    after .srEntryStart (regs [(MEM_SR_IDLE_LO, 0xFFFFFFFF)] (quiet 0)) = regs [(MEM_SR_IDLE_LO, 0xFFFFFFFF)] (quiet 0) := by decide +kernel

/-- Asleep, with a request waiting or not. -/
def asleep (w : Bool) : State := let s := quiet 2; { s with memc := { s.memc with waiting := w, srCmdAt := 0 } }

theorem wit_SelfRefresh_exit : (after (.srExitStart 0) (asleep true)).fld MEM_STAT_SR_STATE = 3 ∧ tolAmple (asleep false) = true ∧ (after (.srExitStart 0) (asleep false)).fld MEM_STAT_SR_STATE = 2 ∧
    (after .srExitDone (after (.srExitStart 0) (asleep true))).fld MEM_STAT_SR_STATE = 0 ∧ after .srExitDone (asleep true) = asleep true ∧
    (after .keepAwake (quiet 1)).rdN MEM_SR_IDLE_LO = 0xFFFFFFFF ∧ (after .keepAwake (quiet 1)).fld MEM_STAT_SR_STATE = 0 := by decide +kernel
theorem wit_SelfRefresh_short : let s := quiet 3
    let t := fun (c : Nat) (r : Bool) => { s with memc := { srCmdAt := c, srExitAt := 999000, srByReq := r } }
    (after .srExitDone (t 999000 true)).fld MEM_STAT_SR_STATE = 0 ∧ (after .srExitDone (t 0 true)).fld MEM_STAT_SR_STATE = 0 ∧ (after .srExitDone (t 0 false)).fld MEM_STAT_SR_STATE = 0 := by decide +kernel

theorem wit_ChannelsAndTraining : lightNeedsMemory base = false ∧ lightNeedsMemory (put [(SEQ_P_CTL_EN 0, 1)] base) = true ∧ (after (.channelOnlineWrite 2 false) base).flag (MEM_C_STAT_ONLINE 2) = false ∧
    (after (.memDelayWrite 1 36 0xFFFF) base).rdN (MEM_C_VREF 1) = 0x3F3F := by decide +kernel
theorem wit_Training : let s := regs [(MEM_C_TRN_COUNT 0, 2)] (put [(MEM_C_STAT_ONLINE 0, 0), (MEM_C_TRN_PAT_KIND 0, 5)] base)
    trnRangeOk s 0 false = true ∧ (after (.trnWrite 0 false) s).flag (MEM_C_STAT_TRN_BUSY 0) = true ∧ (after (.trnCancel 0) s).fld (MEM_C_STAT_TRN_STATUS 0) = 3 ∧
    (after (.trnRead 0 true) s).fld (MEM_C_STAT_TRN_STATUS 0) = 12 ∧ (after (.trnWrite 0 false) (put [(MEM_C_STAT_ONLINE 0, 1)] s)).fld (MEM_C_STAT_TRN_STATUS 0) = 7 ∧
    (after (.trnWrite 0 false) (regs [(MEM_C_TRN_COUNT 0, 0)] s)).fld (MEM_C_STAT_TRN_STATUS 0) = 12 := by decide +kernel
theorem wit_Training_done : let s := updChan 0 (fun x => { x with train := some { op := 0, live := false, startedAt := 0, cancelled := true } }) (regs [(MEM_C_TRN_COUNT 0, 2)] base)
    (s.chan 0).train.isSome = true ∧ (after (.trainDone 0 0 0 []) s).rdN (MEM_C_TRN_DONE 0) = 0 ∧ (after (.trainDone 0 0 0 []) s).fld (MEM_C_STAT_TRN_STATUS 0) = 2 ∧
    (after (.trainLiveTimeout 0 1000000) s).rdN (MEM_C_TRN_DONE 0) = 0 ∧
    (after (.trainLiveTimeout 0 1000000) (updChan 0 (fun x => { x with train := some { op := 0, live := true, startedAt := 0, cancelled := false } }) s)).fld (MEM_C_STAT_TRN_STATUS 0) = 11 := by decide +kernel
theorem wit_Training_live : let s := regs [(MEM_C_TRN_COUNT 0, 2), (MEM_C_TRN_ADDR 0, 8192 * 512)] base
    let t := after (.trnWrite 0 true) s
    trnRangeOk s 0 true = true ∧ t.flag (MEM_C_STAT_TRN_BUSY 0) = true ∧ (after (.trnWrite 0 true) (regs [(MEM_C_TRN_COUNT 0, 500)] s)).fld (MEM_C_STAT_TRN_STATUS 0) = 12 ∧
    liveMax t + 500 < tolMin t ∧ (after (.trainDone 0 0 0 []) t).rdN (MEM_C_TRN_DONE 0) = 2 ∧ (kget (fun _ => none) ((after (.trainDone 0 0 0 []) t).chan 0).rows (8192 * 512 + 1)).isSome = true ∧
    (after (.trainDone 0 0 0 []) (put [(MEM_STAT_SR_STATE, 1)] t)).flag (MEM_C_STAT_TRN_BUSY 0) = true := by decide +kernel
theorem wit_Moves_running : let s := withPad [(0x10, 7)] (inState 1 { moves := [(0, { valid := true, src := 0xFFFFFFFE0010, dst := 0xFFFFFFFE0020, left := 4 })] })
    (s.th 0).wait = .nothing ∧ (getMove (after (.moveDone 0 0 0 0) s) 0 0).valid = false ∧ thState (after (.moveDone 0 0 0 0) s) 0 = 1 := by decide +kernel

/-! ### Queues, doorbells, aborts and jobs -/

/-- Queue 5 serves the DMA engine, its CQ queue 6, both enabled in context 0 (whose page table `table` is); `l` is laid in its ring. -/
def dmaQ (l : List Host.Cell) : State :=
  put [(QUE_Q_STAT_STATE 5, 1), (QUE_Q_TAIL_TAIL 5, 1), (QUE_Q_LINK_CQ 5, 6), (QUE_Q_CTL_TYPE 6, 1), (QUE_Q_STAT_STATE 6, 1), (⟨QUE_Q_BASE 6, 0, 64⟩, 0x1000)]
    (withDram (table ++ l) base)

/-- Entry 0 of queue 5, claimed: its bytes, who runs it. -/
def claimIs (b : Claimant) (d : List Byte) : State := updQueue 5 (fun r => { r with claims := [{ idx := 0, desc := d, by_ := b }] }) (dmaQ [])

/-- The 64 bytes of a descriptor whose first ones are given. -/
def descr (l : List Byte) : List Byte := (l ++ List.replicate 64 0#8).take 64

theorem wit_QueueCommands : enableBad (dmaQ []) 9 = true ∧ (after (.queueEnable 9) (dmaQ [])).fld (QUE_Q_STAT_CMD_STATUS 9) = 7 ∧ (after (.queueStop 5) (dmaQ [])).fld (QUE_Q_STAT_STATE 5) = 2 ∧
    (after (.queueResume 5) (dmaQ [])).fld (QUE_Q_STAT_CMD_STATUS 5) = 7 ∧ (after (.queueResume 5) (after (.queueStop 5) (dmaQ []))).fld (QUE_Q_STAT_STATE 5) = 1 ∧
    (after (.queueDisable 5) (dmaQ [])).fld (QUE_Q_STAT_STATE 5) = 3 ∧ (after (.queueDisable 9) (dmaQ [])).fld (QUE_Q_STAT_CMD_STATUS 9) = 7 := by decide +kernel
theorem wit_QueueCommands_enable : let s := put [(QUE_Q_CTL_TYPE 9, 1), (QUE_Q_CTL_LOG2 9, 4)] (dmaQ [])
    qState s 9 = 0 ∧ enableBad s 9 = false ∧ slotTaken s 9 = false ∧ (after (.queueEnable 9) s).fld (QUE_Q_STAT_STATE 9) = 1 ∧ (after (.queueEnable 9) s).flag (QUE_Q_STAT_ARMED 9) = true := by decide +kernel
theorem wit_QueueCommands_slot : let s := put [(QUE_Q_CTL_TYPE 3, 1), (QUE_Q_CTL_LOG2 3, 4), (QUE_Q_CTL_OWNER 3, 1), (QUE_Q_CTL_OWNER 0, 1), (QUE_Q_STAT_STATE 0, 1)] (regs [(GLB_FN_EN, 3)] (dmaQ []))
    enableBad s 3 = false ∧ slotTaken s 3 = true := by decide +kernel
theorem wit_QueueCommands_used : qType (dmaQ []) 6 = 1 ∧ qType (dmaQ []) 5 = 0 ∧ qState (dmaQ []) 5 ≠ 0 ∧ qCq (dmaQ []) 5 = 6 := by decide +kernel
theorem wit_QueueCommands_drained : let s := put [(QUE_Q_STAT_STATE 5, 3)] (dmaQ [])
    qState s 5 = 3 ∧ (s.queue 5).claims = [] ∧ ¬ (s.queue 5).claims.length = 1 ∧ (base.queue 5).claims = [] ∧ qState base 5 ≠ 3 := by decide +kernel
theorem wit_Doorbells : (after (.sqDoorbell 0 5 3) (dmaQ [])).fld (QUE_Q_TAIL_TAIL 5) = 3 ∧ (after (.sqDoorbell 0 5 0) (dmaQ [])).rdN (QUE_Q_DB_BAD_CNT 5) = 1 ∧ (after (.sqDoorbell 0 5 16) (dmaQ [])).rdN (QUE_Q_DB_BAD_CNT 5) = 1 ∧
    (after (.sqDoorbell 1 5 3) (dmaQ [])).rdN (QUE_Q_DB_BAD_CNT 5) = 1 ∧ qType (dmaQ []) 5 = 0 ∧ (after (.cqDoorbell 0 6 1) (dmaQ [])).rdN (QUE_Q_DB_BAD_CNT 6) = 1 ∧
    (after (.cqDoorbell 0 6 0x80000000) (dmaQ [])).flag (QUE_Q_STAT_ARMED 6) = true := by decide +kernel

/-- Queue 6 with one entry that no signal has told of, its timer of 1 us begun at 0. -/
def due : State := put [(QUE_Q_IRQ_TIME 6, 1), (QUE_Q_IRQ_EN 6, 1), (QUE_Q_STAT_ARMED 6, 1), (QUE_Q_TAIL_TAIL 6, 1)] (updQueue 6 (fun r => { r with firstPend := some 0, sinceSig := 1 }) (dmaQ []))

theorem wit_Doorbells_timer : due.flag (QUE_Q_STAT_ARMED 6) = true ∧ qPresent due 6 = 1 ∧ (after (.irqTimer 6) due).flag (QUE_Q_STAT_ARMED 6) = false ∧ (after (.irqTimer 6) due).now = 1000 ∧
    (base.queue 6).firstPend = none := by decide +kernel
theorem wit_Doorbells_masked : let m := fun (b : Bool) => { due with msix := [(msixKey 0 0, { masked := b })], hostIf := { due.hostIf with linkDown := false } }
    (after (.irqTimer 6) (m true)).hostMsgs = [] ∧ (kget (fun _ => ({} : MsixVec)) (after (.irqTimer 6) (m true)).msix (msixKey 0 0)).pending = true ∧
    linkOpen (put [(GLB_LINK_UP, 1)] (m false)) 0 = true ∧ (after (.irqTimer 6) (put [(GLB_LINK_UP, 1)] (m false))).hostMsgs = [.msix 0 0 0 0] := by decide +kernel

theorem wit_Aborts_claimed : let s := put [(QUE_Q_HEAD_HEAD 5, 1)] (claimIs .dma (descr [0, 0, 7, 0]))
    (claimOf (after (.abort 5 0x70000) s) 5 0).map (fun c => c.aborted) = some (some 0) ∧ (after (.abort 5 0x80000) s).fld (QUE_ABORT_STAT_STATUS 5) = 12 ∧
    (after (.abort 5 0x70000) (after (.abort 5 0x70000) s)).fld (QUE_ABORT_STAT_STATUS 5) = 4 ∧ (after (.abort 6 0) s).fld (QUE_ABORT_STAT_STATUS 6) = 12 := by decide +kernel
theorem wit_Aborts_ended : let s := put [(QUE_Q_HEAD_HEAD 5, 1)] (updQueue 5 (fun r => { r with ended := [(0, some (7, 1))] }) (dmaQ []))
    (after (.abort 5 0x70000) s).fld (QUE_ABORT_STAT_STATUS 5) = 3 ∧ (after (.abort 5 0x80000) s).fld (QUE_ABORT_STAT_STATUS 5) = 12 ∧ (after (.abort 5 0x70001) s).fld (QUE_ABORT_STAT_STATUS 5) = 12 := by decide +kernel
theorem wit_Aborts_waiting : let s := dmaQ [(0x200002, 7)]
    xlate s (qAsid s 5) (qOwner s 5) (qBase s 5 + 64 * 0) akREAD = .ok ⟨false, 0x200000⟩ ∧ (after (.abort 5 0x80000) s).fld (QUE_ABORT_STAT_STATUS 5) = 12 ∧
    ((after (.abort 5 0x70000) (put [(QUE_Q_TAIL_TAIL 6, 15)] s)).queue 5).skip = [(0, true)] := by decide +kernel
theorem wit_Aborts_timeout : let s := updClaim 5 0 (fun c => { c with aborted := some 0 }) (regs [(QUE_Q_ABORT_TO 5, 2)] (claimIs (.thread 0) (descr [0x40])))
    abortLimit s 5 = some 2 ∧ abortLimit (regs [(QUE_Q_ABORT_TO 5, 0)] base) 5 = none ∧ ((after (.abortTimeout 5 0) s).queue 5).claims = [] ∧ (after (.abortTimeout 5 0) s).now = 2000000 ∧ after (.abortTimeout 5 0) (claimIs (.thread 0) (descr [0x40])) = claimIs (.thread 0) (descr [0x40]) := by decide +kernel

theorem wit_DmaJobs_claim : ((after (.descriptorClaim 5) (dmaQ [])).queue 5).claims = [{ idx := 0, desc := descr [], by_ := .dma }] ∧ (after (.descriptorClaim 5) (dmaQ [])).fld (QUE_Q_HEAD_HEAD 5) = 1 ∧
    badHeader 0 (descr []) = false ∧ badHeader 0 (loadAt (dmaQ [(0x200000, 4)]) ⟨false, 0x200000⟩ 64) = true ∧ bit (dFlags (loadAt (dmaQ [(0x200000, 4)]) ⟨false, 0x200000⟩ 64)) 2 = false ∧
    ((after (.descriptorClaim 5) (dmaQ [(0x200000, 4)])).queue 5).claims = [] ∧ qServer (withQueue g5) 5 = 2 := by decide +kernel
theorem wit_DmaJobs_bad : badBody (descr (List.replicate 16 0 ++ [1])) = true ∧ badBody (descr [1]) = true ∧ badBody (descr [2]) = true ∧ badBody (descr (3 :: List.replicate 15 0 ++ [1])) = true := by decide +kernel
theorem wit_DmaJobs_nop : (claimOf (after (.dmaNop 5 0) (claimIs .dma (descr []))) 5 0).map (fun c => c.outcome) = some (some 1) ∧
    (claimOf (after (.dmaNop 5 0) (claimIs .dma (descr (List.replicate 16 0 ++ [1])))) 5 0).map (fun c => c.outcome) = some (some 12) := by decide +kernel
theorem wit_DmaJobs_copy : let s := withDram (table ++ [(0x200000, 9)]) (claimIs .dma (descr ([1] ++ List.replicate 23 0 ++ [0, 1, 0, 0, 0, 0, 0, 0, 1])))
    dramByte (after (.copy 5 0 1) s) 0x200100 = 9 ∧ (claimOf (after (.copy 5 0 1) s) 5 0).map (fun c => (c.outcome, c.done)) = some (some 1, 1) := by decide +kernel
theorem wit_DmaJobs_fill : let s := claimIs .dma (descr ([2] ++ List.replicate 15 0 ++ [1, 1, 0, 0, 0, 0, 0, 0, 1, 0, 0, 0, 0, 0, 0, 0, 0xA0, 0xA1]))
    dramByte (after (.fill 5 0 1) s) 0x200101 = 0xA1 := by decide +kernel
theorem wit_DmaJobs_write : let s := claimIs .dma (descr ([3] ++ List.replicate 15 0 ++ [0, 1, 0, 0, 0, 0, 0, 0, 5, 6]))
    dramByte (after (.write64 5 0) s) 0x200101 = 6 := by decide +kernel
theorem wit_DmaJobs_done : let s := updClaim 5 0 (fun c => { c with outcome := some 1 }) (claimIs .dma (descr []))
    ((after (.dmaJobDone 5 0) s).queue 5).claims = [] ∧ (after (.dmaJobDone 5 0) s).fld (QUE_Q_TAIL_TAIL 6) = 1 ∧ ((after (.dmaJobDone 5 0) (updClaim 5 0 (fun c => { c with aborted := some 0 }) s)).queue 5).claims = [] ∧
    claimOf base 5 0 = none := by decide +kernel

theorem wit_HostResets : base.mainOn = true ∧ bit ((regs [(GLB_FN_EN, 3)] base).rdN GLB_FN_EN) 1 = true ∧ bit (base.rdN GLB_FN_EN) 1 = false ∧ (after (.vfEnable 2) base).rdN GLB_FN_EN = base.rdN GLB_FN_EN + 2 ∧
    (after .pcieLinkDown base).flag GLB_LINK_UP = false := by decide +kernel
theorem wit_HostResets_link : let s := put [(⟨DBG_VIO_STAT, 0, 16⟩, 0x5555)] base
    (s.bankUp 7 = true ∧ s.island.pcieDown = false) ∧ (after (.pcieLinkUp 16 5 true) s).rdN GLB_LINK = 1 + 32 + 320 + 512 ∧ (after (.pcieLinkUp 2 5 true) s).rdN GLB_LINK = 1 + 4 + 320 + 512 + 4096 := by decide +kernel
theorem wit_HostResets_held : (after .pcieLinkDown base).bankUp 7 = false ∨ base.island.pcieDown = false := by decide +kernel

/-! ### Compression -/

/-- A job of 24 bytes at 0x100 (src) that holds one FILL block of 5 bytes 0xAA, marked LAST; its CRC that of R146. -/
def packed (op : Nat) (extra : List Byte) : State :=
  withDram (table ++ [(0x200100, 0xE), (0x200104, 1), (0x200108, 5)] ++ (leBytes 4 (crc32 [0xAA, 0xAA, 0xAA, 0xAA, 0xAA])).mapIdx (fun i b => (0x20010C + i, b)) ++ [(0x200110, 0xAA)])
    (updClaim 5 0 (fun c => { c with win := some [] }) (claimIs (.cmp 4) (descr ([BitVec.ofNat 8 op] ++ List.replicate 15 0 ++ leBytes 8 0x100 ++ leBytes 8 24 ++ extra))))

theorem wit_CompressionJobs_verify : let s := packed 0x22 []
    (claimOf s 5 0).map (fun c => badCmpBody c.desc) = some false ∧ (claimOf (after (.verify 5 0 1) s) 5 0).map (fun c => (c.done, c.out, c.outcome)) = some (24, 5, some 1) := by decide +kernel
theorem wit_CompressionJobs_decompress : let s := packed 0x21 (leBytes 8 0x200 ++ leBytes 8 5)
    (claimOf s 5 0).map (fun c => badCmpBody c.desc) = some false ∧ dramByte (after (.decompress 5 0 1) s) 0x200204 = 0xAA ∧ dramByte (after (.decompress 5 0 1) s) 0x200205 = 0 ∧
    (claimOf (after (.decompress 5 0 1) s) 5 0).map (fun c => (c.done, c.out, c.outcome)) = some (24, 5, some 1) := by decide +kernel
theorem wit_CompressionJobs_header : let s := withDram table (packed 0x22 [])
    (parseHdr (List.replicate 16 0)).bad = true ∧ (after (.verify 5 0 1) s).rdN CMP_DATA_BAD_CNT = 1 ∧ (claimOf (after (.verify 5 0 1) s) 5 0).map (fun c => (c.err, c.outcome)) = some (1, some 12) := by decide +kernel

/-- A COMPRESS of 16 zero bytes at 0x300 into `cap` bytes at 0x400: blocks of 4,096, LAST set. -/
def squeezed (cap : Nat) : State :=
  updClaim 5 0 (fun c => { c with win := some [] }) (claimIs (.cmp 0) (descr ([0x20] ++ List.replicate 15 0 ++ leBytes 8 0x300 ++ leBytes 8 16 ++ leBytes 8 0x400 ++ leBytes 8 cap ++ leBytes 4 0 ++ leBytes 4 (12 * 16 + 512))))

theorem wit_CompressionJobs_compress : (claimOf (squeezed 24) 5 0).map (fun c => badCmpBody c.desc) = some false ∧ dramByte (after (.compress 5 0 1) (squeezed 24)) 0x200400 = 0xE ∧
    (claimOf (after (.compress 5 0 1) (squeezed 24)) 5 0).map (fun c => (c.done, c.out, c.outcome)) = some (16, 24, some 1) := by decide +kernel
theorem wit_CompressionJobs_full : (claimOf (after (.compress 5 0 1) (updClaim 5 0 (fun c => { c with out := 8 }) (squeezed 24))) 5 0).map (fun c => c.outcome) = some (some 9) := by decide +kernel
theorem wit_CompressionJobs_done : let s := updClaim 5 0 (fun c => { c with outcome := some 1 }) (packed 0x22 [])
    ((after (.cmpJobDone 5 0) s).queue 5).claims = [] ∧ (after (.cmpJobDone 5 0) s).rdN (CMP_U_JOB_CNT 4) = 1 ∧ ((after (.cmpJobDone 5 0) (updClaim 5 0 (fun c => { c with aborted := some 0 }) s)).queue 5).claims = [] ∧
    ((after (.cmpJobDone 5 0) (packed 0x22 [])).queue 5).claims.length = 1 ∧ badCmpBody (descr [0x22]) = true := by decide +kernel

/-! ### Links and lanes -/

/-- Link 4 at a stage, enabled, its two receivers powered and locked. -/
def linked (st : Nat) : State := put [(LNK_K_CTL_EN 4, 1), (LNK_K_STAT_STAGE 4, st), (LNK_L_STAT_RX_PWR 40, 1), (LNK_L_STAT_RX_PWR 41, 1), (LNK_L_STAT_BLOCK_LOCK 40, 1), (LNK_L_STAT_BLOCK_LOCK 41, 1)] base

theorem wit_LinkStages : linkStage (after (.linkEnable 4) base) 4 = 1 ∧ linkStage (after (.linkEnable 4) (put [(LNK_K_CTL_TEST 4, 1)] base)) 4 = 7 ∧ linkStage (after (.linkDisable 4) (linked 5)) 4 = 0 ∧
    (after (.linkRetry 4) (linked 5)).fld (LNK_K_STAT_CMD_STATUS 4) = 7 ∧ linkStage (after (.linkRetry 4) (linked 6)) 4 = 1 ∧ linkStage (after (.detectPoll 4 7 true (Fin.ofNat 8 (linkRate base 4))) (linked 1)) 4 = 2 ∧ (after (.detectPoll 4 7 true (Fin.ofNat 8 (linkRate base 4))) (linked 1)).now = 7 ∧
    (after (.detectPoll 4 0 true (Fin.ofNat 8 (linkRate base 4 + 1))) (linked 1)).flag (LNK_K_STAT_RATE_MIS 4) = true ∧ ((after (.detectPoll 4 5 false 0) (linked 1)).link 4).pollAt = 10000000 ∧ (after (.detectPoll 4 5 false 0) (linked 1)).now = 100000 ∧ after (.detectPoll 4 5 false 0) (linked 5) = linked 5 := by decide +kernel
/-- Link 4 in LOCK, deskewed at both ends. -/
def skewless : State := updLane 41 (fun x => { x with pDesk := true }) (updLane 40 (fun x => { x with pDesk := true }) (put [(LNK_L_STAT_DESKEWED 40, 1), (LNK_L_STAT_DESKEWED 41, 1)] (linked 3)))

theorem wit_LinkStages_train : let s := put [(LNK_L_STAT_P_RX_READY 40, 1), (LNK_L_STAT_P_RX_READY 41, 1)] (linked 2)
    linkStage (after (.trainComplete 4) s) 4 = 3 ∧ (after (.trainComplete 4) s).now = 100000 ∧ linkStage (after (.trainComplete 4) (linked 2)) 4 = 2 ∧
    after (.trainComplete 4) (updLane 41 (fun x => { x with quietFrom := 3900001 }) s) = updLane 41 (fun x => { x with quietFrom := 3900001 }) s ∧
    linkStage (after (.lockComplete 4) skewless) 4 = 4 ∧ linkStage (after (.lockComplete 4) (linked 3)) 4 = 3 ∧ (after (.lockComplete 4) skewless).rdN (LNK_L_LAT 40) ≠ 0 := by decide +kernel
theorem wit_LinkStages_timeout : linkStage (after (.stageTimeout 4) (linked 2)) 4 = 1 ∧ (after (.stageTimeout 4) (linked 2)).rdN (LNK_K_FAIL_CNT 4) = 1 ∧ (after (.stageTimeout 4) (linked 2)).now = 4000000 ∧
    linkStage (after (.stageTimeout 4) (put [(LNK_K_CTL_RETRY_LIM 4, 1)] (linked 4))) 4 = 6 ∧ linkStage (after (.stageTimeout 4) skewless) 4 = 4 ∧ after (.stageTimeout 4) (linked 5) = linked 5 := by decide +kernel
theorem wit_LinkStages_beam : let s := updLink 0 (fun x => { x with beam := true }) (put [(SEQ_P_CTL_MODE 0, 1), (LNK_K_STAT_STAGE 0, 3)] base)
    beamLink s 0 = true ∧ linkStage (after (.beamLockDone 0) s) 0 = 5 ∧ (after (.beamLockDone 0) s).now = 1000000 ∧ linkStage (after (.linkEnable 0) (put [(SEQ_P_CTL_MODE 0, 1)] base)) 0 = 3 := by decide +kernel
theorem wit_LaneSignals : linkStage (after (.lossOfSignal 40) (linked 5)) 4 = 1 ∧ (after (.lossOfSignal 40) (linked 5)).fld (LNK_K_STAT_CAUSE 4) = 2 ∧ (after (.blockLock 40) (put [(LNK_L_STAT_BLOCK_LOCK 40, 0)] (linked 1))).flag (LNK_L_STAT_BLOCK_LOCK 40) = true ∧
    (after (.blockLockLost 40 0 15) (linked 1)).flag (LNK_L_STAT_BLOCK_LOCK 40) = true ∧ (after (.blockLockLost 40 0 16) (linked 1)).flag (LNK_L_STAT_BLOCK_LOCK 40) = false ∧
    ((after (.blockLockLost 40 0 3) (put [(LNK_L_STAT_BLOCK_LOCK 40, 0)] (linked 1))).lane 40).boundary = 3 ∧ base.flag (LNK_L_STAT_RX_PWR 40) = false := by decide +kernel
theorem wit_LaneSignals_words : linkStage (after (.tsWord 40 0 2 0 true 0) (linked 5)) 4 = 1 ∧ (after (.tsWord 40 0 2 1 true 0) (linked 2)).flag (LNK_L_STAT_P_RX_READY 41) = true ∧ ((after (.tsWord 40 0 3 1 true 0) (linked 3)).lane 41).pDesk = true ∧
    firstLane 4 + 1 ∈ lanesOf 4 ∧ (after (.alignWord 40 0 7 16) (linked 3)).fld (LNK_K_STAT_CAUSE 4) = 4 ∧ (after (.alignWord 40 0 7 15) (linked 3)).fld (LNK_L_STAT_SKEW 40) = 15 ∧
    (after (.alignWord 40 0 8 2) (after (.alignWord 40 0 7 2) (linked 3))).flag (LNK_L_STAT_DESKEWED 40) = true ∧ linkStage (after (.alignWord 40 0 7 0) (linked 5)) 4 = 1 ∧
    (after (.tsWord 40 20001 1 0 false 0) (linked 4)).fld (LNK_K_STAT_CAUSE 4) = 3 ∧ (after (.lossOfSignal 40) (linked 3)).rdN (LNK_K_FAIL_CNT 4) = 1 ∧ ((after (.alignWord 40 0 7 0) (linked 4)).lane 40).alignLast = some 7 := by decide +kernel
theorem wit_LaneSignals_idle : let s := updLane 0 (fun x => { x with alignLast := some 7 }) (put [(LNK_K_STAT_STAGE 0, 5), (LNK_L_STAT_RX_PWR 0, 1), (LNK_K_STAT_RX_IDLE 0, 1)] base)
    rxLanes 0 = [0] ∧ (after (.alignWord 0 0 8 0) s).flag (LNK_K_STAT_RX_IDLE 0) = false ∧ linkStage (after (.alignWord 0 0 9 0) s) 0 = 1 ∧ linkStage (after (.alignWord 0 0 8 1) s) 0 = 1 := by decide +kernel
theorem wit_ElectricalIdle : let s := after (.eidleEnter 4 3) (linked 5)
    ((after (.eidleWord 4 3) (linked 5)).link 4).eidleAt = some 3 ∧ (s.link 4).idleFrom = some 3 ∧ ((after (.picotStart 4 2) s).link 4).picotAt = some 5 ∧ ((after (.picotStart 4 70000) s).link 4).picotAt = some 64003 ∧
    ((after (.picotDone 4) (after (.picotStart 4 2) s)).link 4).picotEnd = some (5 + s.rdN (LNK_K_PICOT_NS 4)) ∧ ((after (.eidleEnter 4 0) (after (.picotDone 4) (after (.picotStart 4 2) s))).link 4).idleFrom = none ∧
    linkStage (after (.idleLosWindowEnd 4) (after (.eidleWord 4 0) (linked 5))) 4 = 1 ∧ ((linked 1).link 4).eidleAt = none ∧ after (.picotDone 4) s = s ∧ after (.idleLosWindowEnd 4) s = s := by decide +kernel
theorem wit_ElectricalIdle_words : (after (.lstatWord 1 9 77) (put [(LNK_K_STAT_STAGE 1, 5)] base)).rdN (LNK_L_REM_ERR 19) = 77 ∧ after (.lstatWord 1 10 77) base = base := by decide +kernel
theorem wit_LaneCommands : let s := put [(LNK_K_CTL_MANUAL_LOCK 4, 1), (LNK_L_SCAN_LOG2 40, 16)] (linked 3)
    ((after (.slip 40) s).lane 40).boundary = 1 ∧ (after (.slip 40) (linked 3)).fld (LNK_L_STAT_CMD_STATUS 40) = 7 ∧ ((after (.scanGo 40) s).lane 40).scan = some (0, 65536) ∧ (after (.scanGo 40) (after (.scanGo 40) s)).fld (LNK_L_SCAN_STATUS 40) = 4 ∧
    (after (.scanGo 40) base).fld (LNK_L_SCAN_STATUS 40) = 7 ∧ (after (.scanStop 40) s).fld (LNK_L_STAT_CMD_STATUS 40) = 3 ∧ (after (.scanDone 40 9) (after (.scanGo 40) s)).rdN (LNK_L_SCAN_ERR 40) = 9 ∧
    (after (.scanDone 40 9) (after (.scanGo 40) s)).now = ceilDiv 655360 (rate10 (linkRate s 4)) ∧ after (.scanDone 40 9) s = s ∧ ((after (.inj 40) s).lane 40).inj = true := by decide +kernel
theorem wit_LaneCommands_taps : tapsOk 4 48 8 = true ∧ tapsOk 12 40 11 = true ∧ tapsOk 12 40 17 = false ∧ (after (.txeqWrite 40 (4 + 48 * 16 + 8 * 1024)) base).rdN (LNK_L_TXEQ 40) = 4 + 48 * 16 + 8 * 1024 ∧ base.flag (LNK_L_TXEQ_FIX 40) = false ∧
    taps (tapRequest 40 0 1 (putTaps 40 (4, 48, 8) base)) 40 = (5, 48, 8) ∧ taps (tapRequest 40 0 1 (tapRequest 40 0 1 (putTaps 40 (4, 48, 8) base))) 40 = (5, 48, 8) := by decide +kernel
theorem wit_LaneCommands_adapt : let s := put [(LNK_L_EQ_HI 40 1 |> fun r => ⟨r, 0, 32⟩, 31)] (linked 5)
    (s.flag (LNK_L_STAT_RX_PWR 40) = true ∧ s.flag (LNK_L_STAT_BLOCK_LOCK 40) = true ∧ linkStage s 4 = 5) ∧ (s.lane 40).scan = none ∧ (adaptStep (eqParam 40 1) 3 s).rd (LNK_L_EQ 40 1) ≠ s.rd (LNK_L_EQ 40 1) ∧
    (after (.eqAdaptStep 40 1 3) (updLane 40 (fun x => { x with scan := some (0, 65536) }) s)).flag (LNK_L_SCAN_DISTURBED 40) = true := by decide +kernel

/-! ### Palis -/

/-- Port p of Palis in TREE, its link ACTIVE. -/
def palisOn (p : Nat) (s : State) : State := put [(CAS_P_CTL_MODE p, 1), (LNK_K_STAT_STAGE (4 + p), 5)] s

/-- A unit attached at port 0, with port 1 below it. -/
def unit : State := put [(CAS_STAT_ATTACHED, 1), (CAS_STAT_UP, 0)] (palisOn 1 (palisOn 0 base))

/-- The master, with port 1 below it. -/
def master : State := put [(CAS_CTL_MASTER, 1), (CAS_STAT_ATTACHED, 1)] (palisOn 1 base)

/-- A packet, with its PKT word and the words after it. -/
def pk (kind flags dest src hops : Nat) (l : List Word) : CasPkt := { kind := kind, flags := flags, dest := dest, src := src, hops := hops, data := l }
def first (k : CasPkt) : Word := (pktWord k).w
def others (k : CasPkt) : List Word := (pktWords k).tail.map (fun x => x.w)
/-- A packet of one hop. -/
def hop (kind : Nat) (l : List Word) : CasPkt := pk kind 0 0x3FFF 0 255 l
/-- The kinds of what a port has sent. -/
def kinds (p : Nat) (s : State) : List Nat := (s.palisPort p).sent.map (fun x => x.pkt.kind)

theorem wit_PalisSending : portActive base 0 = false ∧ portActive unit 0 = true ∧ itemBytes unit .delayReq = 24 ∧ kinds 0 (sendOn 0 1 0 .delayReq unit) = [1] ∧
    ((sendOn 0 1 0 .delayReq unit).palisPort 0).nextPos = 3 ∧ ((sendOn 0 1 0 .delayReq (sendOn 0 1 0 .delayReq unit)).palisPort 0).fifo.length = 1 ∧ (sendOn 0 1 0 .delayReq base).palisPort 0 = base.palisPort 0 ∧
    kinds 0 (sendOn 0 1 0 .delayReq (updLink 4 (fun x => { x with idleFrom := some 0 }) unit)) = [] ∧ ((sendOn 0 1 1000 .delayReq unit).palisPort 0).fifo.length = 1 := by decide +kernel
theorem wit_PalisSending_full : let s := updLink 4 (fun x => { x with idleFrom := some 0 }) (updPalis 0 (fun x => { x with fifo := [⟨0, 3, .packet (pk 7 0 0 0 255 (List.replicate 2040 0))⟩] }) unit)
    (s.palisPort 0).fifo.map (fun e => itemBytes s e.item) = [16336] ∧ ((sendOn 0 3 0 (.packet (pk 7 0 0 0 255 (List.replicate 5 0))) s).palisPort 0).fifo.length = 1 ∧
    ((sendOn 0 3 0 (.packet (pk 7 0 0 0 255 (List.replicate 4 0))) s).palisPort 0).fifo.length = 2 := by decide +kernel
/-- A MSG that waits before a DELAY_REQ that ranks before it. -/
def ranked : State := updLink 4 (fun x => { x with idleFrom := some 0 }) (updPalis 0 (fun x => { x with fifo := [⟨0, 3, .packet (pk 7 0 0 0 255 [])⟩, ⟨0, 1, .delayReq⟩] }) unit)

theorem wit_PalisSending_rank : nextItem ranked 0 = some (0, ⟨0, 1, .delayReq⟩) := by decide +kernel
theorem wit_OneHopPackets : (portMode base 0 = 0 ∧ portMode unit 0 = 1 ∧ linkStage unit 4 = 5) ∧ (after (.delayReq 0 0 0 []) unit).rdN (CAS_P_BAD_CNT 0) = 1 ∧ after (.delayReq 0 0 0x1E []) unit = unit ∧
    kinds 0 (after (.delayReq 0 0 (first (hop 1 [0])) (others (hop 1 [0]))) unit) = [2] ∧ (after (.delayReq 0 0 (first (hop 1 [0])) [0, 0]) unit).rdN (CAS_P_BAD_CNT 0) = 1 ∧
    (after (.delayReq 0 0 (first (hop 12 [])) []) unit).rdN (CAS_P_BAD_CNT 0) = 1 ∧ headFault 1 (first (hop 1 [0])) = 0 ∧ tailBad (first (hop 1 [0])) (others (hop 1 [0])) = false := by decide +kernel
theorem wit_OneHopPackets_delay : let s := put [(⟨CAS_P_ASYM 0, 0, 16⟩, 0), (⟨LNK_L_LAT 40, 0, 32⟩, 0)] { unit with showAcc := 2 ^ 32 * 50 }
    ((after (.delayResp 0 0 (first (hop 2 [0, 100, 102])) (others (hop 2 [0, 100, 102]))) s).palisPort 0).delays = [96] := by decide +kernel
theorem wit_OneHopPackets_caps : let s := put [(LNK_K_STAT_STAGE 4, 4)] unit
    let caps := fun m : Word => after (.capsPacket 0 0 (first (hop 9 [m, 9])) (others (hop 9 [m, 9]))) s
    linkStage s 4 = 4 ∧ (caps 0x10000).flag (CAS_P_STAT_CAPS_OK 0) = true ∧ (caps 0x20000).flag (CAS_P_STAT_MISMATCH 0) = false ∧ (after (.stageTimeout 4) (caps 0x20000)).flag (CAS_P_STAT_MISMATCH 0) = true ∧
    linkStage (after (.capsComplete 4) (caps 0x10000)) 4 = 5 ∧ linkStage (after (.capsComplete 4) s) 4 = 4 ∧ linkStage base 7 ≠ 4 := by decide +kernel

/-- A beacon: from one hop below the master, no phases. -/
def bcn : CasPkt := hop 0 [1000, 0x10000]

theorem wit_TreeOfBeacons : let s := palisOn 2 base
    let y := after (.beacon 2 0 (first bcn) (others bcn)) s
    (treePort s 2 = true ∧ upstream s = none ∧ isMaster s = false) ∧ y.flag CAS_STAT_ATTACHED = true ∧ y.rdN CAS_HOPS = 2 ∧ upstream y = some 2 ∧
    (after (.beacon 2 0 (first (hop 0 [1000])) (others (hop 0 [1000]))) s).rdN (CAS_P_BAD_CNT 2) = 1 := by decide +kernel
theorem wit_TreeOfBeacons_loop : let y := after (.beacon 1 0 (first bcn) (others bcn)) unit
    isBlocked y 1 = true ∧ after (.beacon 1 0 (first bcn) (others bcn)) y = y := by decide +kernel
theorem wit_TreeOfBeacons_twin : let s := put [(CAS_P_CTL_MODE 3, 2), (LNK_K_STAT_STAGE 7, 5)] base
    let t := put [(CAS_TW_STAT_STATE, 2)] { s with regs := kset (fun _ => 0#64) s.regs CAS_TW_CTL 0x1F42001#64 }
    portMode s 3 = 2 ∧ twState t = 2 ∧ (after (.beacon 3 0 (first bcn) (others bcn)) t).tree.beacon.isSome = true ∧ (after (.beacon 3 0 (first bcn) (others bcn)) s).tree.beacon.isSome = false := by decide +kernel
theorem wit_TreeOfBeacons_master : (after .beaconSend master).tree.lastMult = 1 ∧ (after .beaconSend master).now = 64000 ∧ after .beaconSend unit = unit ∧
    (after .upstreamLost unit).flag CAS_STAT_UP_LOST = true ∧ (after .upstreamLost unit).now = 1024000 ∧ (after .upstreamLost (put [(LNK_K_STAT_STAGE 4, 1)] unit)).now = 0 ∧ after .upstreamLost master = master := by decide +kernel
theorem wit_TreeOfBeacons_delay : upstream (after .reroot unit) = none ∧ ((after (.delayReqSend 0) unit).palisPort 0).reqAt = some 0 ∧
    ((after (.delayReqSend 0) (after (.delayReqSend 0) unit)).palisPort 0).reqAt = some 1000000 ∧ after (.delayReqSend 2) unit = unit := by decide +kernel

/-- What is forwarded at port q of a packet k. -/
def waits (q : Nat) (s : State) : List CasOut := (s.palisPort q).fifo.map (fun e => e.item)
/-- A packet of the tree to address `dest` with so many hops left. -/
def tree (kind dest hops : Nat) (l : List Word) : CasPkt := pk kind 0 dest 2 hops l

theorem wit_TreePackets : let r := tree 4 1 3 []
    let j := fun h : Nat => tree 3 1 h []
    (portRole unit 0 = 1 ∧ portRole unit 1 = 2 ∧ downPorts unit = [1] ∧ upstream unit = some 0 ∧ isHot unit = false) ∧ (after (.roster 1 0 (first r) (others r)) unit).rdN (CAS_P_BAD_CNT 1) = 1 ∧
    (after (.join 1 0 (first (j 3)) [5]) unit).rdN (CAS_P_BAD_CNT 1) = 1 ∧ waits 0 (after (.join 1 0 (first (j 3)) (others (j 3))) unit) = [.packet { pktOf (first (j 3)) (others (j 3)) with hops := 2 }] ∧
    (after (.join 1 0 (first (j 0)) (others (j 0))) unit).rdN CAS_HOP_DROP_CNT = 1 := by decide +kernel
theorem wit_TreePackets_hot : let m := tree 7 1 3 []
    waits 1 (after (.msg 0 0 (first m) (others m)) (put [(HKP_STAT_LATCHED, 1)] unit)) = [.packet { pktOf (first m) (others m) with hops := 2 }] := by decide +kernel
theorem wit_TreePackets_master : let m := tree 7 1 3 []
    let j := tree 3 0 3 []
    portRole master 1 = 2 ∧ upstream master = none ∧ waits 1 (after (.msg 1 0 (first m) (others m)) (put [(HKP_STAT_LATCHED, 1)] master)) = [.packet { pktOf (first m) (others m) with hops := 255 }] ∧
    after (.join 1 0 (first j) (others j)) master = master ∧ ownAddr master = 0 := by decide +kernel

/-- A unit with nothing below it, its RX ring of 64 KiB at 0 of the system's context. -/
def leaf : State := regs [(CAS_RX_SIZE, 65536), (CAS_SUB_SIZE 2, 65536)] (put [(CAS_SUB_CTL_EN 2, 1), (CAS_SUB_CTL_STREAM 2, 4)] (withDram table (put [(CAS_P_CTL_MODE 1, 0)] unit)))

theorem wit_TreePackets_take : let m := tree 7 0x3FFF 3 [5]
    let y := after (.msg 0 0 (first m) (others m)) leaf
    downPorts leaf = [] ∧ y.rdN CAS_RX_HEAD = 24 ∧ dramByte y 0x200010 = 5 ∧ subsOf leaf false 4 = [2] ∧ subsOf leaf false 5 = [] ∧ subsOf leaf true 4 = [] ∧
    (after (.msg 0 0 (first m) (others m)) (regs [(CAS_RX_SIZE, 7)] leaf)).rdN CAS_RX_LOST_CNT = 1 := by decide +kernel
theorem wit_TreePackets_content : let c := fun (f : Nat) (v : Word) => pk 6 f 1 2 3 [v]
    let go := fun (f : Nat) (v : Word) => after (.content 0 0 (first (c f v)) (others (c f v)))
    ((go 0 4 leaf).sub 2).skipping = true ∧ (go 1 4 leaf).rdN (CAS_SUB_HEAD 2) = 8 ∧ (go 0 0x20004 (go 1 4 leaf)).rdN (CAS_SUB_GAP_CNT 2) = 1 ∧ (go 1 0x20004 (go 1 4 leaf)).rdN (CAS_SUB_GAP_CNT 2) = 1 ∧
    (go 0 0x10004 (go 1 4 leaf)).rdN (CAS_SUB_HEAD 2) = 16 := by decide +kernel
theorem wit_TreePackets_follow : let s := put [(CAS_SUB_CTL_FOLLOW 2, 1)] leaf
    let f := tree 8 1 3 [4, 1, 2]
    subsOf s true 4 = [2] ∧ (after (.follow 0 0 (first f) (others f)) s).rdN (CAS_SUB_GAP_CNT 2) = 1 ∧
    (after (.follow 0 0 (first f) (others f)) (regs [(CTL_A_STREAM_SIZE 0, 256)] s)).rdN (CTL_A_STREAM_HEAD 0) = 1 := by decide +kernel
theorem wit_TreePackets_presence : unit.tree.presAt = none ∧ (after .presenceSend unit).tree.presAt = some 0 ∧ kinds 0 (after .presenceSend unit) = [5] ∧
    (after .presenceSend (after .presenceSend (put [(CAS_CTL_PRES_MS, 3)] unit))).tree.presAt = some 3000000 := by decide +kernel

/-- A TX ring of 64 KiB with one record in it: MSG of no words. -/
def txOne (l : List Host.Cell) : State := regs [(CAS_TX_SIZE, 65536), (CAS_TX_TAIL, 16)] (withDram (table ++ l) (put [(CAS_P_CTL_MODE 1, 0)] unit))

theorem wit_TxRing : (after .txRingSend (txOne [(0x200000, 7)])).rdN CAS_TX_HEAD = 16 ∧ kinds 0 (after .txRingSend (txOne [(0x200000, 7)])) = [7] ∧
    (after .txRingSend (txOne [(0x200000, 9)])).rdN CAS_TX_BAD_CNT = 1 ∧ (after .txRingSend (regs [(CAS_TX_HEAD, 16)] (txOne [(0x200000, 7)]))).rdN CAS_TX_HEAD = 16 ∧
    (after .txRingSend (txOne [(0x200000, 255)])).rdN CAS_TX_HEAD = 0 ∧ (after .txRingSend (withDram [] (txOne []))).tree.tx.stall = some 0 := by decide +kernel

/-! ### Twin pairs -/

/-- A twin module: CAS_TW_CTL, its state, port 3 in TWIN with its link ACTIVE. -/
def twin (ctl st : Nat) : State :=
  put [(MEM_CTL_NB_EN, 0), (⟨DBG_VIO_STAT, 0, 16⟩, 0x5555), (CAS_TW_STAT_STATE, st), (CAS_P_CTL_MODE 3, 2), (LNK_K_STAT_STAGE 7, 5)] { State.reset with regs := [(CAS_TW_CTL, BitVec.ofNat 64 ctl)] }

/-- One with EN only. -/
def twinned (st : Nat) : State := twin 1 st

theorem wit_TwinStates : twinOn base = false ∧ twinLink (twinned 1) = true ∧ twinOn (twinned 1) = true ∧ after (.twinEnable true) (twinned 2) = twinned 2 ∧ isHot base = false := by decide +kernel
theorem wit_TwinStates_alone : let s := put [(CAS_P_CTL_MODE 3, 0)] (twin 0x22001 1)
    let y := after .aloneTimeout s
    y.twin.claiming = 2 ∧ y.flag CAS_TW_STAT_HOLD_O = true ∧ y.now = 2000000 ∧ twState (after .holdAcquired y) = 4 ∧ (after .holdAcquired y).now = 2001000 ∧ after .holdAcquired s = s ∧ after .aloneTimeout (twinned 1) = twinned 1 := by decide +kernel
theorem wit_TwinStates_hold : let y := after .holdOAssert (twinned 5)
    y.flag CAS_TW_STAT_HOLD_O = true ∧ y.now = 1000 ∧ twState (after .holdAcquired y) = 3 ∧ (after .holdAcquired y).rdN CAS_TW_TKO_CNT = 1 ∧ after .holdOAssert (twinned 3) = twinned 3 ∧
    twState (after .holdAcquired (put [(CAS_TW_STAT_HOLD_O, 1)] { twinned 1 with twin := { claiming := 1 } })) = 3 := by decide +kernel
theorem wit_TwinLands : twState (after (.tkovrDemIAssert 0) (twinned 3)) = 2 ∧ (after (.tkovrDemIAssert 0) (twinned 3)).flag CAS_TW_STAT_STALE = true ∧ twState (after (.tkovrDemIAssert 0) base) = 0 ∧
    (after (.tkovrHoldIChange true 0) (put [(CAS_TW_STAT_HOLD_O, 1)] (twin 3 3))).flag CAS_TW_STAT_HOLD_O = false ∧
    (after (.tkovrHoldIChange true 0) (put [(CAS_TW_STAT_HOLD_O, 1)] (twinned 3))).flag CAS_TW_STAT_HOLD_O = true ∧ twState (after (.tkovrHoldIChange true 0) (put [(CAS_TW_STAT_HOLD_O, 1)] (twinned 3))) = 3 := by decide +kernel
theorem wit_TwinLands_stuck : let s := put [(CAS_TW_STAT_HOLD_I, 1)] (twinned 5)
    (after .takeoverStuck s).twin.stuckAt = some 10000 ∧ (after .takeoverStuck (after .takeoverStuck s)).twin.stuckAt = some 1010000 ∧ after .takeoverStuck (twinned 5) = twinned 5 ∧ (after (.tkovrDemIDeassert 0) (put [(CAS_TW_STAT_DEM_I, 1)] s)).flag CAS_TW_STAT_DEM_I = false := by decide +kernel

/-- A heartbeat with some flags, and the state after it. -/
def beat (fl : Nat) : CasPkt := hop 10 [0, BitVec.ofNat 64 (fl * 2 ^ 32), 0, 0, 0, 0, 0]
def beats (dt fl : Nat) (s : State) : State := nx (execHeartbeat dt (first (beat fl)) (others (beat fl)) s)

theorem wit_Heartbeats : (after .heartbeatSend (twinned 3)).twin.hbSent = some 0 ∧ (after .heartbeatSend (after .heartbeatSend (twinned 3))).twin.hbSent = some 10000 ∧ (after .heartbeatSend base).twin.hbSent = none ∧
    (after (.heartbeat 0 0 []) (twinned 3)).rdN (CAS_P_BAD_CNT 3) = 1 ∧ (after (.heartbeat 0 (first (beat 1)) []) (twinned 3)).rdN (CAS_P_BAD_CNT 3) = 1 ∧ (beats 0 1 (put [(CAS_P_CTL_MODE 3, 1)] (twinned 3))).rdN (CAS_P_BAD_CNT 3) = 1 ∧
    twState (beats 0 1 (twinned 1)) = 2 ∧ twState (beats 0 0 (twinned 4)) = 3 ∧ (beats 9 1 (twinned 2)).twin.hbHeard = some 9 ∧ portMode base 3 = 0 := by decide +kernel
theorem wit_Heartbeats_shutdown : let s := twinned 2
    let t := put [(CAS_TW_STAT_STALE, 1)] s
    twState (beats 0 5 s) = 5 ∧ twState (beats 0 5 t) = 2 ∧ (beats 0 5 t).rdN CAS_TW_REFUSE_CNT = 1 ∧ bits 5 1 2 = 2 ∧ bits 5 3 1 = 0 ∧ s.fld CAS_TW_CTL_PIPES = 0 ∧ s.fld CAS_TW_CTL_TB_CHK = 0 := by decide +kernel
theorem wit_Heartbeats_miss : let s := { twinned 2 with twin := { hbHeard := some 0 } }
    let t := { s with twin := { s.twin with missRun := 2 } }
    (after .heartbeatMiss s).rdN CAS_TW_HB_MISS_CNT = 1 ∧ (after .heartbeatMiss s).now = 11000 ∧ twState (after .heartbeatMiss t) = 5 ∧
    isBehind (passTime 11000 s) = false ∧ (after .heartbeatMiss (put [(CAS_TW_STAT_STALE, 1)] t)).rdN CAS_TW_REFUSE_CNT = 1 ∧ after .heartbeatMiss (twinned 2) = twinned 2 := by decide +kernel
theorem wit_MirrorRecords : (twinOn (twinned 2) = true ∧ (twinned 2).driving = false ∧ twinLink (twinned 2) = true ∧ isHot (twinned 2) = false) ∧ kget (fun _ => []) (after (.mirrorCommit 1 2 9 0) (twinned 2)).twin.ids 2 = [9] ∧
    after (.mirrorCommit 1 2 9 0) (twinned 3) = twinned 3 ∧ (after (.mirrorCommit 3 2 9 0) (after (.mirrorCommit 1 2 9 0) (twinned 2))).flag CAS_TW_STAT_STALE = true ∧ (after (.mirrorCommit 2 2 9 0) (after (.mirrorCommit 1 2 9 0) (twinned 2))).flag CAS_TW_STAT_STALE = false ∧
    kget (fun _ => none) (after (.mirrorSwap 1 2 true 77) (twinned 2)).twin.swaps 2 = some 77 := by decide +kernel
theorem wit_MirrorRecords_axis : ((after (.mirrorAxis 1 3 [0, 0, 0, 0x100000000, 5]) (twinned 2)).twin.axesRun = [3]) ∧ (((after (.mirrorLight 1 2 [0x1FFFF]) (twinned 2)).grp 2).mir.map (fun m => m.v) = some 0x1FFFF) := by decide +kernel
theorem wit_MirrorRecords_queue : let s := put [(CAS_TW_Q_EN 3, 1), (CAS_TW_Q_OWN 3, 9), (CAS_TW_Q_PARTNER 3, 12)] (twinned 2)
    qHead (after (.mirrorQueue 1 3 5 6 12) s) 9 = 5 ∧ qTail (after (.mirrorQueue 1 3 5 6 12) s) 9 = 6 ∧ (after (.mirrorQueue 1 3 5 6 13) s).flag CAS_TW_STAT_QMAP_BAD = true ∧ base.flag (CAS_TW_Q_EN 3) = false ∧
    (after (.mirrorEntry 1 3 7 false) s).twin.entries = [(3, 7)] ∧ (after (.mirrorEntry 2 3 7 true) (after (.mirrorEntry 1 3 7 false) s)).twin.entries = [] := by decide +kernel
theorem wit_MirrorRecords_full : let s := put [(CAS_TW_STAT_STALE, 1)] (twinned 2)
    (after (.fullEnd 2) (after (.fullBegin 1) s)).flag CAS_TW_STAT_STALE = false ∧ (after (.fullEnd 3) (after (.fullBegin 1) s)).flag CAS_TW_STAT_STALE = true ∧ (after (.fullEnd 2) s).rdN CAS_TW_RESYNC_CNT = 0 ∧ (after (.fullBegin 1) s).twin.full = true := by decide +kernel
theorem wit_TwinCommands : (after .twinYield (twinned 3)).twin.yield = true ∧ (after .twinYield (twinned 2)).fld CAS_TW_STAT_CMD_STATUS = 7 ∧ (after .twinForce (twinned 3)).fld CAS_TW_STAT_CMD_STATUS = 7 ∧ (after .twinForce (twinned 5)).twin.forced = false ∧
    twState (after .twinForce (twinned 2)) = 5 ∧ (after .twinForce (twinned 2)).twin.forced = true ∧ (after .twinResync (twinned 2)).twin.resync = true := by decide +kernel
/-- A handover awaited for YIELD. -/
def awaiting1 : State := { twinned 2 with twin := { awaited := some 3 } }

theorem wit_TwinCommands_awaited : let s := put [(CAS_TW_STAT_STALE, 1)] awaiting1
    (twinned 2).twin.awaited = none ∧ isBehind awaiting1 = false ∧ startIn awaiting1 = some 0 ∧ twState (after .handoverStart awaiting1) = 5 ∧ (after .handoverStart s).rdN CAS_TW_REFUSE_CNT = 1 := by decide +kernel
theorem wit_TwinCommands_gap : let g := fun (a b : Nat) => put [(PHS_TB_BLIND_CNT_ALL 0, 0), (⟨PHS_TB_BLIND_CNT 0, 0, 7⟩, 1), (⟨PHS_TB_BLIND 0 0, 0, 32⟩, a), (⟨PHS_TB_BLIND 0 0, 32, 32⟩, b)] (free awaiting1)
    startIn (g (2 ^ 31) (2 ^ 31 + 1)) = none ∧ startIn (g (2 ^ 31) (2 ^ 31 + 2 ^ 30)) = some (2 ^ 23) ∧ twState (after .handoverStart (g (2 ^ 31) (2 ^ 31 + 2 ^ 30))) = 5 := by decide +kernel
theorem wit_MirrorRecords_taken : let s := after (.mirrorAxis 1 0 [0, 0, 0, 0x100000000, 5, 0x107, 0, 0]) (put [(CTL_T_CFG_EN 0, 1), (CTL_T_CFG_AXIS 0, 0)] (twinned 2))
    kget (fun _ => []) s.twin.axPend 0 = [0, 0, 0, 0x100000000] ∧ ((genPeriod 0 0 s).axis 0).p = 0 ∧ kget (fun _ => []) s.twin.tilePend 0 = [0x107, 0, 0] ∧ (takeTile 0 s).fld (CTL_T_STAT_ES 0) = 7 := by decide +kernel
theorem wit_MirrorRecords_beyond : let s := { twinned 2 with twin := { full := true, beyond := true } }
    (after (.fullEnd 2) s).rdN CAS_TW_RESYNC_CNT = 1 ∧ (after (.fullEnd 2) (put [(CAS_TW_STAT_STALE, 1)] s)).flag CAS_TW_STAT_STALE = true := by decide +kernel

/-! ### The island -/

theorem wit_Housekeeping : (base.island.privAt = none ∧ base.power.islandUp = true ∧ base.island.roundAt = none ∧ base.island.channel < 128) ∧ (after (.hkpConversion 5 1800) base).rdN (HKP_CH 0) = 5 + 1800 * 65536 ∧
    (after (.hkpConversion 5 1800) base).now = 32000 ∧ (after (.hkpConversion 5 1800) { base with island := { channel := 115 } }).rdN (HKP_CH 115) = 0 ∧
    (after (.hkpConversion 0 0) { base with island := { channel := 127 } }).island.roundAt = some 32000 ∧ after (.hkpConversion 0 0) { base with island := { channel := 2, roundAt := some 0 } } = { base with island := { channel := 2, roundAt := some 0 } } := by decide +kernel
theorem wit_Housekeeping_therm : let s := put [(HKP_TH_NOM 0, 1000), (HKP_TH_BETA 0, 3950)] { base with island := { channel := 40 } }
    (after (.hkpConversion 0 9) s).rdN (HKP_CH 40) = 32767 * 65536 ∧ (after (.hkpConversion 0 9) s).island.thermBad = [0] := by decide +kernel
theorem wit_Housekeeping_fan : (after (.fanFail 2) { base with island := { fanSlow := [(2, some 0)] } }).flag (HKP_FAN_STAT_FAIL 2) = true ∧ (after (.fanFail 2) { base with island := { fanSlow := [(2, some 0)] } }).now = 2000000000 ∧
    kget (fun _ => none) base.island.fanSlow 2 = none := by decide +kernel
theorem wit_Housekeeping_suspect : let s := { regs [(HKP_SUSPECT, 32)] base with island := { sens := [(5, { checks := [true, true, true, true] })] } }
    (after (.sensClr 5) s).rdN HKP_SUSPECT = 0 ∧ (after (.sensClr 6) s).fld HKP_STAT_CMD_STATUS = 7 := by decide +kernel
theorem wit_Housekeeping_scrub : isLatched base = false ∧ (after (.sramScrub 3 0x11 true 0) base).island.padBad = [49154] ∧ (after (.sramScrub 3 0x11 false 0) base).rdN HKP_SCRUB_CORR_CNT = 1 ∧
    after (.sramScrub 3 0x11 true 0) (put [(HKP_STAT_LATCHED, 1)] base) = put [(HKP_STAT_LATCHED, 1)] base := by decide +kernel
theorem wit_Housekeeping_banks : let s := put [(⟨DBG_VIO_STAT, 0, 16⟩, 0x5555)] base
    s.bankUp 6 = true ∧ (after (.bankDown 6 0 1200) s).bankUp 6 = false ∧ (after (.bankDown 6 0 1200) { s with power := { s.power with tap := 32 } }).power.tap = 1 ∧ (after (.bankDown 1 0 1200) base).regs = base.regs := by decide +kernel

/-- The four sensors of zone 0 read 100 °C. -/
def hotZone : State := regs [(HKP_CH 0, 1600 * 65536 + 1), (HKP_CH 1, 1600 * 65536 + 1), (HKP_CH 2, 1600 * 65536 + 1), (HKP_CH 3, 1600 * 65536 + 1)] base

theorem wit_Housekeeping_trip : let t := zoneRound 0 hotZone
    zoneTemp t 0 = 1600 ∧ govZone t = 0 ∧ isLatched (latch 0 1 0 1600 t) = true := by decide +kernel
theorem wit_Housekeeping_round : let s := { base with island := { roundAt := some 0 } }
    (after (.housekeepingRound 64000 0 0 0 0) s).now = 64000 ∧ (after (.housekeepingRound 64000 0 0 0 0) s).island.roundAt = none ∧ (after (.housekeepingRound 64000 0 0 0 0) s).rdN HKP_LEDGER_TIME = 4096 ∧
    (after (.housekeepingRound 64000 0 0 0 0) s).fld HKP_STAT_CAUSE = 3 := by decide +kernel
theorem wit_ShutdownClasses : let s := { base with island := { shutAt := some 0 } }
    (after .shutdownClockStop s).island.clocksOff = true ∧ (after .shutdownClockStop s).now = 100000 ∧ base.island.shutAt = none ∧ base.island.privAt = none ∧
    (after (.privilegedShutdown 3 0 2000) base).island.privAt = some 0 ∧ isLatched (after (.privilegedShutdown 3 0 2000) base) = true := by decide +kernel
theorem wit_ShutdownClasses_restart : let s := { base with island := { privAt := some 0 } }
    (after (.islandRestart 999999999) s).island.privAt = some 0 ∧ (after (.islandRestart 1000000000) s).island.privAt = none ∧ isLatched (after (.islandRestart 1000000000) s) = true := by decide +kernel

/-! ### Calibration -/

/-- A target enabled for its first two instances, on timebase 0 that runs. -/
def calib (t : Nat) : State := put [(CAL_T_CTL_EN t, 1)] (regs [(CAL_T_MASK t, 3)] freeing)

/-- A CAL_SLOT pin for a target dispatched, of some ns. -/
def slotPin (t ns : Nat) : State := withPin 0 9 t ns 0 (calib t)

/-- Instance 0 of target 2 in a run whose slot ends 2 µs on. -/
def calRuns : State := updCal 2 (fun x => { x with run := some ⟨0, 0, 0, 8000⟩ }) (calib 2)

theorem wit_Calibration_slot : FiresNext (slotPin 8 2000) 0 9 (placedPin 9 8 2000 0) ∧ (after (.calSlot 0 true) (slotPin 8 2000)).rdN (CAL_T_STAT 8) = 2 ^ 20 ∧
    ((after (.calSlot 0 true) (slotPin 8 2000)).cal 8).run.map (fun r => (r.inst, r.openAt, r.closeAt)) = some (0, 40, 8040) := by unfold FiresNext; decide +kernel
theorem wit_Calibration_slot_rejects : (after (.calSlot 0 true) (slotPin 8 1999)).rdN (CAL_T_STAT 8) = 7 + 3 * 65536 ∧ (after (.calSlot 0 false) (slotPin 8 2000)).rdN (CAL_T_STAT 8) = 7 + 65536 := by decide +kernel
theorem wit_Calibration_slot_other : let s := withPin 0 9 8 2000 0 (updCal 8 (fun x => { x with run := some ⟨0, 0, 0, 8000⟩ }) (calib 8))
    (after (.calSlot 0 true) s).rdN (PHS_TB_CONFLICT_CNT 0) = 1 ∧ (after (.calSlot 0 true) (withPin 0 9 9 2000 0 (calib 8))).rdN (PHS_TB_BIND_MISS_CNT 0) = 1 ∧
    (freeing.flag (CAL_T_CTL_EN 8) = false ∧ (after (.calSlot 0 true) (withPin 0 9 8 2000 0 freeing)).rdN (CAL_T_STAT 8) = 0) := by decide +kernel
theorem wit_Calibration_run : ((after (.calRun 8 true) (calib 8)).cal 8).run.isSome = true ∧ (after (.calRun 8 true) (after (.calRun 8 true) (calib 8))).fld ⟨CAL_T_STAT 8, 0, 8⟩ = 4 ∧ (after (.calRun 2 true) (calib 2)).fld ⟨CAL_T_STAT 2, 0, 8⟩ = 7 ∧
    (after (.calRun 8 false) (calib 8)).rdN (CAL_T_REJECT_CNT 8) = 1 := by decide +kernel
theorem wit_Calibration_done : ((after (.calRunDone 2 false 5 0 0) calRuns).calInst 2 0).count = 1 ∧ (after (.calRunDone 2 false 5 0 0) calRuns).now = max freeing.now 2000 := by decide +kernel
theorem wit_Calibration_ends : (after (.calRunDone 2 true 5 0 0) calRuns).rdN (CAL_T_STAT 2) = 7 + 2 * 65536 ∧ (after (.calRunDone 2 false 5 0 0) (put [(⟨CAL_T_MANUAL 2, 0, 1⟩, 1)] calRuns)).rdN (CAL_T_STAT 2) = 0 ∧
    (after (.calRunDone 2 false 5 0x7FFFFFFF 0) calRuns).rdN (CAL_T_STAT 2) = 7 + 4 * 65536 ∧ ((calib 2).cal 2).run = none := by decide +kernel
theorem wit_Calibration_range : let s := updInst 2 0 (fun x => { x with tap := 0, trim := -32 }) calRuns
    (calCorrect 2 0 1000000 0 s).isNone = true ∧ (after (.calRunDone 2 false 1000000 0 0) s).rdN (CAL_T_STAT 2) = 7 + 5 * 65536 := by decide +kernel
theorem wit_Calibration_stale : let s := updInst 2 0 (fun x => { x with lastOk := some 0 }) (put [(⟨CAL_T_STALE 2, 0, 1⟩, 0), (⟨CAL_T_VALID 2, 0, 24⟩, 1)] freeing)
    calStale s 2 0 = false ∧ calStale (after (.calStale 2 0) s) 2 0 = true ∧ (after (.calStale 2 0) s).now = 1000001 ∧ (calib 2).calInst 2 0 = {} := by decide +kernel
theorem wit_Calibration_manual : manualReg 0 23 = some (LDR_S_SHD 23, 1, 8) ∧ manualReg 0 24 = none ∧ (after (.calManualWrite 0 23 0x1FF) base).rdN (LDR_S_SHD 23) = 255 ∧
    calManual (after (.calManualWrite 0 23 0x1FF) base) 1 23 = true ∧ calManual (after (.calRelease 1 23) (after (.calManualWrite 0 23 0x1FF) base)) 1 23 = false ∧ after (.calRelease 1 2) base = base := by decide +kernel

/-! ### The geode -/

/-- The write window open. -/
def opened : State := { regs [(HKP_ROUND, 1)] base with island := { stepped := true } }

/-- Object 3 being written with no bytes, or another step of it. -/
def writing (n : Nat) : State := { opened with geode := { op := some { op := 1, obj := 3, seq := 1, step := n } } }

/-- The store after a write of no bytes of an object, in slot 0. -/
def written (o : Nat) : State :=
  let x : NvmOp := { op := 1, obj := o, seq := 1 }
  { opened with store := writeMem (writeMem [] (slotPage o 0 * 4096) (headerBytes x)) ((slotPage o 0 + 1) * 4096) (commitBytes x 0) }

theorem wit_GeodeCommands : (windowOpen opened = true ∧ windowOpen base = false ∧ isLatched opened = false ∧ opened.geode.op = none) ∧ (after (.nvmWrite 1) opened).fld NVM_STAT_STATUS = 13 ∧ (after (.nvmWrite 7) opened).fld NVM_STAT_STATUS = 12 ∧
    (after (.nvmWrite 3) base).fld NVM_STAT_STATUS = 7 ∧ (after (.nvmWrite 3) opened).geode.op.map (fun o => (o.obj, o.seq)) = some (3, 1) ∧ (after (.nvmWrite 3) (writing 0)).fld NVM_STAT_STATUS = 4 ∧
    (after (.nvmWrite 3) (put [(HKP_STAT_LATCHED, 1)] opened)).fld NVM_STAT_STATUS = 7 := by decide +kernel
theorem wit_GeodeCommands_image : verifyImage opened [] [] = 5 ∧ (after (.nvmWrite 2) opened).fld NVM_STAT_STATUS = 13 ∧ rangeBad { regs [(NVM_LEN, 1)] opened with memc := { uncorr := [0] } } 0 1 = true ∧
    (after (.nvmWrite 3) { regs [(NVM_LEN, 1)] opened with memc := { uncorr := [0] } }).fld NVM_STAT_STATUS = 5 := by decide +kernel
theorem wit_GeodeCommands_read : (after (.nvmRead 0) opened).fld NVM_STAT_STATUS = 12 ∧ (after (.nvmRead 3) opened).fld NVM_STAT_STATUS = 7 ∧ (newestSlot (written 3) 3).map (fun n => n.1) = some 0 ∧
    (after (.nvmRead 3) (written 3)).geode.op.map (fun o => o.op) = some 2 := by decide +kernel
theorem wit_GeodeCommands_log : (after .logAppend opened).fld NVM_STAT_STATUS = 12 ∧ blocksOk 4064 [0xE, 0, 0, 0, 1, 0, 0, 0, 5, 0, 0, 0, 1, 2, 3, 4, 0xAA, 0, 0, 0, 0, 0, 0, 0] = true ∧ blocksOk 4064 [0] = false ∧
    (after .logAppend (withDram [(0, 0xE), (4, 1), (8, 5), (16, 0xAA)] (regs [(NVM_LEN, 24)] opened))).geode.op.map (fun o => o.op) = some 3 ∧ logAt opened (logPage 0) = none ∧ (after .logRead opened).fld NVM_STAT_STATUS = 7 := by decide +kernel
theorem wit_GeodeCommands_rest : (after .svnBump opened).fld NVM_STAT_STATUS = 7 ∧ opened.power.svn = none ∧ (after .ledgerSave base).fld NVM_STAT_STATUS = 7 ∧ (after .ledgerSave opened).geode.op.isSome = true ∧
    (after .ledgerPeriodicSave opened).geode.op.isSome = true ∧ (after .ledgerPeriodicSave opened).now = 900000000000 ∧ (after .ledgerPeriodicSave base).geode.op.isSome = false := by decide +kernel
theorem wit_GeodePages : ((writing 0).geode.due = false ∧ dataPages { op := 1, obj := 3 } = 0) ∧ (after (.nvmPageDone 400000 false) (writing 0)).geode.op.map (fun o => o.step) = some 1 ∧
    (after (.nvmPageDone 0 false) base).geode.op = none := by decide +kernel

/-- Object 3 read back from slot 0. -/
def reading : State := { written 3 with geode := { op := some { op := 2, obj := 3, seq := 1 } } }

theorem wit_GeodePages_read : (after (.nvmReadDone 0 false) reading).fld NVM_STAT_STATUS = 0 ∧ (after (.nvmReadDone 0 false) reading).rdN NVM_SEQ = 1 ∧ (after (.nvmReadDone 0 true) reading).fld NVM_STAT_STATUS = 7 ∧
    (after (.nvmReadDone 0 false) { reading with geode := { op := some { op := 2, obj := 3, slot := 1 } } }).flag NVM_STAT_FALLBACK = true := by decide +kernel

/-! ### Supplies, resets, boot, test access -/

/-- The main die down since 0, for a cause. -/
def off (cause : Nat) : State := { base with power := { mainUp := false, offAt := some 0, offCause := cause } }

theorem wit_Supplies : (base.power.mainUp = true ∧ base.power.offAt = none ∧ base.power.islandUp = true ∧ base.power.refWait = false) ∧ (after (.vinPf 0) base).flag HKP_STAT_WINDOW = false ∧ (after (.refclkLoss 0) (off 2)).power = (off 2).power ∧
    (after (.brownoutRecovery 0) (off 2)).power.refWait = true ∧ (after (.brownoutRecovery 0) (off 2)).now = 1000000 ∧ (after (.brownoutRecovery 0) (off 4)).now = 100000000 ∧
    (after (.railFault 0) (after (.brownoutRecovery 1000000) (off 2))).power.rails = 1 := by decide +kernel
theorem wit_Supplies_down : (after (.brownOut 3) base).power.offAt = some 3 ∧ (after (.brownOut 3) base).power.mainUp = false := by decide +kernel
theorem wit_Supplies_island : let s := { off 2 with power := { (off 2).power with islandUp := false } }
    (after (.islandStop 0) (off 2)).power.islandUp = false ∧ (after (.powerOnReset 0) s).power.refWait = true ∧ after (.powerOnReset 0) (off 2) = off 2 := by decide +kernel
theorem wit_Supplies_refclk : let s := { off 2 with power := { (off 2).power with refWait := true }, island := { stepped := true } }
    (after (.refclkPresent 0 97999) s).rdN DBG_REFCLK = 97999 * 256 ∧ (after (.refclkPresent 0 98000) s).rdN DBG_REFCLK = 98000 * 256 + 1 ∧ (after (.refclkPresent 0 97999) s).power.refWait = true ∧ (after (.refclkPresent 0 98000) s).power.mainUp = true ∧ after (.refclkPresent 0 100000) base = base := by decide +kernel
theorem wit_Boot : (base.mainOn = true ∧ base.power.booted = false ∧ newestSlot base 2 = none) ∧ (after (.bootReadDone 0 false false) base).fld DBG_BOOT_STAT_STATE = 3 ∧ (newestSlot (written 2) 2).map (fun n => n.1) = some 0 ∧
    (after (.bootReadDone 0 false false) (written 2)).fld DBG_BOOT_STAT_REASON_A = 5 ∧ (after (.bootReadDone 0 true false) (written 2)).fld DBG_BOOT_STAT_REASON_A = 6 := by decide +kernel
theorem wit_Boot_recovery : let s := put [(DBG_BOOT_STAT_STATE, 3)] base
    (after (.rcvGo 0) base).rdN DBG_RCV_STAT = 7 ∧ (after (.rcvGo 0) s).rdN DBG_RCV_STAT = 13 + 5 * 256 ∧ (after (.rcvGo 0) (regs [(DBG_RCV_LEN, 2 ^ 24 + 1)] s)).rdN DBG_RCV_STAT = 12 := by decide +kernel

/-- Every VIO bank up. -/
def banked : State := put [(⟨DBG_VIO_STAT, 0, 16⟩, 0x5555)] base

theorem wit_WarmResets : (banked.bankUp 0 = true ∧ base.bankUp 0 = false ∧ isLatched banked = false) ∧ (after (.warmReset 3) banked).power.warmAt = 3 ∧ (after (.rstCmd 0x5741524D) base).power.warm = some .soft ∧ (after (.rstCmd 1) base).power.warm = none ∧
    (after (.warmReset 9) { banked with power := { warm := some .soft } }).power.warm = some .pin := by decide +kernel
theorem wit_WarmResets_release : let s := fun k => { banked with power := { warm := some k } }
    (after (.warmResetRelease 0) (s .pin)).power.warm = none ∧ (after (.warmResetRelease 0) (s .pin)).now = 50000 ∧ (after (.warmResetRelease 60000) (s .pin)).now = 60000 ∧ (after (.warmResetRelease 0) (s .soft)).now = 100000 ∧
    (after (.warmResetRelease 7) banked).power.mainUp = banked.power.mainUp := by decide +kernel
theorem wit_TapInstructions : banked.bankUp 6 = true ∧ (after .idcode banked).power.tap = 1 ∧ (after .dbgAccess banked).power.tap = 0x20 ∧ (after .extest banked).power.warm = some .test ∧ (after .extest (put [(DBG_CTL_JTAG_LOCK, 1)] banked)).power.tap = 0xFF ∧
    (after .bypass { banked with power := { warm := some .test } }).power.warm = none ∧ after .highz base = base ∧ (after .jtagLock base).flag DBG_CTL_JTAG_LOCK = true := by decide +kernel

/-! ### The whole block -/

theorem wit_StepTakesFront : nx (step { base with pending := [.bypass, .idcode] }) = { base with pending := [.idcode] } ∧ (nx (step base)).now = 1 := by decide +kernel
theorem wit_StepKeepsMemories : MemoriesWf State.reset ∧ (nx (step State.reset)).now = 1 := by refine ⟨?_, by decide +kernel⟩; unfold MemoriesWf; decide
theorem wit_DecodeEncode : wellFormed (.wAdd 0 0 3 1 2) = true ∧ encodeW (.wAdd 0 0 3 1 2) = some 0x00C10800 := by decide +kernel
theorem wit_EncodeDecode : 0x603FFFFD < 2 ^ 32 ∧ decodeW 0 0 0 0x603FFFFD = some (.wB 0 0 0 false 0x3FFFFD) := by decide +kernel

end Sys2Proof.Tests
end

section
/-! Registers: what a write of a whole register leaves in each field (R6, R8). -/

namespace Sys2Proof.Machine

/-! ### Bits -/

theorem bits_lt (v lo w : Nat) : bits v lo w < 2 ^ w := Nat.mod_lt _ (Nat.two_pow_pos _)

theorem bit_eq_testBit (v i : Nat) : bit v i = v.testBit i := by
  rw [Nat.testBit_eq_decide_div_mod_eq]; rfl

theorem testBit_bits (v lo w k : Nat) : (bits v lo w).testBit k = (decide (k < w) && v.testBit (lo + k)) := by
  rw [bits, Nat.testBit_mod_two_pow, Nat.testBit_div_two_pow, Nat.add_comm]

/-- A value put at bit `lo` below a multiple of 2 ^ (lo + w) reads back from there. -/
theorem bits_at_lowest {x w : Nat} (hx : x < 2 ^ w) (lo c : Nat) : bits (x * 2 ^ lo + 2 ^ (lo + w) * c) lo w = x := by
  have hsum : x * 2 ^ lo + 2 ^ (lo + w) * c = 2 ^ lo * (x + 2 ^ w * c) := by
    rw [Nat.mul_add, Nat.mul_comm x, Nat.pow_add, Nat.mul_assoc]
  rw [bits, hsum, Nat.mul_div_cancel_left _ (Nat.two_pow_pos _), Nat.add_mul_mod_self_left, Nat.mod_eq_of_lt hx]

/-- What stands below bit k is not seen from bit k up. -/
theorem bits_add_low {x k lo : Nat} (hx : x < 2 ^ k) (hk : k ≤ lo) (c w : Nat) : bits (x + 2 ^ k * c) lo w = bits (2 ^ k * c) lo w := by
  obtain ⟨d, rfl⟩ := Nat.exists_eq_add_of_le hk
  have hlow : (x + 2 ^ k * c) / 2 ^ k = 2 ^ k * c / 2 ^ k := by
    rw [Nat.add_mul_div_left _ _ (Nat.two_pow_pos _), Nat.div_eq_of_lt hx, Nat.mul_div_cancel_left _ (Nat.two_pow_pos _), Nat.zero_add]
  rw [bits, bits, Nat.pow_add, ← Nat.div_div_eq_div_mul, ← Nat.div_div_eq_div_mul, hlow]

/-! ### The fields of a row -/

/-- The rows of all the blocks. -/
def allRows : List RegRow :=
  [glbRows, phsRows, seqRows, pixRows, ldrRows, ctlRows, engRows, memRows, mmuRows, queRows, cmpRows, lnkRows, casRows, hkpRows, calRows, nvmRows, dbgRows,
    dbRows].flatten

theorem rowsOf_subset (off : Nat) : rowsOf off ⊆ allRows := by
  intro r hr
  unfold rowsOf at hr
  split at hr
  case h_19 =>
    split at hr
    · simp [allRows, hr]
    · cases hr
  all_goals simp [allRows, hr]

/-- The fields of every row rise and do not overlap. -/
theorem allRows_fields_pairwise : ∀ r ∈ allRows, r.fields.Pairwise (fun f g => f.lo + f.w ≤ g.lo) := by decide +kernel

theorem rowAt_fields_pairwise {off : Nat} {r : RegRow} (h : rowAt off = some r) : r.fields.Pairwise (fun f g => f.lo + f.w ≤ g.lo) :=
  allRows_fields_pairwise r (rowsOf_subset off (List.mem_of_find?_eq_some h))

/-- Values packed into fields that all start from bit k up make a multiple of 2 ^ k. -/
theorem pow_dvd_sum_fields {k : Nat} {fs : List RegField} (val : RegField → Nat) (h : ∀ f ∈ fs, k ≤ f.lo) :
    2 ^ k ∣ (fs.map (fun f => val f * 2 ^ f.lo)).sum := by
  induction fs with
  | nil => exact Nat.dvd_zero _
  | cons f fs ih =>
    rw [List.map_cons, List.sum_cons]
    have hf : 2 ^ k ∣ 2 ^ f.lo := Nat.pow_dvd_pow 2 (h f List.mem_cons_self)
    exact Nat.dvd_add (Nat.dvd_mul_left_of_dvd hf _) (ih (fun g hg => h g (List.mem_cons_of_mem f hg)))

/-- Values packed into fields that rise and do not overlap read back one by one. -/
theorem bits_sum_fields {fs : List RegField} (val : RegField → Nat) (hval : ∀ f, val f < 2 ^ f.w)
    (hfs : fs.Pairwise (fun f g => f.lo + f.w ≤ g.lo)) {f : RegField} (hf : f ∈ fs) :
    bits (fs.map (fun f => val f * 2 ^ f.lo)).sum f.lo f.w = val f := by
  induction fs with
  | nil => cases hf
  | cons g fs ih =>
    obtain ⟨hg, hfs⟩ := List.pairwise_cons.1 hfs
    obtain ⟨c, hc⟩ := pow_dvd_sum_fields val hg
    rw [List.map_cons, List.sum_cons, hc]
    rcases List.mem_cons.1 hf with rfl | hf
    · exact bits_at_lowest (hval f) f.lo c
    · have hlow : val g * 2 ^ g.lo < 2 ^ (g.lo + g.w) := by
        rw [Nat.pow_add, Nat.mul_comm]
        exact Nat.mul_lt_mul_of_pos_left (hval g) (Nat.two_pow_pos _)
      rw [bits_add_low hlow (hg f hf), ← hc, ih hfs hf]

/-! ### A write of the whole register -/

theorem fieldAfter_lt (old v : Nat) (f : RegField) : fieldAfter old v f < 2 ^ f.w := by
  unfold fieldAfter
  split
  case h_1 => exact bits_lt ..
  case h_2 => exact bits_lt ..
  case h_3 => exact Nat.lt_of_le_of_lt Nat.and_le_left (bits_lt ..)
  case h_4 => exact Nat.or_lt_two_pow (bits_lt ..) (bits_lt ..)
  case h_5 => exact bits_lt ..
  case h_6 => exact Nat.two_pow_pos _
  case h_7 => exact Nat.two_pow_pos _

theorem bits_afterWrite {off : Nat} {r : RegRow} {f : RegField} (hr : rowAt off = some r) (hf : f ∈ r.fields) (old v : Nat) :
    bits (afterWrite r old v) f.lo f.w = fieldAfter old v f :=
  bits_sum_fields (fieldAfter old v) (fieldAfter_lt old v) (rowAt_fields_pairwise hr) hf

theorem bit_fieldAfter_w1c {f : RegField} (h : f.acc = .w1c) (old v : Nat) {k : Nat} (hk : k < f.w) :
    bit (fieldAfter old v f) k = (bit old (f.lo + k) && !bit v (f.lo + k)) := by
  simp [fieldAfter, h, bit_eq_testBit, testBit_bits, hk]

theorem bit_fieldAfter_w1s {f : RegField} (h : f.acc = .w1s) (old v : Nat) {k : Nat} (hk : k < f.w) :
    bit (fieldAfter old v f) k = (bit old (f.lo + k) || bit v (f.lo + k)) := by
  simp [fieldAfter, h, bit_eq_testBit, testBit_bits, hk]

end Sys2Proof.Machine
end

section
/-! Events: a delivered event moves no register outside MEM, MMU and QUE (R15, R364, R427). -/

namespace Sys2Proof.Machine

/-! ### States that agree outside the rings -/

theorem SameOutsideRings.refl (s : State) (but : List Nat) : SameOutsideRings s s but := fun _ _ _ _ _ => rfl

theorem SameOutsideRings.trans {s t z : State} {but : List Nat} (h : SameOutsideRings s t but) (h' : SameOutsideRings t z but) :
    SameOutsideRings s z but := fun r hb h8 h9 h10 => (h' r hb h8 h9 h10).trans (h r hb h8 h9 h10)

/-- A state with the same registers agrees everywhere. -/
theorem SameOutsideRings.of_regs {s t : State} (h : t.regs = s.regs) : SameOutsideRings s t [] :=
  fun r _ _ _ _ => by rw [State.rd, State.rd, h]

theorem SameOutsideRings.of_regs_left {s t z : State} {but : List Nat} (h : SameOutsideRings t z but) (hr : t.regs = s.regs) : SameOutsideRings s z but :=
  fun r hb h8 h9 h10 => (h r hb h8 h9 h10).trans (by rw [State.rd, State.rd, hr])

/-- Is a register one of MEM, MMU or QUE? -/
def ringReg (r : Nat) : Prop := r / 0x100000 = 8 ∨ r / 0x100000 = 9 ∨ r / 0x100000 = 10

theorem sameOutsideRings_wr {r : Nat} (hr : ringReg r) (s : State) (v : Word) : SameOutsideRings s (s.wr r v) [] := by
  intro k _ h8 h9 h10
  refine State.rd_wr_ne s r k v ?_
  rintro rfl
  rcases hr with h | h | h <;> contradiction

theorem sameOutsideRings_wrN {r : Nat} (hr : ringReg r) (s : State) (v : Nat) : SameOutsideRings s (s.wrN r v) [] := sameOutsideRings_wr hr s _
theorem sameOutsideRings_bump {r : Nat} (hr : ringReg r) (s : State) : SameOutsideRings s (s.bump r) [] := sameOutsideRings_wr hr s _
theorem sameOutsideRings_setFld {f : Fld} (hf : ringReg f.reg) (s : State) (v : Nat) : SameOutsideRings s (s.setFld f v) [] := sameOutsideRings_wr hf s _

/-! ### Stores -/

theorem sameOutsideRings_memArrive (s : State) : SameOutsideRings s (memArrive s) [] := by
  unfold memArrive
  dsimp only
  split
  · exact ((sameOutsideRings_setFld (.inl rfl) _ _).trans (sameOutsideRings_bump (.inl rfl) _)).of_regs_left rfl
  · exact .of_regs rfl

theorem sameOutsideRings_storeDev (pa : Nat) (bs : List Byte) (s : State) : SameOutsideRings s (storeDev pa bs s) [] :=
  (sameOutsideRings_memArrive s).trans (.of_regs rfl)

theorem sameOutsideRings_storeAt (t : Target) (bs : List Byte) (s : State) : SameOutsideRings s (storeAt t bs s) [] := by
  unfold storeAt
  split
  · exact .of_regs rfl
  · exact sameOutsideRings_storeDev _ _ s

theorem keepXlat_regs (asid va : Nat) (s : State) : (keepXlat asid va s).regs = s.regs := by
  unfold keepXlat
  split
  · split
    · unfold cacheXlat
      split <;> rfl
    · rfl
  · rfl

/-! ### Fault records -/

theorem sameOutsideRings_showHeld (s : State) : SameOutsideRings s (showHeld s) [] :=
  (sameOutsideRings_wrN (.inr (.inl rfl)) _ _).trans (sameOutsideRings_wrN (.inr (.inl rfl)) _ _)

theorem sameOutsideRings_noteFault (f : FaultInfo) (s : State) : SameOutsideRings s (noteFault f s) [] := by
  refine SameOutsideRings.trans ?_ (sameOutsideRings_showHeld _)
  split
  · exact (sameOutsideRings_bump (.inr (.inl rfl)) _).of_regs_left rfl
  · exact .of_regs rfl

theorem sameOutsideRings_putFault (f : FaultInfo) (s : State) : SameOutsideRings s (putFault f s).1 [] := by
  unfold putFault
  dsimp only
  split
  · exact (((sameOutsideRings_noteFault f s).trans (sameOutsideRings_storeDev _ _ _)).trans (sameOutsideRings_wrN (.inr (.inl rfl)) _ _)).trans (.of_regs rfl)
  · exact ((sameOutsideRings_noteFault f s).trans (sameOutsideRings_bump (.inr (.inl rfl)) _)).trans (.of_regs rfl)

theorem chanOf_lt (pa : Nat) : chanOf pa < 16 :=
  Nat.xor_lt_two_pow (n := 4) (Nat.xor_lt_two_pow (Nat.mod_lt _ (by decide)) (Nat.mod_lt _ (by decide))) (Nat.mod_lt _ (by decide))

theorem ringReg_uncorrCnt {c : Nat} (hc : c < 16) : ringReg (MEM_C_UNCORR_CNT c) := by
  unfold ringReg MEM_C_UNCORR_CNT
  omega

theorem sameOutsideRings_walkUncorr (f : FaultInfo) (s : State) : SameOutsideRings s (walkUncorr f s).1 [] := by
  unfold walkUncorr
  split
  · exact (sameOutsideRings_bump (ringReg_uncorrCnt (chanOf_lt _)) _).trans (sameOutsideRings_wrN (.inl rfl) _ _)
  · exact .refl _ _

theorem sameOutsideRings_pageRequest (h : HeldAccess) (page : Nat) (s : State) : SameOutsideRings s (pageRequest h page s) [] := by
  unfold pageRequest
  dsimp only
  split
  case isTrue => exact (sameOutsideRings_showHeld _).of_regs_left rfl
  case isFalse =>
    split
    · exact (sameOutsideRings_showHeld _).of_regs_left rfl
    · exact (sameOutsideRings_showHeld _).of_regs_left rfl

theorem sameOutsideRings_meetFault (f : FaultInfo) (s : State) : SameOutsideRings s (meetFault f s).1 [] := by
  unfold meetFault
  split
  · exact sameOutsideRings_pageRequest _ _ s
  · exact (sameOutsideRings_walkUncorr f s).trans (sameOutsideRings_putFault f _)

/-! ### Rings -/

theorem ringReg_queStat {q : Nat} (hq : q < 4096) : ringReg (QUE_Q_STAT q) := by unfold ringReg QUE_Q_STAT; omega
theorem ringReg_queTail {q : Nat} (hq : q < 4096) : ringReg (QUE_Q_TAIL q) := by unfold ringReg QUE_Q_TAIL; omega
theorem ringReg_queLostCnt {q : Nat} (hq : q < 4096) : ringReg (QUE_Q_LOST_CNT q) := by unfold ringReg QUE_Q_LOST_CNT; omega

theorem sameOutsideRings_queueError {q : Nat} (hq : q < 4096) (seq : Nat) (s : State) : SameOutsideRings s (queueError q seq s).1 [] := by
  have herr : ∀ (qs : List Nat) (s : State), (∀ x ∈ qs, x < 4096) → SameOutsideRings s (qs.foldl (fun t x => queueError1 x t) s) [] := by
    intro qs
    induction qs with
    | nil => exact fun s _ => .refl s _
    | cons x qs ih =>
      intro s hqs
      exact (sameOutsideRings_setFld (f := QUE_Q_STAT_STATE x) (ringReg_queStat (hqs x (by simp))) s 4).trans
        (ih _ (fun y hy => hqs y (by simp [hy])))
  refine herr _ s ?_
  intro x hx
  rcases List.mem_cons.1 hx with rfl | hx
  · exact hq
  · split at hx
    · exact List.mem_range.1 (List.mem_filter.1 hx).1
    · cases hx

theorem sameOutsideRings_ringStore {q : Nat} (hq : q < 4096) (idx : Nat) (bs : List Byte) (s : State) : SameOutsideRings s (ringStore q idx bs s).1 [] := by
  unfold ringStore
  dsimp only
  split
  case h_1 => exact (sameOutsideRings_storeAt _ _ _).of_regs_left (keepXlat_regs _ _ s)
  case h_2 =>
    split
    · exact (sameOutsideRings_meetFault _ s).trans (sameOutsideRings_queueError hq s.mmu.seqNext _)
    · exact sameOutsideRings_meetFault _ s

theorem signalVector_regs (fn vec : Nat) (s : State) : (signalVector fn vec s).regs = s.regs := by
  unfold signalVector
  dsimp only
  split <;> rfl

theorem sameOutsideRings_irqCheck {q : Nat} (hq : q < 4096) (timed : Bool) (s : State) : SameOutsideRings s (irqCheck timed q s) [] := by
  unfold irqCheck
  dsimp only
  split
  · exact ((sameOutsideRings_setFld (f := QUE_Q_STAT_ARMED q) (ringReg_queStat hq) _ 0).trans (.of_regs (signalVector_regs _ _ _))).of_regs_left rfl
  · exact .refl _ _

theorem sameOutsideRings_ringPut {q : Nat} (hq : q < 4096) (bs : List Byte) (irq : Bool) (s : State) : SameOutsideRings s (ringPut q bs irq s).1 [] := by
  unfold ringPut
  dsimp only
  refine SameOutsideRings.trans ?_ (sameOutsideRings_irqCheck hq _ _)
  refine SameOutsideRings.trans ?_ (sameOutsideRings_ringStore hq _ _ _)
  exact (sameOutsideRings_setFld (f := QUE_Q_TAIL_TAIL q) (ringReg_queTail hq) s _).trans (.of_regs rfl)

theorem sameOutsideRings_eqPut {q : Nat} (hq : q < 4096) (e : EventRec) (s : State) : SameOutsideRings s (eqPut q e s).1 [] := by
  unfold eqPut
  dsimp only
  split
  case isTrue =>
    split
    · exact (sameOutsideRings_ringPut hq _ _ _).of_regs_left rfl
    · exact (sameOutsideRings_bump (ringReg_queLostCnt hq) _).of_regs_left rfl
  case isFalse =>
    split
    · refine SameOutsideRings.trans ?_ (sameOutsideRings_ringPut hq _ _ _)
      exact (sameOutsideRings_ringPut hq _ _ _).of_regs_left rfl
    · exact (sameOutsideRings_bump (ringReg_queLostCnt hq) _).of_regs_left rfl

/-! ### Events -/

theorem State.fld_lt (s : State) (f : Fld) : s.fld f < 2 ^ f.w := Nat.mod_lt _ (Nat.two_pow_pos _)

theorem routeOf_lt {s : State} {b q : Nat} (h : routeOf s b = some q) : q < 4096 := by
  simp only [routeOf, Option.ite_none_right_eq_some, Option.some.injEq] at h
  exact h.2 ▸ s.fld_lt (QUE_EVR_EQ b)

theorem vfRouteOf_lt {s : State} {v q : Nat} (h : vfRouteOf s v = some q) : q < 4096 := by
  simp only [vfRouteOf, Option.ite_none_right_eq_some, Option.some.injEq] at h
  exact h.2 ▸ s.fld_lt (QUE_VF_EQ_EQ v)

theorem sameOutsideRings_route1 (e : EventRec) (s : State) : SameOutsideRings s (route1 e s).1 [] := by
  unfold route1
  split
  case h_1 => exact sameOutsideRings_bump (.inr (.inr rfl)) s
  case h_2 q hq =>
    split
    · exact .refl _ _
    · exact sameOutsideRings_eqPut (routeOf_lt hq) e s

theorem sameOutsideRings_route2 (e : EventRec) (s : State) : SameOutsideRings s (route2 e s).1 [] := by
  unfold route2
  dsimp only
  split
  case isTrue =>
    split
    case h_1 q hq => exact sameOutsideRings_eqPut (vfRouteOf_lt hq) _ s
    case h_2 => exact .refl _ _
  case isFalse => exact .refl _ _

theorem sameOutsideRings_deliver (n : Nat) (es : List EventRec) (s : State) : SameOutsideRings s (deliver n es s) [] := by
  induction n generalizing es s with
  | zero => exact .refl _ _
  | succ n ih =>
    cases es with
    | nil => exact .refl _ _
    | cons e es => exact (((sameOutsideRings_route1 e s).trans (sameOutsideRings_route2 e _)).trans (ih _ _)).trans (ih _ _)

theorem sameOutsideRings_emitAll (es : List EventRec) (s : State) : SameOutsideRings s (emitAll es s) [] :=
  (sameOutsideRings_deliver _ es s).trans (.of_regs rfl)

theorem sameOutsideRings_emit (block code sev loc arg : Nat) (s : State) : SameOutsideRings s (emit block code sev loc arg s) [] :=
  sameOutsideRings_emitAll _ s

theorem sameOutsideRings_glbEvent (code sev arg : Nat) (s : State) : SameOutsideRings s (glbEvent code sev arg s) [] :=
  sameOutsideRings_emit _ _ _ _ _ s

end Sys2Proof.Machine
end

section
/-! Accesses of BAR0 and BAR4: served, refused, through the TAP (R9 to R11, R402, R611, R617). -/

namespace Sys2Proof.Machine

/-! ### What is served -/

theorem State.mainOn_of_clocked {s : State} (h : s.clocked = true) : s.mainOn = true := (Bool.and_eq_true_iff.1 h).1

theorem State.mainOn_of_served {s : State} {block : Nat} (h : s.served block = true) : s.mainOn = true := (Bool.and_eq_true_iff.1 h).1

theorem State.served_of_clocked {s : State} (h : s.clocked = true) (block : Nat) : s.served block = true := by
  obtain ⟨hon, hclk⟩ := Bool.and_eq_true_iff.1 h
  simp [State.served, hon, hclk]

@[simp] theorem fnOn_zero (s : State) : fnOn 0 s = true := rfl

theorem busWrite_served {fn off size : Nat} {s : State} (hon : s.mainOn = true) (hfn : fnOn fn s = true) (hal : aligned off size = true)
    (hsv : servedAt fn off s = true) (v : Nat) : busWrite fn off size v s = write fn off size v s := by
  simp [busWrite, hon, hfn, hal, hsv]

theorem busRead_served {fn off size : Nat} {s : State} (hon : s.mainOn = true) (hfn : fnOn fn s = true) (hal : aligned off size = true)
    (hsv : servedAt fn off s = true) : busRead fn off size s = read fn off size s := by
  simp [busRead, hon, hfn, hal, hsv]

/-! ### Accesses refused (R617) -/

theorem busWrite_misaligned {fn off size : Nat} {s : State} (hon : s.mainOn = true) (hfn : fnOn fn s = true) (hal : aligned off size = false) (v : Nat) :
    busWrite fn off size v s = badAccess fn off true size stBADDESC s := by
  simp [busWrite, hon, hfn, hal]

theorem busRead_misaligned {fn off size : Nat} {s : State} (hon : s.mainOn = true) (hfn : fnOn fn s = true) (hal : aligned off size = false) :
    busRead fn off size s = (badAccess fn off false size stBADDESC s, allOnes size) := by
  simp [busRead, hon, hfn, hal]

/-- What GLB_BAD_ADDR tells of a refused access. -/
def badAddr (fn off : Nat) (write : Bool) (size : Nat) : Nat := pack [(0, 26, off), (26, 1, b2n write), (28, 4, size), (32, 6, fn)]

theorem b2n_lt_two (b : Bool) : b2n b < 2 := by cases b <;> decide

theorem badAddr_eq {fn off size : Nat} (hfn : fn < 64) (hoff : off < 2 ^ 26) (hsize : size < 16) (write : Bool) :
    badAddr fn off write size = off + b2n write * 2 ^ 26 + size * 2 ^ 28 + fn * 2 ^ 32 := by
  have hw := b2n_lt_two write
  simp only [badAddr, pack, Nat.mod_eq_of_lt hoff, Nat.mod_eq_of_lt hw, Nat.mod_eq_of_lt (a := size) (b := 2 ^ 4) hsize, Nat.mod_eq_of_lt (a := fn) (b := 2 ^ 6) hfn,
    Nat.pow_one]
  omega

/-- A refused access moves its own registers, and else only what its event can move. -/
theorem badAccess_sameOutsideRecord (fn off : Nat) (write : Bool) (size status : Nat) (s : State) :
    SameOutsideRings ((s.wrN GLB_BAD_ADDR (badAddr fn off write size)).bump GLB_BAD_CNT) (badAccess fn off write size status s) [] := by
  unfold badAccess
  dsimp only
  split
  · exact (sameOutsideRings_glbEvent _ _ _ _).of_regs_left rfl
  · exact .refl _ _

/-- A refused access fills its own registers, and may write its event after that. -/
theorem badAccess_induction {P : State → Prop} {s : State} (hrec : ∀ a, P ((s.wrN GLB_BAD_ADDR a).bump GLB_BAD_CNT))
    (hev : ∀ (t : State) (i : HostIf) (arg : Nat), P t → P (glbEvent 4 svWARNING arg { t with hostIf := i }))
    (fn off : Nat) (write : Bool) (size status : Nat) : P (badAccess fn off write size status s) := by
  unfold badAccess
  dsimp only
  split
  · exact hev _ _ _ (hrec _)
  · exact hrec _

theorem badAccess_rdN_addr (fn off : Nat) (write : Bool) (size status : Nat) (s : State) :
    (badAccess fn off write size status s).rdN GLB_BAD_ADDR = badAddr fn off write size % 2 ^ 64 := by
  rw [State.rdN, badAccess_sameOutsideRecord fn off write size status s GLB_BAD_ADDR (by simp) (by decide) (by decide) (by decide), State.bump,
    State.rd_wrN, if_neg (by decide), State.rd_wrN, if_pos rfl, BitVec.toNat_ofNat]

theorem badAccess_rdN_cnt {s : State} (h : s.rdN GLB_BAD_CNT < 0xFFFFFFFF) (fn off : Nat) (write : Bool) (size status : Nat) :
    (badAccess fn off write size status s).rdN GLB_BAD_CNT = s.rdN GLB_BAD_CNT + 1 := by
  have hcnt : (s.wrN GLB_BAD_ADDR (badAddr fn off write size)).rdN GLB_BAD_CNT = s.rdN GLB_BAD_CNT := by
    rw [State.rdN, State.rd_wrN, if_neg (by decide), State.rdN]
  rw [State.rdN, badAccess_sameOutsideRecord fn off write size status s GLB_BAD_CNT (by simp) (by decide) (by decide) (by decide), State.bump,
    hcnt, if_pos h, State.rd_wrN, if_pos rfl, BitVec.toNat_ofNat, Nat.mod_eq_of_lt (by omega)]

theorem badAccess_sameOutsideRings (fn off : Nat) (write : Bool) (size status : Nat) (s : State) :
    SameOutsideRings s (badAccess fn off write size status s) [GLB_BAD_ADDR, GLB_BAD_CNT] := by
  intro r hr h8 h9 h10
  simp only [List.mem_cons, List.not_mem_nil, or_false, not_or] at hr
  rw [badAccess_sameOutsideRecord fn off write size status s r (by simp) h8 h9 h10, State.bump, State.rd_wrN, if_neg hr.2, State.rd_wrN, if_neg hr.1]

@[simp] theorem badAccess_threads (fn off : Nat) (write : Bool) (size status : Nat) (s : State) :
    (badAccess fn off write size status s).threads = s.threads :=
  badAccess_induction (P := fun t => t.threads = s.threads) (fun _ => rfl) (fun _ _ _ h => h) ..

@[simp] theorem badAccess_padMem (fn off : Nat) (write : Bool) (size status : Nat) (s : State) :
    (badAccess fn off write size status s).padMem = s.padMem :=
  badAccess_induction (P := fun t => t.padMem = s.padMem) (fun _ => rfl) (fun _ _ _ h => h) ..

@[simp] theorem badAccess_pilMem (fn off : Nat) (write : Bool) (size status : Nat) (s : State) :
    (badAccess fn off write size status s).pilMem = s.pilMem :=
  badAccess_induction (P := fun t => t.pilMem = s.pilMem) (fun _ => rfl) (fun _ _ _ h => h) ..

/-- BAD_WIDTH_ACCESS where the access is refused: its record, and all ones to a read. -/
theorem exec_badWidthAccess_misaligned {fn : Fin 64} {off : BitVec 26} {size : Fin 8} {s : State} (hon : s.mainOn = true) (hfn : fnOn fn.val s = true)
    (hal : aligned off.toNat (size.val + 1) = false) (w : Bool) :
    ∃ x, (w = false → x = BitVec.ofNat 64 (allOnes (size.val + 1))) ∧
      exec (.badWidthAccess fn off size w) s = .next { badAccess fn.val off.toNat w (size.val + 1) stBADDESC s with lastRead := x } := by
  change ∃ x, _ ∧ execBadWidthAccess fn off size w s = _
  cases w with
  | false =>
    refine ⟨_, fun _ => rfl, ?_⟩
    simp only [execBadWidthAccess, hal, busRead_misaligned hon hfn hal, Bool.false_eq_true, if_false]
  | true =>
    refine ⟨(badAccess fn.val off.toNat true (size.val + 1) stBADDESC s).lastRead, nofun, ?_⟩
    simp only [execBadWidthAccess, hal, busWrite_misaligned hon hfn hal, Bool.false_eq_true, if_false, if_true]

/-! ### Show time in halves (R11) -/

theorem regRead_showTime (s : State) : regRead PHS_SHOW_TIME s = (s, BitVec.ofNat 64 s.showTime) := rfl

theorem isWide_showTime : isWide PHS_SHOW_TIME = true := by decide +kernel

theorem isWide_showTime_upper : isWide (PHS_SHOW_TIME + 4) = false := by decide +kernel

theorem isUpper_showTime_upper : isUpper (PHS_SHOW_TIME + 4) = true := by decide +kernel

theorem latching_showTime : latching PHS_SHOW_TIME = true := by decide +kernel

theorem showTime_lt (s : State) : s.showTime < 2 ^ 64 := Nat.mod_lt _ (Nat.two_pow_pos _)

theorem toNat_showTime (s : State) : (BitVec.ofNat 64 s.showTime).toNat = s.showTime := by
  rw [BitVec.toNat_ofNat, Nat.mod_eq_of_lt (showTime_lt s)]

/-- The state after the upper half of show time has been latched. -/
def showLatched (s : State) : State :=
  { s with latchedHi := kset (fun _ => none) s.latchedHi PHS_SHOW_TIME (some (BitVec.ofNat 32 (s.showTime / 2 ^ 32))) }

theorem showLatched_latchedHi (s : State) :
    kget (fun _ => none) (showLatched s).latchedHi PHS_SHOW_TIME = some (BitVec.ofNat 32 (s.showTime / 2 ^ 32)) := by
  simp [showLatched]

theorem read64_showTime (s : State) : read64 PHS_SHOW_TIME s = (s, s.showTime) := by
  simp only [read64, isWide_showTime, regRead_showTime, toNat_showTime, if_true]

theorem read32_showTime_lower (s : State) : read32 PHS_SHOW_TIME s = (showLatched s, s.showTime % 2 ^ 32) := by
  simp only [read32, isWide_showTime, latching_showTime, regRead_showTime, showLatched, toNat_showTime, if_true]

theorem read32_showTime_upper {s : State} {h : Word32} (hl : kget (fun _ => none) s.latchedHi PHS_SHOW_TIME = some h) :
    (read32 (PHS_SHOW_TIME + 4) s).2 = h.toNat := by
  rw [read32, if_neg (by simp [isWide_showTime_upper]), if_pos isUpper_showTime_upper, Nat.add_sub_cancel, hl]

/-- A read of BAR0 by the physical function while every block is served. -/
theorem exec_lowerHalfRead_clocked {s : State} (h : s.clocked = true) {off : BitVec 26} {wide : Bool} (hal : aligned off.toNat (if wide then 8 else 4) = true) :
    exec (.lowerHalfRead 0 false off wide) s =
      .next { (if wide then read64 off.toNat s else read32 off.toNat s).1 with
        lastRead := BitVec.ofNat 64 (if wide then read64 off.toNat s else read32 off.toNat s).2 } := by
  have hread : busRead 0 off.toNat (if wide then 8 else 4) s = if wide then read64 off.toNat s else read32 off.toNat s := by
    rw [busRead_served (State.mainOn_of_clocked h) (fnOn_zero s) hal (State.served_of_clocked h _)]
    cases wide <;> simp [read]
  change execLowerHalfRead 0 false off wide s = _
  simp only [execLowerHalfRead, Bool.false_eq_true, if_false, Fin.val_zero, hread]

/-- A read of 64 bits returns show time whole. -/
theorem exec_showTime_whole {s : State} (h : s.clocked = true) :
    exec (.lowerHalfRead 0 false (BitVec.ofNat 26 PHS_SHOW_TIME) true) s = .next { s with lastRead := BitVec.ofNat 64 s.showTime } := by
  rw [exec_lowerHalfRead_clocked h (by decide), if_pos rfl, show (BitVec.ofNat 26 PHS_SHOW_TIME).toNat = PHS_SHOW_TIME from rfl, read64_showTime]

/-- A read of the lower half returns it, and latches the upper half. -/
theorem exec_showTime_lower {s : State} (h : s.clocked = true) :
    exec (.lowerHalfRead 0 false (BitVec.ofNat 26 PHS_SHOW_TIME) false) s =
      .next { showLatched s with lastRead := BitVec.ofNat 64 (s.showTime % 2 ^ 32) } := by
  rw [exec_lowerHalfRead_clocked h (by decide), if_neg Bool.false_ne_true, show (BitVec.ofNat 26 PHS_SHOW_TIME).toNat = PHS_SHOW_TIME from rfl,
    read32_showTime_lower]

/-- A read of the upper half returns what is latched. -/
theorem exec_showTime_upper {s : State} (h : s.clocked = true) {hi : Word32} (hl : kget (fun _ => none) s.latchedHi PHS_SHOW_TIME = some hi) :
    ∃ z, exec (.lowerHalfRead 0 false (BitVec.ofNat 26 PHS_SHOW_TIME + 4) false) s = .next z ∧ z.lastRead = BitVec.ofNat 64 hi.toNat := by
  refine ⟨_, exec_lowerHalfRead_clocked h (by decide), ?_⟩
  rw [if_neg Bool.false_ne_true, show (BitVec.ofNat 26 PHS_SHOW_TIME + 4).toNat = PHS_SHOW_TIME + 4 from rfl, read32_showTime_upper hl]

/-! ### The MSI-X table (R402, R406, R429) -/

/-- What holds before and is kept by each send of a vector's pending message holds after all of them. -/
theorem sendPending_induction {P : State → Prop} {s : State} (h0 : P s)
    (hsend : ∀ (t : State) (e : Nat × MsixVec) (m : HostMsg), e ∈ s.msix → P t →
      P { t with msix := kset (fun _ => {}) t.msix e.1 { e.2 with pending := false }, hostMsgs := t.hostMsgs ++ [m] }) :
    P (sendPending s) := by
  refine List.foldlRecOn s.msix _ h0 ?_
  intro t ht e he
  dsimp only
  split
  · exact hsend t e _ he ht
  · exact ht

@[simp] theorem sendPending_regs (s : State) : (sendPending s).regs = s.regs :=
  sendPending_induction (P := fun t => t.regs = s.regs) rfl (fun _ _ _ _ h => h)

@[simp] theorem sendPending_dram (s : State) : (sendPending s).dram = s.dram :=
  sendPending_induction (P := fun t => t.dram = s.dram) rfl (fun _ _ _ _ h => h)

@[simp] theorem sendPending_power (s : State) : (sendPending s).power = s.power :=
  sendPending_induction (P := fun t => t.power = s.power) rfl (fun _ _ _ _ h => h)

theorem mem_kinsert {α : Type} {k : Nat} {v : α} {m : KMap α} {e : Nat × α} (h : e ∈ kinsert k v m) : e = (k, v) ∨ e ∈ m := by
  induction m with
  | nil => exact .inl (List.mem_singleton.1 h)
  | cons f m ih =>
    unfold kinsert at h
    split at h
    · exact List.mem_cons.1 h
    · rcases List.mem_cons.1 h with rfl | h
      · exact .inr (by simp)
      · exact (ih h).imp_right (List.mem_cons_of_mem f)

/-- The only entry at a key just set is the one set. -/
theorem eq_of_mem_kset {α : Type} [DecidableEq α] {d : Nat → α} {m : KMap α} {k : Nat} {v : α} {e : Nat × α} (h : e ∈ kset d m k v) (hk : e.1 = k) :
    e.2 = v := by
  have hgone : e ∉ m.filter (fun x => x.1 != k) := fun hm => by simpa [hk] using (List.mem_filter.1 hm).2
  unfold kset at h
  split at h
  · exact absurd h hgone
  · rcases mem_kinsert h with rfl | hm
    · rfl
    · exact absurd hm hgone

/-- Sending what is pending keeps the data of a vector just written. -/
theorem sendPending_msix_data (s : State) (k : Nat) (e : MsixVec) :
    (kget (fun _ => {}) (sendPending { s with msix := kset (fun _ => {}) s.msix k e }).msix k).data = e.data := by
  refine sendPending_induction (P := fun t => (kget (fun _ => {}) t.msix k).data = e.data) (by simp) ?_
  intro t x m hx ht
  dsimp only
  rw [kget_kset]
  split
  case isTrue hk =>
    have hv : x.2 = e := eq_of_mem_kset (m := s.msix) (d := fun _ => {}) hx hk.symm
    exact hv ▸ rfl
  case isFalse => exact ht

theorem msixOff_toNat (vec : Fin 2048) : (BitVec.ofNat 26 (16 * vec.val + 8)).toNat = 16 * vec.val + 8 := by
  rw [BitVec.toNat_ofNat, Nat.mod_eq_of_lt (by omega)]

/-- A vector's data stands at byte 8 of its 16, and a word of 4 bytes there is aligned. -/
theorem msixData_at (vec : Nat) : aligned (16 * vec + 8) 4 = true ∧ (16 * vec + 8) / 16 = vec ∧ (16 * vec + 8) % 16 = 8 := by
  simp only [aligned, Bool.and_eq_true, beq_iff_eq]
  exact ⟨⟨rfl, by omega⟩, by omega, by omega⟩

/-- A write of a vector's data by the physical function. -/
theorem msixWrite_data {s : State} (hon : s.mainOn = true) {vec : Nat} (hvec : vec < 2048) (v : Nat) :
    msixWrite 0 (16 * vec + 8) 4 v s =
      sendPending { s with msix := kset (fun _ => {}) s.msix vec { kget (fun _ => {}) s.msix vec with data := BitVec.ofNat 32 v } } := by
  obtain ⟨hal, hdiv, hmod⟩ := msixData_at vec
  simp [msixWrite, msixWrite32, hon, hal, hdiv, hmod, hvec]

/-- A read of a vector's data by the physical function. -/
theorem msixRead_data {s : State} (hon : s.mainOn = true) {vec : Nat} (hvec : vec < 2048) :
    msixRead 0 (16 * vec + 8) 4 s = (kget (fun _ => {}) s.msix vec).data.toNat := by
  obtain ⟨hal, hdiv, hmod⟩ := msixData_at vec
  simp [msixRead, msixRead32, hon, hal, hdiv, hmod, hvec]

/-- A write of a vector's data is taken, and moves no register and no byte of device memory. -/
theorem exec_msixData_write {s : State} (hon : s.mainOn = true) (vec : Fin 2048) (v : BitVec 32) :
    ∃ t, exec (.registerWrite 0 true (BitVec.ofNat 26 (16 * vec.val + 8)) false (v.setWidth 64)) s = .next t ∧
      (kget (fun _ => {}) t.msix vec.val).data = v ∧ t.regs = s.regs ∧ t.dram = s.dram ∧ t.mainOn = true := by
  refine ⟨_, rfl, ?_⟩
  simp only [if_true, Bool.false_eq_true, if_false, Fin.val_zero, msixOff_toNat, msixWrite_data hon vec.isLt]
  refine ⟨?_, sendPending_regs _, sendPending_dram _, ?_⟩
  · rw [sendPending_msix_data, BitVec.toNat_setWidth_of_le (by decide), BitVec.ofNat_toNat, BitVec.setWidth_eq]
  · simpa only [State.mainOn, sendPending_power] using hon

/-- A read of a vector's data returns it. -/
theorem exec_msixData_read {s : State} (hon : s.mainOn = true) (vec : Fin 2048) :
    ∃ t, exec (.lowerHalfRead 0 true (BitVec.ofNat 26 (16 * vec.val + 8)) false) s = .next t ∧
      t.lastRead = (kget (fun _ => {}) s.msix vec.val).data.setWidth 64 := by
  refine ⟨_, rfl, ?_⟩
  simp only [if_true, Bool.false_eq_true, if_false, Fin.val_zero, msixOff_toNat, msixRead_data hon vec.isLt]
  exact BitVec.ofNat_toNat 64 _

/-! ### A 32-bit register of BAR0 (R6, R9) -/

theorem write32_narrow {off : Nat} (hbar : off < 0x2000000) (hwide : isWide off = false) (hupper : isUpper off = false) (v : Nat) (s : State) :
    write32 off v s = regWrite off (v % 2 ^ 32) s := by
  have hbar' : ¬ 0x3000000 ≤ off := by omega
  simp [write32, hbar', Nat.not_le.2 hbar, hwide, hupper]

/-- A 32-bit write of a 32-bit register by the physical function does what that register does with the value. -/
theorem exec_registerWrite_narrow {s : State} {off : BitVec 26} (hal : off.toNat % 4 = 0) (hbar : off.toNat < 0x2000000)
    (hsv : s.served (blockAt off.toNat) = true) (hwide : isWide off.toNat = false) (hupper : isUpper off.toNat = false) (v : BitVec 32) :
    exec (.registerWrite 0 false off false (v.setWidth 64)) s = .next (regWrite off.toNat v.toNat s) := by
  have hal4 : aligned off.toNat 4 = true := by simp [aligned, hal]
  have hv : (v.setWidth 64).toNat = v.toNat := BitVec.toNat_setWidth_of_le (by decide)
  have hwrite := busWrite_served (State.mainOn_of_served hsv) (fnOn_zero s) hal4 hsv v.toNat
  change execRegisterWrite 0 false off false (v.setWidth 64) s = _
  simp only [execRegisterWrite, Bool.false_eq_true, if_false, Fin.val_zero, hv, hwrite]
  exact congrArg _ ((write32_narrow hbar hwide hupper v.toNat s).trans (by rw [Nat.mod_eq_of_lt v.isLt]))

/-! ### The TAP (R611) -/

/-- The data register of DBG_ACCESS: data, offset, direction, width and status. -/
def dbgReg (off : BitVec 26) (w wide : Bool) (d st : Nat) : Nat := d % 2 ^ 64 + off.toNat * 2 ^ 64 + b2n w * 2 ^ 90 + b2n wide * 2 ^ 91 + st * 2 ^ 92

theorem pack_dbgReg (off : BitVec 26) (w wide : Bool) (d : Nat) {st : Nat} (hst : st < 16) :
    pack [(0, 64, d), (64, 26, off.toNat), (90, 1, b2n w), (91, 1, b2n wide), (92, 4, st)] = dbgReg off w wide d st := by
  simp only [pack, dbgReg, Nat.mod_eq_of_lt off.isLt, Nat.mod_eq_of_lt (a := st) (b := 2 ^ 4) hst, Nat.pow_one, Nat.mod_eq_of_lt (b2n_lt_two _)]
  omega

/-- Update-DR leaves a value in the data register. -/
def withDbgReg (r : Nat) (s : State) : State := { s with power := { s.power with dbgReg := r } }

/-- The status of an access that is reached: 3 where its alignment is not permitted. -/
def dbgStatus (off : BitVec 26) (wide : Bool) : Nat := if aligned off.toNat (if wide then 8 else 4) then 0 else 3

theorem dbgStatus_lt (off : BitVec 26) (wide : Bool) : dbgStatus off wide < 16 := by
  unfold dbgStatus
  cases aligned off.toNat (if wide then 8 else 4) <;> decide

section
variable {s : State} (hbank : s.bankUp 6 = true) (htap : s.power.tap = 0x20)
include hbank htap

theorem dbgAccess_selected : (!s.bankUp 6 || s.power.tap != 0x20) = false := by simp [hbank, htap]

theorem exec_dbgAccessUpdate_locked (hlock : s.flag DBG_CTL_JTAG_LOCK = true) (d : BitVec 64) (off : BitVec 26) (w wide : Bool) :
    exec (.dbgAccessUpdate d off w wide) s = .next (withDbgReg (dbgReg off w wide d.toNat 2) s) := by
  change execDbgAccessUpdate d off w wide s = _
  simp only [execDbgAccessUpdate, dbgAccess_selected hbank htap, hlock, pack_dbgReg off w wide d.toNat (st := 2) (by decide), Bool.false_eq_true, if_false,
    if_true]
  rfl

theorem exec_dbgAccessUpdate_write (hlock : s.flag DBG_CTL_JTAG_LOCK = false) (d : BitVec 64) (off : BitVec 26) (wide : Bool) :
    exec (.dbgAccessUpdate d off true wide) s =
      .next (withDbgReg (dbgReg off true wide d.toNat (dbgStatus off wide)) (busWrite 0 off.toNat (if wide then 8 else 4) d.toNat s)) := by
  rw [← pack_dbgReg off true wide d.toNat (dbgStatus_lt off wide)]
  change execDbgAccessUpdate d off true wide s = _
  simp only [execDbgAccessUpdate, dbgAccess_selected hbank htap, hlock, Bool.false_eq_true, if_false, if_true]
  rfl

theorem exec_dbgAccessUpdate_read (hlock : s.flag DBG_CTL_JTAG_LOCK = false) (d : BitVec 64) (off : BitVec 26) (wide : Bool) :
    exec (.dbgAccessUpdate d off false wide) s =
      .next (withDbgReg (dbgReg off false wide (busRead 0 off.toNat (if wide then 8 else 4) s).2 (dbgStatus off wide))
        (busRead 0 off.toNat (if wide then 8 else 4) s).1) := by
  rw [← pack_dbgReg off false wide _ (dbgStatus_lt off wide)]
  change execDbgAccessUpdate d off false wide s = _
  simp only [execDbgAccessUpdate, dbgAccess_selected hbank htap, hlock, Bool.false_eq_true, if_false]
  rfl

end

end Sys2Proof.Machine
end

section
/-! The obligations of the register accesses (R6 to R11, R402, R611, R617). -/

namespace Sys2Proof.Machine

/-- Settles O9, clause by clause: the fields of a row do not overlap, a latched half outlives the passing of time, a refused access moves besides
its record only what its event can move, and the accesses of BAR4 and of the TAP do what the model's functions of those names do. -/
theorem registerAccesses : Obligations.RegisterAccesses := by
  unfold Obligations.RegisterAccesses
  refine ⟨?fields, ?showTime, ?refused, ?bars, ?tap⟩
  case fields =>
    intro off old v r f hr hf _
    refine ⟨bits_afterWrite hr hf old v, ?_, fun h => by simp [fieldAfter, h], fun h => by simp [fieldAfter, h],
      fun k hk => ⟨fun h => bit_fieldAfter_w1c h old v hk, fun h => bit_fieldAfter_w1s h old v hk⟩⟩
    rintro (h | h) <;> simp [fieldAfter, h]
  case showTime =>
    intro s dt hclk
    have hhalf : s.showTime / 2 ^ 32 < 2 ^ 32 := Nat.div_lt_of_lt_mul (showTime_lt s)
    obtain ⟨z, hexec, hz⟩ := exec_showTime_upper (s := passTime dt { showLatched s with lastRead := BitVec.ofNat 64 (s.showTime % 2 ^ 32) })
      ((passTime_clocked _ _).trans hclk) (by rw [passTime_latchedHi]; exact showLatched_latchedHi s)
    refine ⟨⟨_, exec_showTime_whole hclk, rfl, rfl⟩, _, z, exec_showTime_lower hclk, rfl, hexec, ?_⟩
    rw [hz, BitVec.toNat_ofNat, Nat.mod_eq_of_lt hhalf]
  case refused =>
    intro s fn off size w hon hfn hal
    obtain ⟨x, hx, hexec⟩ := exec_badWidthAccess_misaligned hon hfn hal w
    refine ⟨_, hexec, ?_, fun h => ?_, hx, ?_, ?_, ?_, ?_⟩
    · have haddr := badAddr_eq fn.isLt off.isLt (size := size.val + 1) (by omega) w
      have hw := b2n_lt_two w
      refine (badAccess_rdN_addr ..).trans ?_
      rw [haddr, Nat.mod_eq_of_lt (by omega)]
    · exact badAccess_rdN_cnt h ..
    · exact badAccess_sameOutsideRings _ _ _ _ _ s
    · exact badAccess_threads ..
    · exact badAccess_padMem ..
    · exact badAccess_pilMem ..
  case bars =>
    intro s vec v off hon
    obtain ⟨t, hwrite, hdata, hregs, hdram, hon'⟩ := exec_msixData_write hon vec v
    obtain ⟨z, hread, hlast⟩ := exec_msixData_read hon' vec
    refine ⟨⟨t, hwrite, hdata, hregs, hdram, z, hread, ?_⟩, fun hal hbar hsv hwide hupper => exec_registerWrite_narrow hal hbar hsv hwide hupper v⟩
    rw [hlast, hdata]
  case tap =>
    intro s d off w wide hbank htap
    refine ⟨fun hlock => exec_dbgAccessUpdate_locked hbank htap hlock d off w wide, ?_, ?_⟩
    · rintro hlock rfl
      exact exec_dbgAccessUpdate_write hbank htap hlock d off wide
    · rintro hlock rfl
      exact exec_dbgAccessUpdate_read hbank htap hlock d off wide

/-- A halted thread whose g1 holds 1 and whose DBG_SEL names g1. -/
def haltedOnG1 : State :=
  { (State.reset.setFld (ENG_B_T_STAT_STATE 0 0) 4).setFld (ENG_B_T_DBG_SEL_REG 0 0) 1 with threads := [(0, { g := [(1, 1#64)] })] }

/-- Refutes O10: while a thread is in HALT, DBG_DATA stands for the register that DBG_SEL names (R345), so that the lower half which a write
of its upper half keeps is that register's and not what the cell of DBG_DATA holds. -/
theorem not_halfWrites : ¬ Obligations.HalfWrites := by
  unfold Obligations.HalfWrites
  intro h
  obtain ⟨_, _, _, _, _, _, hkept, _⟩ := h haltedOnG1 (BitVec.ofNat 26 (ENG_B_T_DBG_DATA 0 0)) 0 0 (by decide +kernel) (by decide +kernel) (by decide +kernel)
    (by decide +kernel) (by decide +kernel)
  have hrow : rowAt (BitVec.ofNat 26 (ENG_B_T_DBG_DATA 0 0)).toNat = some ⟨0x600038, 128, 0x2000, 4, 0x100, true, 0#64, [⟨0, 64, .rw⟩]⟩ := by decide +kernel
  have hbit := hkept _ ⟨0, 64, .rw⟩ 0 hrow (by decide) (by decide) (by decide) (by decide)
  exact absurd hbit (by decide +kernel)

end Sys2Proof.Machine
end
